-- ==== Sys2Proof/Word.lean ====
section
/-! DEFINITION. Word.lean: the word types of the model and the sparse table type.
Addresses, counters and register numbers are Nat; bytes and bus words are bit vectors. -/

namespace Sys2Proof

/-- One byte of a memory. -/
abbrev Byte := BitVec 8

/-- One 32-bit bus word. -/
abbrev Word := BitVec 32

/-- A sparse table: keys strictly rising, no entry equal to what an unlisted key reads as.
The operations that keep this form are in Machine/Ops.lean. -/
abbrev Tab (α : Type) := List (Nat × α)

end Sys2Proof
end

