-- ==== Sys2Proof/Syntax.lean ====
section
/-! DEFINITION. Syntax.lean: the commands of the module and the types of their operands.
Operands that stand for what the outside world supplies (a voltage, a measurement, a frame that arrives, the contents
of host memory) are data of the command. -/

namespace Sys2Proof

/-- Where an access comes from: the host through BAR0 or BAR2, or the Banksman address space (R40, R791). -/
inductive Space where
  | bar0 | bar2 | banksman
  deriving DecidableEq, Repr

/-- What the boundary-scan port is made to do (R862, R866): one of the mandatory instructions of IEEE 1149.1 with what is
shifted in or captured (one bit through the bypass register, the pins as SAMPLE captures them, the cells that PRELOAD
loads, EXTEST), or an access to be bridged. -/
inductive TapOp where
  | bypass (tdi : Bool)
  | sample (pins : List Bool)
  | preload (cells : List Bool)
  | extest
  | access (write : Bool) (addr size value : Nat)
  deriving DecidableEq, Repr

/-- What becomes of an access that crosses regions: it arrives and is answered, or a region fails while the request, or the
answer, is inside it (R58). -/
inductive Fate where
  | arrives | requestLost | answerLost
  deriving DecidableEq, Repr

/-- CAUSE of a quarry map entry (Table 2-5), values 0 to 8. -/
inductive QCause where
  | none | router | control | sync | bed | overcurrent | noPath | field | management
  deriving DecidableEq, Repr

/-- A mesh link, named by its western or northern region and its direction (east, or south when `east` is false). -/
structure LinkName where
  region : Nat
  east : Bool
  deriving DecidableEq, Repr

/-- The outcome of a region's self-test (Table 2-3): the four region checks, the physical faces that failed, the links
that failed their loop test (bit 0 N, 1 E, 2 S, 3 W), and how long its PLL took to lock, in µs (R183). -/
structure SelfTest where
  routerOk : Bool
  controlOk : Bool
  syncOk : Bool
  bedOk : Bool
  badFaces : Nat
  badLinks : Nat
  lockUs : Nat
  deriving DecidableEq, Repr

/-- What the weighbridge finds at its start checks (R886): the shield mesh, the known-answer tests that failed, and
whether a valid key store copy was read. -/
structure StartCheck where
  meshOk : Bool
  failedTests : Nat
  storeOk : Bool
  deriving DecidableEq, Repr

/-- The bits of a PDM data line in one port frame: those valid at the rising, and at the falling edge of PDM_CLK (R261). -/
structure PdmLine where
  rising : List Bool
  falling : List Bool
  deriving DecidableEq, Repr

/-- What a sensor port takes in one port frame: its four PDM lines, the 32-bit words of each TDM slot, the head supply's
current and voltage, and whether the D-PHY clock lane is in high-speed mode. -/
structure PortInput where
  pdm : List PdmLine
  tdm : List (List Nat)
  ma : Nat
  mv : Nat
  csiHs : Bool
  deriving DecidableEq, Repr

/-- A CSI-2 long packet: data type, payload, whether its header could be corrected, whether its CRC holds, and whether
the port cannot write as fast as it arrives (R298). -/
structure CsiPacket where
  dt : Nat
  payload : List Nat
  headerOk : Bool
  crcOk : Bool
  overrun : Bool
  deriving DecidableEq, Repr

/-- What the face SRAM's check bits show while a record is executed (R428, R504): words corrected, and the byte address
of an uncorrectable word met. -/
structure SramEcc where
  corrected : Nat
  bad : Option Nat
  deriving DecidableEq, Repr

/-- What the packet of an Adit DATA frame carries: bytes of a COPY for a face's SRAM with their spoil tag, a signal (SUBOP
0 ADD, 2 SET, 7 ARRIVE), or the status that completes an operation of the receiving module (R734): 0 OK, 2 CLAIM_DENIED,
3 DEAD_TARGET. -/
inductive AditOp where
  | copy (face addr : Nat) (bytes : List Nat) (spoil : Bool)
  | signal (region obj sub val : Nat)
  | status (code : Nat)
  deriving DecidableEq, Repr

/-- An Adit DATA frame (Table 13-2): class, SEQ, RANK, TAG, EPOCH, the sending face (of a status, the face it answers),
the number by which the sender knows the operation, and the packet. -/
structure DataFrame where
  cls : Nat
  seq : Nat
  rank : Nat
  tag : Nat
  epoch : Nat
  face : Nat
  opId : Nat
  op : AditOp
  deriving DecidableEq, Repr

/-- CR_CLASS, CREDITS and ACK of a link frame. -/
structure LinkAck where
  cls : Nat
  credits : Nat
  ack : Nat
  deriving DecidableEq, Repr

/-- What the host port reads of host memory at a fetch (R798, R844): the descriptor, its lists (cut, image, output, sync,
claim), the key request block, and the read that failed, if one did (R825): 0 the descriptor, 1 to 5 a list, 6 the
block. -/
structure DescRead where
  desc : List Nat
  lists : List (List Nat)
  key : List Nat
  fail : Option Nat
  deriving DecidableEq, Repr

/-- A datagram of a request (Table 16-2) without OP, which the command names: session, and the header fields with the
three bytes from 0x0D as one number, and the payload bytes it carries. -/
structure Datagram where
  session : Nat
  version : Nat
  type : Nat
  reqId : Nat
  status : Nat
  len : Nat
  frag : Nat
  count : Nat
  zero : Nat
  bytes : List Nat
  deriving DecidableEq, Repr


/-- The commands of the block: one constructor per row of the operation table, in its order. -/
inductive Instr where
  /-- R76: VIN rises through 22.0 V with VAON absent; VAON soft-start begins and BRINGUP.PHASE reads POWER. -/
  | coldStart (vin : Nat)
  /-- R76: VAON reaches regulation and the root crystal oscillator starts. -/
  | vaonInRegulation
  /-- R76: The crystal becomes stable; islands, foreman and escalation controller leave reset, wafer time starts, and the weighbridge runs its start checks. -/
  | crystalStable (chk : StartCheck)
  /-- R112: In the MAP phase the foreman reads both quarry map copies, selects the valid one with the higher SEQUENCE and reads every fuse state. -/
  | quarryMapSelect
  /-- R69: VIN has been at or above 36.0 V for 10 ms, so VBUS soft-start begins. -/
  | vbusSoftStart (vin : Nat)
  /-- R76: VBUS reaches regulation and test round 0 begins with the switch of region (0,3). -/
  | vbusInRegulation
  /-- R91: A test round begins, testing every eligible untested region with a neighbour that passed in an earlier round. -/
  | testRoundBegin
  /-- R77: The foreman closes the next region switch of the round, at least 250 µs after the previous one. -/
  | regionSwitchClose (r : Nat)
  /-- R78: A region's converters reach regulation 1 ms after its switch closes and its self-test begins. -/
  | selfTestBegin (r : Nat)
  /-- R94: A region's self-test or warm-start link and rail check ends; the region passes, fails or is retested through another neighbour. -/
  | selfTestDone (r : Nat) (res : SelfTest)
  /-- R1061: In the 0.25 ms after a round, links between regions that passed in that round are tested and failures recorded. -/
  | sameRoundLinkTest (failed : List LinkName)
  /-- R93: A test round completes; when the next round would find nothing to test, stranded regions are recorded and the quarry map write begins. -/
  | roundComplete
  /-- R109: A quarry map copy write and its readback end; the record is committed or rewritten once. -/
  | qmapWriteDone (ok : Bool)
  /-- R110: Within 10 ms after a region's STATE, FLAGS or SLOT_MAP changes in Run, the foreman commits one merged record. -/
  | qmapCommit
  /-- R71: A region feed at its current limit for 50 µs opens the switch and reports a trip; a second trip in a start blows the fuse. -/
  | switchTrip (r : Nat)
  /-- R129: 100 ms after a first trip during test the foreman closes the region switch once more. -/
  | tripRetry (r : Nat)
  /-- R130: The foreman checks that the feed reads open; otherwise it records the region ISOLATED with FUSED clear. -/
  | fuseConfirm (r : Nat) (isOpen : Bool)
  /-- R73: A hard short of 20 A or more opens a region fuse by itself; the region is recorded ISOLATED and fails if in Run. -/
  | fuseSelfOpen (r : Nat)
  /-- R136: VIN below 34.0 V for 1 ms raises LOW_INPUT and stops every region in Run without FORCE; a start in progress pauses. -/
  | brownout (vin : Nat)
  /-- R136: With VBUS still on, VIN back at or above 36.0 V for 10 ms resumes the interrupted start from round 0. -/
  | startResume (vin : Nat)
  /-- R137: VIN below 32.0 V switches VBUS off; regions still in Run lose face SRAM and dirty lines become spoil. -/
  | vbusOff (vin : Nat)
  /-- R139: VIN below 20.0 V loses VAON so that the next start is a cold start. -/
  | vaonLoss (vin : Nat)
  /-- R140: With VAON kept, VIN at or above 36.0 V for 10 ms after a VBUS switch-off begins a warm start. -/
  | warmStart (vin : Nat)
  /-- R1049: VIN above 62.0 V switches VBUS off. -/
  | vinOvervoltage (vin : Nat)
  /-- R1043: VBUS below 10.8 V for 1 ms under current limit makes the foreman force every region in Run to stop. -/
  | vbusUndervoltage
  /-- R198: The root crystal stops; the carrier switches to the backup oscillator and the foreman force-stops every region. -/
  | crystalFail
  /-- R199: The crystal has been stable for 100 ms; the carrier switches back and wakes are allowed again. -/
  | crystalRestored
  /-- R82: PERST# deasserts after HOST_PWR_OK; the host port begins link training within 20 ms. -/
  | perstDeassert
  /-- R33: The host port link comes up. -/
  | pcieLinkUp (speed width : Nat)
  /-- R826: The host link goes down or PERST# is asserted; every job gets HOST_LINK and retires without completion, pending submissions are discarded. -/
  | hostLinkDown (perst : Bool)
  /-- R869: The weighbridge detects a broken shield mesh; regions are force-stopped and everything of Table 15-10 is erased. -/
  | tamper
  /-- R155: The foreman's wake command reaches a region's power controller and its converters are enabled. -/
  | wakeCommand (r : Nat)
  /-- R155: Rails, PLL lock, SRAM clear and link training end; RUN reads 1, WOKE is raised and routes are installed. -/
  | wakeComplete (r lockUs : Nat)
  /-- R197: A region fails to reach lock or regulation within 320 µs; converters are disabled, or after a second failure the region is FAILED. -/
  | wakeTimeout (r : Nat)
  /-- R197: 1 ms after a failed wake the foreman retries it once. -/
  | wakeRetry (r : Nat)
  /-- R158: A stop of a region in Run begins: routes set DEAD and every agent asked, or KEPT_TRANSIT when the stop would split the Run set. -/
  | stopHandshake (r : Nat) (eccs : List (Nat × SramEcc))
  /-- R159: An agent answers ACCEPT, DELAY with a reason, or REFUSE_PINNED, which abandons an unforced stop. -/
  | handshakeAnswer (r agent : Nat)
  /-- R160: An agent silent for 2 ms is counted with the answer NONE. -/
  | answerTimeout (r agent : Nat)
  /-- R163: The deadline passes with an agent not at ACCEPT; the stop is abandoned, or with FORCE the region stops with locks ABANDONED and dirty lines spoil. -/
  | handshakeDeadline (r : Nat)
  /-- R161: Within 50 µs of the last ACCEPT the converters are disabled and the region is in Stop. -/
  | regionStopped (r : Nat)
  /-- R158: A write of POWER.STOP_CMD.GO requests a stop; a host FORCE is ignored with WERR. -/
  | stopCmd (sp : Space) (r : Nat) (value : Word)
  /-- R171: The idle timer reaches TIMEOUT and the power controller begins an unforced stop handshake. -/
  | idleTimeout (r : Nat)
  /-- R172: A write of IDLE_CFG sets TIMEOUT and restarts the idle timer from zero. -/
  | idleCfgWrite (sp : Space) (r : Nat) (value : Word)
  /-- R174: Every 1 ms the power controller takes the highest valid junction reading and sets the throttle level. -/
  | throttleEvaluation (r : Nat) (sensors : List Int)
  /-- R196: A region PLL loses lock in Run; the region fails with cause FIELD. -/
  | lockLost (r : Nat)
  /-- R57: A region in Run fails; its routes go DEAD, routes through it are rerouted, jobs and stages using it are stopped. -/
  | regionFail (r : Nat) (cause : QCause)
  /-- R59: Once the old path holds none of the affected packets, source routers release the packets held for rerouting. -/
  | rerouteRelease (src dst : Nat)
  /-- R60: A single mesh link between two healthy regions fails; LINK_UP clears, routes avoid it and the quarry map records it. -/
  | meshLinkFail (link : LinkName)
  /-- R61: Every 100 ms the foreman repeats the stop handshake of a stranded region still in Run. -/
  | strandedStopRetry (r : Nat)
  /-- R29: A router forwards a packet in the direction of its route table entry, or stalls upstream when ingress is full. -/
  | haulRoadPacket (r cls : Nat)
  /-- R226: A write to a register without a row of its own is judged, applied to Live or shadow fields, or refused with WERR. -/
  | registerWrite (sp : Space) (addr size be value setNow : Nat) (fate : Fate)
  /-- R210: Writing CTRL.EN from 0 to 1 starts the block and copies every shadow value to its active field. -/
  | blockEnable (sp : Space) (ref : Nat) (value : Word)
  /-- R211: Writing CTRL.EN from 1 to 0 stops the block at its next natural boundary. -/
  | blockDisable (sp : Space) (ref : Nat) (value : Word)
  /-- R212: A write of 1 to CTRL.SRST abandons the block's operations and begins returning the page to reset. -/
  | softReset (sp : Space) (ref : Nat) (value : Word)
  /-- R212: Within 20 µs the soft reset completes and SRST_BUSY clears. -/
  | softResetDone (ref : Nat)
  /-- R221: A write of 1 to COMMIT.ARM sets ARMED. -/
  | commitArm (sp : Space) (ref : Nat)
  /-- R221: At the block's natural boundary every shadow value is copied to its active field, ARMED clears and APPLIED increments. -/
  | commitApply (ref : Nat)
  /-- R239: A write of 1s to EVT_STAT clears the EVT_RAW bits and resends the vector when events stay pending. -/
  | evtStatClear (sp : Space) (ref : Nat) (value : Word) (setNow : Nat)
  /-- R241: A write of EVT_EN changes the enables and delivers any EVT_STAT bit that rises. -/
  | evtEnWrite (sp : Space) (ref : Nat) (value : Word)
  /-- R244: A write of 1 to ERRINFO.VALID clears ERRINFO and ERRADDR. -/
  | errinfoClear (sp : Space) (ref : Nat) (value : Word) (setNow : Nat)
  /-- R227: A write to the LO word of a writable 64-bit field stages the value. -/
  | loWordWrite (sp : Space) (addr : Nat) (value : Word)
  /-- R227: A write to the HI word applies the staged or current LO and the new HI as one write. -/
  | hiWordWrite (sp : Space) (addr : Nat) (value : Word)
  /-- R236: A read of the low word of a 64-bit counter captures the high word into the address space's snapshot. -/
  | counterLowRead (sp : Space) (addr size be : Nat) (fate : Fate)
  /-- R269: At each 1 ms port frame the port forms blocks, records history, delivers deliverable blocks and retries dead destinations. -/
  | portFrame (p : Nat) (input : PortInput)
  /-- R284: At the end of a calibration window the port moves each calibrating microphone's gain offset toward the median. -/
  | calibrationWindow (p : Nat)
  /-- R265: A CSI-2 long packet arrives; its header is corrected or the packet discarded, its CRC checked and its pixels written. -/
  | csiLongPacket (p vc : Nat) (pkt : CsiPacket)
  /-- R265: A CSI-2 Frame Start begins a camera frame and applies pending commits, truncating an unfinished frame. -/
  | frameStart (p vc : Nat)
  /-- R265: A CSI-2 Frame End closes the camera frame. -/
  | frameEnd (p vc : Nat)
  /-- R279: After every pixel write of a frame completes, the port writes its header and the counter add. -/
  | cameraFrameWritten (p slot : Nat)
  /-- R281: After a record's last write completes the port adds 1 to SYNC_IDX, or on DEAD_TARGET sets DEST_DEAD. -/
  | recordWritten (p slot : Nat)
  /-- R304: A stream fault of Table 5-6 is declared after its time; the stream delivers zeros flagged FAULT. -/
  | streamFault (p slot code : Nat)
  /-- R304: A stream fault's clearing condition holds for its time and the fault clears. -/
  | streamClear (p slot : Nat)
  /-- R305: The head current at ILIM for 1 ms switches the supply off and raises HEAD_TRIP. -/
  | headTrip (p : Nat)
  /-- R305: With AUTO_RETRY set the head supply retries every 10 s. -/
  | headRetry (p : Nat)
  /-- R287: A write of HEAD_CTRL.ON switches the head supply. -/
  | headCtrlWrite (sp : Space) (p : Nat) (value : Word)
  /-- R288: A write of 1 to CCI_CTRL.GO starts one I²C transfer. -/
  | cciGo (sp : Space) (p : Nat) (value : Word)
  /-- R288: The I²C transfer reaches its stop condition; BUSY clears and NACK and DATA report the result. -/
  | cciDone (p : Nat) (nack : Bool) (data : Nat)
  /-- R312: At a hop end each detector measures its bands and applies its tests, floors and FIRED states, and chain levels and messages are decided. -/
  | listenerHop (p : Nat)
  /-- R329: An evaluation ends; scores update and a chain may reach LEVEL 2 and send TRIGGER or REFRESH. -/
  | evaluationDone (p : Nat) (corrected : Nat) (badWord : Option Nat)
  /-- R341: A write of 1 to CTRL.B_EN starts the image check. -/
  | bEnWrite (sp : Space) (p : Nat) (value : Word)
  /-- R341: The image check ends; B_READY sets, or B_EN clears with a B_FAULT code. -/
  | imageCheckDone (p : Nat) (corrected : Nat) (badWord : Option Nat)
  /-- R346: A write of B_DATA writes an image word and advances B_ADDR, programming a line when one is complete. -/
  | bDataWrite (sp : Space) (p : Nat) (value : Word)
  /-- R338: A read of B_DATA returns an image word and advances B_ADDR. -/
  | bDataRead (sp : Space) (p corrected : Nat) (badWord : Bool)
  /-- R350: A TRIG_CMD sets the chain slot to LEVEL 2 and sends TRIGGER with MANUAL at the next hop end. -/
  | trigCmd (sp : Space) (p : Nat) (value : Word)
  /-- R338: A write of D_CTL.FLOOR_RESET sets the detector's FLOOR to the next hop's E. -/
  | floorReset (sp : Space) (p d : Nat) (value : Word)
  /-- R366: The escalation controller's acknowledgement of a listener message reaches the listener and clears the pending message. -/
  | messageAck (p lslot : Nat)
  /-- R355: A message unacknowledged for 1 ms raises RING_FAULT and is resent at each hop end. -/
  | ackTimeout (p lslot : Nat)
  /-- R329: The escalation controller's DEMOTED reaches a listener chain slot, which returns from LEVEL 2 to LEVEL 1. -/
  | demotedReport (p lslot : Nat)
  /-- R367: An A_FIRE message reaches the escalation controller and sets a chain at depth 0 to depth 1. -/
  | aFire (p lslot : Nat)
  /-- R367: A TRIGGER promotes a chain at depth 0 or 1 to position 2, is held before READY, or refreshes a deeper chain. -/
  | trigger (p lslot : Nat)
  /-- R368: A REFRESH restarts the demotion timer when the deepest stage is at position 2. -/
  | refresh (p lslot : Nat)
  /-- R367: A listener DEMOTED message sets a chain at depth 1 to depth 0. -/
  | demoted (p lslot : Nat)
  /-- R371: A face's verdict reaches the escalation controller and is accepted or discarded, restarting timers, counting promotions, clearing or raising alarms. -/
  | verdict (g : Nat)
  /-- R377: The demotion timer of the deepest stage expires and the stage is demoted. -/
  | demotionTimerExpiry (c : Nat)
  /-- R382: A face acknowledges its wake message; when all have, GRANT_SYNC of the promoting stage is signalled. -/
  | wakeAck (g : Nat)
  /-- R402: A PROMOTE_CMD with PROMOTE set promotes the chain as if a verdict qualified, with MANUAL set. -/
  | promote (sp : Space) (value : Word)
  /-- R402: A PROMOTE_CMD with DEMOTE set demotes the deepest stage at position 2 or deeper. -/
  | demote (sp : Space) (value : Word)
  /-- R398: A write of STORE_CMD.SAVE begins writing the active chain configuration to the chain store. -/
  | chainStoreSave (sp : Space) (value : Word)
  /-- R398: The chain store write and readback end; STORE_SEQ updates, or STORE_FAULT after two failures. -/
  | storeDone (readbackOk : Bool)
  /-- R473: A wake or job start message reaches a face, which records its owner, enters SWITCHING and loads the model's face entry. -/
  | startMessage (g : Nat) (errs : List (Nat × Nat)) (withEnd : Bool)
  /-- R481: A restart message makes a face read a context record, start its model and load PC, predicates, registers, loops and numeric state. -/
  | restartMessage (g : Nat) (errs : List (Nat × Nat)) (withEnd : Bool)
  /-- R474: The start's loads end and the face begins fetching at the entry PC. -/
  | switchComplete (g : Nat)
  /-- R478: A class-0 END message makes a face discard unissued records, abandon waits and locks, release its owner and go IDLE. -/
  | endMessage (g : Nat)
  /-- R429: The sequencer fetches the next op record into the queue, applying loop ends and stopping on fetch errors. -/
  | opRecordFetch (g : Nat) (errs : List (Nat × Nat))
  /-- R431: An issued record reaches its completion event and retires, setting its token. -/
  | recordComplete (g i : Nat)
  /-- R535: The face writes the open scale log segment into the other slot within 100 µs of the step end. -/
  | scaleLogWrite (g : Nat) (ok : Bool)
  /-- R442: A MAT record contracts A and B patterns into C over up to six dimensions, with optional requantisation. -/
  | mat (g : Nat) (ecc : SramEcc)
  /-- R447: An ELT record runs the element program once per group of up to 64 points. -/
  | elt (g : Nat) (ecc : SramEcc)
  /-- R613: A hoist FETCH copies bed-store lines into tagged face SRAM lines, skipping hits and writing back dirty lines of another HOME. -/
  | fetch (g : Nat) (ecc : SramEcc) (errs : List (Nat × Nat))
  /-- R616: A hoist WRITEBACK writes dirty face lines to their HOMEs, clearing OUT marks and DIRTY. -/
  | writeback (g : Nat) (ecc : SramEcc)
  /-- R622: A hoist DISCARD clears VALID and DIRTY of the face range and the OUT marks of dirty lines. -/
  | discard (g : Nat) (ecc : SramEcc)
  /-- R622: A hoist LOAD copies bed-store data of a region into untagged face SRAM. -/
  | load (g : Nat) (ecc : SramEcc) (errs : List (Nat × Nat))
  /-- R610: A hoist STORE writes face SRAM data with spoil into a region's bed store. -/
  | store (g : Nat) (ecc : SramEcc)
  /-- R625: A hoist COPY writes face SRAM data into another face's SRAM, locally or across an Adit link. -/
  | copy (g : Nat) (ecc : SramEcc)
  /-- R672: SYN ADD sends an add to a counter on its class. -/
  | synAdd (g : Nat)
  /-- R674: SYN WAIT_GE waits until a counter is at or past the operand. -/
  | synWaitGe (g : Nat)
  /-- R677: SYN SET sets an event. -/
  | synSet (g : Nat)
  /-- R672: SYN CLEAR clears an event. -/
  | synClear (g : Nat)
  /-- R677: SYN WAIT_SET waits until an event is set. -/
  | synWaitSet (g : Nat)
  /-- R676: SYN ACQUIRE acquires a lock and reports ABANDONED in a predicate. -/
  | synAcquire (g : Nat)
  /-- R676: SYN RELEASE releases a held lock. -/
  | synRelease (g : Nat)
  /-- R675: SYN ARRIVE arrives at a barrier. -/
  | synArrive (g : Nat)
  /-- R675: SYN ARRIVE_WAIT arrives and waits for the barrier generation to open. -/
  | synArriveWait (g : Nat)
  /-- R672: SYN READ loads an object's 32-bit value into an address register. -/
  | synRead (g : Nat)
  /-- R457: SYN VERDICT writes the value to ESC.VERDICT through the face's banksman and the management ring. -/
  | synVerdict (g : Nat)
  /-- R477: CTL END sets the face IDLE once earlier records complete, keeps the owner and raises ENDED. -/
  | endProg (g : Nat)
  /-- R465: CTL LOOP pushes a loop level over the next LEN records. -/
  | loop (g : Nat)
  /-- R467: CTL BRANCH pops loop levels not containing the target and continues there. -/
  | branch (g : Nat)
  /-- R464: CTL SETP compares and writes, ANDs or ORs a predicate. -/
  | setp (g : Nat)
  /-- R463: CTL SETA loads an address register with an immediate. -/
  | seta (g : Nat)
  /-- R463: CTL ADDA adds an immediate to an address register. -/
  | adda (g : Nat)
  /-- R463: CTL LDA loads an address register from face SRAM. -/
  | lda (g : Nat) (ecc : SramEcc)
  /-- R463: CTL STA stores an address register to face SRAM. -/
  | sta (g : Nat) (ecc : SramEcc)
  /-- R463: CTL NOP does nothing. -/
  | ctlNop (g : Nat)
  /-- R480: CTL SAVE_CTX writes the 512-byte face context record and raises CTX_SAVED. -/
  | saveCtx (g : Nat)
  /-- R567: A REC GRU steps the hidden state of every row. -/
  | gru (g : Nat) (ecc : SramEcc)
  /-- R568: A REC LSTM steps the hidden and cell state of every row. -/
  | lstm (g : Nat) (ecc : SramEcc)
  /-- R584: An ATT BLOCK folds one key-value block into every query row's statistics, or marks it STALE. -/
  | block (g : Nat) (ecc : SramEcc)
  /-- R585: An ATT FINISH writes each query row's output and clears its statistics. -/
  | finish (g : Nat) (ecc : SramEcc)
  /-- R484: A read of PEEK_DATA returns the word at PEEK_ADDR and advances it, or is refused for a confidential owner. -/
  | peekDataRead (sp : Space) (g : Nat) (ecc : SramEcc)
  /-- R485: A write of PEEK_DATA writes face SRAM and advances PEEK_ADDR, or is refused for program or table spaces. -/
  | peekDataWrite (sp : Space) (g : Nat) (value : Word)
  /-- R615: A queued OUT mark for a newly dirty face line becomes durable in the bed store. -/
  | outMarkDurable (r : Nat)
  /-- R607: A bed-store line write completes after readback, retrying once and relocating or spoiling on failure. -/
  | lineWriteDurable (r i : Nat) (fails : Nat)
  /-- R633: The paced scrubber reads the next line, refreshing or spoiling stale-marked lines. -/
  | scrubRead (r : Nat) (errs : Nat)
  /-- R637: A worn or failing bed block is copied to the free spare of lowest wear. -/
  | blockRelocation (r blk : Nat)
  /-- R638: The relocation commits its remap in both copies. -/
  | relocationCommit (r : Nat)
  /-- R644: A host or Banksman aperture read returns bed-store bytes, checking claims and recording spoil. -/
  | apertureRead (sp : Space) (addr size : Nat) (errs : Nat) (fate : Fate)
  /-- R642: An aperture write writes bed-store bytes within one line under the claims. -/
  | apertureWrite (sp : Space) (addr size : Nat) (data : List Nat) (fate : Fate)
  /-- R684: A sync block applies one arriving operation in order, checking ownership and kind, and completes satisfied waiters. -/
  | syncOperationApply (r : Nat) (bad : Bool)
  /-- R687: A wait answered RETRY is resent after 256 haul-road cycles. -/
  | waitRetry (g i : Nat)
  /-- R704: SIG_CMD with SUBOP ADD adds SIG_VAL to a counter as a host or Banksman operation. -/
  | sigCmdAdd (sp : Space) (r : Nat) (value : Word)
  /-- R704: SIG_CMD with SUBOP SET sets an event. -/
  | sigCmdSet (sp : Space) (r : Nat) (value : Word)
  /-- R704: SIG_CMD with SUBOP CLEAR clears an event. -/
  | sigCmdClear (sp : Space) (r : Nat) (value : Word)
  /-- R695: SNAP_CMD.SAVE captures the job's objects in the region and writes a snapshot slot. -/
  | snapSave (sp : Space) (r : Nat) (value : Word)
  /-- R697: SNAP_CMD.RESTORE loads the newer valid snapshot into the job's objects. -/
  | snapRestore (sp : Space) (r : Nat) (value : Word)
  /-- R698: A SAVE or RESTORE ends with its RESULT and SNAP_DONE or SNAP_FAIL. -/
  | snapComplete (r : Nat)
  /-- R702: A write of OBJ_CFG sets a shared object's kind and PARTIES and zeroes its state, or is refused. -/
  | objCfgWrite (sp : Space) (r obj : Nat) (value : Word)
  /-- R703: A read of OBJ_STATE of a confidential job's object returns 0 and records CONFIDENTIAL. -/
  | objStateRead (sp : Space) (r obj : Nat)
  /-- R739: The Adit lane PLLs lock and the link begins training. -/
  | lanePllLock (k lanes : Nat) (peerTwoLane : Bool)
  /-- R739: Training ends with the session key established and credits exchanged; the link is UP. -/
  | linkUp (k peerId : Nat) (peerFollower : Bool)
  /-- R742: 10 ms after a failed training attempt the link tries again. -/
  | trainRetry (k : Nat)
  /-- R727: At a frame boundary the sender sends class-0 or CONTROL first, then classes 1–3 by deficit round robin, or IDLE. -/
  | linkFrameSend (k : Nat)
  /-- R744: Every 1 ms the leader end sends TIME with its cabinet time. -/
  | timeSend (k : Nat)
  /-- R729: A received DATA frame is authenticated, sequenced, checked against the link job table and injected into the haul road. -/
  | dataFrame (k : Nat) (f : DataFrame) (ack : LinkAck) (crcOk authOk : Bool)
  /-- R728: A received IDLE frame returns credits and acknowledgement and is dropped. -/
  | idleFrame (k : Nat) (ack : LinkAck)
  /-- R729: A received NAK makes the sender resend that class from the expected SEQ. -/
  | nak (k cls seq : Nat) (ack : LinkAck)
  /-- R750: A received SWAP_REQ pauses classes 1–3 and is answered SWAP_ACK, or resolved as crossed requests. -/
  | swapReq (k id : Nat) (ack : LinkAck)
  /-- R750: A received SWAP_ACK makes the requester pause classes 1–3. -/
  | swapAck (k : Nat) (ack : LinkAck)
  /-- R750: A received SWAP_DONE exchanges roles and resumes classes 1–3. -/
  | swapDone (k : Nat) (ack : LinkAck)
  /-- R753: A received SWAP_ABORT keeps roles and resumes traffic. -/
  | swapAbort (k reason : Nat) (ack : LinkAck)
  /-- R775: A received REJECT completes the named operation at the sender with DEAD_TARGET. -/
  | reject (k tag cls seq reason : Nat) (ack : LinkAck)
  /-- R744: A received TIME updates the follower's OFFSET and may step cabinet time. -/
  | time (k t : Nat) (ack : LinkAck)
  /-- R739: A received PROBE is answered with ECHO. -/
  | probe (k stamp : Nat)
  /-- R739: A received ECHO yields a delay measurement for DELAY. -/
  | echo (k ns : Nat)
  /-- R750: A write of ROLE_CMD.SWAP while UP sends SWAP_REQ, or sets WERR NOT_UP. -/
  | roleSwap (sp : Space) (k : Nat) (value : Word)
  /-- R750: Both ends' class 1–3 frames are acknowledged; transmitters re-phase and the requester sends SWAP_DONE. -/
  | swapDrained (k : Nat)
  /-- R753: Classes 1–3 undrained 150 µs after pausing; the end sends SWAP_ABORT DRAIN_TIMEOUT. -/
  | swapDrainTimeout (k : Nat)
  /-- R779: Four NAKs, lane loss or a control authentication failure put the link in HOLD and start a retrain. -/
  | linkHold (k : Nat) (auth : Bool)
  /-- R781: HOLD_MS passes without UP; the link is FAILED and its jobs receive LINK_LOST. -/
  | holdTimeout (k : Nat)
  /-- R774: Once every DATA frame of a retiring job's tag is acknowledged, its link job table entry is removed. -/
  | linkJobEntryRemove (k j : Nat)
  /-- R792: A write of SUBMIT_LO stages the low descriptor address. -/
  | submitLo (q : Nat) (value : Word)
  /-- R792: A write of SUBMIT_HI submits the descriptor and sets SUBMIT_RESULT. -/
  | submitHi (q : Nat) (value : Word)
  /-- R796: The host port fetches a pending descriptor and its lists into a free job table entry and validates them. -/
  | descriptorFetch (d : DescRead)
  /-- R802: Every cut face is free; the host port reserves the cut and runs the admission steps. -/
  | admission (j : Nat)
  /-- R800: WAIT_MS expires before admission and the job completes with ADMIT_TIMEOUT. -/
  | admitTimeout (j : Nat)
  /-- R803: An image copy ends; its digest is checked and the next admission step follows. -/
  | imageCopy (j : Nat) (data : List Nat) (dmaFail : Bool)
  /-- R806: JOB_CMD with STOP gives the named job HOST_STOP. -/
  | jobStop (sp : Space) (value : Word)
  /-- R821: QUEUE_CMD with FLUSH completes each pending submission with CANCELLED. -/
  | queueFlush (sp : Space) (value : Word) (users : List Nat)
  /-- R852: No access of an older epoch remains; DRAINED reads 1 and retirement erases the job key. -/
  | claimFenceDrained
  /-- R809: With ring room, the completion record is written, CQ_TAIL advances, the vector is sent and the entry freed. -/
  | completionWrite (q j : Nat)
  /-- R811: A write of CQ_HEAD consumes completion records, or is ignored when it would pass CQ_TAIL. -/
  | cqHeadWrite (q : Nat) (value : Word)
  /-- R811: A write of EVQ_HEAD consumes event records, or is ignored when it would pass EVQ_TAIL. -/
  | evqHeadWrite (value : Word)
  /-- R1005: A respawnable job that lost a face restarts from its newest valid checkpoint. -/
  | respawn (j : Nat)
  /-- R870: Mailbox GET_CERT returns a certificate in MB_DATA. -/
  | getCert (sp : Space)
  /-- R858: Mailbox MODULE_TICKET produces a module weigh ticket. -/
  | moduleTicket (sp : Space)
  /-- R858: Mailbox JOB_TICKET produces a job weigh ticket for a RUNNING job. -/
  | jobTicket (sp : Space)
  /-- R870: Mailbox PART_LIST returns one partition table entry. -/
  | partList (sp : Space)
  /-- R880: Mailbox PART_DELETE erases an unclaimed partition's lines and entry. -/
  | partDelete (sp : Space)
  /-- R868: Mailbox ZEROISE with no job live erases everything of Table 15-10. -/
  | zeroise (sp : Space)
  /-- R883: Mailbox SELF_TEST reruns every known-answer test. -/
  | selfTest (sp : Space)
  /-- R860: A region's digest unit finishes hashing a model extent for a ticket. -/
  | modelDigestDone (r model : Nat) (ok : Bool)
  /-- R863: The debug port instruction OPEN is refused or starts the erase of Table 15-10. -/
  | openDap
  /-- R864: Every reachable partition line is zero and the partition table is cleared. -/
  | partitionZeroDone
  /-- R864: Private keys are overwritten and ERASE_PENDING clears; the debug port is OPEN or CLOSED. -/
  | eraseComplete
  /-- R866: While OPEN, a JTAG access is bridged into the Banksman address space. -/
  | dapAccess (op : TapOp)
  /-- R893: A DTLS handshake establishes a session with the anchor's role, or fails. -/
  | sessionHandshake (peer anchor : Nat) (valid : Bool)
  /-- R926: A session idle for 300 s is closed. -/
  | sessionIdleTimeout (session : Nat)
  /-- R896: A message whose fragments have not all arrived within 1 s is discarded. -/
  | fragmentTimeout (session reqId : Nat)
  /-- R896: Banksman PING returns wafer time. -/
  | ping (m : Datagram)
  /-- R898: Banksman READ reads up to 256 words in ascending address. -/
  | read (m : Datagram)
  /-- R898: Banksman WRITE writes up to 256 words in ascending address. -/
  | write (m : Datagram)
  /-- R119: Banksman QMAP_READ returns the committed quarry map record. -/
  | qmapRead (m : Datagram)
  /-- R119: Banksman BRINGUP_READ returns the BRINGUP words. -/
  | bringupRead (m : Datagram)
  /-- R896: Banksman LOG_READ returns management log records. -/
  | logRead (m : Datagram)
  /-- R913: Banksman SUBSCRIBE selects log and telemetry notifications for the session. -/
  | subscribe (m : Datagram)
  /-- R154: REGION_CMD WAKE asks the foreman to wake a region, or is refused. -/
  | wake (m : Datagram)
  /-- R158: REGION_CMD STOP stops a region with the handshake. -/
  | stop (m : Datagram)
  /-- R165: REGION_CMD STOP_FORCE stops a region with FORCE. -/
  | stopForce (m : Datagram)
  /-- R904: REGION_CMD HOLD sets HOLD and stops the region. -/
  | hold (m : Datagram)
  /-- R904: REGION_CMD HOLD_FORCE sets HOLD and stops the region with FORCE. -/
  | holdForce (m : Datagram)
  /-- R906: REGION_CMD RELEASE clears HOLD. -/
  | release (m : Datagram)
  /-- R111: REGION_CMD RETEST_SET sets RETEST of a non-factory FAILED entry for the next cold start. -/
  | retestSet (m : Datagram)
  /-- R111: REGION_CMD RETEST_CLEAR clears RETEST. -/
  | retestClear (m : Datagram)
  /-- R896: Banksman MODULE_RESET switches VBUS off and begins a warm start. -/
  | moduleReset (m : Datagram)
  /-- R893: Banksman TRUST adds or removes a trust anchor. -/
  | trust (m : Datagram)
  /-- R896: Banksman NET sets or removes the static IPv6 address. -/
  | net (m : Datagram)
  /-- R904: Every 100 ms the foreman repeats an abandoned stop of a held region. -/
  | holdStopRetry (r : Nat)
  /-- R900: Every 1 ms a banksman compares its route table and converter state and reports to the foreman. -/
  | banksmanReport (r : Nat) (routes : List (Nat × Nat)) (powered : Bool)
  /-- R933: A banksman of a region in Run silent for 10 ms fails the region with cause MANAGEMENT. -/
  | banksmanLost (r : Nat)
  /-- R934: A banksman that hears nothing from the foreman for 10 ms disables its region's converters. -/
  | foremanSilence (r : Nat)
  /-- R932: A management ring direction breaks; traffic uses the other, or unreached regions become STRANDED. -/
  | ringFault (cw : Bool) (unreached : List Nat)
  /-- R935: The management port link comes up or goes down. -/
  | mgmtLinkChange (up ampHigh : Bool)
  /-- R917: At the end of each TEL_CFG period the foreman sends NOTIFY_TEL to subscribed sessions. -/
  | telemetryPeriod (items : List (Nat × Nat × Nat)) (busy : List (Nat × Nat))
  /-- R919: The foreman wakes the lowest-index due region for an unpaced scrub pass. -/
  | backgroundWake (vinLow : Nat)
  /-- R919: A scrub pass completes; scrub age resets and a background region is stopped. -/
  | scrubPassEnd (r : Nat)
  /-- R920: Each hour a region's scrub age rises, raising BG_OVERDUE at twice PERIOD_H. -/
  | scrubAgeHour (r : Nat)
  /-- R941: Every 1 ms a loop channel measures and regulates to its target, detecting compliance ticks. -/
  | regulationTick (ch iUa vtMv : Nat) (fullOn : Bool)
  /-- R948: After 10 non-compliance ticks LOOP_COMPLIANCE clears. -/
  | complianceClear (ch : Nat)
  /-- R949: With NE43, compliance held for COMP_T drops the loop to 3,600 µA with STATE FAULT_LOW. -/
  | loopFallback (ch : Nat)
  /-- R950: Every 10 s in FAULT_LOW with RETRY_EN the channel drives its target for 100 ms. -/
  | loopRetry (ch : Nat)
  /-- R950: The 100 ms retry ends; the channel returns to REGULATING or to 3,600 µA. -/
  | loopRetryEnd (ch : Nat)
  /-- R975: Ten ticks of near-zero current and voltage declare the loop OPEN. -/
  | loopOpen (ch : Nat)
  /-- R976: A terminal voltage above 40.0 V opens the output with STATE OVERVOLT. -/
  | loopOvervolt (ch vtMv : Nat)
  /-- R977: Overcurrent against target or a failed self-check opens or turns off the channel until re-enabled. -/
  | channelFault (ch : Nat)
  /-- R951: An alarm from the escalation controller latches its bit in ALARM_STAT. -/
  | alarm
  /-- R952: A write of ALARM_CMD.SET latches an alarm input with LAST_MANUAL. -/
  | alarmCmd (sp : Space) (value : Word)
  /-- R969: A W1C write of ALARM_STAT clears latched alarms. -/
  | alarmStatClear (sp : Space) (value : Word) (setNow : Nat)
  /-- R953: A lamp channel's PWM period ends and changes of current, duty or frequency apply. -/
  | pwmPeriodEnd (ch : Nat)
  /-- R959: At the end of a pulse of at least 25 µs the lamp channel measures and classifies it. -/
  | diagnosablePulseEnd (ch ma cv : Nat) (regulated : Bool)
  /-- R961: No diagnosable pulse for PROOF_IV extends the next on-time to a 25 µs proof pulse. -/
  | proofPulse (ch : Nat)
  /-- R962: Without a recent diagnosable pulse DIAG becomes UNVERIFIED. -/
  | unverified (ch : Nat)
  /-- R978: Lamp current above 2.0 A turns the stage off within 5 µs. -/
  | lampOvercurrent (ch : Nat)
  /-- R978: Each second after an overcurrent the lamp retries with one period. -/
  | lampRetry (ch : Nat)
  /-- R990: Every 1 ms a banksman polls each face; two missed polls make the face lost. -/
  | livenessPoll (r : Nat) (silent : List Nat)
  /-- R990: A face is lost; its port is disabled, slot unbacked, locks abandoned and owner stopped or degraded. -/
  | faceLost (g : Nat)
  /-- R993: The lost face's tag scan ends; dirty HOMEs are spoiled and a spare substituted, or the region fails. -/
  | tagScanDone (g : Nat) (ok : Bool)
  /-- R742: An Adit training attempt fails (lanes fail to lock without TWO_LANE, signature or chain verification fails, delay above 2 µs, peer unprovisioned); TRAIN_FAILS increases and a retry is scheduled 10 ms later. -/
  | trainingAttemptFail (k : Nat)
  /-- R178: The 10 s thermal lockout of a region has passed and the cold-plate sensor reads below WARN − 20 °C, so the region becomes startable again and R168 may join a component kept apart. -/
  | thermalLockoutEnd (r : Nat)
  /-- R1051: The cold-plate sensor reads outside −40 °C to 150 °C or becomes valid again; the foreman appends an EVENT record, telemetry item 0x05 reports 0x8000_0000, and wakes after a thermal stop are blocked until valid. -/
  | coldPlateSensorFault (reading : Int)
  /-- R861: Weigh ticket production ends after digests and signatures; the ticket is written to TICKET_ADDR or returned, TICKET_DONE is raised, and admission continues to step 8 or the job completes with BUFFER_SMALL. -/
  | ticketDone (job : Option Nat)
  /-- R870: A weighbridge mailbox command in progress completes; BUSY clears, RESULT, REASON and LEN are set and MB_DONE is raised. -/
  | mbDone (failed : Nat)
  /-- R808: The copy of a retiring job's output ranges to host memory ends, setting OUTPUT_SPOIL or OUTPUT_PARTIAL as needed, and retirement moves on. -/
  | outputCopy (j : Nat) (errs : List (Nat × Nat × Nat)) (dmaFail : Option Nat)
  deriving DecidableEq, Repr

end Sys2Proof
end

