-- ==== Sys2Proof/Decode.lean ====
section
/-! DEFINITION. Decode.lean: commands from words. The operation table gives no row any bits, so no word spells a command. -/

namespace Sys2Proof

/-- The command that a word of `nbits` bits spells by the table: none, since every row's list of fields is empty. -/
def decodeTableWord (_nbits _w : Nat) : Option Instr := none

end Sys2Proof
end

