-- ==== Sys2Proof/Config.lean ====
section
/-! DEFINITION. Config.lean: what the spec leaves open, as constants without a body: nothing can be proved about a value
of theirs, so a statement holds whatever they are. -/

namespace Sys2Proof.Config

/-- A free value: the one taken with number `n` (State.freeCount). -/
opaque free : Nat → Nat

/-- The factor of a gain in 2^-32: gain in 0.005 dB; R283 gives it to 0.005 dB only, and the model uses it within that. -/
opaque gainFactor : Int → Nat

/-- Whether a sample times its factor is rounded up where it is not a whole number: R283 names no rounding. -/
opaque gainUp (sample : Int) (factor : Nat) : Bool

/-- The decimator (R262), known by its passband, rejection and group delay only: PDM_RATE, the PDM bits of the frames it
spans (this one last), and the number of the sample in the frame. -/
opaque decimate (rate : Nat) (bits : List (List Bool)) (i : Nat) : Int

/-- The coefficient, in 2^-32, of the first-order filter whose corner is `hz` at a sample rate in kHz (R282). -/
opaque dcAlpha (hz khz : Nat) : Nat

/-- The band-pass filters of R314 (bands 0 to 7) and R284 (band 8), known by their edges and slopes only: band, sample rate
in kHz, the filter's state and a sample, to the state after it and its output in 2^-16 of a sample's unit. -/
opaque bandState (band khz state : Nat) (x : Int) : Nat
opaque bandOut (band khz state : Nat) (x : Int) : Int

/-- Whether FMIN, FMAX and the fp32 maximum of LRED return their first operand when one operand is a NaN or the two are
zeros of opposite sign: R451 names IEEE 754, whose editions differ there. -/
opaque pickFirst (a b : Nat) : Bool

/-- The mask bit of ICMP and FCMP with a condition code that Table 8-6 does not list: opcode, condition, operands. -/
opaque compare (opc cond a b : Nat) : Bool

/-- What a function table gives when it is not loaded or its origin is not finite (R455): its X0, W and the input. -/
opaque table (x0 w x : Nat) : Nat

/-- acc + BIAS outside 48 bits (R520). -/
opaque bias48 (acc bias : Int) : Int

/-- The wafer serial number of the module (R743, R833). -/
opaque waferSerial : Nat

/-- SHA-384 (Table 15-1), of bytes, as a 384-bit number with the first byte lowest. -/
opaque sha384 : List Nat → Nat

/-- DETAIL of HOST_DMA for a failed read of the descriptor (0), of a list (1 cut, 2 image, 3 output, 4 sync, 5 claim) or
of the key request block (6): Table 14-7 calls it the list index and numbers no list. -/
opaque dmaDetail : Nat → Nat

/-- A certificate in DER (R833): 0 device CA, 1 wafer, 0x100 + region; it depends on the enrolment (R836). -/
opaque certificate (which enrolment : Nat) : List Nat

/-- VERSION, SVN and DIGEST of a firmware image (Table 15-9). -/
opaque fwVersion : Nat → Nat
opaque fwSvn : Nat → Nat
opaque fwDigest : Nat → Nat

/-- How PART_LIST lays out region, base, length and the first 16 bytes of OWNER_DIGEST in MB_DATA: Table 15-13 does not
say. -/
opaque partEntry (region base len digest : Nat) : List Nat

/-- An ECDSA P-384 signature, r and s as 96 bytes: key (1 wafer, 0x100 + region) and its enrolment, digest, and the nonce
drawn. -/
opaque signature (key enrolment digest nonce : Nat) : List Nat

/-- The code of the roles OPERATOR (true) and OBSERVER in TRUST and in SESSION records: no table numbers the roles. -/
opaque roleCode : Bool → Nat

end Sys2Proof.Config
end

