-- ==== Sys2Proof/Machine/State.lean ====
section
/-! DEFINITION. Machine/State.lean: the state of the module as plain data, its reset value, and the reasons a step can
stop. Register fields live in `State.fields` (one entry per field that differs from its reset value); what the spec
describes beside the register pages (queues, memories, stores, progress of sequences) has a structure of its own. -/

namespace Sys2Proof.Machine

/-! ## The register framework (04_register_pages.md) -/

/-- Where a register field lies: offset in its page, low bit, width, stride between the copies of an array, reset
value. A field of 64 bits is a LO/HI register pair. -/
structure Fld where
  off : Nat
  lo : Nat
  w : Nat
  stride : Nat
  reset : Nat
  deriving DecidableEq, Repr

/-- The blocks that own register pages (Tables 1-4, 8-12 and 14-2). -/
inductive PageKind where
  | region | power | clock | banksman | bed | sync | claim | sensor | listener | esc | mgmt | adit | host | field
  | wb | dap | face | fctx | hoist | num | bringup | jobq
  deriving DecidableEq, Repr

/-- Field classes S, H and L (R218). -/
inductive Cls where
  | s | h | l
  deriving DecidableEq, Repr

/-- Access types of Table 0-2 and R218; `pos`: fixed by position; `ctr`: 64-bit counter (R236); `pair`: writable
64-bit pair (R227). -/
inductive Acc where
  | ro | rw | rws | wo | w1c | pos | ctr | pair
  deriving DecidableEq, Repr

/-- What CTRL holds on a page. -/
inductive CtrlKind where
  | enable | reset | none
  deriving DecidableEq, Repr

/-- A row of a register table. `ok` lists the accepted values (empty: all). -/
structure RegRow where
  fld : Fld
  count : Nat
  cls : Cls
  acc : Acc
  ok : List (Nat × Nat)
  bk : Bool
  deriving DecidableEq, Repr

/-- Who made an access or caused an error: SOURCE of Table 4-5. A face carries its global face number. -/
inductive Src where
  | host | banksman
  | face (g : Nat)
  | block | foreman | island
  deriving DecidableEq, Repr

/-- How a bus access ended: the port-page codes of Table 4-6, or 0 for a completed access. -/
inductive BusStatus where
  | ok | unmapped | deadTarget | routeLost | width
  deriving DecidableEq, Repr

/-- The last completed bus access, as its master saw it: address space, address, value read (0 for a write) and status. -/
structure BusResult where
  space : Space
  addr : Nat
  value : Nat
  status : BusStatus
  deriving DecidableEq, Repr

/-! ## Carrier, quarry map and bring-up (02_first_light.md) -/

/-- Progress of VAON and the crystal (Table 2-2). -/
inductive VaonStage where
  | off | rising | crystalStarting | up
  deriving DecidableEq, Repr

/-- VBUS: off, in soft-start, or in regulation. -/
inductive VbusStage where
  | off | rising | on
  deriving DecidableEq, Repr

/-- The carrier: rails, fuses, clocks, the host's sideband signals and the cold-plate sensor. -/
structure Carrier where
  /-- VIN in mV. -/
  vin : Nat
  vaon : VaonStage
  vbus : VbusStage
  /-- VBUS went off because VIN rose above 62.0 V (R1049). -/
  overvolt : Bool
  hostPwrOk : Bool
  perst : Bool
  crystalOk : Bool
  backup : Bool
  /-- Regions whose fuse is open (R75), ascending. -/
  fusesOpen : List Nat
  coldPlateOk : Bool
  /-- Cold-plate temperature in 1/16 °C. -/
  coldPlate : Int
  deriving DecidableEq, Repr

/-- STATE of a quarry map entry (Table 2-5). -/
inductive QState where
  | absent | healthy | failed | isolated | stranded
  deriving DecidableEq, Repr

/-- A region entry of the quarry map (Table 2-5); `slots` are the SLOT_MAP bytes. -/
structure QEntry where
  state : QState
  cause : QCause
  fused : Bool
  linkE : Bool
  linkS : Bool
  factory : Bool
  retest : Bool
  physBad : Nat
  changedAt : Nat
  slots : List Nat
  deriving DecidableEq, Repr

/-- A quarry map record (Table 2-4). Entries not listed are those of a region that is healthy with every slot on its
own face, or ABSENT at an index of R9. -/
structure QRec where
  seq : Nat
  bootCount : Nat
  orderCode : Nat
  entries : Tab QEntry
  deriving DecidableEq, Repr

/-- A copy of the foreman store as it is stored (Table 2-4): the header words, the record's content, CRC and COMMIT. -/
structure QCopy where
  magic : Nat
  format : Nat
  headerLen : Nat
  bodyLen : Nat
  record : QRec
  crc : Nat
  commit : Nat
  deriving DecidableEq, Repr

/-- The foreman store and the foreman's use of it. -/
structure MapSt where
  copyA : QCopy
  copyB : QCopy
  /-- The selected (or last written) copy is B. -/
  selB : Bool
  /-- The committed record. -/
  committed : QRec
  /-- The record the foreman is changing. -/
  working : QRec
  /-- Regions whose entry differs from the committed record's, ascending. -/
  changed : List Nat
  /-- A write in progress: the record, and how many times it has been started (R135). -/
  writing : Option (QRec × Nat)
  /-- The write in progress is the commit of a READY. -/
  writingReady : Bool
  /-- What the mirror of R115 holds. -/
  mirror : Option QRec
  /-- The order code of the wafer identity (R134). -/
  identityCode : Nat
  /-- The anchor region as the last commit, or READY, determined it (R1059). -/
  anchor : Option Nat
  deriving DecidableEq, Repr

/-- The progress of a start (R89 to R100). Lists of regions are ascending. -/
structure Boot where
  active : Bool
  warm : Bool
  /-- Ended by a brownout and waiting to resume (R136). -/
  paused : Bool
  /-- BRINGUP.ELAPSED counts from this many microseconds before wafer time 0, or from this tick. -/
  zeroUs : Nat
  zeroTick : Nat
  /-- A round is open: a first round has begun and is not complete. -/
  roundOpen : Bool
  /-- Regions of the round whose switch is still to be closed. -/
  toClose : List Nat
  /-- Regions switched on in this round, waiting for or running their test. -/
  testing : List Nat
  /-- Regions whose test runs (R78). -/
  running : List Nat
  /-- Regions that passed in an earlier round, and in this round. -/
  passedBefore : List Nat
  passedNow : List Nat
  /-- Regions tested and failed in this start. -/
  failed : List Nat
  /-- Region and neighbour: the link test between them has failed in this start (R95). -/
  linkTried : List (Nat × Nat)
  /-- Trips of R71 seen in this start, per region. -/
  trips : Tab Nat
  /-- A trip retry is waiting (R129). -/
  retrying : List Nat
  /-- The map has been selected in this start (R112, R1062). -/
  mapRead : Bool
  /-- Number of the next test round. -/
  nextRound : Nat
  /-- RETEST requests that arrived during the start, oldest first (R126): region, and set or clear. -/
  retestReq : List (Nat × Bool)
  /-- Regions that failed in Run or whose fuse would not open in this start: their switch is not closed again in it, and
  their entries outlive its restarts (R130, R131). -/
  barred : List Nat
  /-- Mesh links that failed in Run in this start (R60). -/
  runLinks : List LinkName
  deriving DecidableEq, Repr

/-! ## Regions: power, stop handshake, routes (01 and 03) -/

/-- A region is in Run or Stop; one that is waking is in Stop (R150). -/
inductive PState where
  | stop | waking | run
  deriving DecidableEq, Repr

/-- An agent's last answer in a stop handshake (Table 3-4): none yet, ACCEPT, DELAY with a reason
(0 DIRTY_FLUSH, 1 LOCK_HELD, 2 LINK_BUSY), or REFUSE_PINNED. -/
inductive HsAnswer where
  | none | accept
  | delay (reason : Nat)
  | refuse
  deriving DecidableEq, Repr

/-- A stop handshake in progress (R158 to R165). -/
structure Handshake where
  force : Bool
  idle : Bool
  /-- Cause of the POWER log record (Table 16-8). -/
  cause : Nat
  /-- Deadline in ms, as HS_CFG read when the handshake began (R193). -/
  deadline : Nat
  /-- Wafer time of its beginning, and of the latest ACCEPT. -/
  t0 : Nat
  tEnd : Nat
  /-- Last answer of each agent that is not its ACCEPT. -/
  last : Tab HsAnswer
  /-- Agents that have accepted, latest last. -/
  accepted : List Nat
  /-- The route entries to the region as its beginning found them, by router (R51, R164). -/
  routes : Tab Nat
  deriving DecidableEq, Repr

/-- A stop request held until RUN = 1 (R188). -/
structure StopReq where
  force : Bool
  cause : Nat
  deriving DecidableEq, Repr

/-- A stop that waits for its handshake to begin (R158). -/
structure StopWait where
  region : Nat
  force : Bool
  cause : Nat
  idle : Bool
  deriving DecidableEq, Repr

/-- What the foreman, the carrier and the power controller hold of a region beside its register fields. -/
structure RegionSt where
  power : PState
  /-- The region switch is closed (R151). -/
  switchOn : Bool
  hs : Option Handshake
  stopHeld : Option StopReq
  transit : Bool
  hold : Bool
  /-- The hold stops with FORCE (R904). -/
  holdForce : Bool
  background : Bool
  /-- Within the thermal lockout of R178. -/
  lockout : Bool
  /-- Failed attempts of the wake in progress (R197). -/
  wakeFails : Nat
  /-- Between a failed attempt and its retry. -/
  wakeBackoff : Bool
  wakeCause : Nat
  /-- Wafer time at which the region entered Run. -/
  runSince : Nat
  /-- SLOT_MAP bytes as loaded from the quarry map (R66); empty before. -/
  slots : List Nat
  /-- Scrub age in hours (R920). -/
  age : Nat
  /-- The ring no longer reaches the region's banksman (R934). -/
  unreached : Bool
  deriving DecidableEq, Repr

/-- A wake the foreman has still to begin (R54). -/
structure WakeReq where
  region : Nat
  cause : Nat
  transit : Bool
  deriving DecidableEq, Repr

/-! ## Sync blocks (12_sync_objects.md) -/

/-- Object kinds of Table 12-1, in the encoding of OBJ_CFG.KIND. -/
inductive SyncKind where
  | none | counter | event | lock | barrier
  deriving DecidableEq, Repr

/-- A sync object (Tables 12-1 and 12-6). `value` is VALUE of a counter, SET of an event or ARRIVED of a barrier. -/
structure SyncObj where
  kind : SyncKind
  job : Option Nat
  corrupt : Bool
  parties : Nat
  value : Nat
  gen : Nat
  held : Bool
  abandoned : Bool
  holder : Nat
  /-- Faces whose holding ended in ABANDONED and whose RELEASE has not come since (R711). -/
  former : List Nat
  deriving DecidableEq, Repr

/-- Operations of Table 12-2. -/
inductive SyncSub where
  | add | waitGe | set | clear | waitSet | acquire | release | arrive | arriveWait | read
  deriving DecidableEq, Repr

/-- Sources of Table 12-3, with what the check of R682 and R683 needs. -/
inductive SyncSrc where
  | face (g : Nat)
  | host | banksman
  | sensor (port : Nat)
  | esc
  /-- A remote signal through Adit link `link` for the local job `job`, sent by face `peer` as operation `opId`. -/
  | adit (link job peer opId : Nat)
  deriving DecidableEq, Repr

/-- A sync operation in flight: object, operation, operand, source, and the issuing record's number at the face. -/
structure SyncOp where
  obj : Nat
  sub : SyncSub
  val : Nat
  src : SyncSrc
  recId : Nat
  deriving DecidableEq, Repr

/-- A wait in the waiter table, with the barrier generation it joined. -/
structure Waiter where
  op : SyncOp
  gen : Nat
  deriving DecidableEq, Repr

/-- A SAVE or RESTORE in progress (R698): its outcome when it completes. -/
structure SnapSt where
  save : Bool
  result : Nat
  seq : Nat
  addr : Nat
  deriving DecidableEq, Repr

/-- The sync block of a region. -/
structure SyncBlk where
  objs : Tab SyncObj
  waiters : List Waiter
  /-- Operations that have arrived, oldest first (R684). -/
  arrivals : List SyncOp
  snap : Option SnapSt
  deriving DecidableEq, Repr

/-! ## Bed store (11_bed_store_and_hoist.md) -/

/-- Requesters of bed-store writes (R608) and the module's own writers. -/
inductive Requester where
  | hoist (g : Nat)
  | scaleLog (g : Nat)
  | aperture | imageCopy | sync | controller
  deriving DecidableEq, Repr

/-- A line write that has reached the controller and is not yet durable (R607). -/
structure LineWrite where
  line : Nat
  who : Requester
  deriving DecidableEq, Repr

/-- A queued OUT mark (R615): the face that dirtied the line, the line and the epoch. -/
structure OutMark where
  face : Nat
  line : Nat
  epoch : Nat
  deriving DecidableEq, Repr

/-- A relocation in progress (R637): the block, the spare it goes to, whether it levels wear, and whether the old
block is retired. -/
structure Reloc where
  block : Nat
  spare : Nat
  level : Bool
  retire : Bool
  deriving DecidableEq, Repr

/-- A region's bed store with its non-volatile metadata. -/
structure BedSt where
  bytes : Tab Byte
  spoil : Tab Bool
  /-- OUT marks by line: epoch plus one; 0 is no mark. -/
  marks : Tab Nat
  /-- Write counts by physical line (64 * physical block + line in the block). Physical blocks 0 on are the spares, then
  the blocks of the address space in order. -/
  wear : Tab Nat
  /-- Bit errors held by a line (3 or more: uncorrectable, R632). -/
  bitErrs : Tab Nat
  queue : List LineWrite
  outQueue : List OutMark
  /-- Remap table: block to physical block plus one; unlisted: its own (R638). -/
  remap : Tab Nat
  /-- Spares in use or retired, blocks of the address space that have become free spares, and retired blocks. -/
  sparesUsed : List Nat
  freed : List Nat
  retired : List Nat
  reloc : Option Reloc
  relocCount : Nat
  /-- Blocks that failed a write and wait for relocation. -/
  failing : List Nat
  scrubPos : Nat
  scrubPasses : Nat
  epoch : Nat
  /-- Selected directory copy: 0 none, 1 A, 2 B; with validity of each, COUNT and SEQUENCE. -/
  dirSel : Nat
  dirA : Bool
  dirB : Bool
  dirCount : Nat
  dirSeq : Nat
  /-- An unpaced background pass runs (R919). -/
  unpaced : Bool
  /-- Model digests in the cache of R860: MODEL, EXT_BASE, EXT_LEN. -/
  digests : List (Nat × Nat × Nat)
  deriving DecidableEq, Repr

/-! ## Faces (08_face.md) -/

/-- FACE_STATE.STATE. -/
inductive FaceRun where
  | idle | switching | running | stopped
  deriving DecidableEq, Repr

/-- The owner of a face (OWNER, Table 8-13). -/
inductive Owner where
  | none
  | job (j : Nat)
  | stage (chain pos : Nat)
  deriving DecidableEq, Repr

/-- A fetched op record with its address and its eight words. -/
structure OpRec where
  addr : Nat
  words : List Nat
  deriving DecidableEq, Repr

/-- A transfer whose data is on the haul road: operation and descriptor address, class and far region, the bounds of its
range in own face SRAM, whether data delivered carried spoil, and the status and address with which it has failed. -/
structure Transfer where
  op : Nat
  desc : Nat
  cls : Nat
  far : Nat
  lo : Nat
  hi : Nat
  spoiled : Bool
  fail : Option (Nat × Nat)
  deriving DecidableEq, Repr

/-- What an issued record waits for: nothing more, an answer of a sync block, a RETRY resend, or a remote wafer. -/
inductive IssueSt where
  | done
  /-- A SYN record that completed refused (2), with DEAD_TARGET (3) or with ROUTE_LOST (4). -/
  | failed (status : Nat)
  | waiting (region : Nat) (op : SyncOp) (wait : Bool)
  | retry (region : Nat) (op : SyncOp) (wait : Bool)
  | remote (link opId : Nat)
  /-- A hoist transfer whose lines are not all durable: its region. -/
  | writes (region op desc : Nat)
  /-- A hoist transfer between regions whose packets are on the haul road. -/
  | moving (t : Transfer)
  deriving DecidableEq, Repr

/-- An issued record that has not retired. -/
structure Issued where
  id : Nat
  record : OpRec
  st : IssueSt
  deriving DecidableEq, Repr

/-- A loop level (Table 8-11). -/
structure Loop where
  start : Nat
  stop : Nat
  remain : Nat
  step : Nat
  areg : Nat
  deriving DecidableEq, Repr

/-- A face line tag (R612); SPOIL is in `FaceSt.spoil`. -/
structure LineTag where
  valid : Bool
  dirty : Bool
  home : Nat
  deriving DecidableEq, Repr

/-- A function table (R454): origin and width exponent, and its words (segment i word k at 4i + k). -/
structure FTable where
  loaded : Bool
  x0 : Nat
  w : Nat
  segs : Tab Nat
  deriving DecidableEq, Repr

/-- The numeric state a face keeps beside its numerics page (09): SEQUENCE and slot (2: none) of the newest log slot
written, RUN_ID and BOOT of the log, the words of the entries in the open segment, and whether a segment write is due
(R535). -/
structure NumSt where
  seq : Nat
  slot : Nat
  runId : Nat
  bootAt : Nat
  entries : List (List Nat)
  writeDue : Bool
  deriving DecidableEq, Repr

/-- A start in progress (R473): the tick of its message, and the wake chain and position to acknowledge. -/
structure StartSt where
  at_ : Nat
  ack : Option (Nat × Nat)
  deriving DecidableEq, Repr

/-- A face: state beside its register pages. -/
structure FaceSt where
  run : FaceRun
  owner : Owner
  confidential : Bool
  start : Option StartSt
  /-- END arrived during SWITCHING (R495). -/
  endPending : Bool
  /-- Next record to fetch. -/
  pc : Nat
  queue : List OpRec
  issued : List Issued
  nextId : Nat
  /-- Address registers; A0 is never listed. -/
  regs : Tab Nat
  preds : Nat
  tokens : Nat
  /-- Loop levels, innermost first. -/
  loops : List Loop
  sram : Tab Byte
  spoil : Tab Bool
  tags : Tab LineTag
  prog : Tab Nat
  epLen : Nat
  tables : Tab FTable
  num : NumSt
  /-- The face no longer answers polls (R990), the number of polls missed, and the loss under way. -/
  dead : Bool
  missed : Nat
  scanning : Bool
  /-- END executed by the program (R477, R804). -/
  ended : Bool
  deriving DecidableEq, Repr

/-! ## Host memory, jobs and the host port (14_host_port_jobs.md) -/

/-- JOB_INFO.STATE. -/
inductive JobState where
  | free | waiting | admitting | running | stopping | respawning | retiring
  deriving DecidableEq, Repr

/-- A cut entry (Table 14-5). -/
structure CutEnt where
  face : Nat
  model : Nat
  ctx : Nat
  deriving DecidableEq, Repr

/-- An image or output entry (Table 14-5); `digest` is the SHA-384 value of an image. -/
structure RangeEnt where
  hostAddr : Nat
  region : Nat
  check : Bool
  bedAddr : Nat
  len : Nat
  digest : Nat
  deriving DecidableEq, Repr

/-- A sync entry (Table 14-5). -/
structure SyncEnt where
  region : Nat
  first : Nat
  count : Nat
  kind : Nat
  parties : Nat
  deriving DecidableEq, Repr

/-- A claim of a job (15_weighbridge.md, Table 15-5), in its eight words. -/
structure ClaimEnt where
  words : List Nat
  deriving DecidableEq, Repr

/-- A stop status with its detail and face (Table 14-7, R690). -/
structure StopStatus where
  status : Nat
  detail : Nat
  face : Nat
  deriving DecidableEq, Repr

/-- An entry of the job table. -/
structure JobSt where
  state : JobState
  queue : Nat
  desc : Nat
  user : Nat
  flags : Nat
  waitMs : Nat
  tag : Nat
  rank : Nat
  maxRespawns : Nat
  cut : List CutEnt
  images : List RangeEnt
  outs : List RangeEnt
  syncs : List SyncEnt
  claims : List ClaimEnt
  keyAddr : Nat
  keyBlock : List Nat
  stop : Option StopStatus
  respawns : Nat
  /-- Next admission step of R802 (or retirement step of R807) and the next item within it. -/
  step : Nat
  item : Nat
  /-- Admission reached step 2 (R808). -/
  reached2 : Bool
  /-- The job's claims are in force (R850). -/
  installed : Bool
  waitSince : Nat
  runSince : Nat
  /-- The job has reached RUNNING. -/
  ran : Bool
  spoil : Bool
  partialOut : Bool
  respawned : Bool
  /-- The job was lost with the host link and writes no completion record (R826). -/
  silent : Bool
  ckptRegion : Nat
  ckptBase : Nat
  /-- Digests of the images copied (R802), in list order. -/
  imgDigests : List Nat
  /-- The last face lost (R1008), and the EPOCH of its claims' installation. -/
  lastLost : Nat
  epoch : Nat
  /-- Order of arrival in the job table. -/
  order : Nat
  deriving DecidableEq, Repr

/-- A submission that has not been fetched. -/
structure Submission where
  addr : Nat
  deriving DecidableEq, Repr

/-- The host port beside its pages and BAR2 registers. -/
structure HostSt where
  linkUp : Bool
  /-- Pending descriptor addresses per queue, oldest first. -/
  pend : Tab (List Nat)
  jobs : Tab JobSt
  nextOrder : Nat
  /-- Last queue fetched per priority (R796). -/
  lastQueue : Tab Nat
  /-- Flushed or failed submissions whose completion record is to be written: queue, USER, status, detail, face. -/
  doneSubs : List (Nat × Nat × Nat × Nat × Nat)
  /-- Host event records appended or dropped since reset, and dropped since the previous record. -/
  evSeq : Nat
  evDropped : Nat
  /-- Bytes the module has written to host memory. -/
  mem : Tab Byte
  /-- Vectors of the MSI-X messages sent, oldest first. -/
  msix : List Nat
  /-- JOBQ soft reset waits for the job table to empty (R830). -/
  srstWait : Bool
  deriving DecidableEq, Repr

/-! ## Management plane (16_banksman_management.md) -/

/-- A management log record (Table 16-6). -/
structure LogRec where
  time : Nat
  seq : Nat
  kind : Nat
  region : Nat
  code : Nat
  data : List Nat
  deriving DecidableEq, Repr

/-! ## Haul road (01_quarry_layout.md, 12_sync_objects.md) -/

/-- Contiguous data on its way: its address, its bytes, and the stretches (offset and length) that carry spoil. -/
structure Load where
  addr : Nat
  bytes : List Nat
  bad : List (Nat × Nat)
  deriving DecidableEq, Repr

/-- Who sent data: a hoist transfer (face, its record's number, the packet's number in the transfer), a stream of a sensor
port (with the block's or frame's number), or a remote COPY that came across an Adit link (link, tag, far face, operation). -/
inductive Sender where
  | hoist (g id n : Nat)
  | port (p slot n : Nat)
  | adit (link tag peer opId : Nat)
  deriving DecidableEq, Repr

/-- What a haul-road packet carries: an operation for the sync block of its destination; data for a face or the bed store
there; a LOAD's request for `len` bytes (transfer, packet number, far and own face address) and the data that answers it;
or a DATA frame for the Adit link of its destination. -/
inductive Body where
  | sync (op : SyncOp)
  | toFace (who : Sender) (face : Nat) (data : Load)
  | toBed (who : Sender) (data : Load)
  | ask (g id n far len face : Nat)
  | give (g id n far : Nat) (data : Load)
  | toLink (k : Nat) (frame : DataFrame)
  deriving DecidableEq, Repr

/-- A packet on the haul road: class, source and destination region, the region whose router holds it, the claim epoch it
was checked under (R852), and what it carries. -/
structure Packet where
  cls : Nat
  src : Nat
  dst : Nat
  loc : Nat
  epoch : Nat
  body : Body
  deriving DecidableEq, Repr

/-- Deficit round robin at an output (R388): the deficits of classes 1 to 3, and the class whose turn it is. -/
structure Share where
  deficit : Tab Nat
  turn : Nat
  deriving DecidableEq, Repr

/-- The haul road: route tables, failed links, packets (oldest first), and routes held for rerouting (R59). -/
structure Road where
  /-- NEXT_HOP by router region * 100 + destination; unlisted is DEAD, or local for the own region (R64). -/
  routes : Tab Nat
  /-- Source and destination pairs whose packets the source holds. -/
  holds : List (Nat × Nat)
  packets : List Packet
  /-- By region * 128 + output: 1 to 4 the mesh directions, 16 on the crossbar's ports. -/
  shares : Tab Share
  deriving DecidableEq, Repr

/-! ## The foreman (16_banksman_management.md) -/

/-- A management session: role (true: OPERATOR), peer address, subscriptions, and the responses kept (newest first, at
most 16, R897): REQ_ID, STATUS, and OP followed by the payload bytes. -/
structure Session where
  id : Nat
  operator : Bool
  peer : Nat
  subLog : Bool
  subTel : Bool
  kept : List (Nat × Nat × List Nat)
  deriving DecidableEq, Repr

/-- A message of the module to the management station (Table 16-2): session, OP, REQ_ID, STATUS, payload bytes. -/
structure MgmtMsg where
  session : Nat
  op : Nat
  reqId : Nat
  status : Nat
  payload : List Nat
  deriving DecidableEq, Repr

/-- A request in pieces (R896): session, REQ_ID, OP, fragment count, LEN, and the payload bytes of the fragments that have
arrived, by index. -/
structure Partial where
  session : Nat
  reqId : Nat
  op : Nat
  count : Nat
  len : Nat
  frags : Tab (List Nat)
  deriving DecidableEq, Repr

/-- A trust anchor (R891): its identity and role. -/
structure Anchor where
  cert : Nat
  operator : Bool
  deriving DecidableEq, Repr

/-- The foreman's management state beside the management port page. -/
structure MgmtSt where
  log : List LogRec
  sessions : List Session
  nextSession : Nat
  trust : Tab Anchor
  staticAddr : Nat
  /-- Messages sent to the management station, oldest first. -/
  sent : List MgmtMsg
  /-- Requests of which not every fragment has arrived (R896). -/
  partials : List Partial
  deriving DecidableEq, Repr

/-! ## The escalation controller (07_escalation.md) -/

/-- Kinds of listener message (R332). -/
inductive MsgKind where
  | aFire | trigger | refresh | demoted
  deriving DecidableEq, Repr

/-- A listener message (R332): chain slot of a port, wake chain, fallback and manual flags, PORT_FRAME, FIRED mask,
score (int8), LEVEL. -/
structure ListenerMsg where
  kind : MsgKind
  port : Nat
  lslot : Nat
  chain : Nat
  manual : Bool
  fallback : Bool
  frame : Nat
  fired : Nat
  score : Nat
  level : Nat
  /-- Wafer time of the decision that sends it, the zero event of Table 7-4. -/
  sent : Nat
  deriving DecidableEq, Repr

/-- The data of the deciding trigger or verdict that a wake record carries (Table 7-2). -/
structure TrigRec where
  port : Nat
  lslot : Nat
  frame : Nat
  fired : Nat
  deriving DecidableEq, Repr

/-- An active stage: its available faces and the descriptor values taken at the promotion into it (R411). -/
structure StageRun where
  faces : List Nat
  regions : List Nat
  snum : Nat
  model : Nat
  grant : Nat
  arrive : Nat
  /-- Faces that have left the set (R420, R503). -/
  left : List Nat
  deriving DecidableEq, Repr

/-- A promotion whose steps are in progress (R382). -/
structure Promo where
  pos : Nat
  /-- Faces to which the wake message has been sent, and those that have acknowledged. -/
  woken : List Nat
  acked : List Nat
  /-- FLAGS, SCORE, SOURCE_FACE and PROMOTION of the wake record, and the promotion decision's wafer time. -/
  flags : Nat
  score : Nat
  source : Nat
  number : Nat
  at_ : Nat
  /-- The zero event of the latency that is measured (Table 7-4). -/
  zero : Nat
  deriving DecidableEq, Repr

/-- A promotion that waits for READY (R85, R423, R424). -/
structure PendPromo where
  chain : Nat
  msg : ListenerMsg
  restart : Bool
  deriving DecidableEq, Repr

/-- A wake chain beside its configuration. -/
structure ChainSt where
  depth : Nat
  /-- Consecutive qualifying verdicts (R373). -/
  count : Nat
  /-- The active stages at position 2 and deeper, by position. -/
  sets : Tab StageRun
  /-- Positions that run degraded. -/
  degraded : List Nat
  pendingFlag : Bool
  blocked : Bool
  config : Bool
  port : Nat
  portValid : Bool
  trig : TrigRec
  /-- Other listener chain slots whose TRIGGER or REFRESH was taken (R406): port * 4 + slot. -/
  others : List Nat
  promos : List Promo
  /-- Start of the demotion timer and its length in ms. -/
  timer : Option (Nat × Nat)
  deriving DecidableEq, Repr

/-- What a chain store record says (Table 7-7): SEQUENCE, CTRL.EN, CH_CFG words and stage descriptor words. -/
structure ChainRec where
  seq : Nat
  en : Bool
  cfg : List Nat
  stages : List Nat
  deriving DecidableEq, Repr

/-- A stored copy of the chain store as it stands in its memory (R107, R398, Table 7-7): MAGIC, FORMAT, HEADER_LEN, BODY_LEN,
what the record says, CRC and COMMIT. -/
structure ChainStore where
  magic : Nat
  format : Nat
  headerLen : Nat
  bodyLen : Nat
  record : ChainRec
  crc : Nat
  commit : Nat
  deriving DecidableEq, Repr

/-- The escalation controller. -/
structure EscSt where
  chains : Tab ChainSt
  /-- Promotions held for READY, in order of arrival. -/
  pend : List PendPromo
  storeA : ChainStore
  storeB : ChainStore
  storeSelB : Bool
  /-- A save in progress: the record, and how often it has been written. -/
  saving : Option (ChainRec × Nat)
  deriving DecidableEq, Repr

/-! ## Messages on the management ring and between the module's blocks (R334, R394) -/

/-- A message on its way; the command that receives it takes the oldest that fits. -/
inductive RingMsg where
  /-- A listener message to the escalation controller. -/
  | listener (m : ListenerMsg)
  /-- The acknowledgement of a listener message, and DEMOTED to a listener chain slot. -/
  | ack (m : ListenerMsg)
  | demoted (port lslot : Nat)
  /-- A face's verdict. -/
  | verdict (g value : Nat)
  /-- A wake message to a face: chain, position, model, and the wake record's bytes. -/
  | wake (g chain pos model : Nat) (record : List Nat)
  | wakeAck (g chain pos : Nat)
  /-- A start of a job on a face, with the context address of a restart. -/
  | start (g job model : Nat) (ctx : Option Nat)
  | endFace (g : Nat)
  /-- An alarm to the field outputs: alarm input, chain and score. -/
  | alarm (no chain score : Nat)
  deriving DecidableEq, Repr

/-! ## Sensor ports (05_sensor_ports.md) -/

/-- A block in a stream's history (R270, R273): PORT_FRAME, payload, FAULT and GAIN_CHANGED, the gain, and whether it
has been delivered and is to carry HIST. -/
structure HBlock where
  frame : Nat
  payload : List Nat
  count : Nat
  fault : Bool
  changed : Bool
  gain : Nat
  delivered : Bool
  hist : Bool
  deriving DecidableEq, Repr

/-- A camera frame: its slot's face, address and size, the number and tick it was begun with, and what has arrived. -/
structure CamFrame where
  face : Nat
  base : Nat
  room : Nat
  seq : Nat
  tick : Nat
  lines : Nat
  lineBytes : Nat
  fill : Nat
  sawData : Bool
  crc : Bool
  trunc : Bool
  gap : Bool
  /-- Counter to add to when the frame is written, if SYNC_EN. -/
  sync : Option Nat
  deriving DecidableEq, Repr

/-- Where the record of the delivery in progress is: not sent (its destination could not be reached), on the haul road, in
its ring, or lost. -/
inductive Flight where
  | unsent | moving | landed | lost
  deriving DecidableEq, Repr

/-- A delivery in progress (R276, R279): the record's PORT_FRAME or the frame's number, its destination face, the counter
to add to, where the next record goes in the ring, and where the record is. -/
structure Delivery where
  frame : Nat
  face : Nat
  sync : Option Nat
  next : Nat
  flight : Flight
  deriving DecidableEq, Repr

/-- A filter's state with the sum of its squared outputs. -/
structure BandSum where
  filt : Nat
  sum : Nat
  deriving DecidableEq, Repr

/-- A stream slot beside its registers. -/
structure StreamSt where
  hist : List HBlock
  /-- The delivery that has begun: a record, or the header of the oldest closed camera frame. -/
  busy : Option Delivery
  /-- The next block or frame delivered carries GAP. -/
  gap : Bool
  /-- A block was lost while a delivery was in progress: the one after it carries GAP (R297). -/
  gapNext : Bool
  /-- Deliverable when last looked at (R275). -/
  deliv : Bool
  ringPos : Nat
  /-- PDM bits of the two port frames before, oldest first, as the decimator holds them (R262). -/
  past : List (List Bool)
  /-- DC estimate in 2^-16 of a sample's unit (R282). -/
  dcEst : Int
  /-- Gain in use, and calibration offset, in 0.005 dB (R283, R284). -/
  gain : Int
  calOff : Int
  /-- The calibration window: 200 Hz to 2 kHz band, samples, and a fault seen (R284, R285). -/
  cal : BandSum
  calCount : Nat
  calFault : Bool
  /-- Camera: the frame in progress, frames whose header is still to be written, frames received, next slot, values of
  a commit that waits for Frame Start (R296), and whether the last frame was whole and held data of type DT. -/
  cam : Option CamFrame
  closing : List CamFrame
  camSeq : Nat
  camSlot : Nat
  held : Option (List Nat)
  lastWhole : Bool
  lastData : Bool
  deriving DecidableEq, Repr

/-- An I²C transfer in progress, as CCI_GO found the registers: device, read, register address and its bytes, data
bytes. -/
structure CciSt where
  dev : Nat
  read : Bool
  reg16 : Bool
  reg : Nat
  len : Nat
  data : Nat
  deriving DecidableEq, Repr

/-- A sensor port. -/
structure SensorSt where
  streams : Tab StreamSt
  /-- Port frames processed. -/
  frame : Nat
  /-- The head supply has tripped (R305). -/
  tripped : Bool
  cci : Option CciSt
  /-- Port frame at which the calibration window began (R284). -/
  calFrom : Nat
  deriving DecidableEq, Repr

/-! ## Listeners (06_listener.md) -/

/-- A detector beside its registers: E of up to four earlier hops (newest first, 0.1 dB), FLOOR in 0.01 dB, runs of
hops passed and failed, hops of onset blanking left, FLOOR to be set from the next hop's E, and the source last watched. -/
structure DetSt where
  past : List Int
  floor : Int
  passRun : Nat
  failRun : Nat
  fired : Bool
  blank : Nat
  setFloor : Bool
  src : Nat
  deriving DecidableEq, Repr

/-- A chain slot of a listener: LEVEL, whether its stage A fires, triggered by fallback, runs of evaluations and hops, a
manual trigger to come, and the message that is not acknowledged (R333), with whether it is resent at hop ends (R355). -/
structure LSlotSt where
  level : Nat
  firing : Bool
  fallback : Bool
  hold : Nat
  linger : Nat
  manual : Bool
  pending : Option ListenerMsg
  resend : Bool
  /-- An evaluation of this hop was at or above B_TH (R351). -/
  crossed : Bool
  deriving DecidableEq, Repr

/-- The fields of CHAIN_CFG and CHAIN_B that a hop's decisions use (Table 6-4). -/
structure SlotCfg where
  enabled : Bool
  wake : Nat
  out : Nat
  th : Int
  hyst : Nat
  hold : Nat
  linger : Nat
  deriving DecidableEq, Repr

/-- An evaluation in progress: its scores, saturations and cycles (R324 to R328), the chain slots' values of its hop, and
whether a commit has changed B_SRC since (R344). -/
structure EvalSt where
  scores : List Int
  sats : Nat
  cycles : Nat
  cfgs : List SlotCfg
  stale : Bool
  deriving DecidableEq, Repr

/-- What a source has fed the listener since the last hop end: its eight band filters, samples, and whether FAULT or
GAIN_CHANGED was set (R314, R315, R323, R347). -/
structure SrcSt where
  bands : Tab BandSum
  count : Nat
  fault : Bool
  changed : Bool
  deriving DecidableEq, Repr

/-- A listener. -/
structure ListenerSt where
  dets : Tab DetSt
  slots : Tab LSlotSt
  /-- Feature vectors, oldest first, as int8 (R321). -/
  ring : List (List Int)
  eval : Option EvalSt
  /-- The image check of R341 is in progress. -/
  checking : Bool
  image : Tab Byte
  work : Tab Byte
  /-- PORT_FRAME of the last hop end (R332). -/
  hopFrame : Nat
  srcs : Tab SrcSt
  deriving DecidableEq, Repr

/-! ## The weighbridge (15_weighbridge.md) -/

/-- A range of a confidential partition (R854) with its OWNER_DIGEST, or an owed range (R865). -/
structure Part where
  region : Nat
  base : Nat
  len : Nat
  digest : Nat
  deriving DecidableEq, Repr

/-- An erase of Table 15-10 in progress: whether the debug port opens at its end, whether the key steps have run, the
regions whose partition lines are still to be zeroed, whether the partition table has been cleared, and whether a start
resumed it (R885). -/
structure EraseSt where
  opens : Bool
  keysGone : Bool
  zeroing : List Nat
  cleared : Bool
  resumed : Bool
  deriving DecidableEq, Repr

/-- A mailbox command in progress: OP, issued by the host, the operands, the nonce, and the outcome found when it began
(RESULT and REASON; RESULT 0: to be formed at its end). -/
structure MbCmd where
  op : Nat
  host : Bool
  args : List Nat
  nonce : List Nat
  addr : Nat
  result : Nat
  reason : Nat
  deriving DecidableEq, Repr

/-- The instruction that the boundary-scan port holds (R862, R863, R866). -/
inductive TapInstr where
  | bypass | sample | preload | extest | opening | bridge
  deriving DecidableEq, Repr

/-- The boundary-scan port: its instruction register, bypass register and boundary register. While the instruction is
EXTEST the boundary register drives the pins. -/
structure TapSt where
  instr : TapInstr
  bypassBit : Bool
  cells : List Bool
  deriving DecidableEq, Repr

/-- The weighbridge beside its pages: the key store (partition table by index, owed ranges, PROVISIONED, ENROL_COUNT,
ERASE_PENDING, the debug port's OPEN state and count), an erase and a mailbox command in progress, the wafer time of the
last epoch change, and by region how many queued line writes were checked before it. -/
structure WbSt where
  parts : Tab Part
  owed : List Part
  provisioned : Bool
  enrolCount : Nat
  /-- ERROR of R883. -/
  error : Bool
  erasePending : Bool
  /-- The pending erase ends with the port OPEN. -/
  pendingOpens : Bool
  dapOpen : Bool
  opens : Nat
  erase : Option EraseSt
  mb : Option MbCmd
  changeAt : Nat
  fence : Tab Nat
  /-- A tamper's erase waits for its stops (Table 15-11). -/
  tamper : Bool
  tap : TapSt
  deriving DecidableEq, Repr

/-! ## Adit links (13_adit_links_collectives.md) -/

/-- Control operations of Table 13-3. -/
inductive CtlOp where
  | nak (cls seq : Nat)
  | swapReq (id : Nat)
  | swapAck
  | swapDone
  | swapAbort (reason : Nat)
  | reject (tag cls seq reason : Nat)
  | time (t : Nat)
  | echo (stamp : Nat)
  deriving DecidableEq, Repr

/-- A DATA frame that waits to be sent (SEQ and counter not assigned) or that ACK does not cover yet; `again`: it is to be
resent (R729). -/
structure TxFrame where
  frame : DataFrame
  ctr : Nat
  again : Bool
  ack : LinkAck
  deriving DecidableEq, Repr

/-- A frame put on the wire, with the frame counter of its key (R737). -/
inductive LinkFrame where
  | data (f : DataFrame) (ctr : Nat) (ack : LinkAck)
  | control (op : CtlOp) (ctr : Nat) (ack : LinkAck)
  | idle (ctr : Nat) (ack : LinkAck)
  deriving DecidableEq, Repr

/-- A remote operation of a face: its number on the link, the face and its record's number, the job's tag, the packets
not answered yet, class and SEQ of the frames sent for it, and the descriptor address and destination face of a COPY. -/
structure RemOp where
  id : Nat
  g : Nat
  recId : Nat
  tag : Nat
  left : Nat
  seqs : List (Nat × Nat)
  desc : Nat
  dst : Nat
  deriving DecidableEq, Repr

/-- A role swap in progress: this end requested it; classes 1 to 3 are paused. -/
structure SwapSt where
  requester : Bool
  paused : Bool
  deriving DecidableEq, Repr

/-- An Adit link beside its page. -/
structure LinkSt where
  /-- Frames waiting to be sent, and sent but not acknowledged, oldest first. -/
  tx : List TxFrame
  sent : List TxFrame
  /-- By class: next SEQ to send, next SEQ expected, credits to return. -/
  nextSeq : Tab Nat
  rxNext : Tab Nat
  owed : Tab Nat
  /-- CONTROL frames waiting. -/
  ctl : List CtlOp
  /-- Deficits of classes 1 to 3 and the class whose turn it is (R388). -/
  deficit : Tab Nat
  turn : Nat
  /-- Frame counters by key: 0 the session key, else the job's tag (R737). -/
  ctr : Tab Nat
  /-- Frames put on the wire, oldest first. -/
  out : List LinkFrame
  /-- Link job table: tag and local job by index. -/
  jobs : Tab (Nat × Nat)
  /-- Tags whose traffic is cut off (R781, R782). -/
  cut : List Nat
  ops : List RemOp
  nextOp : Nat
  swap : Option SwapSt
  /-- A training attempt failed and the next has not begun (R742). -/
  retry : Bool
  /-- Trainings since the link master secret was formed (R839). -/
  trainNo : Nat
  /-- NAKs without progress: class, SEQ, count. -/
  naks : Nat × Nat × Nat
  /-- A TIME has been received since the last training or swap; wafer time of the last one, and the rate at which OFFSET
  slews since (R744): change, in so many ticks. -/
  timed : Bool
  timeAt : Nat
  rate : Int × Nat
  /-- Frames sent since the last IDLE (R728). -/
  sinceIdle : Nat
  deriving DecidableEq, Repr

/-- Cabinet time (R745 to R748): offset in use (1/256 tick, modulo 2^64), the wafer time at which it was taken and its
slew; the time source, whether its OFFSET is in use yet, and whether there has been a source since the cold start. -/
structure CabSt where
  offset : Nat
  takenAt : Nat
  rate : Int × Nat
  src : Option Nat
  adopted : Bool
  hadSource : Bool
  deriving DecidableEq, Repr

/-! ## Field outputs (17_field_outputs.md) -/

/-- A loop channel beside its registers: active; LOOP_COMPLIANCE, CLAMPED and RETRYING; the conditions of R974; consecutive
ticks that were no compliance ticks, and consecutive ticks as R975 counts them. -/
structure LoopSt where
  on : Bool
  comp : Bool
  clamped : Bool
  retrying : Bool
  faultLow : Bool
  opened : Bool
  overvolt : Bool
  internal : Bool
  clean : Nat
  openRun : Nat
  deriving DecidableEq, Repr

/-- A lamp channel beside its registers: active; current, duty and frequency of the period in progress; this period is a
proof pulse, and the next is to be one; PROOFING; class and length of the run of pulses; a diagnosable pulse is recent
enough (R962); overcurrent, internal fault, and a retry period in progress. -/
structure LampSt where
  on : Bool
  ma : Nat
  duty : Nat
  hz : Nat
  proof : Bool
  proofDue : Bool
  proofing : Bool
  cls : Nat
  run : Nat
  fresh : Bool
  overcurrent : Bool
  internal : Bool
  retry : Bool
  deriving DecidableEq, Repr

/-- The field outputs: channels (loops 0 to 3, lamps 0 to 3), the channels that have yet to apply the armed commit (lamp n
as 4 + n), and, while the block stops, those that have yet to reach the boundary they stop at (R211, Table 4-3). -/
structure FieldSt where
  loops : Tab LoopSt
  lamps : Tab LampSt
  arming : List Nat
  stopping : Option (List Nat)
  deriving DecidableEq, Repr


/-! ## The state -/

/-- The module. -/
structure State where
  /-- Commands that are waiting, first in first out. -/
  pending : List Instr
  /-- Wafer time in root ticks (R184). -/
  time : Nat
  /-- Counter of free values taken so far: the model's own field, not the spec's. -/
  freeCount : Nat
  /-- Active register fields by `fieldKey`; unlisted: the reset value. -/
  fields : Tab Nat
  /-- Shadow copies of Shadowed fields that differ from the active field (R220). -/
  shadow : Tab Nat
  /-- Staged LO words of writable pairs (R227). -/
  staged : Tab Nat
  /-- High words captured by low-word reads, per address space (R236). -/
  snapHost : Tab Nat
  snapBk : Tab Nat
  bus : Option BusResult
  carrier : Carrier
  map : MapSt
  boot : Boot
  regions : Tab RegionSt
  wakeQ : List WakeReq
  road : Road
  syncs : Tab SyncBlk
  beds : Tab BedSt
  faces : Tab FaceSt
  host : HostSt
  mgmt : MgmtSt
  esc : EscSt
  /-- Sensor ports SP0 to SP5 and their listeners. -/
  sensors : Tab SensorSt
  listeners : Tab ListenerSt
  wb : WbSt
  /-- Adit links AL0 to AL3, and the module's cabinet time. -/
  links : Tab LinkSt
  cab : CabSt
  outs : FieldSt
  /-- Messages on their way, oldest first. -/
  ring : List RingMsg
  /-- Stops the foreman or a power controller has asked for and whose handshake has not begun. -/
  stopQ : List StopWait
  deriving DecidableEq, Repr

/-- Reasons the module stops. -/
inductive Fault where
  /-- Raised when VIN is taken beyond the absolute maximum rating of Table 19-1: R1041 says that no rule of the manual
  holds afterwards. Safe: nothing is claimed about such a module. -/
  | absoluteMaximum
  deriving DecidableEq, Repr

/-- Reasons a command has no meaning. -/
inductive Refusal where
  /-- Raised by an arm of `exec` for a command that the model does not give a meaning yet. Safe. -/
  | notModelled (mnemonic : String)
  deriving DecidableEq, Repr

/-! ## Reset -/

/-- The record a STD-PLP-W1A module ships with (R3, R7, R1036): every entry that of a healthy region. -/
def QRec.shipped : QRec := ⟨1, 0, 0x1A, []⟩

/-- The copy that holds it; its CRC is that of its 3,232 bytes. -/
def QCopy.shipped : QCopy := ⟨0x514D4150, 1, 32, 3200, QRec.shipped, 0x6FF6D560, 0xFFFFFFFE⟩

/-- A copy that has never been written. -/
def QCopy.blank : QCopy := ⟨0, 0, 0, 0, ⟨0, 0, 0, []⟩, 0, 0⟩

def Carrier.reset : Carrier := ⟨0, .off, .off, false, false, true, false, false, [], true, 400⟩

def MapSt.reset : MapSt :=
  ⟨QCopy.shipped, QCopy.blank, false, QRec.shipped, QRec.shipped, [], none, false, none, 0x1A, some 30⟩

def Boot.reset : Boot := ⟨false, false, false, 0, 0, false, [], [], [], [], [], [], [], [], [], false, 0, [], [], []⟩

def RegionSt.reset : RegionSt :=
  ⟨.stop, false, none, none, false, false, false, false, false, 0, false, 0, 0, [], 255, false⟩

def Share.reset : Share := ⟨[], 3⟩

def SyncObj.reset : SyncObj := ⟨.none, none, false, 0, 0, 0, false, false, 0, []⟩

def SyncBlk.reset : SyncBlk := ⟨[], [], [], none⟩

def BedSt.reset : BedSt :=
  ⟨[], [], [], [], [], [], [], [], [], [], [], none, 0, [], 0, 0, 0, 0, false, false, 0, 0, false, []⟩

def NumSt.reset : NumSt := ⟨0, 2, 0, 0, [], false⟩

def FTable.reset : FTable := ⟨false, 0, 0, []⟩

def LineTag.reset : LineTag := ⟨false, false, 0⟩

def FaceSt.reset : FaceSt :=
  ⟨.idle, .none, false, none, false, 0, [], [], 0, [], 0, 0, [], [], [], [], [], 0, [], NumSt.reset, false, 0,
    false, false⟩

def JobSt.reset : JobSt :=
  ⟨.free, 0, 0, 0, 0, 0, 0, 0, 0, [], [], [], [], [], 0, [], none, 0, 0, 0, false, false, 0, 0, false, false, false, false,
    false, 0, 0, [], 0xFFFF, 0, 0⟩

def HostSt.reset : HostSt := ⟨false, [], [], 0, [], [], 0, 0, [], [], false⟩

def MgmtSt.reset : MgmtSt := ⟨[], [], 0, [(0, ⟨0, true⟩)], 0, [], []⟩

def ChainSt.reset : ChainSt :=
  ⟨0, 0, [], [], false, false, false, 0, false, ⟨0, 0, 0, 0⟩, [], [], none⟩

def StageRun.reset : StageRun := ⟨[], [], 0, 0, 0, 0, []⟩

/-- A chain store copy that has never been written. -/
def ChainStore.blank : ChainStore := ⟨0, 0, 0, 0, ⟨0, false, [], []⟩, 0, 0⟩

def EscSt.reset : EscSt := ⟨[], [], ChainStore.blank, ChainStore.blank, false, none⟩

def BandSum.reset : BandSum := ⟨0, 0⟩

def StreamSt.reset : StreamSt :=
  ⟨[], none, false, false, false, 0, [], 0, 0, 0, BandSum.reset, 0, false, none, [], 0, 0, none, true, true⟩

def SensorSt.reset : SensorSt := ⟨[], 0, false, none, 0⟩

def SrcSt.reset : SrcSt := ⟨[], 0, false, false⟩

def DetSt.reset : DetSt := ⟨[], 0, 0, 0, false, 0, false, 0⟩

def LSlotSt.reset : LSlotSt := ⟨0, false, false, 0, 0, false, none, false, false⟩

def ListenerSt.reset : ListenerSt := ⟨[], [], [], none, false, [], [], 0, []⟩

/-- Test-Logic-Reset: the instruction is BYPASS. -/
def TapSt.reset : TapSt := ⟨.bypass, false, []⟩

/-- The key store as Abalegan enrols the module (R836); no partition. -/
def WbSt.reset : WbSt := ⟨[], [], true, 1, false, false, false, false, 0, none, none, 0, [], false, TapSt.reset⟩

def LinkSt.reset : LinkSt :=
  ⟨[], [], [], [], [], [], [], 3, [], [], [], [], [], 0, none, false, 0, (0, 0, 0), false, 0, (0, 1), 0⟩

def CabSt.reset : CabSt := ⟨0, 0, (0, 1), none, false, false⟩

def LoopSt.reset : LoopSt := ⟨false, false, false, false, false, false, false, false, 0, 0⟩

def LampSt.reset : LampSt := ⟨false, 0, 0, 0, false, false, false, 0, 0, false, false, false, false⟩

def FieldSt.reset : FieldSt := ⟨[], [], [], none⟩

/-- The module before power is applied: every register field at its reset value, every memory as it left the factory,
nothing waiting. -/
def State.reset : State where
  pending := []
  time := 0
  freeCount := 0
  fields := []
  shadow := []
  staged := []
  snapHost := []
  snapBk := []
  bus := none
  carrier := Carrier.reset
  map := MapSt.reset
  boot := Boot.reset
  regions := []
  wakeQ := []
  road := ⟨[], [], [], []⟩
  syncs := []
  beds := []
  faces := []
  host := HostSt.reset
  mgmt := MgmtSt.reset
  esc := EscSt.reset
  sensors := []
  listeners := []
  wb := WbSt.reset
  links := []
  cab := CabSt.reset
  outs := FieldSt.reset
  ring := []
  stopQ := []

end Sys2Proof.Machine
end

