-- ==== Sys2Proof/Machine/RegMap.lean ====
section
/-! DEFINITION. Machine/RegMap.lean: every register field of every page, as the register tables of the chapters list
them: offset, bits, class, access, reset value, accepted values, and whether only the Banksman space may write it.
One constant per field (named after PAGE, REGISTER and FIELD) and one list of rows per page. A 64-bit counter is one
field of 64 bits at the offset of its LO register (R236); a writable LO/HI pair likewise (R227). -/

namespace Sys2Proof.Machine

/-! Page REGION: 01_quarry_layout.md, R48. -/

def REGION_REGION_INFO_INDEX : Fld := ⟨0x40, 0, 7, 0, 0⟩
def REGION_REGION_INFO_X : Fld := ⟨0x40, 8, 4, 0, 0⟩
def REGION_REGION_INFO_Y : Fld := ⟨0x40, 12, 4, 0, 0⟩
def REGION_REGION_INFO_DEPTH : Fld := ⟨0x40, 16, 3, 0, 0⟩
def REGION_REGION_INFO_ISLAND : Fld := ⟨0x40, 19, 1, 0, 0⟩
def REGION_REGION_INFO_FUNC : Fld := ⟨0x40, 20, 4, 0, 0⟩
def REGION_REGION_INFO_INST : Fld := ⟨0x40, 24, 3, 0, 0⟩
def REGION_FACE_COUNT_LOGICAL : Fld := ⟨0x44, 0, 5, 0, 0⟩
def REGION_FACE_COUNT_PHYSICAL : Fld := ⟨0x44, 8, 5, 0, 0⟩
def REGION_FACE_COUNT_BACKED : Fld := ⟨0x44, 16, 5, 0, 0⟩
def REGION_FACE_COUNT_SPARES_FREE : Fld := ⟨0x44, 24, 5, 0, 0⟩
def REGION_SLOT_MAP : Fld := ⟨0x48, 0, 32, 4, 0⟩
def REGION_NEIGHBOUR : Fld := ⟨0x58, 0, 32, 0, 0⟩
def REGION_ROAD_RUN : Fld := ⟨0x5c, 0, 1, 0, 0⟩
def REGION_ROAD_TRANSIT : Fld := ⟨0x5c, 1, 1, 0, 0⟩
def REGION_ROAD_LINK_UP : Fld := ⟨0x5c, 4, 4, 0, 0⟩
def REGION_ROUTE_GEN_GEN : Fld := ⟨0x60, 0, 16, 0, 0⟩
def REGION_ROUTE_NEXT_HOP : Fld := ⟨0x100, 0, 3, 4, 0⟩

def regionRows : List RegRow :=
  [⟨REGION_REGION_INFO_INDEX, 1, .s, .pos, [], false⟩,
   ⟨REGION_REGION_INFO_X, 1, .s, .pos, [], false⟩,
   ⟨REGION_REGION_INFO_Y, 1, .s, .pos, [], false⟩,
   ⟨REGION_REGION_INFO_DEPTH, 1, .s, .pos, [], false⟩,
   ⟨REGION_REGION_INFO_ISLAND, 1, .s, .pos, [], false⟩,
   ⟨REGION_REGION_INFO_FUNC, 1, .s, .pos, [], false⟩,
   ⟨REGION_REGION_INFO_INST, 1, .s, .pos, [], false⟩,
   ⟨REGION_FACE_COUNT_LOGICAL, 1, .s, .pos, [], false⟩,
   ⟨REGION_FACE_COUNT_PHYSICAL, 1, .s, .pos, [], false⟩,
   ⟨REGION_FACE_COUNT_BACKED, 1, .l, .ro, [], false⟩,
   ⟨REGION_FACE_COUNT_SPARES_FREE, 1, .l, .ro, [], false⟩,
   ⟨REGION_SLOT_MAP, 4, .l, .ro, [], false⟩,
   ⟨REGION_NEIGHBOUR, 1, .s, .pos, [], false⟩,
   ⟨REGION_ROAD_RUN, 1, .l, .ro, [], false⟩,
   ⟨REGION_ROAD_TRANSIT, 1, .l, .ro, [], false⟩,
   ⟨REGION_ROAD_LINK_UP, 1, .l, .ro, [], false⟩,
   ⟨REGION_ROUTE_GEN_GEN, 1, .l, .ro, [], false⟩,
   ⟨REGION_ROUTE_NEXT_HOP, 100, .l, .ro, [], false⟩]

/-! Page BRINGUP: 02_first_light.md, R117. -/

def BRINGUP_PHASE : Fld := ⟨0x40, 0, 4, 0, 0⟩
def BRINGUP_PHASE_ROUND : Fld := ⟨0x40, 4, 8, 0, 0⟩
def BRINGUP_PHASE_WARM : Fld := ⟨0x40, 12, 1, 0, 0⟩
def BRINGUP_PHASE_QMAP_DEFAULT : Fld := ⟨0x40, 13, 1, 0, 0⟩
def BRINGUP_COUNTS_HEALTHY : Fld := ⟨0x44, 0, 8, 0, 0⟩
def BRINGUP_COUNTS_FAILED : Fld := ⟨0x44, 8, 8, 0, 0⟩
def BRINGUP_COUNTS_ISOLATED : Fld := ⟨0x44, 16, 8, 0, 0⟩
def BRINGUP_COUNTS_STRANDED : Fld := ⟨0x44, 24, 8, 0, 0⟩
def BRINGUP_FACES_BACKED : Fld := ⟨0x48, 0, 16, 0, 0⟩
def BRINGUP_FACES_SPARES_USED : Fld := ⟨0x48, 16, 8, 0, 0⟩
def BRINGUP_BOOT_COUNT : Fld := ⟨0x4c, 0, 32, 0, 0⟩
def BRINGUP_QMAP_SEQ : Fld := ⟨0x50, 0, 64, 0, 0⟩
def BRINGUP_QMAP_SEL_COPY : Fld := ⟨0x58, 0, 1, 0, 0⟩
def BRINGUP_QMAP_SEL_A_VALID : Fld := ⟨0x58, 1, 1, 0, 0⟩
def BRINGUP_QMAP_SEL_B_VALID : Fld := ⟨0x58, 2, 1, 0, 0⟩
def BRINGUP_ELAPSED_US : Fld := ⟨0x5c, 0, 32, 0, 0⟩

def bringupRows : List RegRow :=
  [⟨BRINGUP_PHASE, 1, .l, .ro, [], false⟩,
   ⟨BRINGUP_PHASE_ROUND, 1, .l, .ro, [], false⟩,
   ⟨BRINGUP_PHASE_WARM, 1, .l, .ro, [], false⟩,
   ⟨BRINGUP_PHASE_QMAP_DEFAULT, 1, .l, .ro, [], false⟩,
   ⟨BRINGUP_COUNTS_HEALTHY, 1, .l, .ro, [], false⟩,
   ⟨BRINGUP_COUNTS_FAILED, 1, .l, .ro, [], false⟩,
   ⟨BRINGUP_COUNTS_ISOLATED, 1, .l, .ro, [], false⟩,
   ⟨BRINGUP_COUNTS_STRANDED, 1, .l, .ro, [], false⟩,
   ⟨BRINGUP_FACES_BACKED, 1, .l, .ro, [], false⟩,
   ⟨BRINGUP_FACES_SPARES_USED, 1, .l, .ro, [], false⟩,
   ⟨BRINGUP_BOOT_COUNT, 1, .l, .ro, [], false⟩,
   ⟨BRINGUP_QMAP_SEQ, 1, .l, .ctr, [], false⟩,
   ⟨BRINGUP_QMAP_SEL_COPY, 1, .l, .ro, [], false⟩,
   ⟨BRINGUP_QMAP_SEL_A_VALID, 1, .l, .ro, [], false⟩,
   ⟨BRINGUP_QMAP_SEL_B_VALID, 1, .l, .ro, [], false⟩,
   ⟨BRINGUP_ELAPSED_US, 1, .l, .ro, [], false⟩]

/-! Page POWER: 03_clocks_run_stop.md, R179. -/

def POWER_PWR_STATE_RUN : Fld := ⟨0x40, 0, 1, 0, 0⟩
def POWER_PWR_STATE_HS_ACTIVE : Fld := ⟨0x40, 1, 1, 0, 0⟩
def POWER_PWR_STATE_LEVEL : Fld := ⟨0x40, 4, 2, 0, 0⟩
def POWER_STOP_CMD_GO : Fld := ⟨0x44, 0, 1, 0, 0⟩
def POWER_STOP_CMD_FORCE : Fld := ⟨0x44, 1, 1, 0, 0⟩
def POWER_HS_CFG_DEADLINE : Fld := ⟨0x48, 0, 6, 0, 10⟩
def POWER_IDLE_CFG_TIMEOUT : Fld := ⟨0x4c, 0, 16, 0, 0⟩
def POWER_HS_RESULT_OUTCOME : Fld := ⟨0x50, 0, 3, 0, 0⟩
def POWER_HS_RESULT_ANSWER : Fld := ⟨0x50, 4, 2, 0, 0⟩
def POWER_HS_RESULT_REASON : Fld := ⟨0x50, 6, 2, 0, 0⟩
def POWER_HS_RESULT_DECIDER : Fld := ⟨0x50, 8, 8, 0, 255⟩
def POWER_HS_RESULT_ELAPSED : Fld := ⟨0x50, 16, 16, 0, 0⟩
def POWER_HS_COUNT_STOPS : Fld := ⟨0x54, 0, 16, 0, 0⟩
def POWER_HS_COUNT_ABANDONS : Fld := ⟨0x54, 16, 16, 0, 0⟩
def POWER_THERM_TJ : Fld := ⟨0x58, 0, 16, 0, 0⟩
def POWER_THERM_SENSOR_OK : Fld := ⟨0x58, 16, 4, 0, 0⟩
def POWER_THERM_CFG_WARN : Fld := ⟨0x5c, 0, 8, 0, 95⟩
def POWER_THERM_CFG_STEP : Fld := ⟨0x5c, 8, 4, 0, 5⟩
def POWER_THERM_CFG_HYST : Fld := ⟨0x5c, 12, 4, 0, 5⟩
def POWER_RUN_US : Fld := ⟨0x60, 0, 64, 0, 0⟩

def powerRows : List RegRow :=
  [⟨POWER_PWR_STATE_RUN, 1, .l, .ro, [], false⟩,
   ⟨POWER_PWR_STATE_HS_ACTIVE, 1, .l, .ro, [], false⟩,
   ⟨POWER_PWR_STATE_LEVEL, 1, .l, .ro, [], false⟩,
   ⟨POWER_STOP_CMD_GO, 1, .l, .wo, [], false⟩,
   ⟨POWER_STOP_CMD_FORCE, 1, .l, .wo, [], true⟩,
   ⟨POWER_HS_CFG_DEADLINE, 1, .h, .rw, [(1, 50)], false⟩,
   ⟨POWER_IDLE_CFG_TIMEOUT, 1, .l, .rw, [], false⟩,
   ⟨POWER_HS_RESULT_OUTCOME, 1, .l, .ro, [], false⟩,
   ⟨POWER_HS_RESULT_ANSWER, 1, .l, .ro, [], false⟩,
   ⟨POWER_HS_RESULT_REASON, 1, .l, .ro, [], false⟩,
   ⟨POWER_HS_RESULT_DECIDER, 1, .l, .ro, [], false⟩,
   ⟨POWER_HS_RESULT_ELAPSED, 1, .l, .ro, [], false⟩,
   ⟨POWER_HS_COUNT_STOPS, 1, .l, .ro, [], false⟩,
   ⟨POWER_HS_COUNT_ABANDONS, 1, .l, .ro, [], false⟩,
   ⟨POWER_THERM_TJ, 1, .l, .ro, [], false⟩,
   ⟨POWER_THERM_SENSOR_OK, 1, .l, .ro, [], false⟩,
   ⟨POWER_THERM_CFG_WARN, 1, .h, .rw, [(70, 100)], false⟩,
   ⟨POWER_THERM_CFG_STEP, 1, .h, .rw, [(2, 8)], false⟩,
   ⟨POWER_THERM_CFG_HYST, 1, .h, .rw, [(1, 8)], false⟩,
   ⟨POWER_RUN_US, 1, .l, .ctr, [], false⟩]

/-! Page CLOCK: 03_clocks_run_stop.md, R183. -/

def CLOCK_CLK_STATUS_REF_OK : Fld := ⟨0x40, 0, 1, 0, 0⟩
def CLOCK_CLK_STATUS_LOCKED : Fld := ⟨0x40, 1, 1, 0, 0⟩
def CLOCK_CLK_STATUS_BACKUP_REF : Fld := ⟨0x40, 2, 1, 0, 0⟩
def CLOCK_LOCK_US_US : Fld := ⟨0x44, 0, 8, 0, 0⟩
def CLOCK_LOCK_COUNT_LOCKS : Fld := ⟨0x48, 0, 16, 0, 0⟩
def CLOCK_LOCK_COUNT_LOSSES : Fld := ⟨0x48, 16, 16, 0, 0⟩
def CLOCK_GATE_STAT_GATED : Fld := ⟨0x4c, 0, 16, 0, 0⟩
def CLOCK_TIME : Fld := ⟨0x50, 0, 64, 0, 0⟩

def clockRows : List RegRow :=
  [⟨CLOCK_CLK_STATUS_REF_OK, 1, .l, .ro, [], false⟩,
   ⟨CLOCK_CLK_STATUS_LOCKED, 1, .l, .ro, [], false⟩,
   ⟨CLOCK_CLK_STATUS_BACKUP_REF, 1, .l, .ro, [], false⟩,
   ⟨CLOCK_LOCK_US_US, 1, .l, .ro, [], false⟩,
   ⟨CLOCK_LOCK_COUNT_LOCKS, 1, .l, .ro, [], false⟩,
   ⟨CLOCK_LOCK_COUNT_LOSSES, 1, .l, .ro, [], false⟩,
   ⟨CLOCK_GATE_STAT_GATED, 1, .l, .ro, [], false⟩,
   ⟨CLOCK_TIME, 1, .l, .ctr, [], false⟩]

/-! Page BANKSMAN: 16_banksman_management.md, R924. -/

def BANKSMAN_BK_STATUS_RING_OK : Fld := ⟨0x40, 0, 1, 0, 0⟩
def BANKSMAN_BK_STATUS_ROUTE_MATCH : Fld := ⟨0x40, 1, 1, 0, 0⟩
def BANKSMAN_BK_STATUS_POWER_MATCH : Fld := ⟨0x40, 2, 1, 0, 0⟩
def BANKSMAN_ROUTE_DIGEST_CRC : Fld := ⟨0x44, 0, 32, 0, 0⟩
def BANKSMAN_RING_ERRORS_COUNT : Fld := ⟨0x48, 0, 16, 0, 0⟩
def BANKSMAN_MGMT_VIEW_MGMT_STATE : Fld := ⟨0x4c, 0, 4, 0, 0⟩

def banksmanRows : List RegRow :=
  [⟨BANKSMAN_BK_STATUS_RING_OK, 1, .l, .ro, [], false⟩,
   ⟨BANKSMAN_BK_STATUS_ROUTE_MATCH, 1, .l, .ro, [], false⟩,
   ⟨BANKSMAN_BK_STATUS_POWER_MATCH, 1, .l, .ro, [], false⟩,
   ⟨BANKSMAN_ROUTE_DIGEST_CRC, 1, .l, .ro, [], false⟩,
   ⟨BANKSMAN_RING_ERRORS_COUNT, 1, .l, .ro, [], false⟩,
   ⟨BANKSMAN_MGMT_VIEW_MGMT_STATE, 1, .l, .ro, [], false⟩]

/-! Page BED: 11_bed_store_and_hoist.md, R645. -/

def BED_CAPACITY_MIB : Fld := ⟨0x40, 0, 9, 0, 0⟩
def BED_CAPACITY_SPARE_BLOCKS : Fld := ⟨0x40, 16, 12, 0, 0⟩
def BED_APERTURE_BASE : Fld := ⟨0x44, 0, 5, 0, 0⟩
def BED_DIR_STATUS_COPY : Fld := ⟨0x48, 0, 1, 0, 0⟩
def BED_DIR_STATUS_A_VALID : Fld := ⟨0x48, 1, 1, 0, 0⟩
def BED_DIR_STATUS_B_VALID : Fld := ⟨0x48, 2, 1, 0, 0⟩
def BED_DIR_STATUS_COUNT : Fld := ⟨0x48, 8, 8, 0, 0⟩
def BED_DIR_STATUS_SEQ : Fld := ⟨0x48, 16, 16, 0, 0⟩
def BED_SCRUB_CFG_HOURS : Fld := ⟨0x4c, 0, 8, 0, 24⟩
def BED_SCRUB_CFG_REFRESH_TH : Fld := ⟨0x4c, 8, 2, 0, 1⟩
def BED_SCRUB_POS_LINE : Fld := ⟨0x50, 0, 22, 0, 0⟩
def BED_SCRUB_POS_PASSES : Fld := ⟨0x50, 24, 8, 0, 0⟩
def BED_ECC_COUNT_CORRECTED : Fld := ⟨0x54, 0, 16, 0, 0⟩
def BED_ECC_COUNT_UNCORRECTABLE : Fld := ⟨0x54, 16, 16, 0, 0⟩
def BED_LAST_UE_ADDR : Fld := ⟨0x58, 0, 28, 0, 0⟩
def BED_WEAR_CFG_GAP : Fld := ⟨0x5c, 0, 8, 0, 64⟩
def BED_WEAR_STAT_SPARES_FREE : Fld := ⟨0x60, 0, 12, 0, 0⟩
def BED_WEAR_STAT_RETIRED : Fld := ⟨0x60, 16, 12, 0, 0⟩
def BED_WEAR_MAX_WRITES : Fld := ⟨0x64, 0, 21, 0, 0⟩
def BED_WEAR_MEAN_WRITES : Fld := ⟨0x68, 0, 21, 0, 0⟩
def BED_RELOC_COUNT : Fld := ⟨0x6c, 0, 16, 0, 0⟩
def BED_QUEUE_WB_PENDING : Fld := ⟨0x70, 0, 10, 0, 0⟩
def BED_QUEUE_OUT_PENDING : Fld := ⟨0x70, 16, 9, 0, 0⟩
def BED_RUN_EPOCH_EPOCH : Fld := ⟨0x74, 0, 32, 0, 0⟩
def BED_READS : Fld := ⟨0x78, 0, 64, 0, 0⟩
def BED_WRITES : Fld := ⟨0x80, 0, 64, 0, 0⟩

def bedRows1 : List RegRow :=
  [⟨BED_CAPACITY_MIB, 1, .s, .pos, [], false⟩,
   ⟨BED_CAPACITY_SPARE_BLOCKS, 1, .s, .pos, [], false⟩,
   ⟨BED_APERTURE_BASE, 1, .l, .rw, [], false⟩,
   ⟨BED_DIR_STATUS_COPY, 1, .l, .ro, [], false⟩,
   ⟨BED_DIR_STATUS_A_VALID, 1, .l, .ro, [], false⟩,
   ⟨BED_DIR_STATUS_B_VALID, 1, .l, .ro, [], false⟩,
   ⟨BED_DIR_STATUS_COUNT, 1, .l, .ro, [], false⟩,
   ⟨BED_DIR_STATUS_SEQ, 1, .l, .ro, [], false⟩,
   ⟨BED_SCRUB_CFG_HOURS, 1, .h, .rw, [(1, 255)], false⟩,
   ⟨BED_SCRUB_CFG_REFRESH_TH, 1, .h, .rw, [(1, 2)], false⟩,
   ⟨BED_SCRUB_POS_LINE, 1, .l, .ro, [], false⟩,
   ⟨BED_SCRUB_POS_PASSES, 1, .l, .ro, [], false⟩,
   ⟨BED_ECC_COUNT_CORRECTED, 1, .l, .ro, [], false⟩,
   ⟨BED_ECC_COUNT_UNCORRECTABLE, 1, .l, .ro, [], false⟩,
   ⟨BED_LAST_UE_ADDR, 1, .l, .ro, [], false⟩,
   ⟨BED_WEAR_CFG_GAP, 1, .h, .rw, [(1, 255)], false⟩,
   ⟨BED_WEAR_STAT_SPARES_FREE, 1, .l, .ro, [], false⟩,
   ⟨BED_WEAR_STAT_RETIRED, 1, .l, .ro, [], false⟩,
   ⟨BED_WEAR_MAX_WRITES, 1, .l, .ro, [], false⟩,
   ⟨BED_WEAR_MEAN_WRITES, 1, .l, .ro, [], false⟩]

def bedRows2 : List RegRow :=
  [⟨BED_RELOC_COUNT, 1, .l, .ro, [], false⟩,
   ⟨BED_QUEUE_WB_PENDING, 1, .l, .ro, [], false⟩,
   ⟨BED_QUEUE_OUT_PENDING, 1, .l, .ro, [], false⟩,
   ⟨BED_RUN_EPOCH_EPOCH, 1, .l, .ro, [], false⟩,
   ⟨BED_READS, 1, .l, .ctr, [], false⟩,
   ⟨BED_WRITES, 1, .l, .ctr, [], false⟩]

def bedRows : List RegRow := bedRows1 ++ bedRows2

/-! Page SYNC: 12_sync_objects.md, R701. -/

def SYNC_SYNC_STATUS_WAITERS : Fld := ⟨0x40, 0, 11, 0, 0⟩
def SYNC_OPS : Fld := ⟨0x44, 0, 64, 0, 0⟩
def SYNC_REFUSED_COUNT : Fld := ⟨0x4c, 0, 16, 0, 0⟩
def SYNC_RETRIES_COUNT : Fld := ⟨0x50, 0, 16, 0, 0⟩
def SYNC_ABANDONS_COUNT : Fld := ⟨0x54, 0, 16, 0, 0⟩
def SYNC_SIG_CMD_OBJ : Fld := ⟨0x58, 0, 8, 0, 0⟩
def SYNC_SIG_CMD_SUBOP : Fld := ⟨0x58, 8, 4, 0, 0⟩
def SYNC_SIG_CMD_GO : Fld := ⟨0x58, 12, 1, 0, 0⟩
def SYNC_SIG_VAL_VALUE : Fld := ⟨0x5c, 0, 32, 0, 0⟩
def SYNC_SNAP_CMD_JOB : Fld := ⟨0x60, 0, 10, 0, 0⟩
def SYNC_SNAP_CMD_SAVE : Fld := ⟨0x60, 12, 1, 0, 0⟩
def SYNC_SNAP_CMD_RESTORE : Fld := ⟨0x60, 13, 1, 0, 0⟩
def SYNC_SNAP_CMD_BUSY : Fld := ⟨0x60, 16, 1, 0, 0⟩
def SYNC_SNAP_CMD_RESULT : Fld := ⟨0x60, 17, 3, 0, 0⟩
def SYNC_SNAP_BASE_ADDR : Fld := ⟨0x64, 13, 15, 0, 0⟩
def SYNC_SNAP_SEQ_SEQ : Fld := ⟨0x68, 0, 32, 0, 0⟩
def SYNC_LAST_REFUSAL_OBJ : Fld := ⟨0x6c, 0, 8, 0, 0⟩
def SYNC_LAST_REFUSAL_SUBOP : Fld := ⟨0x6c, 8, 4, 0, 0⟩
def SYNC_LAST_REFUSAL_REASON : Fld := ⟨0x6c, 12, 3, 0, 0⟩
def SYNC_LAST_REFUSAL_FACE : Fld := ⟨0x6c, 16, 12, 0, 0⟩
def SYNC_LAST_REFUSAL_SRC : Fld := ⟨0x6c, 28, 3, 0, 0⟩
def SYNC_OBJ_CFG_KIND : Fld := ⟨0x800, 0, 3, 8, 0⟩
def SYNC_OBJ_CFG_JOB_OWNED : Fld := ⟨0x800, 3, 1, 8, 0⟩
def SYNC_OBJ_CFG_JOB : Fld := ⟨0x800, 4, 10, 8, 0⟩
def SYNC_OBJ_CFG_CORRUPT : Fld := ⟨0x800, 14, 1, 8, 0⟩
def SYNC_OBJ_CFG_PARTIES : Fld := ⟨0x800, 16, 16, 8, 0⟩
def SYNC_OBJ_STATE_STATE : Fld := ⟨0x804, 0, 32, 8, 0⟩

def syncRows1 : List RegRow :=
  [⟨SYNC_SYNC_STATUS_WAITERS, 1, .l, .ro, [], false⟩,
   ⟨SYNC_OPS, 1, .l, .ctr, [], false⟩,
   ⟨SYNC_REFUSED_COUNT, 1, .l, .ro, [], false⟩,
   ⟨SYNC_RETRIES_COUNT, 1, .l, .ro, [], false⟩,
   ⟨SYNC_ABANDONS_COUNT, 1, .l, .ro, [], false⟩,
   ⟨SYNC_SIG_CMD_OBJ, 1, .l, .wo, [], false⟩,
   ⟨SYNC_SIG_CMD_SUBOP, 1, .l, .wo, [(0, 0), (2, 2), (3, 3)], false⟩,
   ⟨SYNC_SIG_CMD_GO, 1, .l, .wo, [], false⟩,
   ⟨SYNC_SIG_VAL_VALUE, 1, .l, .rw, [], false⟩,
   ⟨SYNC_SNAP_CMD_JOB, 1, .l, .rw, [], false⟩,
   ⟨SYNC_SNAP_CMD_SAVE, 1, .l, .wo, [], false⟩,
   ⟨SYNC_SNAP_CMD_RESTORE, 1, .l, .wo, [], false⟩,
   ⟨SYNC_SNAP_CMD_BUSY, 1, .l, .ro, [], false⟩,
   ⟨SYNC_SNAP_CMD_RESULT, 1, .l, .ro, [], false⟩,
   ⟨SYNC_SNAP_BASE_ADDR, 1, .l, .rw, [], false⟩,
   ⟨SYNC_SNAP_SEQ_SEQ, 1, .l, .ro, [], false⟩,
   ⟨SYNC_LAST_REFUSAL_OBJ, 1, .l, .ro, [], false⟩,
   ⟨SYNC_LAST_REFUSAL_SUBOP, 1, .l, .ro, [], false⟩,
   ⟨SYNC_LAST_REFUSAL_REASON, 1, .l, .ro, [], false⟩,
   ⟨SYNC_LAST_REFUSAL_FACE, 1, .l, .ro, [], false⟩]

def syncRows2 : List RegRow :=
  [⟨SYNC_LAST_REFUSAL_SRC, 1, .l, .ro, [], false⟩,
   ⟨SYNC_OBJ_CFG_KIND, 256, .l, .rw, [(0, 4)], false⟩,
   ⟨SYNC_OBJ_CFG_JOB_OWNED, 256, .l, .ro, [], false⟩,
   ⟨SYNC_OBJ_CFG_JOB, 256, .l, .ro, [], false⟩,
   ⟨SYNC_OBJ_CFG_CORRUPT, 256, .l, .ro, [], false⟩,
   ⟨SYNC_OBJ_CFG_PARTIES, 256, .l, .rw, [], false⟩,
   ⟨SYNC_OBJ_STATE_STATE, 256, .l, .ro, [], false⟩]

def syncRows : List RegRow := syncRows1 ++ syncRows2

/-! Page CLAIM: 15_weighbridge.md, R873. -/

def CLAIM_CLAIM_STATUS_ENTRIES : Fld := ⟨0x40, 0, 7, 0, 0⟩
def CLAIM_CLAIM_STATUS_EPOCH : Fld := ⟨0x40, 16, 16, 0, 0⟩
def CLAIM_CLAIM_ENTRY : Fld := ⟨0x100, 0, 32, 4, 0⟩

def claimRows : List RegRow :=
  [⟨CLAIM_CLAIM_STATUS_ENTRIES, 1, .l, .ro, [], false⟩,
   ⟨CLAIM_CLAIM_STATUS_EPOCH, 1, .l, .ro, [], false⟩,
   ⟨CLAIM_CLAIM_ENTRY, 960, .h, .ro, [], false⟩]

/-! Page SENSOR: 05_sensor_ports.md, R289. -/

def SENSOR_PORT_CFG_PDM_EN : Fld := ⟨0x40, 0, 1, 0, 0⟩
def SENSOR_PORT_CFG_TDM_EN : Fld := ⟨0x40, 1, 1, 0, 0⟩
def SENSOR_PORT_CFG_CSI_EN : Fld := ⟨0x40, 2, 1, 0, 0⟩
def SENSOR_PORT_CFG_CCI_FAST : Fld := ⟨0x40, 3, 1, 0, 0⟩
def SENSOR_PORT_CFG_PDM_RATE : Fld := ⟨0x40, 4, 2, 0, 0⟩
def SENSOR_PORT_CFG_TDM_FMT : Fld := ⟨0x40, 6, 2, 0, 0⟩
def SENSOR_PORT_CFG_CSI_LANES : Fld := ⟨0x40, 8, 1, 0, 0⟩
def SENSOR_PORT_STATUS_HEAD_OK : Fld := ⟨0x44, 0, 1, 0, 0⟩
def SENSOR_PORT_STATUS_CSI_HS : Fld := ⟨0x44, 1, 1, 0, 0⟩
def SENSOR_PORT_STATUS_DELIVERING : Fld := ⟨0x44, 2, 1, 0, 0⟩
def SENSOR_HEAD_CTRL_ON : Fld := ⟨0x48, 0, 1, 0, 0⟩
def SENSOR_HEAD_CTRL_AUTO_RETRY : Fld := ⟨0x48, 1, 1, 0, 0⟩
def SENSOR_HEAD_CTRL_ILIM : Fld := ⟨0x48, 8, 2, 0, 0⟩
def SENSOR_HEAD_MEAS_MA : Fld := ⟨0x4c, 0, 12, 0, 0⟩
def SENSOR_HEAD_MEAS_MV : Fld := ⟨0x4c, 16, 12, 0, 0⟩
def SENSOR_CAL_CFG_GAIN_CAL_EN : Fld := ⟨0x50, 0, 1, 0, 0⟩
def SENSOR_CAL_CFG_HPF : Fld := ⟨0x50, 2, 2, 0, 0⟩
def SENSOR_CAL_CFG_WINDOW : Fld := ⟨0x50, 8, 8, 0, 60⟩
def SENSOR_CAL_CFG_LIMIT : Fld := ⟨0x50, 16, 8, 0, 30⟩
def SENSOR_FAULT_CFG_STUCK_MS : Fld := ⟨0x54, 0, 8, 0, 20⟩
def SENSOR_FAULT_CFG_SILENT_S : Fld := ⟨0x54, 8, 8, 0, 10⟩
def SENSOR_FAULT_CFG_CAM_TIMEOUT : Fld := ⟨0x54, 16, 8, 0, 50⟩
def SENSOR_HIST_USED_KIB : Fld := ⟨0x58, 0, 10, 0, 0⟩
def SENSOR_PORT_FRAME : Fld := ⟨0x60, 0, 64, 0, 0⟩
def SENSOR_CSI_ERR_HDR : Fld := ⟨0x68, 0, 16, 0, 0⟩
def SENSOR_CSI_ERR_CRC : Fld := ⟨0x68, 16, 16, 0, 0⟩
def SENSOR_CCI_CTRL_DEV : Fld := ⟨0x70, 0, 7, 0, 0⟩
def SENSOR_CCI_CTRL_READ : Fld := ⟨0x70, 7, 1, 0, 0⟩
def SENSOR_CCI_CTRL_REG16 : Fld := ⟨0x70, 8, 1, 0, 0⟩
def SENSOR_CCI_CTRL_LEN : Fld := ⟨0x70, 9, 2, 0, 0⟩
def SENSOR_CCI_CTRL_GO : Fld := ⟨0x70, 12, 1, 0, 0⟩
def SENSOR_CCI_CTRL_BUSY : Fld := ⟨0x70, 13, 1, 0, 0⟩
def SENSOR_CCI_CTRL_NACK : Fld := ⟨0x70, 14, 1, 0, 0⟩
def SENSOR_CCI_REG_REG : Fld := ⟨0x74, 0, 16, 0, 0⟩
def SENSOR_CCI_DATA_DATA : Fld := ⟨0x78, 0, 32, 0, 0⟩
def SENSOR_S_CFG_EN : Fld := ⟨0x100, 0, 1, 64, 0⟩
def SENSOR_S_CFG_FORMAT : Fld := ⟨0x100, 1, 3, 64, 0⟩
def SENSOR_S_CFG_SRC : Fld := ⟨0x100, 4, 3, 64, 0⟩
def SENSOR_S_CFG_TO_LISTENER : Fld := ⟨0x100, 7, 1, 64, 0⟩
def SENSOR_S_CFG_TO_ROAD : Fld := ⟨0x100, 8, 1, 64, 0⟩
def SENSOR_S_CFG_DT : Fld := ⟨0x100, 16, 6, 64, 0⟩
def SENSOR_S_DEST_FACE : Fld := ⟨0x104, 0, 12, 64, 0⟩
def SENSOR_S_DEST_SYNC_IDX : Fld := ⟨0x104, 16, 8, 64, 0⟩
def SENSOR_S_DEST_SYNC_EN : Fld := ⟨0x104, 24, 1, 64, 0⟩
def SENSOR_S_RING_BASE_BASE : Fld := ⟨0x108, 6, 16, 64, 0⟩
def SENSOR_S_RING_LEN_LEN : Fld := ⟨0x10c, 0, 17, 64, 0⟩
def SENSOR_S_HIST_FRAMES : Fld := ⟨0x110, 0, 10, 64, 0⟩
def SENSOR_S_GAIN_ACT : Fld := ⟨0x114, 0, 16, 64, 0⟩
def SENSOR_S_GAIN_SET : Fld := ⟨0x114, 16, 16, 64, 0⟩
def SENSOR_S_DC_DC : Fld := ⟨0x118, 0, 24, 64, 0⟩
def SENSOR_S_STATUS_ACTIVE : Fld := ⟨0x11c, 0, 1, 64, 0⟩
def SENSOR_S_STATUS_FAULT : Fld := ⟨0x11c, 1, 4, 64, 0⟩
def SENSOR_S_STATUS_DEST_DEAD : Fld := ⟨0x11c, 5, 1, 64, 0⟩
def SENSOR_S_STATUS_CALIBRATING : Fld := ⟨0x11c, 6, 1, 64, 0⟩
def SENSOR_S_SEQ : Fld := ⟨0x120, 0, 64, 64, 0⟩
def SENSOR_S_DROP_AGED : Fld := ⟨0x128, 0, 16, 64, 0⟩
def SENSOR_S_DROP_DEAD : Fld := ⟨0x128, 16, 16, 64, 0⟩
def SENSOR_S_LEVEL_DBFS : Fld := ⟨0x12c, 0, 16, 64, 0⟩
def SENSOR_S_CAMSEEN_LINE_BYTES : Fld := ⟨0x130, 0, 16, 64, 0⟩
def SENSOR_S_CAMSEEN_LINES : Fld := ⟨0x130, 16, 16, 64, 0⟩
def SENSOR_S_CAMSLOT_SLOT : Fld := ⟨0x134, 0, 17, 64, 0⟩

def sensorRows1 : List RegRow :=
  [⟨SENSOR_PORT_CFG_PDM_EN, 1, .s, .rws, [], false⟩,
   ⟨SENSOR_PORT_CFG_TDM_EN, 1, .s, .rws, [], false⟩,
   ⟨SENSOR_PORT_CFG_CSI_EN, 1, .s, .rws, [], false⟩,
   ⟨SENSOR_PORT_CFG_CCI_FAST, 1, .s, .rws, [], false⟩,
   ⟨SENSOR_PORT_CFG_PDM_RATE, 1, .s, .rws, [(0, 1)], false⟩,
   ⟨SENSOR_PORT_CFG_TDM_FMT, 1, .s, .rws, [(0, 1)], false⟩,
   ⟨SENSOR_PORT_CFG_CSI_LANES, 1, .s, .rws, [], false⟩,
   ⟨SENSOR_PORT_STATUS_HEAD_OK, 1, .l, .ro, [], false⟩,
   ⟨SENSOR_PORT_STATUS_CSI_HS, 1, .l, .ro, [], false⟩,
   ⟨SENSOR_PORT_STATUS_DELIVERING, 1, .l, .ro, [], false⟩,
   ⟨SENSOR_HEAD_CTRL_ON, 1, .l, .rw, [], false⟩,
   ⟨SENSOR_HEAD_CTRL_AUTO_RETRY, 1, .l, .rw, [], false⟩,
   ⟨SENSOR_HEAD_CTRL_ILIM, 1, .s, .rws, [(0, 2)], false⟩,
   ⟨SENSOR_HEAD_MEAS_MA, 1, .l, .ro, [], false⟩,
   ⟨SENSOR_HEAD_MEAS_MV, 1, .l, .ro, [], false⟩,
   ⟨SENSOR_CAL_CFG_GAIN_CAL_EN, 1, .h, .rw, [], false⟩,
   ⟨SENSOR_CAL_CFG_HPF, 1, .h, .rw, [(0, 2)], false⟩,
   ⟨SENSOR_CAL_CFG_WINDOW, 1, .h, .rw, [(16, 255)], false⟩,
   ⟨SENSOR_CAL_CFG_LIMIT, 1, .h, .rw, [(1, 60)], false⟩,
   ⟨SENSOR_FAULT_CFG_STUCK_MS, 1, .h, .rw, [(1, 255)], false⟩]

def sensorRows2 : List RegRow :=
  [⟨SENSOR_FAULT_CFG_SILENT_S, 1, .h, .rw, [(1, 255)], false⟩,
   ⟨SENSOR_FAULT_CFG_CAM_TIMEOUT, 1, .h, .rw, [(1, 255)], false⟩,
   ⟨SENSOR_HIST_USED_KIB, 1, .l, .ro, [], false⟩,
   ⟨SENSOR_PORT_FRAME, 1, .l, .ctr, [], false⟩,
   ⟨SENSOR_CSI_ERR_HDR, 1, .l, .ro, [], false⟩,
   ⟨SENSOR_CSI_ERR_CRC, 1, .l, .ro, [], false⟩,
   ⟨SENSOR_CCI_CTRL_DEV, 1, .l, .rw, [], false⟩,
   ⟨SENSOR_CCI_CTRL_READ, 1, .l, .rw, [], false⟩,
   ⟨SENSOR_CCI_CTRL_REG16, 1, .l, .rw, [], false⟩,
   ⟨SENSOR_CCI_CTRL_LEN, 1, .l, .rw, [], false⟩,
   ⟨SENSOR_CCI_CTRL_GO, 1, .l, .wo, [], false⟩,
   ⟨SENSOR_CCI_CTRL_BUSY, 1, .l, .ro, [], false⟩,
   ⟨SENSOR_CCI_CTRL_NACK, 1, .l, .ro, [], false⟩,
   ⟨SENSOR_CCI_REG_REG, 1, .l, .rw, [], false⟩,
   ⟨SENSOR_CCI_DATA_DATA, 1, .l, .rw, [], false⟩,
   ⟨SENSOR_S_CFG_EN, 16, .h, .rw, [], false⟩,
   ⟨SENSOR_S_CFG_FORMAT, 16, .h, .rw, [(0, 1)], false⟩,
   ⟨SENSOR_S_CFG_SRC, 16, .h, .rw, [], false⟩,
   ⟨SENSOR_S_CFG_TO_LISTENER, 16, .h, .rw, [], false⟩,
   ⟨SENSOR_S_CFG_TO_ROAD, 16, .h, .rw, [], false⟩]

def sensorRows3 : List RegRow :=
  [⟨SENSOR_S_CFG_DT, 16, .h, .rw, [(0, 0), (30, 30), (42, 44)], false⟩,
   ⟨SENSOR_S_DEST_FACE, 16, .h, .rw, [], false⟩,
   ⟨SENSOR_S_DEST_SYNC_IDX, 16, .h, .rw, [], false⟩,
   ⟨SENSOR_S_DEST_SYNC_EN, 16, .h, .rw, [], false⟩,
   ⟨SENSOR_S_RING_BASE_BASE, 16, .h, .rw, [], false⟩,
   ⟨SENSOR_S_RING_LEN_LEN, 16, .h, .rw, [], false⟩,
   ⟨SENSOR_S_HIST_FRAMES, 16, .s, .rws, [], false⟩,
   ⟨SENSOR_S_GAIN_ACT, 16, .l, .ro, [], false⟩,
   ⟨SENSOR_S_GAIN_SET, 16, .h, .rw, [(0, 1200), (64336, 65535)], false⟩,
   ⟨SENSOR_S_DC_DC, 16, .l, .ro, [], false⟩,
   ⟨SENSOR_S_STATUS_ACTIVE, 16, .l, .ro, [], false⟩,
   ⟨SENSOR_S_STATUS_FAULT, 16, .l, .ro, [], false⟩,
   ⟨SENSOR_S_STATUS_DEST_DEAD, 16, .l, .ro, [], false⟩,
   ⟨SENSOR_S_STATUS_CALIBRATING, 16, .l, .ro, [], false⟩,
   ⟨SENSOR_S_SEQ, 16, .l, .ctr, [], false⟩,
   ⟨SENSOR_S_DROP_AGED, 16, .l, .ro, [], false⟩,
   ⟨SENSOR_S_DROP_DEAD, 16, .l, .ro, [], false⟩,
   ⟨SENSOR_S_LEVEL_DBFS, 16, .l, .ro, [], false⟩,
   ⟨SENSOR_S_CAMSEEN_LINE_BYTES, 16, .l, .ro, [], false⟩,
   ⟨SENSOR_S_CAMSEEN_LINES, 16, .l, .ro, [], false⟩]

def sensorRows4 : List RegRow :=
  [⟨SENSOR_S_CAMSLOT_SLOT, 16, .h, .rw, [], false⟩]

def sensorRows : List RegRow := sensorRows1 ++ sensorRows2 ++ sensorRows3 ++ sensorRows4

/-! Page LISTENER: 06_listener.md, R338. -/

def LISTENER_CTRL_B_EN : Fld := ⟨0x8, 2, 1, 0, 0⟩
def LISTENER_STATUS_B_READY : Fld := ⟨0xc, 8, 1, 0, 0⟩
def LISTENER_STATUS_B_BUSY : Fld := ⟨0xc, 9, 1, 0, 0⟩
def LISTENER_STATUS_B_FAULT : Fld := ⟨0xc, 10, 4, 0, 0⟩
def LISTENER_LCFG_HOP : Fld := ⟨0x40, 0, 6, 0, 1⟩
def LISTENER_CHAIN_CFG_WAKE_CHAIN : Fld := ⟨0x50, 0, 4, 8, 0⟩
def LISTENER_CHAIN_CFG_EN : Fld := ⟨0x50, 4, 1, 8, 0⟩
def LISTENER_CHAIN_CFG_A_MIN : Fld := ⟨0x50, 5, 5, 8, 1⟩
def LISTENER_CHAIN_CFG_FALLBACK : Fld := ⟨0x50, 10, 1, 8, 0⟩
def LISTENER_CHAIN_CFG_B_OUT : Fld := ⟨0x50, 12, 4, 8, 0⟩
def LISTENER_CHAIN_B_B_TH : Fld := ⟨0x54, 0, 8, 8, 0⟩
def LISTENER_CHAIN_B_B_HYST : Fld := ⟨0x54, 8, 8, 8, 0⟩
def LISTENER_CHAIN_B_B_HOLD : Fld := ⟨0x54, 16, 4, 8, 1⟩
def LISTENER_CHAIN_B_B_LINGER : Fld := ⟨0x54, 20, 12, 8, 64⟩
def LISTENER_B_SRC_SRC_MASK : Fld := ⟨0x70, 0, 12, 0, 0⟩
def LISTENER_B_SRC_CONTEXT : Fld := ⟨0x70, 12, 7, 0, 1⟩
def LISTENER_B_SRC_FILL : Fld := ⟨0x70, 20, 8, 0, 128⟩
def LISTENER_B_LOAD_CYCLES : Fld := ⟨0x74, 0, 16, 0, 0⟩
def LISTENER_B_LOAD_OVERRUNS : Fld := ⟨0x74, 16, 16, 0, 0⟩
def LISTENER_B_SAT_LAST : Fld := ⟨0x78, 0, 16, 0, 0⟩
def LISTENER_B_SAT_TOTAL : Fld := ⟨0x78, 16, 16, 0, 0⟩
def LISTENER_SCORES : Fld := ⟨0x7c, 0, 32, 4, 0⟩
def LISTENER_CHAIN_STATE_STATE : Fld := ⟨0x8c, 0, 16, 0, 0⟩
def LISTENER_TRIG_CMD_SLOT : Fld := ⟨0x90, 0, 2, 0, 0⟩
def LISTENER_TRIG_CMD_GO : Fld := ⟨0x90, 2, 1, 0, 0⟩
def LISTENER_TRIG_COUNT_SENT : Fld := ⟨0x94, 0, 16, 0, 0⟩
def LISTENER_TRIG_COUNT_MERGED : Fld := ⟨0x94, 16, 16, 0, 0⟩
def LISTENER_IMG_CRC_CRC : Fld := ⟨0x98, 0, 32, 0, 0⟩
def LISTENER_LAST_TRIG : Fld := ⟨0xa0, 0, 32, 4, 0⟩
def LISTENER_B_ADDR_ADDR : Fld := ⟨0xb0, 2, 14, 0, 0⟩
def LISTENER_B_DATA_DATA : Fld := ⟨0xb4, 0, 32, 0, 0⟩
def LISTENER_B_ECC_CORRECTED : Fld := ⟨0xb8, 0, 16, 0, 0⟩
def LISTENER_D_CFG_EN : Fld := ⟨0x100, 0, 1, 32, 0⟩
def LISTENER_D_CFG_SRC : Fld := ⟨0x100, 1, 4, 32, 0⟩
def LISTENER_D_CFG_E_EN : Fld := ⟨0x100, 5, 1, 32, 0⟩
def LISTENER_D_CFG_R_EN : Fld := ⟨0x100, 6, 1, 32, 0⟩
def LISTENER_D_CFG_O_EN : Fld := ⟨0x100, 7, 1, 32, 0⟩
def LISTENER_D_CFG_BAND_MASK : Fld := ⟨0x100, 8, 8, 32, 0⟩
def LISTENER_D_CFG_REF_MASK : Fld := ⟨0x100, 16, 8, 32, 0⟩
def LISTENER_D_CFG_CHAIN : Fld := ⟨0x100, 24, 2, 32, 0⟩
def LISTENER_D_CFG_HOLD : Fld := ⟨0x100, 26, 4, 32, 1⟩
def LISTENER_D_TH_E_TH : Fld := ⟨0x104, 0, 8, 32, 0⟩
def LISTENER_D_TH_R_TH : Fld := ⟨0x104, 8, 8, 32, 0⟩
def LISTENER_D_TH_O_TH : Fld := ⟨0x104, 16, 8, 32, 0⟩
def LISTENER_D_TH_FLOOR_RISE : Fld := ⟨0x104, 24, 8, 32, 0⟩
def LISTENER_D_LEVEL_E : Fld := ⟨0x108, 0, 16, 32, 0⟩
def LISTENER_D_LEVEL_FLOOR : Fld := ⟨0x108, 16, 16, 32, 0⟩
def LISTENER_D_DIFF_RATIO : Fld := ⟨0x10c, 0, 16, 32, 0⟩
def LISTENER_D_DIFF_ONSET : Fld := ⟨0x10c, 16, 16, 32, 0⟩
def LISTENER_D_STATUS_FLAGS : Fld := ⟨0x110, 0, 7, 32, 0⟩
def LISTENER_D_STATUS_FIRES : Fld := ⟨0x110, 16, 16, 32, 0⟩
def LISTENER_D_CTL_FLOOR_RESET : Fld := ⟨0x114, 0, 1, 32, 0⟩

def listenerRows1 : List RegRow :=
  [⟨LISTENER_CTRL_B_EN, 1, .l, .rw, [], false⟩,
   ⟨LISTENER_STATUS_B_READY, 1, .l, .ro, [], false⟩,
   ⟨LISTENER_STATUS_B_BUSY, 1, .l, .ro, [], false⟩,
   ⟨LISTENER_STATUS_B_FAULT, 1, .l, .ro, [], false⟩,
   ⟨LISTENER_LCFG_HOP, 1, .s, .rws, [(1, 32)], false⟩,
   ⟨LISTENER_CHAIN_CFG_WAKE_CHAIN, 4, .h, .rw, [], false⟩,
   ⟨LISTENER_CHAIN_CFG_EN, 4, .h, .rw, [], false⟩,
   ⟨LISTENER_CHAIN_CFG_A_MIN, 4, .h, .rw, [(1, 16)], false⟩,
   ⟨LISTENER_CHAIN_CFG_FALLBACK, 4, .h, .rw, [], false⟩,
   ⟨LISTENER_CHAIN_CFG_B_OUT, 4, .h, .rw, [], false⟩,
   ⟨LISTENER_CHAIN_B_B_TH, 4, .h, .rw, [], false⟩,
   ⟨LISTENER_CHAIN_B_B_HYST, 4, .h, .rw, [(0, 127)], false⟩,
   ⟨LISTENER_CHAIN_B_B_HOLD, 4, .h, .rw, [(1, 15)], false⟩,
   ⟨LISTENER_CHAIN_B_B_LINGER, 4, .h, .rw, [(1, 4095)], false⟩,
   ⟨LISTENER_B_SRC_SRC_MASK, 1, .h, .rw, [], false⟩,
   ⟨LISTENER_B_SRC_CONTEXT, 1, .h, .rw, [(1, 64)], false⟩,
   ⟨LISTENER_B_SRC_FILL, 1, .h, .rw, [], false⟩,
   ⟨LISTENER_B_LOAD_CYCLES, 1, .l, .ro, [], false⟩,
   ⟨LISTENER_B_LOAD_OVERRUNS, 1, .l, .ro, [], false⟩,
   ⟨LISTENER_B_SAT_LAST, 1, .l, .ro, [], false⟩]

def listenerRows2 : List RegRow :=
  [⟨LISTENER_B_SAT_TOTAL, 1, .l, .ro, [], false⟩,
   ⟨LISTENER_SCORES, 4, .l, .ro, [], false⟩,
   ⟨LISTENER_CHAIN_STATE_STATE, 1, .l, .ro, [], false⟩,
   ⟨LISTENER_TRIG_CMD_SLOT, 1, .l, .wo, [], true⟩,
   ⟨LISTENER_TRIG_CMD_GO, 1, .l, .wo, [], true⟩,
   ⟨LISTENER_TRIG_COUNT_SENT, 1, .l, .ro, [], false⟩,
   ⟨LISTENER_TRIG_COUNT_MERGED, 1, .l, .ro, [], false⟩,
   ⟨LISTENER_IMG_CRC_CRC, 1, .l, .ro, [], false⟩,
   ⟨LISTENER_LAST_TRIG, 4, .l, .ro, [], false⟩,
   ⟨LISTENER_B_ADDR_ADDR, 1, .l, .rw, [(0, 12287)], false⟩,
   ⟨LISTENER_B_DATA_DATA, 1, .l, .rw, [], false⟩,
   ⟨LISTENER_B_ECC_CORRECTED, 1, .l, .ro, [], false⟩,
   ⟨LISTENER_D_CFG_EN, 16, .h, .rw, [], false⟩,
   ⟨LISTENER_D_CFG_SRC, 16, .h, .rw, [(0, 11)], false⟩,
   ⟨LISTENER_D_CFG_E_EN, 16, .h, .rw, [], false⟩,
   ⟨LISTENER_D_CFG_R_EN, 16, .h, .rw, [], false⟩,
   ⟨LISTENER_D_CFG_O_EN, 16, .h, .rw, [], false⟩,
   ⟨LISTENER_D_CFG_BAND_MASK, 16, .h, .rw, [], false⟩,
   ⟨LISTENER_D_CFG_REF_MASK, 16, .h, .rw, [], false⟩,
   ⟨LISTENER_D_CFG_CHAIN, 16, .h, .rw, [], false⟩]

def listenerRows3 : List RegRow :=
  [⟨LISTENER_D_CFG_HOLD, 16, .h, .rw, [(1, 15)], false⟩,
   ⟨LISTENER_D_TH_E_TH, 16, .h, .rw, [], false⟩,
   ⟨LISTENER_D_TH_R_TH, 16, .h, .rw, [], false⟩,
   ⟨LISTENER_D_TH_O_TH, 16, .h, .rw, [], false⟩,
   ⟨LISTENER_D_TH_FLOOR_RISE, 16, .h, .rw, [], false⟩,
   ⟨LISTENER_D_LEVEL_E, 16, .l, .ro, [], false⟩,
   ⟨LISTENER_D_LEVEL_FLOOR, 16, .l, .ro, [], false⟩,
   ⟨LISTENER_D_DIFF_RATIO, 16, .l, .ro, [], false⟩,
   ⟨LISTENER_D_DIFF_ONSET, 16, .l, .ro, [], false⟩,
   ⟨LISTENER_D_STATUS_FLAGS, 16, .l, .ro, [], false⟩,
   ⟨LISTENER_D_STATUS_FIRES, 16, .l, .ro, [], false⟩,
   ⟨LISTENER_D_CTL_FLOOR_RESET, 16, .l, .wo, [], false⟩]

def listenerRows : List RegRow := listenerRows1 ++ listenerRows2 ++ listenerRows3

/-! Page ESC: 07_escalation.md, R399. -/

def ESC_PROMOTE_CMD_CHAIN : Fld := ⟨0x40, 0, 4, 0, 0⟩
def ESC_PROMOTE_CMD_PROMOTE : Fld := ⟨0x40, 4, 1, 0, 0⟩
def ESC_PROMOTE_CMD_DEMOTE : Fld := ⟨0x40, 5, 1, 0, 0⟩
def ESC_STORE_CMD_SAVE : Fld := ⟨0x44, 0, 1, 0, 0⟩
def ESC_STORE_CMD_BUSY : Fld := ⟨0x44, 1, 1, 0, 0⟩
def ESC_STORE_CMD_LOADED : Fld := ⟨0x44, 2, 1, 0, 0⟩
def ESC_STORE_CMD_STORE_FAULT : Fld := ⟨0x44, 3, 1, 0, 0⟩
def ESC_STORE_SEQ_SEQ : Fld := ⟨0x48, 0, 32, 0, 0⟩
def ESC_VERDICT_COUNT_ACCEPTED : Fld := ⟨0x4c, 0, 16, 0, 0⟩
def ESC_VERDICT_COUNT_STALE : Fld := ⟨0x4c, 16, 16, 0, 0⟩
def ESC_LAT_MAX_S2_US : Fld := ⟨0x50, 0, 16, 0, 0⟩
def ESC_LAT_MAX_PROMO_US : Fld := ⟨0x50, 16, 16, 0, 0⟩
def ESC_CHAIN_DEPTH : Fld := ⟨0x54, 0, 32, 4, 0⟩
def ESC_VERDICT_VALUE : Fld := ⟨0x60, 0, 28, 0, 0⟩
def ESC_CH_CFG_EN : Fld := ⟨0x100, 0, 1, 16, 0⟩
def ESC_CH_CFG_LEN : Fld := ⟨0x100, 4, 4, 16, 0⟩
def ESC_CH_CFG_FIRST : Fld := ⟨0x100, 8, 6, 16, 0⟩
def ESC_CH_STATUS_FLAGS : Fld := ⟨0x104, 0, 12, 16, 0⟩
def ESC_CH_STATUS_PROMOTIONS : Fld := ⟨0x104, 16, 16, 16, 0⟩
def ESC_CH_LAST_SCORE : Fld := ⟨0x108, 0, 16, 16, 0⟩
def ESC_CH_LAST_DEMOTIONS : Fld := ⟨0x108, 16, 16, 16, 0⟩
def ESC_CH_TIMER_REMAIN_MS : Fld := ⟨0x10c, 0, 16, 16, 0⟩
def ESC_ST_CFG_SNUM : Fld := ⟨0x800, 0, 3, 32, 0⟩
def ESC_ST_CFG_PORT_REGION : Fld := ⟨0x800, 3, 1, 32, 0⟩
def ESC_ST_CFG_REQUIRE_ALL : Fld := ⟨0x800, 4, 1, 32, 0⟩
def ESC_ST_CFG_PORT : Fld := ⟨0x800, 8, 3, 32, 0⟩
def ESC_ST_CFG_LSLOT : Fld := ⟨0x800, 12, 2, 32, 0⟩
def ESC_ST_CFG_FACE_MASK : Fld := ⟨0x800, 16, 16, 32, 0⟩
def ESC_ST_MODEL_MODEL : Fld := ⟨0x804, 0, 16, 32, 0⟩
def ESC_ST_MODEL_GRANT_SYNC : Fld := ⟨0x804, 16, 8, 32, 0⟩
def ESC_ST_MODEL_ARRIVE_SYNC : Fld := ⟨0x804, 24, 8, 32, 0⟩
def ESC_ST_TH_PROMOTE_TH : Fld := ⟨0x808, 0, 16, 32, 0⟩
def ESC_ST_TH_KEEP_TH : Fld := ⟨0x808, 16, 16, 32, 0⟩
def ESC_ST_TIME_DEMOTE_MS : Fld := ⟨0x80c, 0, 16, 32, 0⟩
def ESC_ST_TIME_P_COUNT : Fld := ⟨0x80c, 16, 4, 32, 1⟩
def ESC_ST_TIME_BUDGET : Fld := ⟨0x80c, 20, 12, 32, 0⟩
def ESC_ST_REGION_0 : Fld := ⟨0x810, 0, 32, 32, 0⟩
def ESC_ST_REGION_1 : Fld := ⟨0x814, 0, 32, 32, 0⟩
def ESC_ST_REGION_2 : Fld := ⟨0x818, 0, 32, 32, 0⟩
def ESC_ST_REGION_3 : Fld := ⟨0x81c, 0, 32, 32, 0⟩

def escRows1 : List RegRow :=
  [⟨ESC_PROMOTE_CMD_CHAIN, 1, .l, .wo, [], true⟩,
   ⟨ESC_PROMOTE_CMD_PROMOTE, 1, .l, .wo, [], true⟩,
   ⟨ESC_PROMOTE_CMD_DEMOTE, 1, .l, .wo, [], true⟩,
   ⟨ESC_STORE_CMD_SAVE, 1, .l, .wo, [], true⟩,
   ⟨ESC_STORE_CMD_BUSY, 1, .l, .ro, [], false⟩,
   ⟨ESC_STORE_CMD_LOADED, 1, .l, .ro, [], false⟩,
   ⟨ESC_STORE_CMD_STORE_FAULT, 1, .l, .ro, [], false⟩,
   ⟨ESC_STORE_SEQ_SEQ, 1, .l, .ro, [], false⟩,
   ⟨ESC_VERDICT_COUNT_ACCEPTED, 1, .l, .ro, [], false⟩,
   ⟨ESC_VERDICT_COUNT_STALE, 1, .l, .ro, [], false⟩,
   ⟨ESC_LAT_MAX_S2_US, 1, .l, .ro, [], false⟩,
   ⟨ESC_LAT_MAX_PROMO_US, 1, .l, .ro, [], false⟩,
   ⟨ESC_CHAIN_DEPTH, 2, .l, .ro, [], false⟩,
   ⟨ESC_VERDICT_VALUE, 1, .l, .wo, [], false⟩,
   ⟨ESC_CH_CFG_EN, 16, .h, .rw, [], false⟩,
   ⟨ESC_CH_CFG_LEN, 16, .h, .rw, [], false⟩,
   ⟨ESC_CH_CFG_FIRST, 16, .h, .rw, [], false⟩,
   ⟨ESC_CH_STATUS_FLAGS, 16, .l, .ro, [], false⟩,
   ⟨ESC_CH_STATUS_PROMOTIONS, 16, .l, .ro, [], false⟩,
   ⟨ESC_CH_LAST_SCORE, 16, .l, .ro, [], false⟩]

def escRows2 : List RegRow :=
  [⟨ESC_CH_LAST_DEMOTIONS, 16, .l, .ro, [], false⟩,
   ⟨ESC_CH_TIMER_REMAIN_MS, 16, .l, .ro, [], false⟩,
   ⟨ESC_ST_CFG_SNUM, 64, .h, .rw, [(0, 6)], false⟩,
   ⟨ESC_ST_CFG_PORT_REGION, 64, .h, .rw, [], false⟩,
   ⟨ESC_ST_CFG_REQUIRE_ALL, 64, .h, .rw, [], false⟩,
   ⟨ESC_ST_CFG_PORT, 64, .h, .rw, [(0, 5)], false⟩,
   ⟨ESC_ST_CFG_LSLOT, 64, .h, .rw, [], false⟩,
   ⟨ESC_ST_CFG_FACE_MASK, 64, .h, .rw, [], false⟩,
   ⟨ESC_ST_MODEL_MODEL, 64, .h, .rw, [], false⟩,
   ⟨ESC_ST_MODEL_GRANT_SYNC, 64, .h, .rw, [], false⟩,
   ⟨ESC_ST_MODEL_ARRIVE_SYNC, 64, .h, .rw, [], false⟩,
   ⟨ESC_ST_TH_PROMOTE_TH, 64, .h, .rw, [], false⟩,
   ⟨ESC_ST_TH_KEEP_TH, 64, .h, .rw, [], false⟩,
   ⟨ESC_ST_TIME_DEMOTE_MS, 64, .h, .rw, [], false⟩,
   ⟨ESC_ST_TIME_P_COUNT, 64, .h, .rw, [(1, 15)], false⟩,
   ⟨ESC_ST_TIME_BUDGET, 64, .h, .rw, [], false⟩,
   ⟨ESC_ST_REGION_0, 64, .h, .rw, [], false⟩,
   ⟨ESC_ST_REGION_1, 64, .h, .rw, [], false⟩,
   ⟨ESC_ST_REGION_2, 64, .h, .rw, [], false⟩,
   ⟨ESC_ST_REGION_3, 64, .h, .rw, [], false⟩]

def escRows : List RegRow := escRows1 ++ escRows2

/-! Page MGMT: 16_banksman_management.md, R922. -/

def MGMT_MGMT_STATUS_LINK_UP : Fld := ⟨0x40, 0, 1, 0, 0⟩
def MGMT_MGMT_STATUS_AMP_HIGH : Fld := ⟨0x40, 1, 1, 0, 0⟩
def MGMT_MGMT_STATUS_AN_DONE : Fld := ⟨0x40, 2, 1, 0, 0⟩
def MGMT_MGMT_STATUS_SESSIONS : Fld := ⟨0x40, 4, 3, 0, 0⟩
def MGMT_MGMT_STATUS_RING_CW_OK : Fld := ⟨0x40, 8, 1, 0, 0⟩
def MGMT_MGMT_STATUS_RING_CCW_OK : Fld := ⟨0x40, 9, 1, 0, 0⟩
def MGMT_MGMT_CFG_AMP : Fld := ⟨0x44, 0, 2, 0, 0⟩
def MGMT_BG_CFG_BG_EN : Fld := ⟨0x48, 0, 1, 0, 1⟩
def MGMT_BG_CFG_PERIOD_H : Fld := ⟨0x48, 8, 8, 0, 24⟩
def MGMT_BG_CFG_VMIN_V : Fld := ⟨0x48, 16, 8, 0, 44⟩
def MGMT_BG_RATE_RATE : Fld := ⟨0x4c, 0, 4, 0, 10⟩
def MGMT_TEL_CFG_PERIOD_MS : Fld := ⟨0x50, 0, 16, 0, 1000⟩
def MGMT_LOG_SEQ_SEQ : Fld := ⟨0x54, 0, 32, 0, 0⟩
def MGMT_LOG_LOST_LOST : Fld := ⟨0x58, 0, 16, 0, 0⟩
def MGMT_LOG_LOST_DISAGREES : Fld := ⟨0x58, 16, 16, 0, 0⟩
def MGMT_LAST_DIS_REGION : Fld := ⟨0x5c, 0, 7, 0, 0⟩
def MGMT_LAST_DIS_MGMT_STATE : Fld := ⟨0x5c, 8, 4, 0, 0⟩
def MGMT_LAST_DIS_DATA_VIEW : Fld := ⟨0x5c, 16, 3, 0, 0⟩
def MGMT_LAST_DIS_ACTION : Fld := ⟨0x5c, 20, 4, 0, 0⟩
def MGMT_LAST_DIS_ROUTER : Fld := ⟨0x5c, 24, 7, 0, 0⟩
def MGMT_BG_STATUS_REGION : Fld := ⟨0x60, 0, 7, 0, 127⟩
def MGMT_BG_STATUS_DUE : Fld := ⟨0x60, 8, 8, 0, 0⟩
def MGMT_BG_STATUS_WAKES : Fld := ⟨0x60, 16, 16, 0, 0⟩
def MGMT_REGION_VIEW_VIEW : Fld := ⟨0x100, 0, 16, 4, 0⟩

def mgmtRows1 : List RegRow :=
  [⟨MGMT_MGMT_STATUS_LINK_UP, 1, .l, .ro, [], false⟩,
   ⟨MGMT_MGMT_STATUS_AMP_HIGH, 1, .l, .ro, [], false⟩,
   ⟨MGMT_MGMT_STATUS_AN_DONE, 1, .l, .ro, [], false⟩,
   ⟨MGMT_MGMT_STATUS_SESSIONS, 1, .l, .ro, [], false⟩,
   ⟨MGMT_MGMT_STATUS_RING_CW_OK, 1, .l, .ro, [], false⟩,
   ⟨MGMT_MGMT_STATUS_RING_CCW_OK, 1, .l, .ro, [], false⟩,
   ⟨MGMT_MGMT_CFG_AMP, 1, .h, .rw, [(0, 2)], true⟩,
   ⟨MGMT_BG_CFG_BG_EN, 1, .h, .rw, [], true⟩,
   ⟨MGMT_BG_CFG_PERIOD_H, 1, .h, .rw, [(1, 255)], true⟩,
   ⟨MGMT_BG_CFG_VMIN_V, 1, .h, .rw, [(36, 60)], true⟩,
   ⟨MGMT_BG_RATE_RATE, 1, .h, .rw, [(1, 10)], true⟩,
   ⟨MGMT_TEL_CFG_PERIOD_MS, 1, .h, .rw, [(100, 60000)], true⟩,
   ⟨MGMT_LOG_SEQ_SEQ, 1, .l, .ro, [], false⟩,
   ⟨MGMT_LOG_LOST_LOST, 1, .l, .ro, [], false⟩,
   ⟨MGMT_LOG_LOST_DISAGREES, 1, .l, .ro, [], false⟩,
   ⟨MGMT_LAST_DIS_REGION, 1, .l, .ro, [], false⟩,
   ⟨MGMT_LAST_DIS_MGMT_STATE, 1, .l, .ro, [], false⟩,
   ⟨MGMT_LAST_DIS_DATA_VIEW, 1, .l, .ro, [], false⟩,
   ⟨MGMT_LAST_DIS_ACTION, 1, .l, .ro, [], false⟩,
   ⟨MGMT_LAST_DIS_ROUTER, 1, .l, .ro, [], false⟩]

def mgmtRows2 : List RegRow :=
  [⟨MGMT_BG_STATUS_REGION, 1, .l, .ro, [], false⟩,
   ⟨MGMT_BG_STATUS_DUE, 1, .l, .ro, [], false⟩,
   ⟨MGMT_BG_STATUS_WAKES, 1, .l, .ro, [], false⟩,
   ⟨MGMT_REGION_VIEW_VIEW, 100, .l, .ro, [], false⟩]

def mgmtRows : List RegRow := mgmtRows1 ++ mgmtRows2

/-! Page ADIT: 13_adit_links_collectives.md, R762. -/

def ADIT_LINK_CFG_ROLE : Fld := ⟨0x40, 0, 1, 0, 0⟩
def ADIT_LINK_CFG_TWO_LANE : Fld := ⟨0x40, 1, 1, 0, 0⟩
def ADIT_LINK_CFG_TIME_EN : Fld := ⟨0x40, 2, 1, 0, 1⟩
def ADIT_LINK_CFG_HOLD_MS : Fld := ⟨0x40, 8, 8, 0, 20⟩
def ADIT_LINK_STATE_STATE : Fld := ⟨0x44, 0, 3, 0, 0⟩
def ADIT_LINK_STATE_ROLE_ACT : Fld := ⟨0x44, 3, 1, 0, 0⟩
def ADIT_LINK_STATE_LANES : Fld := ⟨0x44, 4, 2, 0, 0⟩
def ADIT_LINK_STATE_TIME_SRC : Fld := ⟨0x44, 6, 1, 0, 0⟩
def ADIT_LINK_STATE_HOLDOVER : Fld := ⟨0x44, 7, 1, 0, 0⟩
def ADIT_LINK_STATE_SWAP_COLLIDED : Fld := ⟨0x44, 8, 1, 0, 0⟩
def ADIT_LINK_STATE_ID_EQUAL : Fld := ⟨0x44, 9, 1, 0, 0⟩
def ADIT_LINK_STATE_ROLE_ADJUSTED : Fld := ⟨0x44, 10, 1, 0, 0⟩
def ADIT_LINK_ID : Fld := ⟨0x48, 0, 64, 0, 0⟩
def ADIT_PEER_ID : Fld := ⟨0x50, 0, 64, 0, 0⟩
def ADIT_DELAY_NS : Fld := ⟨0x58, 0, 16, 0, 0⟩
def ADIT_ROLE_CMD_SWAP : Fld := ⟨0x5c, 0, 1, 0, 0⟩
def ADIT_ROLE_CMD_BUSY : Fld := ⟨0x5c, 1, 1, 0, 0⟩
def ADIT_OFFSET : Fld := ⟨0x60, 0, 64, 0, 0⟩
def ADIT_CAB_TIME : Fld := ⟨0x68, 0, 64, 0, 0⟩
def ADIT_CREDITS_01_C0 : Fld := ⟨0x70, 0, 10, 0, 0⟩
def ADIT_CREDITS_01_C1 : Fld := ⟨0x70, 16, 10, 0, 0⟩
def ADIT_CREDITS_23_C2 : Fld := ⟨0x74, 0, 10, 0, 0⟩
def ADIT_CREDITS_23_C3 : Fld := ⟨0x74, 16, 10, 0, 0⟩
def ADIT_TX : Fld := ⟨0x78, 0, 64, 0, 0⟩
def ADIT_RX : Fld := ⟨0x80, 0, 64, 0, 0⟩
def ADIT_ERRORS_REPLAYS : Fld := ⟨0x88, 0, 16, 0, 0⟩
def ADIT_ERRORS_AUTH_FAIL : Fld := ⟨0x88, 16, 16, 0, 0⟩
def ADIT_TRAIN_RETRAINS : Fld := ⟨0x8c, 0, 16, 0, 0⟩
def ADIT_TRAIN_TRAIN_FAILS : Fld := ⟨0x8c, 16, 16, 0, 0⟩
def ADIT_SWAPS_DONE : Fld := ⟨0x90, 0, 16, 0, 0⟩
def ADIT_SWAPS_COLLIDED : Fld := ⟨0x90, 16, 16, 0, 0⟩
def ADIT_JOBS_IN_USE : Fld := ⟨0x94, 0, 7, 0, 0⟩
def ADIT_JOB_ENTRY : Fld := ⟨0x100, 0, 32, 4, 0⟩

def aditRows1 : List RegRow :=
  [⟨ADIT_LINK_CFG_ROLE, 1, .s, .rws, [], true⟩,
   ⟨ADIT_LINK_CFG_TWO_LANE, 1, .s, .rws, [], true⟩,
   ⟨ADIT_LINK_CFG_TIME_EN, 1, .h, .rw, [], true⟩,
   ⟨ADIT_LINK_CFG_HOLD_MS, 1, .h, .rw, [(1, 255)], true⟩,
   ⟨ADIT_LINK_STATE_STATE, 1, .l, .ro, [], false⟩,
   ⟨ADIT_LINK_STATE_ROLE_ACT, 1, .l, .ro, [], false⟩,
   ⟨ADIT_LINK_STATE_LANES, 1, .l, .ro, [], false⟩,
   ⟨ADIT_LINK_STATE_TIME_SRC, 1, .l, .ro, [], false⟩,
   ⟨ADIT_LINK_STATE_HOLDOVER, 1, .l, .ro, [], false⟩,
   ⟨ADIT_LINK_STATE_SWAP_COLLIDED, 1, .l, .w1c, [], true⟩,
   ⟨ADIT_LINK_STATE_ID_EQUAL, 1, .l, .w1c, [], true⟩,
   ⟨ADIT_LINK_STATE_ROLE_ADJUSTED, 1, .l, .w1c, [], true⟩,
   ⟨ADIT_LINK_ID, 1, .s, .ctr, [], false⟩,
   ⟨ADIT_PEER_ID, 1, .l, .ro, [], false⟩,
   ⟨ADIT_DELAY_NS, 1, .l, .ro, [], false⟩,
   ⟨ADIT_ROLE_CMD_SWAP, 1, .l, .wo, [], true⟩,
   ⟨ADIT_ROLE_CMD_BUSY, 1, .l, .ro, [], false⟩,
   ⟨ADIT_OFFSET, 1, .l, .ro, [], false⟩,
   ⟨ADIT_CAB_TIME, 1, .l, .ctr, [], false⟩,
   ⟨ADIT_CREDITS_01_C0, 1, .l, .ro, [], false⟩]

def aditRows2 : List RegRow :=
  [⟨ADIT_CREDITS_01_C1, 1, .l, .ro, [], false⟩,
   ⟨ADIT_CREDITS_23_C2, 1, .l, .ro, [], false⟩,
   ⟨ADIT_CREDITS_23_C3, 1, .l, .ro, [], false⟩,
   ⟨ADIT_TX, 1, .l, .ctr, [], false⟩,
   ⟨ADIT_RX, 1, .l, .ctr, [], false⟩,
   ⟨ADIT_ERRORS_REPLAYS, 1, .l, .ro, [], false⟩,
   ⟨ADIT_ERRORS_AUTH_FAIL, 1, .l, .ro, [], false⟩,
   ⟨ADIT_TRAIN_RETRAINS, 1, .l, .ro, [], false⟩,
   ⟨ADIT_TRAIN_TRAIN_FAILS, 1, .l, .ro, [], false⟩,
   ⟨ADIT_SWAPS_DONE, 1, .l, .ro, [], false⟩,
   ⟨ADIT_SWAPS_COLLIDED, 1, .l, .ro, [], false⟩,
   ⟨ADIT_JOBS_IN_USE, 1, .l, .ro, [], false⟩,
   ⟨ADIT_JOB_ENTRY, 64, .l, .ro, [], false⟩]

def aditRows : List RegRow := aditRows1 ++ aditRows2

/-! Page HOST: 14_host_port_jobs.md, R817. -/

def HOST_PCIE_STATUS_LINK_UP : Fld := ⟨0x40, 0, 1, 0, 0⟩
def HOST_PCIE_STATUS_SPEED : Fld := ⟨0x40, 1, 2, 0, 0⟩
def HOST_PCIE_STATUS_WIDTH : Fld := ⟨0x40, 3, 3, 0, 0⟩
def HOST_PERST_COUNT_COUNT : Fld := ⟨0x44, 0, 16, 0, 0⟩
def HOST_AER_COUNT_CORRECTABLE : Fld := ⟨0x48, 0, 16, 0, 0⟩
def HOST_AER_COUNT_UNCORRECTABLE : Fld := ⟨0x48, 16, 16, 0, 0⟩
def HOST_DMA_ERRORS_COUNT : Fld := ⟨0x4c, 0, 16, 0, 0⟩

def hostRows : List RegRow :=
  [⟨HOST_PCIE_STATUS_LINK_UP, 1, .l, .ro, [], false⟩,
   ⟨HOST_PCIE_STATUS_SPEED, 1, .l, .ro, [], false⟩,
   ⟨HOST_PCIE_STATUS_WIDTH, 1, .l, .ro, [], false⟩,
   ⟨HOST_PERST_COUNT_COUNT, 1, .l, .ro, [], false⟩,
   ⟨HOST_AER_COUNT_CORRECTABLE, 1, .l, .ro, [], false⟩,
   ⟨HOST_AER_COUNT_UNCORRECTABLE, 1, .l, .ro, [], false⟩,
   ⟨HOST_DMA_ERRORS_COUNT, 1, .l, .ro, [], false⟩]

/-! Page FIELD: 17_field_outputs.md, R965. -/

def FIELD_ALARM_STAT_IN : Fld := ⟨0x40, 0, 8, 0, 0⟩
def FIELD_ALARM_CMD_SET : Fld := ⟨0x44, 0, 8, 0, 0⟩
def FIELD_ALARM_INFO_LAST_NO : Fld := ⟨0x48, 0, 3, 0, 0⟩
def FIELD_ALARM_INFO_LAST_MANUAL : Fld := ⟨0x48, 3, 1, 0, 0⟩
def FIELD_ALARM_INFO_COUNT : Fld := ⟨0x48, 16, 16, 0, 0⟩
def FIELD_ALARM_TIME : Fld := ⟨0x4c, 0, 64, 0, 0⟩
def FIELD_LOOP_CFG_EN : Fld := ⟨0x100, 0, 1, 32, 0⟩
def FIELD_LOOP_CFG_NE43 : Fld := ⟨0x100, 1, 1, 32, 0⟩
def FIELD_LOOP_CFG_RETRY_EN : Fld := ⟨0x100, 3, 1, 32, 1⟩
def FIELD_LOOP_CFG_COMP_T : Fld := ⟨0x100, 4, 4, 32, 4⟩
def FIELD_LOOP_CFG_ALM_MASK : Fld := ⟨0x100, 8, 8, 32, 0⟩
def FIELD_LOOP_SET_SET_UA : Fld := ⟨0x104, 0, 16, 32, 4000⟩
def FIELD_LOOP_SET_ALM_UA : Fld := ⟨0x104, 16, 16, 32, 4000⟩
def FIELD_LOOP_STATUS_STATE : Fld := ⟨0x108, 0, 3, 32, 0⟩
def FIELD_LOOP_STATUS_FLAGS : Fld := ⟨0x108, 3, 4, 32, 0⟩
def FIELD_LOOP_MEAS_I_UA : Fld := ⟨0x10c, 0, 16, 32, 0⟩
def FIELD_LOOP_MEAS_VT_MV : Fld := ⟨0x10c, 16, 16, 32, 0⟩
def FIELD_LOOP_TARGET_UA : Fld := ⟨0x110, 0, 16, 32, 0⟩
def FIELD_LOOP_COUNT_COMPLIANCES : Fld := ⟨0x114, 0, 16, 32, 0⟩
def FIELD_LOOP_COUNT_FALLBACKS : Fld := ⟨0x114, 16, 16, 32, 0⟩
def FIELD_LAMP_CFG_EN : Fld := ⟨0x200, 0, 1, 32, 0⟩
def FIELD_LAMP_CFG_PROOF_EN : Fld := ⟨0x200, 1, 1, 32, 0⟩
def FIELD_LAMP_CFG_PROOF_IV : Fld := ⟨0x200, 2, 3, 32, 2⟩
def FIELD_LAMP_CFG_ALM_MASK : Fld := ⟨0x200, 8, 8, 32, 0⟩
def FIELD_LAMP_CFG_SHORT_V : Fld := ⟨0x200, 16, 6, 32, 0⟩
def FIELD_LAMP_SET_MA : Fld := ⟨0x204, 0, 11, 32, 0⟩
def FIELD_LAMP_SET_DUTY : Fld := ⟨0x204, 16, 12, 32, 0⟩
def FIELD_LAMP_PWM_HZ : Fld := ⟨0x208, 0, 15, 32, 1000⟩
def FIELD_LAMP_ALARM_ALM_MA : Fld := ⟨0x20c, 0, 11, 32, 0⟩
def FIELD_LAMP_ALARM_ALM_DUTY : Fld := ⟨0x20c, 16, 12, 32, 0⟩
def FIELD_LAMP_STATUS_DIAG : Fld := ⟨0x210, 0, 3, 32, 0⟩
def FIELD_LAMP_STATUS_LAST_DIAG : Fld := ⟨0x210, 3, 3, 32, 0⟩
def FIELD_LAMP_STATUS_FLAGS : Fld := ⟨0x210, 6, 2, 32, 0⟩
def FIELD_LAMP_STATUS_ON_US : Fld := ⟨0x210, 16, 16, 32, 0⟩
def FIELD_LAMP_MEAS_MA : Fld := ⟨0x214, 0, 11, 32, 0⟩
def FIELD_LAMP_MEAS_STRING_CV : Fld := ⟨0x214, 16, 13, 32, 0⟩
def FIELD_LAMP_COUNT_PROOFS : Fld := ⟨0x218, 0, 16, 32, 0⟩
def FIELD_LAMP_COUNT_FAULTS : Fld := ⟨0x218, 16, 16, 32, 0⟩

def fieldRows1 : List RegRow :=
  [⟨FIELD_ALARM_STAT_IN, 1, .l, .w1c, [], false⟩,
   ⟨FIELD_ALARM_CMD_SET, 1, .l, .wo, [], false⟩,
   ⟨FIELD_ALARM_INFO_LAST_NO, 1, .l, .ro, [], false⟩,
   ⟨FIELD_ALARM_INFO_LAST_MANUAL, 1, .l, .ro, [], false⟩,
   ⟨FIELD_ALARM_INFO_COUNT, 1, .l, .ro, [], false⟩,
   ⟨FIELD_ALARM_TIME, 1, .l, .ctr, [], false⟩,
   ⟨FIELD_LOOP_CFG_EN, 4, .h, .rw, [], false⟩,
   ⟨FIELD_LOOP_CFG_NE43, 4, .h, .rw, [], false⟩,
   ⟨FIELD_LOOP_CFG_RETRY_EN, 4, .h, .rw, [], false⟩,
   ⟨FIELD_LOOP_CFG_COMP_T, 4, .h, .rw, [(1, 10)], false⟩,
   ⟨FIELD_LOOP_CFG_ALM_MASK, 4, .h, .rw, [], false⟩,
   ⟨FIELD_LOOP_SET_SET_UA, 4, .h, .rw, [(3000, 22000)], false⟩,
   ⟨FIELD_LOOP_SET_ALM_UA, 4, .h, .rw, [(3000, 22000)], false⟩,
   ⟨FIELD_LOOP_STATUS_STATE, 4, .l, .ro, [], false⟩,
   ⟨FIELD_LOOP_STATUS_FLAGS, 4, .l, .ro, [], false⟩,
   ⟨FIELD_LOOP_MEAS_I_UA, 4, .l, .ro, [], false⟩,
   ⟨FIELD_LOOP_MEAS_VT_MV, 4, .l, .ro, [], false⟩,
   ⟨FIELD_LOOP_TARGET_UA, 4, .l, .ro, [], false⟩,
   ⟨FIELD_LOOP_COUNT_COMPLIANCES, 4, .l, .ro, [], false⟩,
   ⟨FIELD_LOOP_COUNT_FALLBACKS, 4, .l, .ro, [], false⟩]

def fieldRows2 : List RegRow :=
  [⟨FIELD_LAMP_CFG_EN, 4, .h, .rw, [], false⟩,
   ⟨FIELD_LAMP_CFG_PROOF_EN, 4, .h, .rw, [], false⟩,
   ⟨FIELD_LAMP_CFG_PROOF_IV, 4, .h, .rw, [(0, 5)], false⟩,
   ⟨FIELD_LAMP_CFG_ALM_MASK, 4, .h, .rw, [], false⟩,
   ⟨FIELD_LAMP_CFG_SHORT_V, 4, .h, .rw, [(0, 40)], false⟩,
   ⟨FIELD_LAMP_SET_MA, 4, .h, .rw, [(0, 1500)], false⟩,
   ⟨FIELD_LAMP_SET_DUTY, 4, .h, .rw, [], false⟩,
   ⟨FIELD_LAMP_PWM_HZ, 4, .h, .rw, [(200, 20000)], false⟩,
   ⟨FIELD_LAMP_ALARM_ALM_MA, 4, .h, .rw, [(0, 1500)], false⟩,
   ⟨FIELD_LAMP_ALARM_ALM_DUTY, 4, .h, .rw, [], false⟩,
   ⟨FIELD_LAMP_STATUS_DIAG, 4, .l, .ro, [], false⟩,
   ⟨FIELD_LAMP_STATUS_LAST_DIAG, 4, .l, .ro, [], false⟩,
   ⟨FIELD_LAMP_STATUS_FLAGS, 4, .l, .ro, [], false⟩,
   ⟨FIELD_LAMP_STATUS_ON_US, 4, .l, .ro, [], false⟩,
   ⟨FIELD_LAMP_MEAS_MA, 4, .l, .ro, [], false⟩,
   ⟨FIELD_LAMP_MEAS_STRING_CV, 4, .l, .ro, [], false⟩,
   ⟨FIELD_LAMP_COUNT_PROOFS, 4, .l, .ro, [], false⟩,
   ⟨FIELD_LAMP_COUNT_FAULTS, 4, .l, .ro, [], false⟩]

def fieldRows : List RegRow := fieldRows1 ++ fieldRows2

/-! Page WB: 15_weighbridge.md, R870. -/

def WB_MB_CMD_OP : Fld := ⟨0x40, 0, 8, 0, 0⟩
def WB_MB_CMD_GO : Fld := ⟨0x40, 8, 1, 0, 0⟩
def WB_MB_ARG : Fld := ⟨0x44, 0, 32, 4, 0⟩
def WB_MB_STATUS_BUSY : Fld := ⟨0x50, 0, 1, 0, 0⟩
def WB_MB_STATUS_RESULT : Fld := ⟨0x50, 1, 3, 0, 0⟩
def WB_MB_STATUS_REASON : Fld := ⟨0x50, 8, 8, 0, 0⟩
def WB_MB_STATUS_LEN : Fld := ⟨0x50, 16, 16, 0, 0⟩
def WB_WB_STATE_STATE : Fld := ⟨0x54, 0, 2, 0, 0⟩
def WB_WB_STATE_PROVISIONED : Fld := ⟨0x54, 2, 1, 0, 0⟩
def WB_WB_STATE_ERASE_PENDING : Fld := ⟨0x54, 3, 1, 0, 0⟩
def WB_WB_STATE_PARTITIONS : Fld := ⟨0x54, 8, 7, 0, 0⟩
def WB_WB_STATE_ENROL_COUNT : Fld := ⟨0x54, 16, 16, 0, 0⟩
def WB_EPOCH : Fld := ⟨0x58, 0, 32, 0, 0⟩
def WB_CLAIM_FENCE_DRAINED : Fld := ⟨0x5c, 0, 1, 0, 1⟩
def WB_CLAIM_FENCE_OLDEST : Fld := ⟨0x5c, 16, 16, 0, 0⟩
def WB_SERIAL : Fld := ⟨0x60, 0, 64, 0, 0⟩
def WB_FENCE_US_US : Fld := ⟨0x68, 0, 16, 0, 0⟩
def WB_SELFTEST_FAILED : Fld := ⟨0x6c, 0, 16, 0, 0⟩
def WB_MB_DATA : Fld := ⟨0x100, 0, 32, 4, 0⟩

def wbRows : List RegRow :=
  [⟨WB_MB_CMD_OP, 1, .l, .wo, [(0, 7)], false⟩,
   ⟨WB_MB_CMD_GO, 1, .l, .wo, [], false⟩,
   ⟨WB_MB_ARG, 3, .l, .rw, [], false⟩,
   ⟨WB_MB_STATUS_BUSY, 1, .l, .ro, [], false⟩,
   ⟨WB_MB_STATUS_RESULT, 1, .l, .ro, [], false⟩,
   ⟨WB_MB_STATUS_REASON, 1, .l, .ro, [], false⟩,
   ⟨WB_MB_STATUS_LEN, 1, .l, .ro, [], false⟩,
   ⟨WB_WB_STATE_STATE, 1, .l, .ro, [], false⟩,
   ⟨WB_WB_STATE_PROVISIONED, 1, .l, .ro, [], false⟩,
   ⟨WB_WB_STATE_ERASE_PENDING, 1, .l, .ro, [], false⟩,
   ⟨WB_WB_STATE_PARTITIONS, 1, .l, .ro, [], false⟩,
   ⟨WB_WB_STATE_ENROL_COUNT, 1, .l, .ro, [], false⟩,
   ⟨WB_EPOCH, 1, .l, .ro, [], false⟩,
   ⟨WB_CLAIM_FENCE_DRAINED, 1, .l, .ro, [], false⟩,
   ⟨WB_CLAIM_FENCE_OLDEST, 1, .l, .ro, [], false⟩,
   ⟨WB_SERIAL, 1, .l, .ctr, [], false⟩,
   ⟨WB_FENCE_US_US, 1, .l, .ro, [], false⟩,
   ⟨WB_SELFTEST_FAILED, 1, .l, .ro, [], false⟩,
   ⟨WB_MB_DATA, 960, .l, .rw, [], false⟩]

/-! Page DAP: 15_weighbridge.md, R874. -/

def DAP_DAP_STATE_STATE : Fld := ⟨0x40, 0, 2, 0, 0⟩
def DAP_DAP_STATE_REFUSED_LAST : Fld := ⟨0x40, 2, 1, 0, 0⟩
def DAP_DAP_STATE_OPENS : Fld := ⟨0x40, 16, 16, 0, 0⟩
def DAP_ERASE_DONE : Fld := ⟨0x44, 0, 16, 0, 0⟩
def DAP_ERASE_SKIPPED : Fld := ⟨0x44, 16, 16, 0, 0⟩

def dapRows : List RegRow :=
  [⟨DAP_DAP_STATE_STATE, 1, .l, .ro, [], false⟩,
   ⟨DAP_DAP_STATE_REFUSED_LAST, 1, .l, .w1c, [], false⟩,
   ⟨DAP_DAP_STATE_OPENS, 1, .l, .ro, [], false⟩,
   ⟨DAP_ERASE_DONE, 1, .l, .ro, [], false⟩,
   ⟨DAP_ERASE_SKIPPED, 1, .l, .ro, [], false⟩]

/-! Page JOBQ: 14_host_port_jobs.md, R814. -/

def JOBQ_JOBQ_STATUS_LIVE : Fld := ⟨0x40, 0, 11, 0, 0⟩
def JOBQ_JOBQ_STATUS_WAITING : Fld := ⟨0x40, 16, 11, 0, 0⟩
def JOBQ_JOB_SEL_JOB : Fld := ⟨0x44, 0, 10, 0, 0⟩
def JOBQ_JOB_INFO_STATE : Fld := ⟨0x48, 0, 3, 0, 0⟩
def JOBQ_JOB_INFO_QUEUE : Fld := ⟨0x48, 8, 6, 0, 0⟩
def JOBQ_JOB_INFO_STOP_STATUS : Fld := ⟨0x48, 16, 8, 0, 0⟩
def JOBQ_JOB_INFO_RESPAWNS : Fld := ⟨0x48, 24, 8, 0, 0⟩
def JOBQ_JOB_USER : Fld := ⟨0x4c, 0, 64, 0, 0⟩
def JOBQ_JOB_CMD_JOB : Fld := ⟨0x54, 0, 10, 0, 0⟩
def JOBQ_JOB_CMD_STOP : Fld := ⟨0x54, 12, 1, 0, 0⟩
def JOBQ_QUEUE_CMD_QUEUE : Fld := ⟨0x58, 0, 6, 0, 0⟩
def JOBQ_QUEUE_CMD_FLUSH : Fld := ⟨0x58, 8, 1, 0, 0⟩
def JOBQ_EVQ_CFG_EN : Fld := ⟨0x5c, 0, 1, 0, 0⟩
def JOBQ_EVQ_CFG_SIZE : Fld := ⟨0x5c, 4, 4, 0, 0⟩
def JOBQ_EVQ_BASE : Fld := ⟨0x60, 0, 64, 0, 0⟩
def JOBQ_QCFG_EN : Fld := ⟨0x100, 0, 1, 16, 0⟩
def JOBQ_QCFG_PRIO : Fld := ⟨0x100, 1, 2, 16, 0⟩
def JOBQ_QCFG_DEPTH : Fld := ⟨0x100, 8, 7, 16, 0⟩
def JOBQ_QCFG_CQ_VECTOR : Fld := ⟨0x100, 16, 6, 16, 0⟩
def JOBQ_QCFG_CQ_SIZE : Fld := ⟨0x100, 24, 4, 16, 0⟩
def JOBQ_CQ_BASE : Fld := ⟨0x104, 0, 64, 16, 0⟩
def JOBQ_QSTAT_PENDING : Fld := ⟨0x10c, 0, 7, 16, 0⟩
def JOBQ_QSTAT_LIVE : Fld := ⟨0x10c, 16, 11, 16, 0⟩

def jobqRows1 : List RegRow :=
  [⟨JOBQ_JOBQ_STATUS_LIVE, 1, .l, .ro, [], false⟩,
   ⟨JOBQ_JOBQ_STATUS_WAITING, 1, .l, .ro, [], false⟩,
   ⟨JOBQ_JOB_SEL_JOB, 1, .l, .rw, [], false⟩,
   ⟨JOBQ_JOB_INFO_STATE, 1, .l, .ro, [], false⟩,
   ⟨JOBQ_JOB_INFO_QUEUE, 1, .l, .ro, [], false⟩,
   ⟨JOBQ_JOB_INFO_STOP_STATUS, 1, .l, .ro, [], false⟩,
   ⟨JOBQ_JOB_INFO_RESPAWNS, 1, .l, .ro, [], false⟩,
   ⟨JOBQ_JOB_USER, 1, .l, .ctr, [], false⟩,
   ⟨JOBQ_JOB_CMD_JOB, 1, .l, .wo, [], false⟩,
   ⟨JOBQ_JOB_CMD_STOP, 1, .l, .wo, [], false⟩,
   ⟨JOBQ_QUEUE_CMD_QUEUE, 1, .l, .wo, [], false⟩,
   ⟨JOBQ_QUEUE_CMD_FLUSH, 1, .l, .wo, [], false⟩,
   ⟨JOBQ_EVQ_CFG_EN, 1, .l, .rw, [], false⟩,
   ⟨JOBQ_EVQ_CFG_SIZE, 1, .l, .rw, [], false⟩,
   ⟨JOBQ_EVQ_BASE, 1, .l, .pair, [], false⟩,
   ⟨JOBQ_QCFG_EN, 64, .l, .rw, [], false⟩,
   ⟨JOBQ_QCFG_PRIO, 64, .l, .rw, [], false⟩,
   ⟨JOBQ_QCFG_DEPTH, 64, .l, .rw, [(0, 64)], false⟩,
   ⟨JOBQ_QCFG_CQ_VECTOR, 64, .l, .rw, [], false⟩,
   ⟨JOBQ_QCFG_CQ_SIZE, 64, .l, .rw, [], false⟩]

def jobqRows2 : List RegRow :=
  [⟨JOBQ_CQ_BASE, 64, .l, .pair, [], false⟩,
   ⟨JOBQ_QSTAT_PENDING, 64, .l, .ro, [], false⟩,
   ⟨JOBQ_QSTAT_LIVE, 64, .l, .ro, [], false⟩]

def jobqRows : List RegRow := jobqRows1 ++ jobqRows2

/-! Page FACE: 08_face.md, R484. -/

def FACE_FACE_STATE_STATE : Fld := ⟨0x40, 0, 3, 0, 0⟩
def FACE_FACE_STATE_OWNER_KIND : Fld := ⟨0x40, 4, 2, 0, 0⟩
def FACE_FACE_STATE_CONFIDENTIAL : Fld := ⟨0x40, 6, 1, 0, 0⟩
def FACE_OWNER_JOB : Fld := ⟨0x44, 0, 10, 0, 0⟩
def FACE_OWNER_CHAIN : Fld := ⟨0x44, 16, 4, 0, 0⟩
def FACE_OWNER_STAGE : Fld := ⟨0x44, 20, 3, 0, 0⟩
def FACE_MODEL : Fld := ⟨0x48, 0, 16, 0, 0⟩
def FACE_MODEL_SWITCHES : Fld := ⟨0x48, 16, 16, 0, 0⟩
def FACE_PC : Fld := ⟨0x4c, 0, 32, 0, 0⟩
def FACE_STOP_INFO_CAUSE : Fld := ⟨0x50, 0, 8, 0, 0⟩
def FACE_STOP_INFO_FAMILY : Fld := ⟨0x50, 8, 4, 0, 0⟩
def FACE_STOP_INFO_SUBOP : Fld := ⟨0x50, 12, 4, 0, 0⟩
def FACE_STOP_PC_PC : Fld := ⟨0x54, 0, 32, 0, 0⟩
def FACE_OCCUPANCY_OPQ : Fld := ⟨0x58, 0, 9, 0, 0⟩
def FACE_OCCUPANCY_HOIST : Fld := ⟨0x58, 16, 7, 0, 0⟩
def FACE_OCCUPANCY_SIGNALS : Fld := ⟨0x58, 24, 6, 0, 0⟩
def FACE_SWITCH_TIME_LAST : Fld := ⟨0x5c, 0, 16, 0, 0⟩
def FACE_SWITCH_TIME_MAX : Fld := ⟨0x5c, 16, 16, 0, 0⟩
def FACE_RETIRED : Fld := ⟨0x60, 0, 64, 0, 0⟩
def FACE_MAT_CYC : Fld := ⟨0x68, 0, 64, 0, 0⟩
def FACE_ELT_CYC : Fld := ⟨0x70, 0, 64, 0, 0⟩
def FACE_SRAM_ECC_CORRECTED : Fld := ⟨0x78, 0, 16, 0, 0⟩
def FACE_FT_X0_X0 : Fld := ⟨0x80, 0, 32, 8, 0⟩
def FACE_FT_W_W : Fld := ⟨0x84, 0, 8, 8, 0⟩
def FACE_FT_W_LOADED : Fld := ⟨0x84, 8, 1, 8, 0⟩
def FACE_EP_LEN_WORDS : Fld := ⟨0xa0, 0, 11, 0, 0⟩
def FACE_PEEK_ADDR_SPACE : Fld := ⟨0xc0, 0, 2, 0, 0⟩
def FACE_PEEK_ADDR_ADDR : Fld := ⟨0xc0, 2, 22, 0, 0⟩
def FACE_PEEK_DATA_DATA : Fld := ⟨0xc4, 0, 32, 0, 0⟩

def faceRows1 : List RegRow :=
  [⟨FACE_FACE_STATE_STATE, 1, .l, .ro, [], false⟩,
   ⟨FACE_FACE_STATE_OWNER_KIND, 1, .l, .ro, [], false⟩,
   ⟨FACE_FACE_STATE_CONFIDENTIAL, 1, .l, .ro, [], false⟩,
   ⟨FACE_OWNER_JOB, 1, .l, .ro, [], false⟩,
   ⟨FACE_OWNER_CHAIN, 1, .l, .ro, [], false⟩,
   ⟨FACE_OWNER_STAGE, 1, .l, .ro, [], false⟩,
   ⟨FACE_MODEL, 1, .l, .ro, [], false⟩,
   ⟨FACE_MODEL_SWITCHES, 1, .l, .ro, [], false⟩,
   ⟨FACE_PC, 1, .l, .ro, [], false⟩,
   ⟨FACE_STOP_INFO_CAUSE, 1, .l, .ro, [], false⟩,
   ⟨FACE_STOP_INFO_FAMILY, 1, .l, .ro, [], false⟩,
   ⟨FACE_STOP_INFO_SUBOP, 1, .l, .ro, [], false⟩,
   ⟨FACE_STOP_PC_PC, 1, .l, .ro, [], false⟩,
   ⟨FACE_OCCUPANCY_OPQ, 1, .l, .ro, [], false⟩,
   ⟨FACE_OCCUPANCY_HOIST, 1, .l, .ro, [], false⟩,
   ⟨FACE_OCCUPANCY_SIGNALS, 1, .l, .ro, [], false⟩,
   ⟨FACE_SWITCH_TIME_LAST, 1, .l, .ro, [], false⟩,
   ⟨FACE_SWITCH_TIME_MAX, 1, .l, .ro, [], false⟩,
   ⟨FACE_RETIRED, 1, .l, .ctr, [], false⟩,
   ⟨FACE_MAT_CYC, 1, .l, .ctr, [], false⟩]

def faceRows2 : List RegRow :=
  [⟨FACE_ELT_CYC, 1, .l, .ctr, [], false⟩,
   ⟨FACE_SRAM_ECC_CORRECTED, 1, .l, .ro, [], false⟩,
   ⟨FACE_FT_X0_X0, 4, .l, .ro, [], false⟩,
   ⟨FACE_FT_W_W, 4, .l, .ro, [], false⟩,
   ⟨FACE_FT_W_LOADED, 4, .l, .ro, [], false⟩,
   ⟨FACE_EP_LEN_WORDS, 1, .l, .ro, [], false⟩,
   ⟨FACE_PEEK_ADDR_SPACE, 1, .l, .rw, [(0, 2)], false⟩,
   ⟨FACE_PEEK_ADDR_ADDR, 1, .l, .rw, [], false⟩,
   ⟨FACE_PEEK_DATA_DATA, 1, .l, .rw, [], false⟩]

def faceRows : List RegRow := faceRows1 ++ faceRows2

/-! Page FCTX: 08_face.md, R486. -/

def FCTX_A : Fld := ⟨0x40, 0, 32, 4, 0⟩
def FCTX_PRED_TOKENS_PRED : Fld := ⟨0x80, 0, 8, 0, 0⟩
def FCTX_PRED_TOKENS_TOKENS : Fld := ⟨0x80, 8, 8, 0, 0⟩
def FCTX_LOOPS : Fld := ⟨0x84, 0, 3, 0, 0⟩
def FCTX_LOOP : Fld := ⟨0x90, 0, 32, 4, 0⟩
def FCTX_LOOP_AREG_AREG : Fld := ⟨0xd0, 0, 16, 0, 0⟩

def fctxRows : List RegRow :=
  [⟨FCTX_A, 16, .l, .ro, [], false⟩,
   ⟨FCTX_PRED_TOKENS_PRED, 1, .l, .ro, [], false⟩,
   ⟨FCTX_PRED_TOKENS_TOKENS, 1, .l, .ro, [], false⟩,
   ⟨FCTX_LOOPS, 1, .l, .ro, [], false⟩,
   ⟨FCTX_LOOP, 16, .l, .ro, [], false⟩,
   ⟨FCTX_LOOP_AREG_AREG, 1, .l, .ro, [], false⟩]

/-! Page HOIST: 11_bed_store_and_hoist.md, R648. -/

def HOIST_HOIST_STATE_INFLIGHT : Fld := ⟨0x40, 0, 7, 0, 0⟩
def HOIST_LAST_FAIL_STATUS : Fld := ⟨0x44, 0, 3, 0, 0⟩
def HOIST_LAST_FAIL_OP : Fld := ⟨0x44, 4, 4, 0, 0⟩
def HOIST_FAIL_DESC_ADDR : Fld := ⟨0x48, 0, 22, 0, 0⟩
def HOIST_XFER_COUNT_FAILED : Fld := ⟨0x4c, 0, 16, 0, 0⟩
def HOIST_XFER_COUNT_SPOILED : Fld := ⟨0x4c, 16, 16, 0, 0⟩
def HOIST_HITS : Fld := ⟨0x50, 0, 64, 0, 0⟩
def HOIST_IN : Fld := ⟨0x58, 0, 64, 0, 0⟩
def HOIST_OUT : Fld := ⟨0x60, 0, 64, 0, 0⟩
def HOIST_VALID_LINES_LINES : Fld := ⟨0x68, 0, 17, 0, 0⟩
def HOIST_DIRTY_LINES_LINES : Fld := ⟨0x6c, 0, 17, 0, 0⟩
def HOIST_TAG_ADDR_LINE : Fld := ⟨0x70, 6, 16, 0, 0⟩
def HOIST_TAG_DATA_HOME : Fld := ⟨0x74, 0, 22, 0, 0⟩
def HOIST_TAG_DATA_FLAGS : Fld := ⟨0x74, 29, 3, 0, 0⟩

def hoistRows : List RegRow :=
  [⟨HOIST_HOIST_STATE_INFLIGHT, 1, .l, .ro, [], false⟩,
   ⟨HOIST_LAST_FAIL_STATUS, 1, .l, .ro, [], false⟩,
   ⟨HOIST_LAST_FAIL_OP, 1, .l, .ro, [], false⟩,
   ⟨HOIST_FAIL_DESC_ADDR, 1, .l, .ro, [], false⟩,
   ⟨HOIST_XFER_COUNT_FAILED, 1, .l, .ro, [], false⟩,
   ⟨HOIST_XFER_COUNT_SPOILED, 1, .l, .ro, [], false⟩,
   ⟨HOIST_HITS, 1, .l, .ctr, [], false⟩,
   ⟨HOIST_IN, 1, .l, .ctr, [], false⟩,
   ⟨HOIST_OUT, 1, .l, .ctr, [], false⟩,
   ⟨HOIST_VALID_LINES_LINES, 1, .l, .ro, [], false⟩,
   ⟨HOIST_DIRTY_LINES_LINES, 1, .l, .ro, [], false⟩,
   ⟨HOIST_TAG_ADDR_LINE, 1, .l, .rw, [], false⟩,
   ⟨HOIST_TAG_DATA_HOME, 1, .l, .ro, [], false⟩,
   ⟨HOIST_TAG_DATA_FLAGS, 1, .l, .ro, [], false⟩]

/-! Page NUM: 09_dressing_numerics.md, R542. -/

def NUM_NUM_CFG_LOG_EN : Fld := ⟨0x40, 0, 1, 0, 0⟩
def NUM_NUM_CFG_ADAPT_EN : Fld := ⟨0x40, 1, 1, 0, 0⟩
def NUM_LOG_BASE_ADDR : Fld := ⟨0x44, 0, 32, 0, 0⟩
def NUM_LOG_SEGS_SEGS : Fld := ⟨0x48, 0, 12, 0, 0⟩
def NUM_NSTEP : Fld := ⟨0x4c, 0, 64, 0, 0⟩
def NUM_LOG_POS_SEGMENT : Fld := ⟨0x54, 0, 12, 0, 0⟩
def NUM_LOG_POS_COUNT : Fld := ⟨0x54, 12, 4, 0, 0⟩
def NUM_LOG_POS_FULL : Fld := ⟨0x54, 16, 1, 0, 0⟩
def NUM_LOG_POS_ERR : Fld := ⟨0x54, 17, 1, 0, 0⟩
def NUM_LOG_POS_GEN : Fld := ⟨0x54, 24, 8, 0, 0⟩
def NUM_SAT_EPI_COUNT : Fld := ⟨0x58, 0, 32, 0, 0⟩
def NUM_SAT_ACC_COUNT : Fld := ⟨0x5c, 0, 32, 0, 0⟩
def NUM_SAT_ELT_COUNT : Fld := ⟨0x60, 0, 32, 0, 0⟩
def NUM_ADAPT_COUNT_UP : Fld := ⟨0x64, 0, 16, 0, 0⟩
def NUM_ADAPT_COUNT_DOWN : Fld := ⟨0x64, 16, 16, 0, 0⟩
def NUM_HELD_COUNT : Fld := ⟨0x68, 0, 16, 0, 0⟩
def NUM_LAST_STEP : Fld := ⟨0x6c, 0, 64, 0, 0⟩
def NUM_LAST_ADAPT_QD : Fld := ⟨0x74, 0, 16, 0, 0⟩
def NUM_LAST_ADAPT_OLD : Fld := ⟨0x74, 16, 3, 0, 0⟩
def NUM_LAST_ADAPT_NEW : Fld := ⟨0x74, 20, 3, 0, 0⟩
def NUM_LAST_SATS_SATS : Fld := ⟨0x78, 0, 32, 0, 0⟩

def numRows1 : List RegRow :=
  [⟨NUM_NUM_CFG_LOG_EN, 1, .l, .ro, [], false⟩,
   ⟨NUM_NUM_CFG_ADAPT_EN, 1, .l, .ro, [], false⟩,
   ⟨NUM_LOG_BASE_ADDR, 1, .l, .ro, [], false⟩,
   ⟨NUM_LOG_SEGS_SEGS, 1, .l, .ro, [], false⟩,
   ⟨NUM_NSTEP, 1, .l, .ctr, [], false⟩,
   ⟨NUM_LOG_POS_SEGMENT, 1, .l, .ro, [], false⟩,
   ⟨NUM_LOG_POS_COUNT, 1, .l, .ro, [], false⟩,
   ⟨NUM_LOG_POS_FULL, 1, .l, .ro, [], false⟩,
   ⟨NUM_LOG_POS_ERR, 1, .l, .ro, [], false⟩,
   ⟨NUM_LOG_POS_GEN, 1, .l, .ro, [], false⟩,
   ⟨NUM_SAT_EPI_COUNT, 1, .l, .ro, [], false⟩,
   ⟨NUM_SAT_ACC_COUNT, 1, .l, .ro, [], false⟩,
   ⟨NUM_SAT_ELT_COUNT, 1, .l, .ro, [], false⟩,
   ⟨NUM_ADAPT_COUNT_UP, 1, .l, .ro, [], false⟩,
   ⟨NUM_ADAPT_COUNT_DOWN, 1, .l, .ro, [], false⟩,
   ⟨NUM_HELD_COUNT, 1, .l, .ro, [], false⟩,
   ⟨NUM_LAST_STEP, 1, .l, .ctr, [], false⟩,
   ⟨NUM_LAST_ADAPT_QD, 1, .l, .ro, [], false⟩,
   ⟨NUM_LAST_ADAPT_OLD, 1, .l, .ro, [], false⟩,
   ⟨NUM_LAST_ADAPT_NEW, 1, .l, .ro, [], false⟩]

def numRows2 : List RegRow :=
  [⟨NUM_LAST_SATS_SATS, 1, .l, .ro, [], false⟩]

def numRows : List RegRow := numRows1 ++ numRows2

/-- The rows of a page beyond the common header. -/
def rowsOf : PageKind → List RegRow
  | .region => regionRows
  | .bringup => bringupRows
  | .power => powerRows
  | .clock => clockRows
  | .banksman => banksmanRows
  | .bed => bedRows
  | .sync => syncRows
  | .claim => claimRows
  | .sensor => sensorRows
  | .listener => listenerRows
  | .esc => escRows
  | .mgmt => mgmtRows
  | .adit => aditRows
  | .host => hostRows
  | .field => fieldRows
  | .wb => wbRows
  | .dap => dapRows
  | .jobq => jobqRows
  | .face => faceRows
  | .fctx => fctxRows
  | .hoist => hoistRows
  | .num => numRows

/-- The EVT_RAW bits a page defines (the reset value of its EVT_EN, Table 4-1). -/
def eventsOf : PageKind → Nat
  | .region => 0x0
  | .bringup => 0xff
  | .power => 0x7f
  | .clock => 0x3
  | .banksman => 0x1
  | .bed => 0x1ff
  | .sync => 0x3f
  | .claim => 0x7
  | .sensor => 0x7f
  | .listener => 0xff
  | .esc => 0x3ff
  | .mgmt => 0x1ff
  | .adit => 0x7ff
  | .host => 0xf
  | .field => 0x7ff
  | .wb => 0x1ff
  | .dap => 0x7
  | .jobq => 0xf
  | .face => 0x3f
  | .fctx => 0x0
  | .hoist => 0x7
  | .num => 0x3f

/-- What CTRL holds on a page: EN and SRST, SRST alone, or no field (R209). -/
def ctrlOf : PageKind → CtrlKind
  | .region => .none
  | .bringup => .none
  | .power => .none
  | .clock => .none
  | .banksman => .none
  | .bed => .none
  | .sync => .reset
  | .claim => .none
  | .sensor => .enable
  | .listener => .enable
  | .esc => .enable
  | .mgmt => .none
  | .adit => .enable
  | .host => .none
  | .field => .enable
  | .wb => .reset
  | .dap => .none
  | .jobq => .enable
  | .face => .reset
  | .fctx => .none
  | .hoist => .none
  | .num => .none

end Sys2Proof.Machine
end

