-- ==== Sys2Proof/Machine/Ops.lean ====
section
/-! DEFINITION. Machine/Ops.lean: the named operations over sparse tables, register fields and the parts of the state.
Every table keeps one canonical form: keys strictly rising and no entry equal to the default (`tset`). -/

namespace Sys2Proof.Machine

open Sys2Proof

/-! ## Sparse tables -/

/-- The entry of a key, if listed. -/
def tfind {α : Type} : List (Nat × α) → Nat → Option α
  | [], _ => none
  | (a, v) :: m, k => if a = k then some v else tfind m k

/-- What a key reads as. -/
def tget {α : Type} (d : α) (m : List (Nat × α)) (k : Nat) : α := (tfind m k).getD d

/-- Insert at its place in rising order. -/
def tins {α : Type} (k : Nat) (v : α) : List (Nat × α) → List (Nat × α)
  | [] => [(k, v)]
  | (a, w) :: m => if k < a then (k, v) :: (a, w) :: m else (a, w) :: tins k v m

def tdel {α : Type} (m : List (Nat × α)) (k : Nat) : List (Nat × α) := m.filter (fun p => p.1 != k)

/-- Set a key; every value is listed. -/
def tput {α : Type} (m : List (Nat × α)) (k : Nat) (v : α) : List (Nat × α) := tins k v (tdel m k)

/-- Set a key; the default is not listed. -/
def tset {α : Type} [DecidableEq α] (d : α) (m : List (Nat × α)) (k : Nat) (v : α) : List (Nat × α) :=
  if v = d then tdel m k else tput m k v

/-- Drop the keys from `lo` up to, not including, `hi`. -/
def tclear {α : Type} (m : List (Nat × α)) (lo hi : Nat) : List (Nat × α) :=
  m.filter (fun p => p.1 < lo || hi ≤ p.1)

/-- The canonical form over a list of entries (rising keys above `lo`, no default). -/
def tabWf {α : Type} [DecidableEq α] (d : α) : List (Nat × α) → Bool
  | [] => true
  | [(_, v)] => decide (v ≠ d)
  | (a, v) :: (b, w) :: m => decide (v ≠ d) && decide (a < b) && tabWf d ((b, w) :: m)

/-! ## Sorted index sets -/

/-- Insert an index into an ascending list without repeats. -/
def setIns (k : Nat) : List Nat → List Nat
  | [] => [k]
  | a :: m => if k < a then k :: a :: m else if k = a then a :: m else a :: setIns k m

/-- Remove the first element that satisfies a test. -/
def dropFirst {α : Type} (p : α → Bool) : List α → List α
  | [] => []
  | a :: l => if p a then l else a :: dropFirst p l

def setDel (k : Nat) (m : List Nat) : List Nat := m.filter (· != k)

/-! ## Register fields -/

/-- Key of a field of the page `ref` (page address / 0x1000). -/
def fieldKey (ref : Nat) (f : Fld) : Nat := (ref * 4096 + f.off) * 32 + f.lo

/-- Copy `i` of an array field. -/
def Fld.ix (f : Fld) (i : Nat) : Fld := { f with off := f.off + f.stride * i }

/-- The active value of a register field. -/
def getF (s : State) (ref : Nat) (f : Fld) : Nat := tget f.reset s.fields (fieldKey ref f)

/-- Set the active value of a register field. -/
def setF (s : State) (ref : Nat) (f : Fld) (v : Nat) : State :=
  { s with fields := tset f.reset s.fields (fieldKey ref f) (v % 2 ^ f.w) }

/-- Add to a wrapping counter. -/
def addF (s : State) (ref : Nat) (f : Fld) (n : Nat) : State := setF s ref f (getF s ref f + n)

/-- Add to a counter that stops at its largest value. -/
def satF (s : State) (ref : Nat) (f : Fld) (n : Nat) : State := setF s ref f (min (getF s ref f + n) (2 ^ f.w - 1))

/-- A flag field as a Bool. -/
def flagF (s : State) (ref : Nat) (f : Fld) : Bool := getF s ref f != 0

def putFlag (s : State) (ref : Nat) (f : Fld) (b : Bool) : State := setF s ref f b.toNat

/-- The shadow copy of a Shadowed field (R220). -/
def getShadow (s : State) (ref : Nat) (f : Fld) : Nat := tget (getF s ref f) s.shadow (fieldKey ref f)

def setShadow (s : State) (ref : Nat) (f : Fld) (v : Nat) : State :=
  { s with shadow := tset (getF s ref f) s.shadow (fieldKey ref f) (v % 2 ^ f.w) }

/-- The keys of a page. -/
def pageLo (ref : Nat) : Nat := ref * 131072

/-- Copy every shadow value of a page to its active field (R221). Shadow entries hold the value only where it differs,
so the active value is stored as given; a value equal to the reset value is not listed. -/
def copyShadows (s : State) (rows : List RegRow) (ref : Nat) : State :=
  let s := rows.foldl (fun s row => if row.cls = .h then
      (List.range row.count).foldl (fun s i => setF s ref (row.fld.ix i) (getShadow s ref (row.fld.ix i))) s
    else s) s
  { s with shadow := tclear s.shadow (pageLo ref) (pageLo (ref + 1)) }

/-- Return a page to its reset values, except the fields `keep` lists (R212, R253, R258). -/
def resetPage (s : State) (ref : Nat) (keep : List Fld) : State :=
  let ks := keep.map (fieldKey ref)
  let drop (m : Tab Nat) : Tab Nat :=
    m.filter (fun p => p.1 < pageLo ref || pageLo (ref + 1) ≤ p.1 || ks.contains p.1)
  { s with fields := drop s.fields, shadow := tclear s.shadow (pageLo ref) (pageLo (ref + 1)),
           staged := tclear s.staged (pageLo ref) (pageLo (ref + 1)),
           snapHost := tclear s.snapHost (pageLo ref) (pageLo (ref + 1)),
           snapBk := tclear s.snapBk (pageLo ref) (pageLo (ref + 1)) }

/-! ## The common header (Table 4-1) -/

def CTRL_EN : Fld := ⟨0x08, 0, 1, 0, 0⟩
def STATUS_ENABLED : Fld := ⟨0x0C, 0, 1, 0, 0⟩
def STATUS_SRST_BUSY : Fld := ⟨0x0C, 1, 1, 0, 0⟩
def STATUS_WERR : Fld := ⟨0x0C, 2, 1, 0, 0⟩
def EVT_RAW : Fld := ⟨0x10, 0, 32, 0, 0⟩
def EVT_EN (k : PageKind) : Fld := ⟨0x14, 0, 32, 0, eventsOf k⟩
def COMMIT_ARMED : Fld := ⟨0x1C, 1, 1, 0, 0⟩
def COMMIT_APPLIED : Fld := ⟨0x1C, 16, 16, 0, 0⟩
def ERRINFO : Fld := ⟨0x20, 0, 32, 0, 0⟩
def ERRADDR : Fld := ⟨0x24, 0, 64, 0, 0⟩
def EVT_ROUTE : Fld := ⟨0x2C, 0, 8, 0, 0x80⟩

/-! ## Parts of the state -/

def State.region (s : State) (r : Nat) : RegionSt := tget RegionSt.reset s.regions r
def State.updRegion (s : State) (r : Nat) (f : RegionSt → RegionSt) : State :=
  { s with regions := tset RegionSt.reset s.regions r (f (s.region r)) }

def State.sync (s : State) (r : Nat) : SyncBlk := tget SyncBlk.reset s.syncs r
def State.updSync (s : State) (r : Nat) (f : SyncBlk → SyncBlk) : State :=
  { s with syncs := tset SyncBlk.reset s.syncs r (f (s.sync r)) }

def State.bed (s : State) (r : Nat) : BedSt := tget BedSt.reset s.beds r
def State.updBed (s : State) (r : Nat) (f : BedSt → BedSt) : State :=
  { s with beds := tset BedSt.reset s.beds r (f (s.bed r)) }

def State.faceAt (s : State) (g : Nat) : FaceSt := tget FaceSt.reset s.faces g
def State.updFace (s : State) (g : Nat) (f : FaceSt → FaceSt) : State :=
  { s with faces := tset FaceSt.reset s.faces g (f (s.faceAt g)) }

def State.job (s : State) (j : Nat) : JobSt := tget JobSt.reset s.host.jobs j
def State.updHost (s : State) (f : HostSt → HostSt) : State := { s with host := f s.host }
def State.updJob (s : State) (j : Nat) (f : JobSt → JobSt) : State :=
  s.updHost (fun h => { h with jobs := tset JobSt.reset h.jobs j (f (s.job j)) })

def State.updMgmt (s : State) (f : MgmtSt → MgmtSt) : State := { s with mgmt := f s.mgmt }
def State.updCarrier (s : State) (f : Carrier → Carrier) : State := { s with carrier := f s.carrier }
def State.updBoot (s : State) (f : Boot → Boot) : State := { s with boot := f s.boot }
def State.updMap (s : State) (f : MapSt → MapSt) : State := { s with map := f s.map }
def State.updRoad (s : State) (f : Road → Road) : State := { s with road := f s.road }

/-- The outcome of a command that completes. -/
abbrev done (s : State) : Host.Outcome State Fault Refusal := .next s

/-- A command whose event cannot occur in this state changes nothing. -/
def guardDo (c : Bool) (f : State → State) (s : State) : Host.Outcome State Fault Refusal :=
  .next (if c then f s else s)

/-- Take a free value (Config.free): the state with the count advanced, and the value. -/
def State.fresh (s : State) : State × Nat := ({ s with freeCount := s.freeCount + 1 }, Config.free s.freeCount)

/-! ## Time (R184) -/

/-- Microseconds of a number of root ticks (24.576 MHz: 3072 ticks are 125 µs). -/
def usOf (ticks : Nat) : Nat := ticks * 125 / 3072

end Sys2Proof.Machine
end

