-- ==== Sys2Proof/Machine/Layout.lean ====
section
/-! DEFINITION. Machine/Layout.lean: where everything lies (01_quarry_layout.md, Tables 1-1 to 1-4, 4-2, 14-2, 14-3):
the grid, the named regions, faces and slots, mesh directions, page references and address decoding. -/

namespace Sys2Proof.Machine

open Sys2Proof

/-- Regions that exist (R8, R9). -/
def present (r : Nat) : Bool :=
  r < 100 && !([0, 1, 8, 9, 10, 11, 18, 19, 80, 81, 88, 89, 90, 91, 98, 99].contains r)

/-- All present regions, ascending. -/
def allRegions : List Nat := (List.range 100).filter present

def colOf (r : Nat) : Nat := r % 10
def rowOf (r : Nat) : Nat := r / 10

/-- R16. -/
def depthOf (r : Nat) : Nat := min (min (colOf r) (rowOf r)) (min (9 - colOf r) (9 - rowOf r))

def isRim (r : Nat) : Bool := depthOf r == 0

/-- Logical and physical slots of a region (R20). -/
def logicalSlots (r : Nat) : Nat := if isRim r then 8 else 16
def physicalSlots (r : Nat) : Nat := if isRim r then 9 else 18

/-- The global face number (R10). -/
def faceNo (r slot : Nat) : Nat := r * 32 + slot
def faceRegion (g : Nat) : Nat := g / 32
def faceSlot (g : Nat) : Nat := g % 32
/-- A number that R10 assigns. -/
def faceAssigned (g : Nat) : Bool := present (faceRegion g) && faceSlot g < logicalSlots (faceRegion g)

/-- All faces of a region, ascending. -/
def facesOf (r : Nat) : List Nat := (List.range (logicalSlots r)).map (faceNo r)

/-- Mesh directions in the encoding of ROUTE_i: 1 N, 2 E, 3 S, 4 W. -/
def neighbour (r dir : Nat) : Option Nat :=
  let c := match dir with
    | 1 => if rowOf r = 0 then none else some (r - 10)
    | 2 => if colOf r = 9 then none else some (r + 1)
    | 3 => if rowOf r = 9 then none else some (r + 10)
    | 4 => if colOf r = 0 then none else some (r - 1)
    | _ => none
  c.filter present

/-- Neighbours, ascending by index: N, W, E, S. -/
def neighbours (r : Nat) : List Nat := [neighbour r 1, neighbour r 4, neighbour r 2, neighbour r 3].filterMap id

/-- Named regions (Table 1-3). -/
def sensorRegions : List Nat := [2, 7, 39, 97, 92, 60]
def aditRegions : List Nat := [4, 59, 95, 40]
def hostRegion : Nat := 30
def mgmtRegion : Nat := 69
def fieldRegion : Nat := 5
def wbRegion : Nat := 94
def sensorRegion (p : Nat) : Nat := sensorRegions.getD p 2
def aditRegion (k : Nat) : Nat := aditRegions.getD k 4
def indexOf (r : Nat) : List Nat → Nat
  | [] => 0
  | a :: l => if a = r then 0 else indexOf r l + 1

/-- Regions with an island (R18). -/
def hasIsland (r : Nat) : Bool := sensorRegions.contains r || r == mgmtRegion || r == wbRegion

/-- FUNC and INST of REGION_INFO (Table 1-5). -/
def funcOf (r : Nat) : Nat :=
  if sensorRegions.contains r then 1 else if r = hostRegion then 2 else if r = mgmtRegion then 3
  else if aditRegions.contains r then 4 else if r = fieldRegion then 5 else if r = wbRegion then 6 else 0
def instOf (r : Nat) : Nat :=
  if sensorRegions.contains r then indexOf r sensorRegions
  else if aditRegions.contains r then indexOf r aditRegions else 0

/-! ## Pages: a page is named by its address divided by 0x1000 -/

def pageRef (r page : Nat) : Nat := r * 0x1000 + page
def regionPg (r : Nat) : Nat := pageRef r 0
def powerPg (r : Nat) : Nat := pageRef r 1
def clockPg (r : Nat) : Nat := pageRef r 2
def banksmanPg (r : Nat) : Nat := pageRef r 3
def bedPg (r : Nat) : Nat := pageRef r 4
def syncPg (r : Nat) : Nat := pageRef r 5
def claimPg (r : Nat) : Nat := pageRef r 6
def sensorPg (p : Nat) : Nat := pageRef (sensorRegion p) 0x10
def listenerPg (p : Nat) : Nat := pageRef (sensorRegion p) 0x11
def escPg : Nat := pageRef mgmtRegion 0x12
def mgmtPg : Nat := pageRef mgmtRegion 0x13
def aditPg (k : Nat) : Nat := pageRef (aditRegion k) 0x14
def hostPg : Nat := pageRef hostRegion 0x15
def fieldPg : Nat := pageRef fieldRegion 0x16
def wbPg : Nat := pageRef wbRegion 0x17
def dapPg : Nat := pageRef wbRegion 0x18
def facePg (g : Nat) : Nat := pageRef (faceRegion g) (0x100 + 16 * faceSlot g)
def fctxPg (g : Nat) : Nat := facePg g + 1
def hoistPg (g : Nat) : Nat := facePg g + 2
def numPg (g : Nat) : Nat := facePg g + 3
def bringupPg : Nat := 0x7FFE0
def jobqPg : Nat := 0x7FFE1
/-- BAR2 registers are kept as fields of pages from this reference on (queue q at + q). -/
def bar2Pg (q : Nat) : Nat := 0x100000 + q
def evqPg : Nat := 0x100040
def msixPg : Nat := 0x100100
def pbaPg : Nat := 0x100101

/-- Region, page number and slot of a reference inside the region windows. -/
def refRegion (ref : Nat) : Nat := ref / 0x1000
def refPage (ref : Nat) : Nat := ref % 0x1000
def refFace (ref : Nat) : Nat := faceNo (refRegion ref) ((refPage ref - 0x100) / 16)

/-- The block of a page reference, if the page is mapped (Table 1-4, Table 8-12, Table 14-2). -/
def pageKind (ref : Nat) : Option PageKind :=
  if ref = bringupPg then some .bringup
  else if ref = jobqPg then some .jobq
  else
    let r := refRegion ref
    let p := refPage ref
    if !present r then none
    else if p = 0 then some .region
    else if p = 1 then some .power
    else if p = 2 then some .clock
    else if p = 3 then some .banksman
    else if p = 4 then some .bed
    else if p = 5 then some .sync
    else if p = 6 then some .claim
    else if p = 0x10 then (if sensorRegions.contains r then some .sensor else none)
    else if p = 0x11 then (if sensorRegions.contains r then some .listener else none)
    else if p = 0x12 then (if r = mgmtRegion then some .esc else none)
    else if p = 0x13 then (if r = mgmtRegion then some .mgmt else none)
    else if p = 0x14 then (if aditRegions.contains r then some .adit else none)
    else if p = 0x15 then (if r = hostRegion then some .host else none)
    else if p = 0x16 then (if r = fieldRegion then some .field else none)
    else if p = 0x17 then (if r = wbRegion then some .wb else none)
    else if p = 0x18 then (if r = wbRegion then some .dap else none)
    else if 0x100 ≤ p && p < 0x100 + 16 * logicalSlots r then
      match (p - 0x100) % 16 with
      | 0 => some .face
      | 1 => some .fctx
      | 2 => some .hoist
      | 3 => some .num
      | _ => none
    else none

/-- Island pages (Table 1-4): REGION pages of island regions among them. -/
def islandPage (ref : Nat) : Bool :=
  let r := refRegion ref
  let p := refPage ref
  hasIsland r && (p == 0 || p == 0x10 || p == 0x11 || p == 0x12 || p == 0x13 || p == 0x17 || p == 0x18)

/-- What lies at an address of an address space. -/
inductive Target where
  | page (ref off : Nat)
  | aperture (r off : Nat)
  | mirror (off : Nat)
  | bar2 (ref off : Nat)
  | none
  deriving DecidableEq, Repr

/-- BAR2 (Table 14-3): queue pages, the event queue registers, the MSI-X table and PBA. -/
def bar2Target (a : Nat) : Target :=
  let ref := a / 0x1000
  let off := a % 0x1000
  if ref < 64 then (if off < 0x18 then .bar2 (bar2Pg ref) (off / 4 * 4) else .none)
  else if ref = 0x40 then (if off < 0xC then .bar2 evqPg (off / 4 * 4) else .none)
  else if ref = 0x100 then (if off < 0x400 then .bar2 msixPg (off / 4 * 4) else .none)
  else if ref = 0x101 then (if off < 8 then .bar2 pbaPg (off / 4 * 4) else .none)
  else .none

/-- Address decoding (R40 to R45, R62, R790, R791). -/
def target (sp : Space) (a : Nat) : Target :=
  match sp with
  | .bar2 => bar2Target a
  | sp =>
    let ref := a / 0x1000
    let off := a % 0x1000
    if ref < 0x64000 then
      if present (refRegion ref) && 0x800 ≤ refPage ref then
        (if sp = .bar0 then .aperture (refRegion ref) (a % 0x1000000 - 0x800000) else .none)
      else if (pageKind ref).isSome then .page ref off else .none
    else if sp = .bar0 then
      if ref = bringupPg || ref = jobqPg then .page ref off
      else if ref = 0x7FFF0 then .mirror off
      else .none
    else .none

end Sys2Proof.Machine
end

