-- ==== Sys2Proof/Machine/Bits.lean ====
section
/-! DEFINITION. Machine/Bits.lean: little-endian bytes, bit fields, sign extension, CRC-32 (R106) and byte memories. -/

namespace Sys2Proof.Machine

open Sys2Proof

/-- Bits `lo` to `lo + w - 1` of a number. -/
def bits (v lo w : Nat) : Nat := v / 2 ^ lo % 2 ^ w

/-- One bit. -/
def bit (v i : Nat) : Bool := v / 2 ^ i % 2 == 1

/-- Two's complement reading of `w` bits. -/
def toSigned (w v : Nat) : Int := if v % 2 ^ w < 2 ^ (w - 1) then (v % 2 ^ w : Nat) else (v % 2 ^ w : Nat) - (2 ^ w : Nat)

/-- The `w`-bit two's complement pattern of an integer. -/
def ofSigned (w : Nat) (i : Int) : Nat := (i % (2 ^ w : Nat)).toNat

/-- Round a quotient to the nearest integer, ties to even. -/
def rheDiv (n : Int) (d : Nat) : Int :=
  let q := n.fdiv d
  let r := n.fmod d
  if 2 * r < d then q else if (d : Int) < 2 * r then q + 1 else if q % 2 = 0 then q else q + 1

/-- Saturate to an interval. -/
def clampTo (lo hi x : Int) : Int := if x < lo then lo else if hi < x then hi else x

/-- `n` little-endian bytes of a number. -/
def leBytes : Nat → Nat → List Nat
  | 0, _ => []
  | n + 1, v => v % 256 :: leBytes n (v / 256)

/-- The number little-endian bytes spell. -/
def leNum : List Nat → Nat
  | [] => 0
  | b :: bs => b + 256 * leNum bs

/-- One bit step of the reflected CRC-32 (polynomial 0x04C1_1DB7). -/
def crcBit (c : Nat) : Nat := if c % 2 = 1 then (c / 2) ^^^ 0xEDB88320 else c / 2

def crcStep (c b : Nat) : Nat := crcBit (crcBit (crcBit (crcBit (crcBit (crcBit (crcBit (crcBit (c ^^^ b))))))))

/-- CRC-32 of Table 2-4: initial value and final XOR 0xFFFF_FFFF, reflected. -/
def crc32 (bs : List Nat) : Nat := bs.foldl crcStep 0xFFFFFFFF ^^^ 0xFFFFFFFF

/-! ## Levels in dB -/

/-- With `u` units to the dB, 10 · log10(n / d) is at least e − 1/2 units: 10^(2e − 1) · d^20u ≤ n^20u. -/
def dbAtLeast (u n d : Nat) (e : Int) : Bool :=
  if e ≤ 0 then d ^ (20 * u) ≤ n ^ (20 * u) * 10 ^ (1 - 2 * e).toNat
  else d ^ (20 * u) * 10 ^ (2 * e - 1).toNat ≤ n ^ (20 * u)

def dbSearch (u n d : Nat) : Nat → Int → Int → Int
  | 0, lo, _ => lo
  | k + 1, lo, hi =>
    let mid := (lo + hi) / 2
    if hi ≤ lo + 1 then lo else if dbAtLeast u n d mid then dbSearch u n d k mid hi else dbSearch u n d k lo mid

/-- 10 · log10(n / d) in units of 0.1 dB, to the nearest unit, limited below at −140.0 dB. -/
def db10 (n d : Nat) : Int := dbSearch 10 n d 12 (-1400) 300

/-- 10 · log10(n / d) in units of 0.01 dB, to the nearest unit, limited below at −140.00 dB. -/
def db100 (n d : Nat) : Int := dbSearch 100 n d 15 (-14000) 3000

/-- A byte of a byte memory; unlisted bytes read 0. -/
def mbyte (m : Tab Byte) (a : Nat) : Nat := (tget 0 m a).toNat

/-- `n` bytes from an address. -/
def mbytes (m : Tab Byte) (a : Nat) : Nat → List Nat
  | 0 => []
  | n + 1 => mbyte m a :: mbytes m (a + 1) n

/-- A little-endian number of `n` bytes at an address. -/
def mnum (m : Tab Byte) (a n : Nat) : Nat := leNum (mbytes m a n)

/-- Write one byte. -/
def mput (m : Tab Byte) (a v : Nat) : Tab Byte := tset 0 m a (BitVec.ofNat 8 v)

/-- Write bytes from an address on. -/
def mputs (m : Tab Byte) (a : Nat) : List Nat → Tab Byte
  | [] => m
  | b :: bs => mputs (mput m a b) (a + 1) bs

/-- The canonical form of a byte memory. -/
def Memory.wf (m : Tab Byte) : Bool := tabWf 0 m

end Sys2Proof.Machine
end

