-- ==== Sys2Proof/Machine/Flags.lean ====
section
/-! DEFINITION. Machine/Flags.lean: what a page reports: event bits and their delivery (R238 to R242), the host event
queue (R812, R813), the management log (R912), ERRINFO and ERRADDR (R243 to R246), WERR. -/

namespace Sys2Proof.Machine

open Sys2Proof

/-! ## Commits (R221) -/

/-- The rows of a page's register table, without the common header. -/
def pageRows (ref : Nat) : List RegRow :=
  match pageKind ref with
  | some k => rowsOf k
  | none => []

/-- Every shadow value takes effect: ARMED clears and APPLIED counts (R221). -/
def commitPage (s : State) (ref : Nat) : State :=
  let s := copyShadows s (pageRows ref) ref
  addF (setF s ref COMMIT_ARMED 0) ref COMMIT_APPLIED 1

/-! ## The management log -/

/-- The 32 bytes of a record (Table 16-6). -/
def LogRec.bytes (x : LogRec) : List Nat :=
  leBytes 8 x.time ++ leBytes 4 x.seq ++ [x.kind, x.region] ++ leBytes 2 x.code
    ++ (List.range 4).flatMap (fun i => leBytes 4 (x.data.getD i 0))

/-- A subscribed session receives each new record (R913). -/
def notifyLog (s : State) (lr : LogRec) : State :=
  s.updMgmt (fun m => { m with sent := m.sent ++
    (m.sessions.filter (·.subLog)).map (fun x => (⟨x.id, 0x20, 0, 0, lr.bytes⟩ : MgmtMsg)) })

/-- Append a record to the ring of 4,096 (R912), without raising LOG_WRAP. -/
def logPush (s : State) (kind region code : Nat) (data : List Nat) : State :=
  let seq := getF s mgmtPg MGMT_LOG_SEQ_SEQ
  let lr : LogRec := ⟨s.time, seq, kind, region, code, data⟩
  let full := s.mgmt.log.length == 4096
  let s := s.updMgmt (fun m => { m with log := (if full then m.log.drop 1 else m.log) ++ [lr] })
  let s := setF s mgmtPg MGMT_LOG_SEQ_SEQ (seq + 1)
  let s := if full then addF s mgmtPg MGMT_LOG_LOST_LOST 1 else s
  notifyLog s lr

/-- The next record begins a new turn of the ring. -/
def logWraps (s : State) : Bool :=
  s.mgmt.log.length == 4096 && getF s mgmtPg MGMT_LOG_SEQ_SEQ % 4096 == 0

/-! ## MSI-X and the host event queue -/

def PBA_WORD : Fld := ⟨0, 0, 32, 4, 0⟩
/-- Vector control of a table entry; its mask bit is set at reset, as PCIe defines it (PRESUMED). -/
def MSIX_CTL : Fld := ⟨12, 0, 32, 16, 1⟩

/-- Send an MSI-X message: a masked vector sets its pending bit instead; nothing is sent while the link is down (R257). -/
def sendMsix (s : State) (v : Nat) : State :=
  if !s.host.linkUp then s
  else if bit (getF s msixPg (MSIX_CTL.ix v)) 0 then
    let f := PBA_WORD.ix (v / 32)
    setF s pbaPg f (getF s pbaPg f ||| 2 ^ (v % 32))
  else s.updHost (fun h => { h with msix := h.msix ++ [v] })

def EVQ_HEAD : Fld := ⟨0, 0, 16, 0, 0⟩
def EVQ_TAIL : Fld := ⟨4, 0, 16, 0, 0⟩
def EVQ_LOST : Fld := ⟨8, 0, 16, 0, 0⟩

/-- The value of EVT_STAT of a page. -/
def evtStat (s : State) (ref : Nat) : Nat :=
  match pageKind ref with
  | some k => getF s ref EVT_RAW &&& getF s ref (EVT_EN k)
  | none => 0

/-- Host memory written by the module. -/
def hostWrite (s : State) (a : Nat) (bs : List Nat) : State := s.updHost (fun h => { h with mem := mputs h.mem a bs })

/-- PHASE of a ring record written at index `tail` of a ring of `2 ^ size` (R809). -/
def ringPhase (tail size : Nat) : Nat := if tail / 2 ^ size % 2 = 0 then 1 else 0

/-- A host event record is written into the event ring, or dropped and counted (R812, R813); while the host link is
down nothing is recorded (R257). The Bool tells that the record was dropped for want of room. -/
def hostEventRaw (s : State) (page evbit stat errinfo : Nat) : State × Bool :=
  if !s.host.linkUp then (s, false)
  else
    let size := getF s jobqPg JOBQ_EVQ_CFG_SIZE
    let head := getF s evqPg EVQ_HEAD
    let tail := getF s evqPg EVQ_TAIL
    let used := (tail + 65536 - head) % 65536
    let seq := s.host.evSeq
    let s := s.updHost (fun h => { h with evSeq := h.evSeq + 1 })
    if !flagF s jobqPg JOBQ_EVQ_CFG_EN || 2 ^ size ≤ used then
      let s := addF s evqPg EVQ_LOST 1
      (s.updHost (fun h => { h with evDropped := min (h.evDropped + 1) 65535 }), true)
    else
      let lost := s.host.evDropped
      let flags := ringPhase tail size + (if lost = 0 then 0 else 2)
      let rec32 := leBytes 8 s.time ++ leBytes 4 page ++ leBytes 4 stat ++ [evbit, flags] ++ leBytes 2 lost
        ++ leBytes 4 errinfo ++ leBytes 4 seq ++ leBytes 4 0
      let s := hostWrite s (getF s jobqPg JOBQ_EVQ_BASE + tail % 2 ^ size * 32) rec32
      let s := setF s evqPg EVQ_TAIL (tail + 1)
      (s.updHost (fun h => { h with evDropped := 0 }), false)

/-! ## Events -/

def ROUTE_VECTOR (v : Nat) : Nat := bits v 0 6
def ROUTE_HOST (v : Nat) : Bool := bit v 6
def ROUTE_MGMT (v : Nat) : Bool := bit v 7

/-- Deliver a bit of EVT_STAT that rose, as EVT_ROUTE reads (R241), without the events that the delivery itself may
raise. The Bool tells that a host event record was dropped. -/
def deliverRaw (s : State) (ref evbit : Nat) (msg : Bool) : State × Bool :=
  let route := getF s ref EVT_ROUTE
  let r := if ROUTE_HOST route then
      let x := hostEventRaw s (ref * 0x1000) evbit (evtStat s ref) (getF s ref ERRINFO)
      (if msg then sendMsix x.1 (ROUTE_VECTOR route) else x.1, x.2)
    else (s, false)
  (if ROUTE_MGMT route then
      logPush r.1 1 (if ref < 0x64000 then refRegion ref else 0x7F) evbit
        [ref * 0x1000, evtStat r.1 ref, getF r.1 ref ERRINFO, 0]
    else r.1, r.2)

/-- Latch an event bit (R238, R240); answers whether its EVT_STAT bit rose. -/
def latch (s : State) (ref : Nat) (k : PageKind) (evbit : Nat) : State × Bool :=
  if bit (getF s ref EVT_RAW) evbit then (s, false)
  else (setF s ref EVT_RAW (getF s ref EVT_RAW ||| 2 ^ evbit), bit (getF s ref (EVT_EN k)) evbit)

/-- Raise an event without the follow-up events of its delivery. -/
def raiseRaw (s : State) (ref evbit : Nat) : State × Bool :=
  match pageKind ref with
  | none => (s, false)
  | some k =>
    let x := latch s ref k evbit
    if x.2 then deliverRaw x.1 ref evbit true else (x.1, false)

/-- Raise EVQ_LOST (JOBQ bit 2) after a dropped record and LOG_WRAP (management port bit 5) when the log wraps. -/
def followUp (s : State) (dropped : Bool) (before : Bool) : State :=
  let s := if dropped then (raiseRaw s jobqPg 2).1 else s
  if before then (raiseRaw s mgmtPg 5).1 else s

/-- An event occurs at a page (R238 to R241). -/
def raise (s : State) (ref evbit : Nat) : State :=
  let seq0 := getF s mgmtPg MGMT_LOG_SEQ_SEQ
  let w := logWraps s
  let x := raiseRaw s ref evbit
  followUp x.1 x.2 (w && getF x.1 mgmtPg MGMT_LOG_SEQ_SEQ != seq0)

/-- Append a management log record (R912), raising LOG_WRAP when the ring wraps. -/
def logRec (s : State) (kind region code : Nat) (data : List Nat) : State :=
  let w := logWraps s
  followUp (logPush s kind region code data) false w

/-- Deliver an EVT_STAT bit that a register write made rise; `msg` tells that the write's one message goes with it (R242). -/
def deliver (s : State) (ref evbit : Nat) (msg : Bool) : State :=
  let w := logWraps s
  let seq0 := getF s mgmtPg MGMT_LOG_SEQ_SEQ
  let x := deliverRaw s ref evbit msg
  followUp x.1 x.2 (w && getF x.1 mgmtPg MGMT_LOG_SEQ_SEQ != seq0)

/-! ## Errors -/

/-- SOURCE and SOURCE_ID of ERRINFO (Table 4-5). -/
def srcCode : Src → Nat
  | .host => 0 | .banksman => 1 | .face _ => 2 | .block => 3 | .foreman => 4 | .island => 5
def srcId : Src → Nat
  | .face g => g
  | _ => 0

/-- Record an error at a page (R243): the first is held, a later one sets OVERFLOW. -/
def recordErr (s : State) (ref code : Nat) (src : Src) (space addr : Nat) : State :=
  let e := getF s ref ERRINFO
  if bit e 8 then setF s ref ERRINFO (e ||| 0x200)
  else
    let s := setF s ref ERRINFO (code + 0x100 + srcCode src * 0x400 + srcId src * 0x10000)
    setF s ref ERRADDR (addr % 2 ^ 60 + space * 2 ^ 60)

/-- The source of an access. -/
def Space.src : Space → Src
  | .banksman => .banksman
  | _ => .host

/-- SPACE of ERRADDR for an address space. -/
def Space.errSpace : Space → Nat
  | .bar0 => 0
  | .bar2 => 1
  | .banksman => 2

/-- A refused write: WERR and ERRINFO of the page it addresses (R229, R246). -/
def refuseWrite (s : State) (sp : Space) (ref off code : Nat) : State :=
  recordErr (setF s ref STATUS_WERR 1) ref code (Space.src sp) (Space.errSpace sp) (ref * 0x1000 + off)

/-- An access that ends with code 0x01 to 0x04 is recorded in the port page (R246). -/
def portErr (s : State) (sp : Space) (code addr : Nat) : State :=
  match sp with
  | .banksman => recordErr s mgmtPg code .banksman 2 addr
  | .bar0 => recordErr s hostPg code .host 0 addr
  | .bar2 => recordErr s hostPg code .host 1 addr

end Sys2Proof.Machine
end

