-- ==== Sys2Proof/Machine/RoadCore.lean ====
section
/-! DEFINITION. Machine/RoadCore.lean: the mesh of the haul road and its routes (R25 to R39, R57 to R61), connectivity,
the anchor region (R1059) and the choice of transit paths (R34). -/

namespace Sys2Proof.Machine

open Sys2Proof

/-! ## Quarry map entries -/

/-- The entry of a region in the default record (R134): healthy with every slot on its own face; ABSENT at R9. -/
def QEntry.initial (r : Nat) : QEntry :=
  if present r then
    ⟨.healthy, .none, false, false, false, false, false, 0, 0,
      (List.range 16).map (fun k => if k < logicalSlots r then 0x80 + k else 0)⟩
  else ⟨.absent, .none, false, false, false, false, false, 0, 0, List.replicate 16 0⟩

def QRec.entry (q : QRec) (r : Nat) : QEntry := tget (QEntry.initial r) q.entries r

def QRec.setEntry (q : QRec) (r : Nat) (e : QEntry) : QRec :=
  { q with entries := tset (QEntry.initial r) q.entries r e }

/-- The entry the foreman works with. -/
def State.entry (s : State) (r : Nat) : QEntry := s.map.working.entry r

/-- The record that the next one follows: the one being written, else the committed one. -/
def MapSt.base (m : MapSt) : QRec :=
  match m.writing with
  | some (q, _) => q
  | none => m.committed

/-- STATE, FLAGS and SLOT_MAP agree: no record is due for the entry (R110, R142). -/
def QEntry.same (e f : QEntry) : Bool :=
  e.state == f.state && e.fused == f.fused && e.linkE == f.linkE && e.linkS == f.linkS && e.factory == f.factory
    && e.retest == f.retest && e.slots == f.slots

/-- Change an entry. CHANGED_AT (Table 2-5) is that of the record before while STATE and CAUSE are its own; else this
start's count during a cold start before READY, or the current BOOT_COUNT. -/
def State.updEntry (s : State) (r : Nat) (f : QEntry → QEntry) : State :=
  let e := s.entry r
  let old := s.map.base.entry r
  let new := f e
  let count := s.map.committed.bootCount + (if s.boot.active && !s.boot.warm then 1 else 0)
  let new := { new with changedAt := if new.state = old.state ∧ new.cause = old.cause then old.changedAt else count }
  if new = e then s
  else s.updMap (fun m => { m with
    working := m.working.setEntry r new
    changed := if new.same old then setDel r m.changed else setIns r m.changed })

/-- The quarry map records the link from `r` in direction `dir` as faulty (R60). -/
def linkFaulty (s : State) (r dir : Nat) : Bool :=
  match dir with
  | 2 => (s.entry r).linkE
  | 3 => (s.entry r).linkS
  | 4 => match neighbour r 4 with | some n => (s.entry n).linkE | none => true
  | 1 => match neighbour r 1 with | some n => (s.entry n).linkS | none => true
  | _ => true

/-- Record the link from `r` in direction `dir` as faulty. -/
def setLinkFault (s : State) (r dir : Nat) : State :=
  match dir with
  | 2 => s.updEntry r (fun e => { e with linkE := true })
  | 3 => s.updEntry r (fun e => { e with linkS := true })
  | 4 => match neighbour r 4 with | some n => s.updEntry n (fun e => { e with linkE := true }) | none => s
  | 1 => match neighbour r 1 with | some n => s.updEntry n (fun e => { e with linkS := true }) | none => s
  | _ => s

/-- Neighbours over links that the map does not record as faulty, ascending by index (R32). -/
def joined (s : State) (r : Nat) : List Nat :=
  [1, 4, 2, 3].filterMap (fun d => if linkFaulty s r d then none else neighbour r d)

/-! ## Breadth-first search -/

/-- One layer further: the regions of `ok` joined to the frontier and not seen before. -/
def bfsNext (s : State) (ok : Nat → Bool) (frontier seen : List Nat) : List Nat :=
  frontier.foldl (fun acc r => (joined s r).foldl (fun acc n =>
    if ok n && !seen.contains n && !acc.contains n then acc ++ [n] else acc) acc) []

/-- Layers of regions of `ok` by distance from the start layer. -/
def bfsLayers (s : State) (ok : Nat → Bool) : Nat → List Nat → List Nat → List (List Nat)
  | 0, _, _ => []
  | k + 1, frontier, seen =>
    if frontier.isEmpty then []
    else frontier :: bfsLayers s ok k (bfsNext s ok frontier seen) (seen ++ bfsNext s ok frontier seen)

/-- Layers of distance from a set of regions. -/
def layersFrom (s : State) (ok : Nat → Bool) (start : List Nat) : List (List Nat) := bfsLayers s ok 101 start start

/-- The number of the layer that holds a region. -/
def layerOf (r : Nat) : List (List Nat) → Option Nat
  | [] => none
  | l :: ls => if l.contains r then some 0 else (layerOf r ls).map (· + 1)

/-- The regions of `ok` connected with `r`, ascending. -/
def component (s : State) (ok : Nat → Bool) (r : Nat) : List Nat :=
  let found := (layersFrom s ok [r]).flatten
  allRegions.filter found.contains

/-- The components of the regions of `ok`, in ascending order of their lowest index. -/
def components (s : State) (ok : Nat → Bool) : List Nat → List (List Nat)
  | [] => []
  | r :: rs =>
    let cs := components s ok rs
    if !ok r then cs
    else
      let c := component s ok r
      c :: cs.filter (fun d => !d.contains r)

/-! ## Regions in Run -/

def inRun (s : State) (r : Nat) : Bool := (s.region r).power == .run

/-- The regions in Run, ascending. -/
def runSet (s : State) : List Nat := allRegions.filter (inRun s)

/-- HEALTHY for the paths of R61, R99 and R1059: during bring-up, the regions that have passed. -/
def healthyNow (s : State) (r : Nat) : Bool :=
  present r && (if s.boot.active then s.boot.passedBefore.contains r || s.boot.passedNow.contains r
    else (s.entry r).state == .healthy)

/-- The largest component; the earlier one (holding the lowest index) wins ties. -/
def largest : List (List Nat) → List Nat
  | [] => []
  | c :: cs =>
    let l := largest cs
    if l.length ≤ c.length then c else l

/-- The anchor region among the healthy regions (R1059). -/
def anchorOf (s : State) (healthy : Nat → Bool) : Option Nat :=
  if healthy hostRegion then some hostRegion else (largest (components s healthy allRegions)).head?

/-- The anchor region (R1059): determined among the regions that have passed during bring-up, else as the last commit
left it; one that is no longer healthy anchors nothing until the next commit. -/
def anchor (s : State) : Option Nat :=
  if s.boot.active then anchorOf s (healthyNow s) else s.map.anchor.filter (healthyNow s)

/-- The regions with a path of healthy regions to the anchor region (R61). -/
def anchorSet (s : State) : List Nat :=
  match anchor s with
  | some a => component s (healthyNow s) a
  | none => []

def anchored (s : State) (r : Nat) : Bool := healthyNow s r && (anchorSet s).contains r

/-- Startable regions (R34), with the regions that R61 lets start. -/
def startableIn (anc : List Nat) (s : State) (r : Nat) : Bool :=
  present r && (s.entry r).state == .healthy && !(s.region r).hold && !(s.region r).lockout && healthyNow s r
    && anc.contains r && !(s.region r).unreached

def startable (s : State) (r : Nat) : Bool := startableIn (anchorSet s) s r

/-- Regions in Run or on their way there, as extended by the starts before (R54). -/
def runOrStarting (s : State) (r : Nat) : Bool :=
  present r && ((s.region r).power != .stop || s.wakeQ.any (·.region == r))

/-- Walk down the layers from `r`, always to the joined region of lowest index one layer nearer. -/
def descend (s : State) (layers : List (List Nat)) : Nat → Nat → List Nat
  | 0, _ => []
  | k + 1, r =>
    match (joined s r).filter (fun n => layerOf n layers == some k) with
    | [] => []
    | n :: ns => let m := ns.foldl min n
                 m :: descend s layers k m

/-- The path from `r` to the nearest region in Run (R34), nearest to `r` first and that region last, empty when no region
is in Run; `none` when there is no startable path. -/
def joinPath (s : State) (r : Nat) : Option (List Nat) :=
  let tgts := allRegions.filter (fun x => runOrStarting s x && x != r)
  if tgts.isEmpty then some []
  else
    let anc := anchorSet s
    let layers := layersFrom s (fun x => startableIn anc s x || x == r) tgts
    match layerOf r layers with
    | none => none
    | some 0 => some []
    | some (k + 1) => some (descend s layers (k + 1) r)

/-! ## Routes -/

def HOP_DEAD : Nat := 5

/-- NEXT_HOP of router `r` for destination `d` (R64). -/
def route (s : State) (r d : Nat) : Nat := tget (if r = d then 0 else HOP_DEAD) s.road.routes (r * 100 + d)

/-- The foreman rewrites a route entry; each change counts in ROUTE_GEN. -/
def setRoute (s : State) (r d hop : Nat) : State :=
  if route s r d = hop then s
  else addF (s.updRoad (fun x => { x with
    routes := tset (if r = d then 0 else HOP_DEAD) x.routes (r * 100 + d) hop })) (regionPg r) REGION_ROUTE_GEN_GEN 1

/-- The next hop of R37: the first of E, W, S, N on a shortest path through the regions in Run. -/
def bestHop (s : State) (r d : Nat) : Nat :=
  if r = d then 0
  else
    let layers := layersFrom s (inRun s) [d]
    match layerOf r layers with
    | some (k + 1) =>
      (([2, 4, 3, 1].find? (fun dir => !linkFaulty s r dir && match neighbour r dir with
        | some n => layerOf n layers == some k
        | none => false)).getD HOP_DEAD)
    | _ => HOP_DEAD

/-- Routers a packet passes from `r` to `d`, as the tables stand. -/
def routePath (s : State) (d : Nat) : Nat → Nat → List Nat
  | 0, _ => []
  | k + 1, r =>
    if r = d then [r]
    else match neighbour r (route s r d) with
      | some n => r :: routePath s d k n
      | none => [r]

/-- Install the routes that a region entering Run, or keeping its Run, opens: those to and from it (R53, R164, R37), and
those between two components that it joins (R168). Routes that do not read DEAD are kept (R38), and a region in its stop
handshake gets none (R51). -/
def installRoutes (s : State) : State :=
  (runSet s).foldl (fun t d => (runSet s).foldl (fun t r =>
    if (s.region d).hs.isNone && route t r d == HOP_DEAD then setRoute t r d (bestHop s r d) else t) t) s

/-- Set the entries to a region DEAD in every router (R51, R57). -/
def routesDead (s : State) (d : Nat) : State :=
  allRegions.foldl (fun t r => if r = d then t else setRoute t r d HOP_DEAD) s

/-- Recompute each route between regions in Run whose path meets `bad` (R37, R57, R60); with `hold` the source routers
hold the packets of the affected destinations (R59). -/
def reroute (s : State) (bad : List Nat → Bool) (hold : Bool) : State :=
  let rs := runSet s
  rs.foldl (fun t d => rs.foldl (fun t r =>
    if r != d && route s r d != HOP_DEAD && bad (routePath s d 100 r) then
      let t := setRoute t r d (bestHop s r d)
      if hold then t.updRoad (fun x => { x with holds := if x.holds.contains (r, d) then x.holds else x.holds ++ [(r, d)] })
      else t
    else t) t) s

/-- A path uses the link between two regions. -/
def usesLink (a b : Nat) : List Nat → Bool
  | x :: y :: l => (x == a && y == b) || (x == b && y == a) || usesLink a b (y :: l)
  | _ => false

/-- LINK_UP (Table 1-5): link not faulty and both regions in Run. -/
def linkUp (s : State) (r dir : Nat) : Bool :=
  inRun s r && !linkFaulty s r dir && match neighbour r dir with
    | some n => inRun s n
    | none => false

/-! ## Packets (R28, R29, R39, R50, R385 to R390) -/

/-- Put a packet on the road at its source. -/
def inject (s : State) (p : Packet) : State := s.updRoad (fun x => { x with packets := x.packets ++ [p] })

/-- Payload flits of a DATA frame's operation (R28, R724). -/
def frameFlits (f : DataFrame) : Nat :=
  match f.op with
  | .copy _ _ bs _ => (bs.length + 31) / 32
  | _ => 0

/-- Payload flits of a packet: 0 to 8 (R28); one at class 0 (R386). -/
def Body.flits : Body → Nat
  | .sync _ => 1
  | .toFace _ _ d => (d.bytes.length + 31) / 32
  | .toBed _ d => (d.bytes.length + 31) / 32
  | .ask _ _ _ _ _ _ => 1
  | .give _ _ _ _ d => (d.bytes.length + 31) / 32
  | .toLink _ f => frameFlits f

/-- Flits of a packet: one header flit and its payload (R28). -/
def Packet.flits (p : Packet) : Nat := 1 + p.body.flits

/-- Packets of a class that have come to a region's ingress, and all of them (R50, Table 12-8). -/
def ingressOf (s : State) (r cls : Nat) : Nat :=
  (s.road.packets.filter (fun p => p.loc == r && p.src != r && p.cls == cls)).length
def ingress (s : State) (r : Nat) : Nat := (s.road.packets.filter (fun p => p.loc == r && p.src != r)).length

/-- The ingress of a region takes one more packet: 2,048 entries, 64 of them for class 0 only (R50, R390); of the others
one is kept for each of classes 1 to 3 that has none there, so that no stalled class holds another (R385). -/
def ingressRoom (s : State) (r cls : Nat) : Bool :=
  ingress s r < 2048 && (cls == 0 ||
    ingress s r - ingressOf s r 0 + ([1, 2, 3].filter (fun c => c != cls && ingressOf s r c == 0)).length < 1984)

/-- Packets that a source router holds stay at the source (R59). -/
def heldPacket (s : State) (p : Packet) : Bool := p.loc == p.src && s.road.holds.contains (p.src, p.dst)

/-- Take the oldest packet that a test accepts. -/
def takePacket (ok : Packet → Bool) : List Packet → Option Packet × List Packet
  | [] => (none, [])
  | p :: ps => if ok p then (some p, ps) else let x := takePacket ok ps; (x.1, p :: x.2)

/-- The oldest packet of a class at a router that it may forward (R39), and the road without it. -/
def headOf (s : State) (r cls : Nat) : Option Packet × List Packet :=
  takePacket (fun p => p.loc == r && p.cls == cls && !heldPacket s p) s.road.packets

/-- The crossbar port a packet leaves by at its destination: a face's, the bed store's, the sync block's, the link's. -/
def Body.port : Body → Nat
  | .sync _ => 49
  | .toFace _ g _ => 16 + faceSlot g
  | .toBed _ _ => 48
  | .ask _ _ _ _ _ _ => 48
  | .give g _ _ _ _ => 16 + faceSlot g
  | .toLink _ _ => 50

/-- The output of router `r` that a packet takes: a mesh direction, or a port of its crossbar. -/
def outPort (s : State) (r : Nat) (p : Packet) : Nat := if p.dst = r then p.body.port else route s r p.dst

/-- The region a packet goes to next; none at its destination, or with a route that reads DEAD. -/
def nextRegion (s : State) (r : Nat) (p : Packet) : Option Nat := if p.dst = r then none else neighbour r (route s r p.dst)

/-- Nothing stalls the packet at router `r` (R50). -/
def canGo (s : State) (r : Nat) (p : Packet) : Bool :=
  p.dst == r || match nextRegion s r p with
    | some n => ingressRoom s n p.cls
    | none => false

/-- Flits per round of classes 1 to 3 (R388). -/
def quantum (c : Nat) : Nat := if c = 1 then 4 else if c = 2 then 3 else 1

/-- Deficit round robin over classes 1 to 3: the class that sends, the class whose turn stays, the deficits. `heads` gives
the flits of each class's next packet. -/
def drrPick (heads : Nat → Option Nat) : Nat → Nat → Bool → Tab Nat → Option Nat × Nat × Tab Nat
  | 0, turn, _, d => (none, turn, d)
  | n + 1, turn, fresh, d =>
    match heads turn with
    | none => drrPick heads n (turn % 3 + 1) true (tdel d turn)
    | some fl =>
      let q := tget 0 d turn + (if fresh then quantum turn else 0)
      if fl ≤ q then (some turn, turn, tset 0 d turn (q - fl))
      else drrPick heads n (turn % 3 + 1) true (tset 0 d turn q)

/-- The oldest packet of class `c` waits for output `out` of router `r`, and nothing stalls it: its flits. -/
def waitsFor (s : State) (r out c : Nat) : Option Nat :=
  match (headOf s r c).1 with
  | some p => if outPort s r p = out ∧ canGo s r p then some p.flits else none
  | none => none

/-- The turn of classes 1 to 3 at an output. -/
def shareAt (s : State) (r out : Nat) : Share := tget Share.reset s.road.shares (r * 128 + out)

/-- An output's arbitration (R387, R388): the class it sends next, and its share afterwards. -/
def arbitrate (s : State) (r out : Nat) : Option Nat × Share :=
  let x := shareAt s r out
  if (waitsFor s r out 0).isSome then (some 0, x)
  else
    let y := drrPick (waitsFor s r out) 64 x.turn false x.deficit
    (y.1, ⟨y.2.2, y.2.1⟩)

/-- Put a packet back at its place with a new location: order within a class is kept (R39). -/
def movePacket (q : Packet) (loc : Nat) : List Packet → List Packet
  | [] => []
  | p :: ps => if p = q then { p with loc := loc } :: ps else p :: movePacket q loc ps

/-- The hoist transfer that a packet belongs to: face, record number, number in the transfer. -/
def Body.xfer : Body → Option (Nat × Nat × Nat)
  | .toFace (.hoist g id n) _ _ => some (g, id, n)
  | .toBed (.hoist g id n) _ => some (g, id, n)
  | .ask g id n _ _ _ => some (g, id, n)
  | .give g id n _ _ => some (g, id, n)
  | _ => none

/-- The packet belongs to this transfer. -/
def Packet.of (p : Packet) (g id : Nat) : Bool :=
  match p.body.xfer with
  | some (h, i, _) => h == g && i == id
  | none => false

/-- The packet was sent for a stream of a sensor port. -/
def Packet.ofPort (p : Packet) (port slot : Nat) : Bool :=
  match p.body with
  | .toFace (.port q k _) _ _ => q == port && k == slot
  | _ => false

/-- Cut `n` bytes into packets of at most 256 (R28): offset and length. -/
def packets : Nat → Nat → Nat → List (Nat × Nat)
  | 0, _, _ => []
  | k + 1, off, n => if n = 0 then [] else (off, min n 256) :: packets k (off + 256) (n - 256)

end Sys2Proof.Machine
end

