-- ==== Sys2Proof/Machine/BedCore.lean ====
section
/-! DEFINITION. Machine/BedCore.lean: reads and writes of a region's bed store, line by line (R604 to R617, R632, R663),
wear and remap (R636 to R639), and the choice of the model directory (R626 to R628). -/

namespace Sys2Proof.Machine

open Sys2Proof

/-- Capacity in bytes (R603). -/
def bedCapacity (r : Nat) : Nat := if isRim r then 0x8000000 else 0x10000000

/-- Spare blocks at manufacture (R639). -/
def spareBlocks (r : Nat) : Nat := if isRim r then 1024 else 2048

/-- Physical block that holds a block of the address space. -/
def physBlock (r : Nat) (b : BedSt) (blk : Nat) : Nat :=
  match tget 0 b.remap blk with
  | 0 => spareBlocks r + blk
  | p + 1 => p

/-- One more write of a line (R636), stopping at the largest 21-bit count. -/
def wearLine (r line : Nat) (b : BedSt) : BedSt :=
  let k := physBlock r b (line / 64) * 64 + line % 64
  { b with wear := tset 0 b.wear k (min (tget 0 b.wear k + 1) 0x1FFFFF) }

/-- Wear of a physical block: the largest count among its lines. -/
def physWear (b : BedSt) (p : Nat) : Nat :=
  (b.wear.filter (fun e => e.1 / 64 == p)).foldl (fun m e => max m e.2) 0

/-- The sum of the wear of all blocks that have been written. -/
def wearSum (b : BedSt) : Nat :=
  (((b.wear.map (fun e => e.1 / 64)).foldl (fun acc p => if acc.contains p then acc else p :: acc) []).map (physWear b)).foldl (· + ·) 0

/-- Mean and largest block wear of a region (Table 11-8). -/
def wearMean (r : Nat) (b : BedSt) : Nat := wearSum b / (bedCapacity r / 4096)
def wearMax (b : BedSt) : Nat := b.wear.foldl (fun m e => max m e.2) 0

/-- Free spare blocks, ascending by physical number. -/
def freeSpares (r : Nat) (b : BedSt) : List Nat :=
  (List.range (spareBlocks r)).filter (fun p => !b.sparesUsed.contains p) ++ b.freed

def sparesFree (r : Nat) (b : BedSt) : Nat := spareBlocks r - b.sparesUsed.length + b.freed.length

/-- A line reads as spoil: its SPOIL bit, or an OUT mark of another epoch than the current (R610, R617). -/
def lineSpoil (b : BedSt) (line : Nat) : Bool :=
  tget false b.spoil line || (let m := tget 0 b.marks line; m != 0 && m != b.epoch + 1)

/-- Uncorrectable: three or more bit errors (R632). -/
def lineUE (b : BedSt) (line : Nat) : Bool := 3 ≤ tget 0 b.bitErrs line

/-- Lines that `n` bytes at an address touch. -/
def linesOf (a n : Nat) : List Nat :=
  if n = 0 then [] else (List.range ((a + n - 1) / 64 - a / 64 + 1)).map (· + a / 64)

/-- The controller checks a line it reads (R632, R663). -/
def checkLine (s : State) (r line : Nat) : State :=
  let s := addF s (bedPg r) BED_READS 1
  let e := tget 0 (s.bed r).bitErrs line
  if e = 0 then s
  else if e < 3 then
    let s := addF s (bedPg r) BED_ECC_COUNT_CORRECTED 1
    if getF s (bedPg r) BED_SCRUB_CFG_REFRESH_TH ≤ e then
      s.updBed r (fun b => wearLine r line { b with bitErrs := tset 0 b.bitErrs line 0 })
    else s
  else
    let s := addF s (bedPg r) BED_ECC_COUNT_UNCORRECTABLE 1
    let s := setF s (bedPg r) BED_LAST_UE_ADDR (line * 64)
    let s := recordErr s (bedPg r) 0x40 .block 3 (line * 64)
    raise s (bedPg r) 0

/-- Read bytes: the state after the line checks, the bytes, and whether any line is delivered with a spoil tag. -/
def bedRead (s : State) (r a n : Nat) : State × List Nat × Bool :=
  let ls := linesOf a n
  let b := s.bed r
  (ls.foldl (fun t l => checkLine t r l) s, mbytes b.bytes a n, ls.any (fun l => lineSpoil b l || lineUE b l))

/-- The pieces of `n` bytes from an address by line: address, length, offset. -/
def piecesOf : Nat → Nat → Nat → Nat → List (Nat × Nat × Nat)
  | 0, _, _, _ => []
  | k + 1, a, n, off =>
    if n = 0 then []
    else
      let m := min n (64 - a % 64)
      (a, m, off) :: piecesOf k (a + m) (n - m) (off + m)

/-- Read pieces of a bed store in order: the state after the line checks, the bytes, and the pieces that carry spoil. -/
def readPieces (s : State) (r : Nat) : List (Nat × Nat × Nat) → State × List Nat × List (Nat × Nat × Nat)
  | [] => (s, [], [])
  | p :: ps =>
    let x := bedRead s r p.1 p.2.1
    let y := readPieces x.1 r ps
    (y.1, x.2.1 ++ y.2.1, if x.2.2 then p :: y.2.2 else y.2.2)

/-- Bit errors found by a read, as the command that reads supplies them: line and number of bits. -/
def ageLines (s : State) (r : Nat) (errs : List (Nat × Nat)) : State :=
  s.updBed r (fun b => { b with bitErrs := errs.foldl (fun m e => tset 0 m e.1 (min (tget 0 m e.1 + e.2) 512)) b.bitErrs })

/-- Write bytes within one line (R606, R610): contents and tags change at once, the write is durable when its
LINE_WRITE_DURABLE comes. A full-line write sets SPOIL to that of the data and ends an uncorrectable state; with
`clearStale` it also clears an OUT mark of another epoch. -/
def writeLine (who : Requester) (a : Nat) (bs : List Nat) (spoil clearStale : Bool) (b : BedSt) : BedSt :=
  let line := a / 64
  let full := bs.length == 64
  let m := tget 0 b.marks line
  { b with
    bytes := mputs b.bytes a bs
    spoil := if full || spoil then tset false b.spoil line spoil else b.spoil
    bitErrs := if full then tset 0 b.bitErrs line 0 else b.bitErrs
    marks := if full && clearStale && m != b.epoch + 1 then tset 0 b.marks line 0 else b.marks
    digests := b.digests.filter (fun d => !(d.2.1 ≤ a && a < d.2.1 + d.2.2))
    queue := b.queue ++ [⟨line, who⟩] }

/-- Cut bytes at line boundaries: address and piece, ascending. -/
def splitLines : Nat → Nat → List Nat → List (Nat × List Nat)
  | 0, _, _ => []
  | k + 1, a, bs =>
    if bs.isEmpty then []
    else
      let n := 64 - a % 64
      (a, bs.take n) :: splitLines k (a + n) (bs.drop n)

/-- Write bytes to a bed store, line by line in ascending address (R606, R608); a write of less than a line reads it. -/
def bedWrite (s : State) (r : Nat) (who : Requester) (a : Nat) (bs : List Nat) (spoil clearStale : Bool) : State :=
  (splitLines (bs.length + 1) a bs).foldl (fun s p =>
    (if p.2.length < 64 then checkLine s r (p.1 / 64) else s).updBed r (writeLine who p.1 p.2 spoil clearStale)) s

/-- A queued OUT mark is written (R615, R636). -/
def writeMark (r : Nat) (o : OutMark) (b : BedSt) : BedSt :=
  wearLine r o.line { b with marks := tset 0 b.marks o.line (o.epoch + 1) }

/-- A write-back of a face line to its HOME (R616): whole line with its SPOIL; its OUT mark, written before where it still
waits (R615), is cleared in the same line write. -/
def writeBackLine (s : State) (r g line : Nat) (bs : List Nat) (spoil : Bool) : State :=
  s.updBed r (fun b =>
    let b := (b.outQueue.filter (fun o => o.line == line)).foldl (fun b o => writeMark r o b)
      { b with outQueue := b.outQueue.filter (fun o => o.line != line) }
    let b := writeLine (.hoist g) (line * 64) bs spoil false b
    { b with marks := tset 0 b.marks line 0 })

/-- Every queued OUT mark is written (R165, R660, R993). -/
def flushMarks (r : Nat) (b : BedSt) : BedSt :=
  { b.outQueue.foldl (fun b o => writeMark r o b) b with outQueue := [] }

/-- Every queued line write ends (R138). -/
def flushWrites (r : Nat) (b : BedSt) : BedSt :=
  { b.queue.foldl (fun b w => wearLine r w.line b) b with queue := [] }

/-! ## The model directory -/

def dirBase (copyB : Bool) : Nat := if copyB then 0x4000 else 0

/-- MODEL numbers of the entries rise strictly and lie in 0x0001 to 0xFFFF. -/
def modelsRise (m : Tab Byte) (base : Nat) : Nat → Nat → Bool
  | 0, _ => true
  | k + 1, e =>
    let x := mnum m (base + 0x40 + 64 * e) 2
    x != 0 && (k == 0 || x < mnum m (base + 0x40 + 64 * (e + 1)) 2) && modelsRise m base k (e + 1)

/-- A directory copy is valid (R627), a copy being written never (R658); answers its SEQUENCE and COUNT. -/
def dirValid (b : BedSt) (copyB : Bool) : Option (Nat × Nat) :=
  let m := b.bytes
  let a := dirBase copyB
  let seq := mnum m (a + 8) 8
  let count := mnum m (a + 0x10) 2
  if mnum m a 4 = 0x4D444952 && mnum m (a + 4) 2 = 1 && mnum m (a + 6) 2 = 64 && count ≤ 255
      && mnum m (a + 0x14) 4 = 64 * count
      && mnum m (a + 0x38) 4 = crc32 (mbytes m a 0x38 ++ mbytes m (a + 0x40) (64 * count))
      && mnum m (a + 0x3C) 4 = 0xFFFFFFFF - seq % 2 ^ 32
      && modelsRise m a count 0
      && (linesOf a (64 + 64 * count)).all (fun l => !lineSpoil b l && !lineUE b l)
      && !b.queue.any (fun w => w.line / 256 == a / 0x4000)
  then some (seq, count) else none

/-- The selection of R628: which copy, its SEQUENCE and COUNT, and the validity of both. -/
def selectDir (b : BedSt) : BedSt :=
  let x := dirValid b false
  let y := dirValid b true
  match x, y with
  | none, none => { b with dirSel := 0, dirA := false, dirB := false, dirCount := 0, dirSeq := 0 }
  | some (q, c), none => { b with dirSel := 1, dirA := true, dirB := false, dirCount := c, dirSeq := q }
  | none, some (q, c) => { b with dirSel := 2, dirA := false, dirB := true, dirCount := c, dirSeq := q }
  | some (q, c), some (q', c') =>
    if q < q' then { b with dirSel := 2, dirA := true, dirB := true, dirCount := c', dirSeq := q' }
    else { b with dirSel := 1, dirA := true, dirB := true, dirCount := c, dirSeq := q }

/-- Select the directory; DIR_NONE (6) without a valid copy, DIR_CHANGE (5) when the selected copy or its SEQUENCE
changes, except at the selection of a wake. -/
def directorySelect (s : State) (r : Nat) (atWake : Bool) : State :=
  let b := s.bed r
  let b' := selectDir b
  let changed := b'.dirSel != b.dirSel || b'.dirSeq != b.dirSeq
  let s := s.updBed r (fun _ => if changed then { b' with digests := [] } else b')
  let s := if b'.dirSel = 0 then raise s (bedPg r) 6 else s
  if !atWake && changed then raise s (bedPg r) 5 else s

/-- At a wake (R669): remap table loaded, RUN_EPOCH one greater, directory selected. -/
def bedWake (s : State) (r : Nat) : State :=
  directorySelect (s.updBed r (fun b => { b with epoch := (b.epoch + 1) % 2 ^ 32, queue := [], outQueue := [] })) r true

end Sys2Proof.Machine
end

