-- ==== Sys2Proof/Machine/LinkCore.lean ====
section
/-! DEFINITION. Machine/LinkCore.lean: an Adit link's queues and job table (13_adit_links_collectives.md), the answers it
returns to the far module (R734), and cabinet time (R745 to R748). -/

namespace Sys2Proof.Machine

open Sys2Proof

def State.link (s : State) (k : Nat) : LinkSt := tget LinkSt.reset s.links k
def State.updLink (s : State) (k : Nat) (f : LinkSt → LinkSt) : State :=
  { s with links := tset LinkSt.reset s.links k (f (s.link k)) }

/-! ## Link state -/

/-- LINK_STATE.STATE: 0 DOWN, 1 TRAINING, 2 UP, 3 SWAPPING, 4 HOLD, 5 FAILED, 6 UNPROVISIONED. -/
def linkState (s : State) (k : Nat) : Nat := getF s (aditPg k) ADIT_LINK_STATE_STATE
def setLinkState (s : State) (k v : Nat) : State := setF s (aditPg k) ADIT_LINK_STATE_STATE v

/-- UP or SWAPPING: frames pass. -/
def linkPasses (s : State) (k : Nat) : Bool := linkState s k == 2 || linkState s k == 3

/-- UP, SWAPPING or HOLD: operations are taken; in HOLD they wait (R779). -/
def linkTakes (s : State) (k : Nat) : Bool := linkPasses s k || linkState s k == 4

/-- LINK_ID of R743. -/
def linkId (k : Nat) : Nat := (Config.waferSerial % 2 ^ 56) * 256 + k

/-- The credits held for a class. -/
def creditFld (c : Nat) : Fld :=
  match c with
  | 0 => ADIT_CREDITS_01_C0
  | 1 => ADIT_CREDITS_01_C1
  | 2 => ADIT_CREDITS_23_C2
  | _ => ADIT_CREDITS_23_C3

/-! ## The link job table (R730) -/

/-- The local job of a tag. -/
def LinkSt.jobOf (l : LinkSt) (tag : Nat) : Option Nat := (l.jobs.find? (fun e => e.2.1 == tag)).map (·.2.2)

/-- The tag of a local job. -/
def LinkSt.tagOf (l : LinkSt) (j : Nat) : Option Nat := (l.jobs.find? (fun e => e.2.2 == j)).map (·.2.1)

/-- The lowest free entry of the 64. -/
def LinkSt.freeEntry (l : LinkSt) : Option Nat := (List.range 64).find? (fun i => (tfind l.jobs i).isNone)

def linkAddJob (s : State) (k tag j : Nat) : State :=
  match (s.link k).freeEntry with
  | none => s
  | some i =>
    let s := s.updLink k (fun l => { l with jobs := tput l.jobs i (tag, j) })
    setF s (aditPg k) ADIT_JOBS_IN_USE (s.link k).jobs.length

/-- The entry of a job goes, and with it what cut its tag off, and the frame counter of its key (R737). -/
def linkDropJob (s : State) (k j : Nat) : State :=
  match (s.link k).tagOf j with
  | none => s
  | some tag =>
    let s := s.updLink k (fun l => { l with
      jobs := l.jobs.filter (fun e => e.2.2 != j), cut := l.cut.filter (· != tag), ctr := tdel l.ctr tag })
    setF s (aditPg k) ADIT_JOBS_IN_USE (s.link k).jobs.length

/-! ## Sending -/

/-- A DATA frame joins the frames that wait. -/
def queueData (s : State) (k : Nat) (f : DataFrame) : State :=
  s.updLink k (fun l => { l with tx := l.tx ++ [⟨f, 0, false, ⟨0, 0, 0⟩⟩] })

/-- A CONTROL frame joins those that wait. -/
def queueCtl (s : State) (k : Nat) (op : CtlOp) : State := s.updLink k (fun l => { l with ctl := l.ctl ++ [op] })

/-- The status of an operation received from the far module returns on class 0 (R734), with the rank that this module has
in the job (Table 13-2). -/
def linkReply (s : State) (k tag face opId code : Nat) : State :=
  let rank := match (s.link k).jobOf tag with
    | some j => (s.job j).rank
    | none => 0
  if linkTakes s k then queueData s k ⟨0, 0, rank, tag, getF s wbPg WB_EPOCH % 65536, face, opId, .status code⟩ else s

/-- The status of a remote signal that a sync block has finished with. -/
def signalReply (s : State) (link job peer opId code : Nat) : State :=
  linkReply s link (s.job job).tag (peer % 4096) opId code

/-- A tag's DATA frames that wait or are not acknowledged (R774). -/
def LinkSt.hasFrames (l : LinkSt) (tag : Nat) : Bool :=
  l.tx.any (fun t => t.frame.tag == tag) || l.sent.any (fun t => t.frame.tag == tag)

/-- DATA frames of a tag wait, are not acknowledged, or are on their way to the link. -/
def linkHasFrames (s : State) (k tag : Nat) : Bool :=
  (s.link k).hasFrames tag || s.road.packets.any (fun p => match p.body with
    | .toLink i f => i == k && f.tag == tag
    | _ => false)

/-! ## Cabinet time (R745 to R748) -/

/-- An OFFSET `dt` ticks after it was set, slewed linearly at a rate (R744), modulo 2^64. -/
def slewed (off : Nat) (rate : Int × Nat) (dt : Nat) : Nat :=
  (((off : Int) + rate.1 * (dt : Int) / (rate.2 : Int)) % (2 ^ 64 : Nat)).toNat

/-- OFFSET of a link as it reads now. -/
def offsetNow (s : State) (k : Nat) : Nat :=
  let l := s.link k
  slewed (getF s (aditPg k) ADIT_OFFSET) l.rate (s.time - l.timeAt)

/-- The offset in use now. -/
def cabOffset (s : State) : Nat := slewed s.cab.offset s.cab.rate (s.time - s.cab.takenAt)

/-- Cabinet time in 1/256 tick, modulo 2^64. -/
def cabTime (s : State) : Nat := (s.time * 256 + cabOffset s) % 2 ^ 64

/-- The time source of R745. -/
def timeSource (s : State) : Option Nat :=
  (List.range 4).find? (fun k => linkPasses s k && flagF s (aditPg k) ADIT_LINK_STATE_ROLE_ACT
    && flagF s (aditPg k) ADIT_LINK_CFG_TIME_EN)

/-- Two offsets differ by more than one tick. -/
def offsetsDiffer (a b : Nat) : Bool :=
  let d := (a + 2 ^ 64 - b) % 2 ^ 64
  256 < d && d < 2 ^ 64 - 256

/-- Cabinet time takes the OFFSET of the source link `k`; a new source whose OFFSET differs by more than a tick steps it:
CAB_STEP (bit 9) and a log record (R748). -/
def adoptOffset (s : State) (k : Nat) : State :=
  let off := offsetNow s k
  let step := !s.cab.adopted && offsetsDiffer off (cabOffset s)
  let s := { s with cab := { s.cab with offset := off, takenAt := s.time, rate := (s.link k).rate, adopted := true } }
  if step then
    logRec (raise s (aditPg k) 9) 1 (aditRegion k) 9 [aditPg k * 0x1000, off % 2 ^ 32, off / 2 ^ 32, 0]
  else s

/-- The time source is chosen again (R745, R747): the offset in use holds, and a new source's is used once it has one. -/
def reselectTime (s : State) : State :=
  let src := timeSource s
  if src = s.cab.src then s
  else
    let s := { s with cab := { s.cab with
      offset := cabOffset s, takenAt := s.time, rate := (0, 1), src := src, adopted := false, hadSource := s.cab.hadSource || src.isSome } }
    match src with
    | some k => if (s.link k).timed then adoptOffset s k else s
    | none => s

/-- HOLDOVER of R747. -/
def holdover (s : State) : Bool := s.cab.src.isNone && s.cab.hadSource

end Sys2Proof.Machine
end

