-- ==== Sys2Proof/Machine/FaceCore.lean ====
section
/-! DEFINITION. Machine/FaceCore.lean: a face's registers, predicates, tokens and line tags, and what reaches it from
sync blocks: answers to its SYN records (R457 to R462, R676 to R680) and abandoned locks. -/

namespace Sys2Proof.Machine

open Sys2Proof

/-! ## Registers, predicates, tokens -/

/-- A0 reads 0 (R437). -/
def FaceSt.a (f : FaceSt) (k : Nat) : Nat := if k % 16 = 0 then 0 else tget 0 f.regs (k % 16)

/-- Writes to A0 are ignored (R437). -/
def FaceSt.setA (f : FaceSt) (k v : Nat) : FaceSt :=
  if k % 16 = 0 then f else { f with regs := tset 0 f.regs (k % 16) (v % 2 ^ 32) }

/-- Set or clear bit `i` of a mask. -/
def putBit (m i : Nat) (b : Bool) : Nat := if bit m i = b then m else if b then m + 2 ^ i else m - 2 ^ i

def FaceSt.setP (f : FaceSt) (k : Nat) (b : Bool) : FaceSt := { f with preds := putBit f.preds (k % 8) b }

def FaceSt.setToken (f : FaceSt) (k : Nat) (b : Bool) : FaceSt := { f with tokens := putBit f.tokens (k % 8) b }

/-- The slot of a face is backed: SLOT_MAP as loaded (R24). -/
def slotByte (s : State) (g : Nat) : Nat := (s.region (faceRegion g)).slots.getD (faceSlot g) 0
def backed (s : State) (g : Nat) : Bool := faceAssigned g && bit (slotByte s g) 7

/-- Records fetched and not yet retired (R429): queued, then issued. -/
def FaceSt.opq (f : FaceSt) : Nat := f.queue.length + f.issued.length

/-! ## Op record fields (Tables 8-3 and 8-7) -/

def OpRec.word (o : OpRec) (i : Nat) : Nat := o.words.getD i 0
def OpRec.family (o : OpRec) : Nat := bits (o.word 0) 0 4
def OpRec.subop (o : OpRec) : Nat := bits (o.word 0) 4 4
def OpRec.wait (o : OpRec) : Nat := bits (o.word 0) 8 8
def OpRec.token (o : OpRec) : Nat := bits (o.word 0) 16 3
def OpRec.tokenEn (o : OpRec) : Bool := bit (o.word 0) 19
def OpRec.pred (o : OpRec) : Nat := bits (o.word 0) 20 3
def OpRec.pneg (o : OpRec) : Bool := bit (o.word 0) 23
def OpRec.predEn (o : OpRec) : Bool := bit (o.word 0) 24

/-! ## Face SRAM (R612, R614, R986) -/

/-- The tag of a face line. -/
def FaceSt.tag (f : FaceSt) (line : Nat) : LineTag := tget LineTag.reset f.tags line

/-- Any line of a byte range carries spoil. -/
def FaceSt.rangeSpoil (f : FaceSt) (a n : Nat) : Bool := (linesOf a n).any (fun l => tget false f.spoil l)

/-- A line is written (R614): DIRTY when VALID; a line that becomes dirty queues an OUT mark with the region's epoch
(R615); SPOIL is set by spoiled data and cleared by a whole line without spoil (R986). -/
def touchLine (g epoch : Nat) (whole spoil : Bool) (x : FaceSt × List OutMark) (line : Nat) : FaceSt × List OutMark :=
  let f := x.1
  let t := f.tag line
  let mark := t.valid && !t.dirty
  let f := if mark then { f with tags := tset LineTag.reset f.tags line { t with dirty := true } } else f
  let f := if spoil || whole then { f with spoil := tset false f.spoil line spoil } else f
  (f, if mark then x.2 ++ [⟨g, t.home, epoch⟩] else x.2)

/-- OUT marks join the queue of 256 (R653): a writer that finds it full waits until the oldest mark is durable. -/
def pushMarks (r : Nat) (ms : List OutMark) (b : BedSt) : BedSt :=
  let q := b.outQueue ++ ms
  { (q.take (q.length - 256)).foldl (fun b o => writeMark r o b) b with outQueue := q.drop (q.length - 256) }

/-- Write bytes to face SRAM with their spoil tag; the OUT marks queue at the region's bed store. -/
def sramWrite (s : State) (g a : Nat) (bs : List Nat) (spoil : Bool) : State :=
  let r := faceRegion g
  let f := s.faceAt g
  let f := { f with sram := mputs f.sram a bs }
  let x := (linesOf a bs.length).foldl (fun x l =>
    touchLine g (s.bed r).epoch (a ≤ l * 64 && l * 64 + 64 ≤ a + bs.length) spoil x l) (f, [])
  let s := s.updFace g (fun _ => x.1)
  if x.2.isEmpty then s else s.updBed r (pushMarks r x.2)

/-- Write many bytes, one by one, with one spoil tag. -/
def sramWrites (s : State) (g : Nat) (ws : List (Nat × Nat)) (spoil : Bool) : State :=
  ws.foldl (fun s w => sramWrite s g w.1 [w.2] spoil) s

/-- Tag lines of face SRAM spoil. -/
def markSpoil (s : State) (g a n : Nat) : State :=
  s.updFace g (fun f => { f with spoil := (linesOf a n).foldl (fun m l => tset false m l true) f.spoil })

/-- Data that arrives at a face: its bytes, and the spoil of its stretches. -/
def writeLoad (s : State) (g : Nat) (d : Load) : State :=
  d.bad.foldl (fun s b => markSpoil s g (d.addr + b.1) b.2) (sramWrite s g d.addr d.bytes false)

/-- `n` bytes of a face's SRAM with the stretches that carry spoil, line by line, for an address elsewhere. -/
def FaceSt.readLoad (f : FaceSt) (a n dest : Nat) : Load :=
  ⟨dest, mbytes f.sram a n,
    ((piecesOf (n + 1) a n 0).filter (fun p => f.rangeSpoil p.1 p.2.1)).map (fun p => (p.2.2, p.2.1))⟩

/-- Dirty lines of a face, ascending. -/
def FaceSt.dirtyLines (f : FaceSt) : List Nat := (f.tags.filter (fun t => t.2.dirty)).map (·.1)

/-! ## Answers to SYN records -/

/-- An issued record of the face by its number. -/
def FaceSt.issue? (f : FaceSt) (id : Nat) : Option Issued := f.issued.find? (·.id == id)

def FaceSt.setIssue (f : FaceSt) (id : Nat) (st : IssueSt) : FaceSt :=
  { f with issued := f.issued.map (fun i => if i.id = id then { i with st := st } else i) }

/-- A SYN record is answered: READ loads A[DREG]; ACQUIRE loads P[DPRED] with the ABANDONED indication (R462), which
also raises LOCK_ABANDONED (bit 3). -/
def replyOk (s : State) (g id val : Nat) (abandoned : Bool) : State :=
  match (s.faceAt g).issue? id with
  | none => s
  | some i =>
    let o := i.record
    let s := s.updFace g (fun f =>
      let f := f.setIssue id .done
      if o.family = 3 ∧ o.subop = 9 then f.setA (bits (o.word 3) 0 4) val
      else if o.family = 3 ∧ o.subop = 5 then f.setP (bits (o.word 3) 4 3) abandoned
      else f)
    if abandoned then raise s (facePg g) 3 else s

/-! ## Locks -/

/-- Send an operation to a sync block: the own region's crossbar takes it at once, another region's by the haul road. -/
def sendOp (s : State) (cls src dst : Nat) (op : SyncOp) : State :=
  if src = dst then s.updSync dst (fun b => { b with arrivals := b.arrivals ++ [op] })
  else inject s ⟨cls, src, dst, src, getF s wbPg WB_EPOCH, .sync op⟩

/-- The face of an operation's source, or 0. -/
def SyncSrc.faceNo : SyncSrc → Nat
  | .face g => g
  | _ => 0

def SyncBlk.obj (b : SyncBlk) (o : Nat) : SyncObj := tget SyncObj.reset b.objs o
def SyncBlk.setObj (b : SyncBlk) (o : Nat) (x : SyncObj) : SyncBlk := { b with objs := tset SyncObj.reset b.objs o x }

def Waiter.is (w : Waiter) (o : Nat) (sub : SyncSub) : Bool := w.op.obj == o && w.op.sub == sub

/-- The first waiter that satisfies `p`, and the table without it. -/
def takeWaiter (p : Waiter → Bool) : List Waiter → Option Waiter × List Waiter
  | [] => (none, [])
  | w :: ws => if p w then (some w, ws) else let x := takeWaiter p ws; (x.1, w :: x.2)

/-- Answer the source of a completed operation: a face, or the far module of an Adit link (R734). -/
def answer (s : State) (op : SyncOp) (val : Nat) (abandoned : Bool) : State :=
  match op.src with
  | .face g => replyOk s g op.recId val abandoned
  | .adit link job peer opId => signalReply s link job peer opId 0
  | _ => s

/-- Hand a free lock to its first waiter (R676, R679); the lock's ABANDONED indication goes with it. -/
def handLock (s : State) (r o : Nat) : State :=
  let b := s.sync r
  let x := takeWaiter (fun w => w.is o .acquire) b.waiters
  match x.1 with
  | none => s
  | some w =>
    let obj := b.obj o
    let s := s.updSync r (fun b =>
      let b := b.setObj o { obj with
        held := true, abandoned := false, holder := w.op.src.faceNo, former := setDel w.op.src.faceNo obj.former }
      { b with waiters := x.2 })
    answer s w.op 0 obj.abandoned

/-- A lock becomes ABANDONED (R678, R679): ABANDONS counts, LOCK_ABANDONED (bit 1) is raised. -/
def abandonLock (s : State) (r o : Nat) : State :=
  let obj := (s.sync r).obj o
  let s := s.updSync r (fun b => b.setObj o { obj with
    held := false, holder := 0, abandoned := true, former := setIns obj.holder obj.former })
  let s := addF s (syncPg r) SYNC_ABANDONS_COUNT 1
  handLock (raise s (syncPg r) 1) r o

/-- Locks of a region held by a face. -/
def locksHeld (s : State) (r g : Nat) : List Nat :=
  ((s.sync r).objs.filter (fun x => x.2.kind == .lock && x.2.held && x.2.holder == g)).map (·.1)

/-- The face holds a lock anywhere. -/
def holdsLock (s : State) (g : Nat) : Bool := allRegions.any (fun r => !(locksHeld s r g).isEmpty)

/-- Every lock the face holds, in every region, becomes ABANDONED (R678). -/
def abandonLocks (s : State) (g : Nat) : State :=
  allRegions.foldl (fun s r => (locksHeld s r g).foldl (fun s o => abandonLock s r o) s) s

/-- The face's own waits leave every waiter table (R680). -/
def dropWaits (s : State) (g : Nat) : State :=
  allRegions.foldl (fun s r =>
    let b := s.sync r
    let ws := b.waiters.filter (fun w => w.op.src != .face g)
    if ws.length = b.waiters.length then s else s.updSync r (fun b => { b with waiters := ws })) s

/-! ## END (R478) and release -/

/-- The record has completed. -/
def IssueSt.ended : IssueSt → Bool
  | .done => true
  | .failed _ => true
  | _ => false

/-- The issue waits for an answer. -/
def IssueSt.isWait : IssueSt → Bool
  | .waiting _ _ w => w
  | .retry _ _ w => w
  | _ => false

/-- A face has a SYN wait in progress (R691). -/
def hasWait (s : State) (g : Nat) : Bool := (s.faceAt g).issued.any (·.st.isWait)

/-- An END message discards the records that have not issued and abandons the face's waits (R478). -/
def faceDiscards (s : State) (g : Nat) : State :=
  (dropWaits s g).updFace g (fun f =>
    { f with queue := [], loops := [], issued := f.issued.filter (fun i => !i.st.isWait) })

/-- The face is done with END: its locks become ABANDONED, its owner is released, STATE reads IDLE (R478). -/
def faceRelease (s : State) (g : Nat) : State :=
  (abandonLocks s g).updFace g (fun f =>
    { f with run := .idle, owner := .none, confidential := false, endPending := false, ended := true })

/-- The face handles an END message (R478): unissued records are discarded and waits abandoned at once; the rest waits
until every other issued record has completed, and during SWITCHING for the loads (R495). -/
def faceEnd (s : State) (g : Nat) : State :=
  if (s.faceAt g).run = .switching then s.updFace g (fun f => { f with endPending := true })
  else
    let s := faceDiscards s g
    if (s.faceAt g).issued.all (·.st.ended) then faceRelease s g
    else s.updFace g (fun f => { f with endPending := true })

end Sys2Proof.Machine
end

