-- ==== Sys2Proof/Machine/EscCore.lean ====
section
/-! DEFINITION. Machine/EscCore.lean: wake chains: stage descriptors (Tables 7-5, 7-6), face sets (R365), demotion
(R376 to R380), lost faces (R420), and the wake messages of a promotion in progress (R382 to R384). -/

namespace Sys2Proof.Machine

open Sys2Proof

def State.chain (s : State) (c : Nat) : ChainSt := tget ChainSt.reset s.esc.chains c
def State.updEsc (s : State) (f : EscSt → EscSt) : State := { s with esc := f s.esc }
def State.updChain (s : State) (c : Nat) (f : ChainSt → ChainSt) : State :=
  s.updEsc (fun e => { e with chains := tset ChainSt.reset e.chains c (f (s.chain c)) })

/-- Send a message. -/
def post (s : State) (m : RingMsg) : State := { s with ring := s.ring ++ [m] }

/-- No listener message waits: those go over the ring ahead of all other traffic (R334), but for what shares their
priority (R394). -/
def ringFree (s : State) : Bool :=
  !s.ring.any (fun m => match m with | .listener _ => true | _ => false)

def RingMsg.isWake : RingMsg → Bool
  | .wake _ _ _ _ _ => true
  | _ => false

/-- Take the oldest message that fits. -/
def takeMsg (p : RingMsg → Bool) : List RingMsg → Option RingMsg × List RingMsg
  | [] => (none, [])
  | m :: ms => if p m then (some m, ms) else let x := takeMsg p ms; (x.1, m :: x.2)

/-! ## Configuration -/

/-- An active configuration field of a chain. -/
def chCfg (s : State) (c : Nat) (f : Fld) : Nat := getF s escPg (f.ix c)

/-- An active field of the stage descriptor at a position of a chain (R362). -/
def stCfg (s : State) (c pos : Nat) (f : Fld) : Nat := getF s escPg (f.ix (chCfg s c ESC_CH_CFG_FIRST + pos))

def stSnum (s : State) (c pos : Nat) : Nat := stCfg s c pos ESC_ST_CFG_SNUM

/-- The regions named by ST_REGION_0 to ST_REGION_3 of descriptor `n` (active values). -/
def descRegions (s : State) (n : Nat) : List Nat :=
  let w := [ESC_ST_REGION_0, ESC_ST_REGION_1, ESC_ST_REGION_2, ESC_ST_REGION_3].map (fun f => getF s escPg (f.ix n))
  (List.range 128).filter (fun r => bit (w.getD (r / 32) 0) (r % 32))

/-- The region set of a stage (R365). -/
def stageRegions (s : State) (c pos : Nat) : List Nat :=
  if stCfg s c pos ESC_ST_CFG_PORT_REGION = 1 then [sensorRegion (s.chain c).port]
  else descRegions s (chCfg s c ESC_CH_CFG_FIRST + pos)

/-- The face set of a stage (R365), ascending. -/
def stageFaces (s : State) (c pos : Nat) : List Nat :=
  let mask := stCfg s c pos ESC_ST_CFG_FACE_MASK
  (stageRegions s c pos).flatMap (fun r => (facesOf r).filter (fun g => bit mask (faceSlot g)))

/-- The active stage at a position. -/
def activeStage (s : State) (c pos : Nat) : StageRun := tget StageRun.reset (s.chain c).sets pos

/-- The faces of the active stage at a position. -/
def activeSet (s : State) (c pos : Nat) : List Nat := (activeStage s c pos).faces

/-- A face holds an active stage of some chain. -/
def inActiveStage (s : State) (g : Nat) : Bool :=
  (List.range 16).any (fun c => (s.chain c).sets.any (fun x => x.2.faces.contains g))

/-- The promotion in progress into a position. -/
def promoAt (s : State) (c pos : Nat) : Option Promo := (s.chain c).promos.find? (·.pos == pos)

def dropPromo (x : ChainSt) (pos : Nat) : ChainSt := { x with promos := x.promos.filter (·.pos != pos) }
def putPromo (x : ChainSt) (p : Promo) : ChainSt :=
  { x with promos := x.promos.map (fun q => if q.pos = p.pos then p else q) }

/-! ## Users of a region (R928) -/

/-- The regions that admission wakes (R802 step 2), ascending. -/
def JobSt.needs (x : JobSt) : List Nat :=
  (x.cut.map (fun c => faceRegion c.face) ++ x.images.map (·.region) ++ x.outs.map (·.region)
    ++ x.syncs.map (·.region)).foldl (fun l r => setIns r l) []

/-- A promotion or an admission that has reached its step 2 uses the region. -/
def regionUsed (s : State) (r : Nat) : Bool :=
  (List.range 16).any (fun c => (s.chain c).sets.any (fun x => x.2.regions.contains r))
    || s.host.jobs.any (fun x => x.2.state != .free && x.2.state != .waiting && x.2.needs.contains r)

/-- The stop of a held region that its users have left begins (R904, R928). -/
def heldStops (s : State) (regs : List Nat) : State :=
  regs.foldl (fun s r =>
    let x := s.region r
    if x.hold && x.power == .run && x.hs.isNone && !s.stopQ.any (·.region == r) && !regionUsed s r then
      { s with stopQ := s.stopQ ++ [⟨r, x.holdForce, 12, false⟩] }
    else s) s

/-! ## Demotion -/

/-- Start the demotion timer of the deepest stage with its full DEMOTE_MS (R377, R378). -/
def startTimer (s : State) (c : Nat) : State :=
  let d := (s.chain c).depth
  if 2 ≤ d then s.updChain c (fun x => { x with timer := some (s.time, stCfg s c d ESC_ST_TIME_DEMOTE_MS) })
  else s.updChain c (fun x => { x with timer := none })

/-- Send DEMOTED to the listener of position 1 and to the others taken for the chain (R369, R379). -/
def sendDemoted (s : State) (c : Nat) : State :=
  let s := post s (.demoted (stCfg s c 1 ESC_ST_CFG_PORT) (stCfg s c 1 ESC_ST_CFG_LSLOT))
  let s := (s.chain c).others.foldl (fun s k => post s (.demoted (k / 4) (k % 4))) s
  s.updChain c (fun x => { x with others := [], portValid := false })

/-- A face that has left the set of a stage still has it as its owner: it stopped there (R502). -/
def keepsStage (s : State) (c pos g : Nat) : Bool :=
  inRun s (faceRegion g) && !(s.faceAt g).dead && (s.faceAt g).owner == .stage c pos

/-- The deepest stage at position 2 or deeper is demoted (R378, R380, R409). END also goes to the faces that stopped and
left its set, which keep their owner until then (R502). -/
def demote (s : State) (c : Nat) : State :=
  let x := s.chain c
  let d := x.depth
  if d < 2 then s
  else
    let run := activeStage s c d
    let ends := match promoAt s c d with
      | some p => p.woken
      | none => activeSet s c d
    let ends := ends ++ run.left.filter (keepsStage s c d)
    let s := ends.foldl (fun s g => post s (.endFace g)) s
    let s := s.updChain c (fun x => dropPromo { x with
      depth := d - 1, count := 0, sets := tdel x.sets d, degraded := setDel d x.degraded, blocked := false } d)
    let s := addF s escPg (ESC_CH_LAST_DEMOTIONS.ix c) 1
    let s := startTimer s c
    let s := if d = 2 then sendDemoted s c else s
    raise (heldStops s run.regions) escPg 1

/-- Demote until the depth is below a position, deepest first (R376). -/
def demoteTo (s : State) (c pos : Nat) : Nat → State
  | 0 => s
  | k + 1 => if pos ≤ (s.chain c).depth ∧ 2 ≤ (s.chain c).depth then demoteTo (demote s c) c pos k else s

/-- A face leaves the set of an active stage (R420): DEGRADED (bit 3); without a face left, the stage and every deeper
one is demoted and the cause logged, in an EVENT record of DEMOTED with chain, position and cause: 1 a region failed, 2 a
region stopped with FORCE, 3 the face itself failed, stopped or could not be started (DESIGN CHOICE, log entry 85). -/
def stageFaceLost (s : State) (c pos g cause : Nat) : State :=
  let run := activeStage s c pos
  let s := s.updChain c (fun x => { x with
    sets := tput x.sets pos { run with faces := run.faces.filter (· != g), left := setIns g run.left }
    degraded := setIns pos x.degraded
    promos := x.promos.map (fun p => if p.pos = pos then
      { p with woken := p.woken.filter (· != g), acked := p.acked.filter (· != g) } else p) })
  let s := raise s escPg 3
  if (activeSet s c pos).isEmpty then
    logRec (demoteTo s c pos 8) 1 mgmtRegion 1 [escPg * 0x1000, c, pos, cause]
  else s

/-! ## Steps 3 to 5 of a promotion (R382) -/

/-- The wake record of Table 7-2, bytes 0x3F_FFC0 on. -/
def wakeRecord (s : State) (c : Nat) (p : Promo) : List Nat :=
  let t := (s.chain c).trig
  [c, p.pos, (activeStage s c p.pos).snum, p.flags] ++ leBytes 2 p.score ++ [t.port, t.lslot] ++ leBytes 8 t.frame
    ++ leBytes 8 p.at_ ++ leBytes 2 t.fired ++ leBytes 2 p.source
    ++ leBytes 4 p.number ++ List.replicate 32 0

/-- Wake the faces of the regions of a promotion that are in Run (step 3): ARRIVE_SYNC is set to 0 for SNUM 3 and up. -/
def sendWakes (s : State) (c : Nat) (p : Promo) : State :=
  let run := activeStage s c p.pos
  let ready := run.faces.filter (fun g => inRun s (faceRegion g) && !p.woken.contains g)
  let regs := (ready.map faceRegion).eraseDups
  let s := if 3 ≤ run.snum then
      regs.foldl (fun s r => s.updSync r (fun b =>
        if (b.obj run.arrive).job.isNone then b.setObj run.arrive { SyncObj.reset with kind := .counter } else b)) s
    else s
  let s := ready.foldl (fun s g => post s (.wake g c p.pos run.model (wakeRecord s c p))) s
  s.updChain c (fun x => putPromo x { p with woken := p.woken ++ ready })

/-- Step 5: when every available face has acknowledged, GRANT_SYNC of the promoting stage is signalled in each of its
regions (those not in Run answer DEAD_TARGET, R394), and the latency is kept in LAT_MAX (R397: LATE beyond its bound). -/
def finishPromo (s : State) (c : Nat) (p : Promo) : State :=
  let s := if 3 ≤ p.pos then
      let prev := activeStage s c (p.pos - 1)
      (prev.regions.filter (inRun s)).foldl (fun s r => s.updSync r (fun b => { b with
        arrivals := b.arrivals ++ [⟨prev.grant, .set, 0, .esc, 0⟩] })) s
    else s
  let us := min (usOf (s.time - p.zero)) 65535
  let f := if p.pos = 2 then ESC_LAT_MAX_S2_US else ESC_LAT_MAX_PROMO_US
  let s := if getF s escPg f < us then setF s escPg f us else s
  let s := if (if p.pos = 2 then 900 else 2500) * 24576 < (s.time - p.zero) * 1000 then raise s escPg 7 else s
  s.updChain c (fun x => dropPromo x p.pos)

/-- Carry one promotion forward. -/
def progressPromo (s : State) (c pos : Nat) : State :=
  match promoAt s c pos with
  | none => s
  | some p =>
    let s := sendWakes s c p
    let faces := activeSet s c pos
    match promoAt s c pos with
    | some p => if !faces.isEmpty && faces.all (p.acked.contains ·) then finishPromo s c p else s
    | none => s

/-- Carry the promotions of a chain forward. -/
def progressChain (s : State) (c : Nat) : State := (List.range 8).foldl (fun s pos => progressPromo s c pos) s

/-- Carry every promotion forward. -/
def escProgress (s : State) : State := (List.range 16).foldl progressChain s

/-- A face fails, stops or is lost: every stage that holds it loses it (R420, R503). -/
def escFaceLost (s : State) (g cause : Nat) : State :=
  (List.range 16).foldl (fun s c => (List.range 8).foldl (fun s pos =>
    if (activeSet s c pos).contains g then progressPromo (stageFaceLost s c pos g cause) c pos else s) s) s

end Sys2Proof.Machine
end

