-- ==== Sys2Proof/Machine/JobCore.lean ====
section
/-! DEFINITION. Machine/JobCore.lean: what a stop status does to a job (R690 to R693, R820), when a job's faces have all
ended (R804, R807 step 1), the choice between respawn and retirement (R1002, R1004), and how a face stops (R501). -/

namespace Sys2Proof.Machine

open Sys2Proof

/-- Job numbers in use, ascending. -/
def liveJobs (s : State) : List Nat := (s.host.jobs.filter (fun x => x.2.state != .free)).map (·.1)

/-- Flags of Table 14-4. -/
def JobSt.respawnable (x : JobSt) : Bool := bit x.flags 0
def JobSt.confidential (x : JobSt) : Bool := bit x.flags 1
def JobSt.cabinet (x : JobSt) : Bool := bit x.flags 2
def JobSt.ticket (x : JobSt) : Bool := bit x.flags 3

/-- A JOB log record (Table 16-8). -/
def logJob (s : State) (j status kept : Nat) : State :=
  let x := s.job j
  logRec s 5 0x7F status [j, x.user % 2 ^ 32, x.user / 2 ^ 32 % 2 ^ 32, kept]

/-- The job that owns a face. -/
def ownerJob (s : State) (g : Nat) : Option Nat :=
  match (s.faceAt g).owner with
  | .job j => some j
  | _ => none

/-! ## Claim entries (Table 15-5) -/

def ClaimEnt.word (c : ClaimEnt) (i : Nat) : Nat := c.words.getD i 0
def ClaimEnt.kind (c : ClaimEnt) : Nat := bits (c.word 0) 0 8
def ClaimEnt.region (c : ClaimEnt) : Nat := bits (c.word 0) 8 7
def ClaimEnt.base (c : ClaimEnt) : Nat := c.word 1
def ClaimEnt.len (c : ClaimEnt) : Nat := c.word 2
def ClaimEnt.link (c : ClaimEnt) : Nat := bits (c.word 3) 0 2

/-- Rights: 0 READ, 1 WRITE, 2 EXEC, 3 HOST_READ, 4 HOST_WRITE, 5 EXCLUSIVE, 6 PARTITION. -/
def ClaimEnt.right (c : ClaimEnt) (i : Nat) : Bool := bit (c.word 0) (16 + i)

/-! ## Checkpoints (R1002) -/

/-- A checkpoint slot is valid for a job (R1002, R1019); answers its SEQUENCE. -/
def ckptValid (s : State) (x : JobSt) (j a : Nat) : Option Nat :=
  let m := (s.bed x.ckptRegion).bytes
  let count := mnum m (a + 6) 2
  let seq := mnum m (a + 8) 8
  if mnum m a 4 = 0x434B5054 && mnum m (a + 4) 2 = 1 && count ≤ 84 && mnum m (a + 0x10) 2 = j
      && mnum m (a + 0x14) 4 = s.map.committed.bootCount
      && mnum m (a + 0x20 + 16 * count) 4 = crc32 (mbytes m a (0x20 + 16 * count))
      && mnum m (a + 0x24 + 16 * count) 4 = 0xFFFFFFFF - seq % 2 ^ 32
      && x.cut.all (fun c => (List.range count).any (fun e => mbyte m (a + 0x20 + 16 * e) == faceRegion c.face))
      && (linesOf a (0x28 + 16 * count)).all (fun l => !lineSpoil (s.bed x.ckptRegion) l && !lineUE (s.bed x.ckptRegion) l)
  then some seq else none

/-- Address of the newer valid checkpoint slot. -/
def ckptSelect (s : State) (j : Nat) : Option Nat :=
  let x := s.job j
  match ckptValid s x j x.ckptBase, ckptValid s x j (x.ckptBase + 0x1000) with
  | some p, some q => some (if p < q then x.ckptBase + 0x1000 else x.ckptBase)
  | some _, none => some x.ckptBase
  | none, some _ => some (x.ckptBase + 0x1000)
  | none, none => none

/-- The conditions of R1004; a slot whose lost face is still scanned may yet be backed. -/
def respawns (s : State) (j : Nat) : Bool :=
  let x := s.job j
  (match x.stop with | some t => t.status == 0x11 | none => false) && x.ran && x.respawnable && !x.cabinet
    && x.respawns < x.maxRespawns
    && x.cut.all (fun c => (backed s c.face || (s.faceAt c.face).scanning) && inRun s (faceRegion c.face))
    && (ckptSelect s j).isSome

/-! ## Ending -/

/-- A cut face has executed END, handled END, or is gone (R804, R807 step 1). -/
def faceDone (s : State) (j g : Nat) : Bool :=
  let f := s.faceAt g
  !(s.ring.any (fun m => match m with | .start h k _ _ => h == g && k == j | _ => false)) &&
    ((f.owner != .job j && f.run != .switching) || (f.ended && f.run == .idle) || f.run == .stopped || f.dead
      || !backed s g || !inRun s (faceRegion g))

/-- A face releases its owner as its job retires (R479, R502). -/
def releaseFace (s : State) (j g : Nat) : State :=
  if (s.faceAt g).owner = .job j then
    let s := abandonLocks s g
    s.updFace g (fun f => { f with owner := .none, confidential := false, run := .idle, queue := [], loops := [] })
  else s

/-! ## Retirement (R807) -/

/-- An epoch change (R850): EPOCH rises, the pages of the regions named apply it, and the fence is no longer drained. -/
def epochChange (s : State) (rs : List Nat) : State :=
  let e := getF s wbPg WB_EPOCH
  let s := if flagF s wbPg WB_CLAIM_FENCE_DRAINED then setF s wbPg WB_CLAIM_FENCE_OLDEST e else s
  let s := setF (setF s wbPg WB_EPOCH (e + 1)) wbPg WB_CLAIM_FENCE_DRAINED 0
  let s := { s with wb := { s.wb with
    changeAt := s.time, fence := (s.beds.map (fun b => (b.1, b.2.queue.length))).filter (fun b => b.2 != 0) } }
  (rs.foldl (fun l r => setIns r l) []).foldl (fun s r =>
    if inRun s r then
      let s := setF (setF s (claimPg r) CLAIM_CLAIM_STATUS_EPOCH (e + 1)) (claimPg r) COMMIT_ARMED 0
      raise (addF s (claimPg r) COMMIT_APPLIED 1) (claimPg r) 2
    else s) s

/-- The regions whose claim tables hold a job's entries (R849). -/
def JobSt.claimRegions (x : JobSt) : List Nat :=
  x.claims.map (fun c => if c.kind = 2 then aditRegion c.link else c.region)

/-- The job's sync objects return to their reset state (R681). -/
def releaseSyncs (s : State) (j : Nat) : State :=
  ((s.job j).syncs.map (·.region)).foldl (fun s r =>
    s.updSync r (fun b => { b with objs := b.objs.filter (fun o => o.2.job != some j) })) s

/-- The job has an entry in some link job table. -/
def jobOnLinks (s : State) (j : Nat) : Bool := [0, 1, 2, 3].any (fun k => ((s.link k).tagOf j).isSome)

/-- Retirement goes on from step 2 as far as it can (R807, R808): outputs that cannot be copied for want of a host link are
left; the sync objects are released; without link entries the claims go, and their removal waits for the fence. -/
def retireOn (s : State) (j : Nat) : State :=
  let x := s.job j
  let s := if x.step = 2 && (x.outs.isEmpty || !x.reached2 || !s.host.linkUp) then
      s.updJob j (fun x => { x with step := 3, partialOut := x.partialOut || (x.reached2 && !x.outs.isEmpty) })
    else s
  let s := if (s.job j).step = 3 then (releaseSyncs s j).updJob j (fun x => { x with step := 4 }) else s
  if (s.job j).step = 4 && !jobOnLinks s j then
    let x := s.job j
    if x.installed then
      epochChange (s.updJob j (fun x => { x with step := 5, installed := false })) x.claimRegions
    else s.updJob j (fun x => { x with step := 6 })
  else s

/-- The job retires from step 2 on: its faces are released. -/
def retireJob (s : State) (j : Nat) : State :=
  let s := (s.job j).cut.foldl (fun s c => releaseFace s j c.face) s
  retireOn (s.updJob j (fun x => { x with state := .retiring, step := 2, item := 0 })) j

/-- When every cut face has ended, the job respawns or retires (R804, R807, R1004). -/
def jobCheckEnd (s : State) (j : Nat) : State :=
  let x := s.job j
  if (x.state == .running || x.state == .stopping) && x.cut.all (fun c => faceDone s j c.face) then
    if respawns s j then s.updJob j (fun x => { x with state := .respawning }) else retireJob s j
  else s

/-- A face handles END; its job may thereby have ended. -/
def endAndCheck (s : State) (g : Nat) : State :=
  let o := ownerJob s g
  let s := faceEnd s g
  match o with
  | some j => jobCheckEnd s j
  | none => s

/-- A job's face handles END early: one of its waits is in progress (R691). -/
def endWaits (s : State) (j : Nat) : State :=
  (s.job j).cut.foldl (fun s c => if (s.faceAt c.face).owner = .job j && hasWait s c.face then faceEnd s c.face else s) s

/-- Admission ends (R820): retirement begins at its first step. -/
def admitEnd (s : State) (j : Nat) : State := jobCheckEnd (s.updJob j (fun x => { x with state := .stopping })) j

/-- A job receives a stop status (R690, R691): the first is kept, a later cause is logged. During admission the step in
progress (the wakes, the image copies or the ticket) ends first (R820), unless the host link is gone. -/
def jobStop (s : State) (j status detail face : Nat) : State :=
  let x := s.job j
  match x.state, x.stop with
  | .free, _ => s
  | _, some t => logJob s j status t.status
  | .waiting, none => s.updJob j (fun x => { x with stop := some ⟨status, detail, face⟩, state := .retiring, step := 6 })
  | .retiring, none => logJob s j status 0
  | .admitting, none =>
    let s := s.updJob j (fun x => { x with
      stop := some ⟨status, detail, face⟩, lastLost := if status = 0x11 then face else x.lastLost })
    if status != 0x17 && [2, 4, 7].contains x.step then s else admitEnd s j
  | _, none =>
    let s := s.updJob j (fun x => { x with
      stop := some ⟨status, detail, face⟩, state := .stopping, lastLost := if status = 0x11 then face else x.lastLost })
    jobCheckEnd (endWaits s j) j

/-- A step of admission fails: the job's stop status, unless it has one, and the end of admission. -/
def admitFail (s : State) (j status detail : Nat) : State :=
  let s := jobStop (s.updJob j (fun x => { x with step := 9 })) j status detail 0xFFFF
  if (s.job j).state = .admitting then admitEnd s j else s

/-- A region that an admission waits for cannot be had: REGION_STOPPED (DEDUCED: Table 14-7 has no other status). -/
def admitLost (s : State) (r : Nat) : State :=
  (liveJobs s).foldl (fun s j =>
    if (s.job j).state = .admitting && (s.job j).step = 2 && (s.job j).needs.contains r then admitFail s j 0x12 r
    else s) s

/-- The face belongs to the cut of a job that has been admitted and has not retired (R416). -/
def inCut (s : State) (g : Nat) : Bool :=
  (liveJobs s).any (fun j => (s.job j).state != .waiting && (s.job j).cut.any (·.face == g))

/-- The job has a stop status (R691). -/
def jobStopped (s : State) (g : Nat) : Bool :=
  match ownerJob s g with
  | some j => (s.job j).stop.isSome
  | none => false

/-- A SYN record of a face is refused (2), or completes with DEAD_TARGET (3) or ROUTE_LOST (4) (R692, R693). The stop status
names the face and its region (DEDUCED, log entry 91). -/
def syncFail (s : State) (g id st : Nat) : State :=
  match (s.faceAt g).issue? id with
  | none => s
  | some i =>
    let s := s.updFace g (fun f => f.setIssue id (.failed st))
    match (s.faceAt g).owner with
    | .job j =>
      let s := jobStop s j 0x13 (faceRegion g) g
      if i.st.isWait then endAndCheck s g else s
    | .stage _ _ => escFaceLost (faceEnd s g) g 3
    | .none => s

/-- An operation that a sync block or a router cannot complete fails at its source with DEAD_TARGET (3) or ROUTE_LOST (4)
(R719, R734). -/
def opFail (s : State) (st : Nat) (op : SyncOp) : State :=
  match op.src with
  | .face g => syncFail s g op.recId st
  | .adit link job peer opId => signalReply s link job peer opId st
  | _ => s

/-- A stop without an op record. -/
def noRecord : OpRec := ⟨0, []⟩

/-- A face stops at an offending record (R501, R503): STOP_INFO, STOP_PC, code and STOPPED (bit 0); later records are
discarded; its job receives FACE_STOPPED, its stage loses it. -/
def faceStop (s : State) (g : Nat) (o : OpRec) (code space addr : Nat) : State :=
  let pg := facePg g
  let s := setF s pg FACE_STOP_INFO_CAUSE code
  let s := setF s pg FACE_STOP_INFO_FAMILY o.family
  let s := setF s pg FACE_STOP_INFO_SUBOP o.subop
  let s := setF s pg FACE_STOP_PC_PC o.addr
  let s := recordErr s pg code .block space addr
  let s := s.updFace g (fun f => { f with run := .stopped, queue := [], start := none })
  let s := raise s pg 0
  match (s.faceAt g).owner with
  | .job j => jobStop s j 0x10 code g
  | .stage _ _ => escFaceLost s g 3
  | .none => s

/-- A job leaves the job table with all it holds (R828, R1021): faces, sync objects, link entries, claims. -/
def dropJob (s : State) (j : Nat) : State :=
  let x := s.job j
  let s := x.cut.foldl (fun s c => if (s.faceAt c.face).owner = .job j then faceRelease (faceDiscards s c.face) c.face else s) s
  let s := { s with ring := s.ring.filter (fun m => match m with | .start _ k _ _ => k != j | _ => true) }
  let s := [0, 1, 2, 3].foldl (fun s k => linkDropJob s k j) (releaseSyncs s j)
  let s := if x.installed then epochChange (s.updJob j (fun x => { x with installed := false })) x.claimRegions else s
  heldStops (s.updHost (fun h => { h with jobs := tdel h.jobs j })) x.needs

end Sys2Proof.Machine
end

