-- ==== Sys2Proof/Machine/Claims.lean ====
section
/-! DEFINITION. Machine/Claims.lean: the checks of Table 15-6 on bed-store accesses (R847, R848, R855), and how a refusal
is recorded in the claim table page of the region that holds the line. -/

namespace Sys2Proof.Machine

open Sys2Proof

/-! ## Claim entries -/

/-- The claim covers a byte range of a region's bed store. -/
def ClaimEnt.covers (c : ClaimEnt) (r a n : Nat) : Bool :=
  c.kind == 1 && c.region == r && c.base ≤ a && a + n ≤ c.base + c.len

/-- The claim's range and a byte range meet. -/
def ClaimEnt.meets (c : ClaimEnt) (r a n : Nat) : Bool :=
  c.kind == 1 && c.region == r && a < c.base + c.len && c.base < a + n

/-- Jobs whose claims are in force, ascending. -/
def claimJobs (s : State) : List Nat := (s.host.jobs.filter (fun x => x.2.installed)).map (·.1)

/-- The claims in force, with their jobs. -/
def liveClaims (s : State) : List (Nat × ClaimEnt) :=
  (claimJobs s).flatMap (fun j => (s.job j).claims.map (fun c => (j, c)))

/-- A claim of the job covers the range with a right. -/
def jobClaims (s : State) (j r a n right : Nat) : Bool :=
  (s.job j).installed && (s.job j).claims.any (fun c => c.covers r a n && c.right right)

/-- A LINK claim of the job names the link. -/
def jobClaimsLink (s : State) (j k : Nat) : Bool :=
  (s.job j).installed && (s.job j).claims.any (fun c => c.kind == 2 && c.link == k)

/-! ## Partitions -/

def Part.meets (p : Part) (r a n : Nat) : Bool := p.region == r && a < p.base + p.len && p.base < a + n

/-- The partitions a range meets. -/
def partsAt (s : State) (r a n : Nat) : List Part := (s.wb.parts.map (·.2)).filter (fun p => p.meets r a n)

/-- Every partition the range meets is named by a claim of the confidential job (R855). -/
def jobHasParts (s : State) (j r a n : Nat) : Bool :=
  (partsAt s r a n).all (fun p => (s.job j).confidential &&
    (s.job j).claims.any (fun c => c.kind == 1 && c.right 6 && c.region == p.region && c.base == p.base && c.len == p.len))

/-- The range meets an EXCLUSIVE claim in force. -/
def exclusiveAt (s : State) (r a n : Nat) : Bool := (liveClaims s).any (fun x => x.2.right 5 && x.2.meets r a n)

/-! ## Requesters -/

/-- A bed access of a face (Table 15-6, rows 1 to 4). -/
def faceMay (s : State) (g r a n right : Nat) : Bool :=
  match (s.faceAt g).owner with
  | .job j => jobClaims s j r a n right && jobHasParts s j r a n
  | _ => (partsAt s r a n).isEmpty && !exclusiveAt s r a n

/-- A host aperture access (row 5); `right` is 3 for a read and 4 for a write. -/
def hostMay (s : State) (r a n right : Nat) : Bool :=
  let inside := (liveClaims s).filter (fun x => x.2.meets r a n)
  if inside.isEmpty then (partsAt s r a n).isEmpty
  else inside.all (fun x => x.2.right right) && (partsAt s r a n).isEmpty

/-- A COPY into another face's SRAM (row 7): within one cut, or within one chain, or into an unowned face. -/
def copyMay (s : State) (g d : Nat) : Bool :=
  match (s.faceAt g).owner with
  | .job j => (s.job j).cut.any (fun c => c.face == d)
  | .stage c _ =>
    (match (s.faceAt d).owner with
      | .stage c' _ => c' == c
      | .none => true
      | .job _ => false)
  | .none => (s.faceAt d).owner == .none

/-- A refused access is recorded (R848): code CONFIDENTIAL (0x21) inside a partition, else CLAIM_DENIED (0x20); DENIED
(bit 0) or CONFIDENTIAL (bit 1) is raised. -/
def denyBed (s : State) (r a n : Nat) (src : Src) : State :=
  let conf := !(partsAt s r a n).isEmpty
  let s := recordErr s (claimPg r) (if conf then 0x21 else 0x20) src 3 (a / 64 * 64)
  raise s (claimPg r) (if conf then 1 else 0)

end Sys2Proof.Machine
end

