-- ==== Sys2Proof/Machine/AditCore.lean ====
section
/-! DEFINITION. Machine/AditCore.lean: how a hoist transfer fails (R665), how remote operations end, and what becomes of a
link that fails, leaves Run or loses its keys (R772, R781, R783, R787, R788). -/

namespace Sys2Proof.Machine

open Sys2Proof

/-! ## Transfers and remote operations that end -/

/-- A transfer fails (R665): XFER_FAIL, LAST_FAIL, FAIL_DESC, FAILED and XFER_ERR (bit 0). -/
def xferFail (s : State) (g op desc status space addr : Nat) : State :=
  let pg := hoistPg g
  let s := setF s pg HOIST_LAST_FAIL_STATUS status
  let s := setF s pg HOIST_LAST_FAIL_OP op
  let s := setF s pg HOIST_FAIL_DESC_ADDR desc
  let s := addF s pg HOIST_XFER_COUNT_FAILED 1
  raise (recordErr s pg 0x41 .block space addr) pg 0

/-- The issue of a remote operation. -/
def remIssue (s : State) (o : RemOp) : Option Issued := (s.faceAt o.g).issue? o.recId

/-- A remote operation leaves the link's list. -/
def dropRem (s : State) (k : Nat) (o : RemOp) : State :=
  s.updLink k (fun l => { l with ops := l.ops.filter (·.id != o.id) })

/-- A remote operation completes with a status other than OK: a COPY's MOV completes with it, a signal acts under R692
and R693. -/
def remFail (s : State) (k : Nat) (o : RemOp) (status : Nat) : State :=
  let s := dropRem s k o
  match remIssue s o with
  | none => s
  | some i =>
    if i.record.family = 2 then
      xferFail (s.updFace o.g (fun f => f.setIssue o.recId .done)) o.g 5 o.desc status 4 o.dst
    else syncFail s o.g o.recId status

/-- One packet of a remote operation is answered; the last answer completes it. -/
def remAnswer (s : State) (k : Nat) (o : RemOp) (status : Nat) : State :=
  if status != 0 then remFail s k o status
  else if o.left ≤ 1 then (dropRem s k o).updFace o.g (fun f => f.setIssue o.recId .done)
  else s.updLink k (fun l => { l with ops := l.ops.map (fun x => if x.id = o.id then { x with left := o.left - 1 } else x) })

/-- Every remote operation that satisfies `p` fails. -/
def failRems (s : State) (k : Nat) (p : RemOp → Bool) (status : Nat) : State :=
  ((s.link k).ops.filter p).foldl (fun s o => remFail s k o status) s

/-! ## The link goes -/

/-- A swap in progress ends without an exchange of roles (R753, R772). -/
def endSwap (s : State) (k : Nat) : State :=
  setF (s.updLink k (fun l => { l with swap := none })) (aditPg k) ADIT_ROLE_CMD_BUSY 0

/-- The link's queues, sequence numbers and trainings begin anew; frames on the wire, the job table and the cut tags
stay. -/
def clearLink (l : LinkSt) : LinkSt :=
  { LinkSt.reset with out := l.out, jobs := l.jobs, cut := l.cut, nextOp := l.nextOp, ctr := l.ctr }

/-- The link enters FAILED (R781): LINK_FAILED (bit 2); every tabled job receives LINK_LOST with the AL number, its
operations in flight complete with ROUTE_LOST, later ones with DEAD_TARGET. -/
def linkFailed (s : State) (k : Nat) : State :=
  let s := endSwap (setLinkState s k 5) k
  let s := setF s (aditPg k) ADIT_LINK_STATE_LANES 0
  let s := s.updLink k (fun l => { l with cut := l.jobs.map (·.2.1) })
  let s := raise s (aditPg k) 2
  let s := ((s.link k).jobs.map (·.2.2)).foldl (fun s j => jobStop s j 0x14 k 0xFFFF) s
  let s := failRems s k (fun _ => true) 4
  reselectTime (s.updLink k (fun l => { clearLink l with retry := true }))

/-- The link goes DOWN, or UNPROVISIONED (`st` 0 or 6): its operations complete with DEAD_TARGET and its job table is
empty; a swap ends with SWAP_FAIL (R772). -/
def linkDown (s : State) (k st : Nat) : State :=
  let s := if (s.link k).swap.isSome then raise s (aditPg k) 5 else s
  let s := endSwap (setLinkState s k st) k
  let s := setF s (aditPg k) ADIT_LINK_STATE_LANES 0
  let s := failRems s k (fun _ => true) 3
  let s := s.updLink k (fun l => { clearLink l with jobs := [], cut := [], ctr := [] })
  reselectTime (setF s (aditPg k) ADIT_JOBS_IN_USE 0)

/-- The module holds link keys: it is provisioned, and no erase has taken them (R783, Table 15-10). -/
def provisioned (s : State) : Bool :=
  s.wb.provisioned && (match s.wb.erase with | some e => !e.keysGone | none => true)

/-- A training attempt fails (R742). -/
def trainFail (s : State) (k : Nat) : State :=
  let s := addF s (aditPg k) ADIT_TRAIN_TRAIN_FAILS 1
  (setF s (aditPg k) ADIT_LINK_STATE_LANES 0).updLink k (fun l => { l with retry := true })

end Sys2Proof.Machine
end

