-- ==== Sys2Proof/Machine/Sensor.lean ====
section
/-! DEFINITION. Machine/Sensor.lean: the sensor ports (05_sensor_ports.md): port frames and their blocks, history and
delivery, camera frames, calibration, stream faults, head supply and camera control. -/

namespace Sys2Proof.Machine

open Sys2Proof

/-! ## Parts -/

def State.sensor (s : State) (p : Nat) : SensorSt := tget SensorSt.reset s.sensors p
def State.updSensor (s : State) (p : Nat) (f : SensorSt → SensorSt) : State :=
  { s with sensors := tset SensorSt.reset s.sensors p (f (s.sensor p)) }
def State.stream (s : State) (p k : Nat) : StreamSt := tget StreamSt.reset (s.sensor p).streams k
def State.updStream (s : State) (p k : Nat) (f : StreamSt → StreamSt) : State :=
  s.updSensor p (fun x => { x with streams := tset StreamSt.reset x.streams k (f (s.stream p k)) })
def State.listener (s : State) (p : Nat) : ListenerSt := tget ListenerSt.reset s.listeners p
def State.updListener (s : State) (p : Nat) (f : ListenerSt → ListenerSt) : State :=
  { s with listeners := tset ListenerSt.reset s.listeners p (f (s.listener p)) }
def State.source (s : State) (p k : Nat) : SrcSt := tget SrcSt.reset (s.listener p).srcs k
def State.updSource (s : State) (p k : Nat) (f : SrcSt → SrcSt) : State :=
  s.updListener p (fun x => { x with srcs := tset SrcSt.reset x.srcs k (f (s.source p k)) })

/-- A port register; a register of stream slot `k`. -/
def portF (s : State) (p : Nat) (f : Fld) : Nat := getF s (sensorPg p) f
def strF (s : State) (p k : Nat) (f : Fld) : Nat := getF s (sensorPg p) (f.ix k)
def setStr (s : State) (p k : Nat) (f : Fld) (v : Nat) : State := setF s (sensorPg p) (f.ix k) v

def portOn (s : State) (p : Nat) : Bool := p < 6 && s.carrier.vaon == .up && flagF s (sensorPg p) STATUS_ENABLED
def listenerOn (s : State) (p : Nat) : Bool :=
  p < 6 && s.carrier.vaon == .up && flagF s (listenerPg p) STATUS_ENABLED

def isMic (k : Nat) : Bool := k < 8
def isCamera (k : Nat) : Bool := 12 ≤ k

/-- The sample rate of a slot in kHz: a contact stream always runs at 48 kHz (R270). -/
def slotKhz (s : State) (p k : Nat) : Nat := if isMic k && portF s p SENSOR_PORT_CFG_PDM_RATE = 1 then 16 else 48

/-- Samples of a block (R270). -/
def blockSamples (s : State) (p k : Nat) : Nat := slotKhz s p k

/-- Payload bytes of a block: S16 or S24 sign-extended to 32 bits (R271). -/
def blockBytes (s : State) (p k : Nat) (format : Nat) : Nat := blockSamples s p k * (if format = 0 then 2 else 4)

def roundUp64 (n : Nat) : Nat := (n + 63) / 64 * 64

/-- Bytes of a record (R277) with the stream's configuration, and of a block's own record. -/
def recordBytes (s : State) (p k : Nat) : Nat := roundUp64 (32 + blockBytes s p k (strF s p k SENSOR_S_CFG_FORMAT))
def HBlock.size (b : HBlock) : Nat := roundUp64 (32 + b.payload.length)

/-- History depth of a stream in blocks (R273). -/
def histDepth (s : State) (p k : Nat) : Nat := strF s p k SENSOR_S_HIST_FRAMES + 4

/-- Bytes of history that the page's streams need, with the values `en` and `format` give (R273, R293). -/
def histBytes (s : State) (p : Nat) (en format : Nat → Nat) : Nat :=
  ((List.range 12).map (fun k => if en k = 1 then histDepth s p k * roundUp64 (blockBytes s p k (format k)) else 0)).foldl
    (· + ·) 0

/-- HIST_USED.KIB. -/
def histUsed (s : State) (p : Nat) : Nat :=
  (histBytes s p (fun k => strF s p k SENSOR_S_CFG_EN) (fun k => strF s p k SENSOR_S_CFG_FORMAT) + 1023) / 1024

/-- An enable is refused because history would exceed 512 KiB (R293): the shadow values apply at the enable. -/
def histOver (s : State) (p : Nat) : Bool :=
  let sh (f : Fld) (k : Nat) := getShadow s (sensorPg p) (f.ix k)
  524288 < histBytes s p (sh SENSOR_S_CFG_EN) (sh SENSOR_S_CFG_FORMAT)

/-! ## Delivery (R275 to R281, R299) -/

/-- A stream is deliverable (R275). -/
def deliverable (s : State) (p k : Nat) : Bool :=
  portOn s p && inRun s (sensorRegion p) && strF s p k SENSOR_S_STATUS_ACTIVE = 1 && strF s p k SENSOR_S_CFG_EN = 1
    && strF s p k SENSOR_S_CFG_TO_ROAD = 1

/-- Every held block counts as delivered but the newest FRAMES, which are to carry HIST (R276). -/
def replay (frames : Nat) (x : StreamSt) : StreamSt :=
  let n := x.hist.length
  { x with hist := (x.hist.zipIdx).map (fun b => { b.1 with delivered := b.2 + frames < n, hist := true }) }

/-- The destination can be reached: backed, in Run, routed, and not owned by a confidential job (R299, Table 15-6). -/
def destOk (s : State) (p g : Nat) : Bool :=
  backed s g && inRun s (faceRegion g) && !(s.faceAt g).confidential && !(s.faceAt g).dead
    && route s (sensorRegion p) (faceRegion g) != HOP_DEAD

/-- Data for face SRAM: the crossbar of the port's own region takes it at once, a packet carries it to another region. -/
def portSend (s : State) (p k n g : Nat) (d : Load) : State :=
  let r := sensorRegion p
  if faceRegion g = r then writeLoad s g d
  else inject s ⟨1, r, faceRegion g, r, getF s wbPg WB_EPOCH, .toFace (.port p k n) g d⟩

/-- A delivery of `bytes` begins. -/
def beginFlight (s : State) (p k : Nat) (v : Delivery) (addr : Nat) (bytes : List Nat) : State :=
  let ok := destOk s p v.face
  let fl : Flight := if !ok then .unsent else if faceRegion v.face = sensorRegion p then .landed else .moving
  let s := s.updStream p k (fun x => { x with busy := some { v with flight := fl } })
  if ok then portSend s p k v.frame v.face ⟨addr, bytes, []⟩ else s

/-- The counter that SYNC_EN names (R281). -/
def syncOf (s : State) (p k : Nat) : Option Nat :=
  if strF s p k SENSOR_S_DEST_SYNC_EN = 1 then some (strF s p k SENSOR_S_DEST_SYNC_IDX) else none

/-- The header of Table 5-2. -/
def recordHeader (stream flags bytes seq time gain count lineBytes : Nat) : List Nat :=
  [stream, flags, 0, 0] ++ leBytes 4 bytes ++ leBytes 8 seq ++ leBytes 8 time ++ leBytes 2 gain ++ leBytes 2 count
    ++ leBytes 2 lineBytes ++ [0, 0]

/-- The record of a block goes to the ring of its destination face (R277, R278). -/
def sendRecord (s : State) (p k : Nat) (b : HBlock) : State :=
  let x := s.stream p k
  let pos := if x.ringPos + b.size ≤ strF s p k SENSOR_S_RING_LEN_LEN * 64 then x.ringPos else 0
  let flags := x.gap.toNat + b.hist.toNat * 2 + b.fault.toNat * 4 + b.changed.toNat * 8
  let bytes := recordHeader (16 * p + k) flags b.payload.length b.frame (b.frame * 24576) b.gain b.count 0 ++ b.payload
  beginFlight s p k ⟨b.frame, strF s p k SENSOR_S_DEST_FACE, syncOf s p k, pos + b.size, .unsent⟩
    (strF s p k SENSOR_S_RING_BASE_BASE * 64 + pos) (bytes ++ List.replicate (b.size - bytes.length) 0)

/-- Begin the next delivery, unless one is in progress or the destination is dead; `again` retries (R299). -/
def beginDelivery (s : State) (p k : Nat) (again : Bool) : State :=
  let x := s.stream p k
  match x.hist.find? (!·.delivered) with
  | some b =>
    if x.deliv && x.busy.isNone && !isCamera k && (again || strF s p k SENSOR_S_STATUS_DEST_DEAD = 0) then sendRecord s p k b
    else s
  | none => s

/-- The delivery in progress ends without a record: a loss it saw marks the next one (R297). -/
def endDelivery (x : StreamSt) : StreamSt := { x with busy := none, gap := x.gap || x.gapNext, gapNext := false }

/-- Look whether a stream has become or is no longer deliverable (R276, R310). A transfer that has begun completes, and a
closed camera frame gets its header, unless the region has left Run (R300, R303). -/
def lookDeliverable (s : State) (p k : Nat) : State :=
  let now := deliverable s p k
  let x := s.stream p k
  if now && !x.deliv then
    beginDelivery (s.updStream p k (fun x => replay (strF s p k SENSOR_S_HIST_FRAMES) { x with deliv := true })) p k false
  else if !now && x.deliv then
    s.updStream p k (fun x =>
      let x := { x with deliv := false, cam := x.cam.map (fun c => { c with room := 0 }) }
      if inRun s (sensorRegion p) then x else endDelivery { x with closing := [] })
  else s

/-- Every stream of a port. -/
def eachStream (f : State → Nat → State) (s : State) : State := (List.range 16).foldl f s

/-- The port's region has entered or left Run. -/
def sensorLook (s : State) (p : Nat) : State := eachStream (fun s k => lookDeliverable s p k) s

/-- A delivery completes with DEAD_TARGET or ROUTE_LOST (R299). -/
def deliveryDead (s : State) (p k : Nat) : State :=
  raise (addF (setStr s p k SENSOR_S_STATUS_DEST_DEAD 1) (sensorPg p) (SENSOR_S_DROP_DEAD.ix k) 1) (sensorPg p) 4

/-- A delivery succeeds: DEST_DEAD clears, and R276 applies when it was set. -/
def deliveryOk (s : State) (p k : Nat) : State :=
  if strF s p k SENSOR_S_STATUS_DEST_DEAD = 1 then
    (setStr s p k SENSOR_S_STATUS_DEST_DEAD 0).updStream p k (replay (strF s p k SENSOR_S_HIST_FRAMES))
  else s

/-- The counter add of R281 on class 1. -/
def portSignal (s : State) (p g : Nat) (obj : Option Nat) : State :=
  match obj with
  | some o => sendOp s 1 (sensorRegion p) (faceRegion g) ⟨o, .add, 1, .sensor p, 0⟩
  | none => s

/-- Mark the block of a port frame delivered. -/
def markDelivered (frame : Nat) (x : StreamSt) : StreamSt :=
  { x with hist := x.hist.map (fun b => if b.frame = frame then { b with delivered := true } else b) }

/-- The record has been written: the block counts as delivered, and the counter add follows (R281). -/
def recordDone (s : State) (p k : Nat) (v : Delivery) : State :=
  let s := s.updStream p k (fun x => { x with ringPos := v.next, gap := x.gapNext, gapNext := false, busy := none })
  let s := deliveryOk (setF s (sensorPg p) (SENSOR_S_SEQ.ix k) v.frame) p k
  portSignal (s.updStream p k (markDelivered v.frame)) p v.face v.sync

/-- The delivery in progress ends; after a record the next one begins. -/
def recordEnds (s : State) (p k : Nat) : State :=
  match (s.stream p k).busy with
  | none => s
  | some v =>
    if v.flight = .landed then beginDelivery (recordDone s p k v) p k false
    else (deliveryDead s p k).updStream p k endDelivery

/-- The delivery in progress is not on the haul road any more. -/
def arrivedOrLost (s : State) (p k : Nat) : Bool :=
  match (s.stream p k).busy with
  | some v => v.flight != .moving
  | none => false

def execRecordWritten (p slot : Nat) (s : State) : Host.Outcome State Fault Refusal :=
  guardDo (p < 6 && !isCamera slot && arrivedOrLost s p slot) (fun s => recordEnds s p slot) s

/-! ## Faults (Table 5-6) -/

def F_CONFIG : Nat := 7
def F_HEAD_OFF : Nat := 6

/-- A source of the listener had FAULT set, or a block that carries GAIN_CHANGED, in this hop (R323, R347, R352). -/
def markSource (s : State) (p k : Nat) (fault changed : Bool) : State :=
  if listenerOn s p && (fault || changed) then
    s.updSource p k (fun x => { x with fault := x.fault || fault, changed := x.changed || changed })
  else s

/-- A fault is declared. A camera stream delivers nothing more (R304). -/
def declareFault (s : State) (p k code : Nat) : State :=
  let s := setStr s p k SENSOR_S_STATUS_FAULT code
  let s := s.updStream p k (fun x =>
    let x := { x with calFault := true, lastWhole := x.lastWhole && code != 4 }
    if isCamera k then { x with cam := x.cam.map (fun c => { c with room := 0 }), closing := [], busy := none } else x)
  raise (markSource s p k true false) (sensorPg p) 1

def clearFault (s : State) (p k : Nat) : State :=
  raise (setStr s p k SENSOR_S_STATUS_FAULT 0) (sensorPg p) 2

def headOk (s : State) (p : Nat) : Bool := portF s p SENSOR_PORT_STATUS_HEAD_OK == 1

/-- With the head supply off, an active stream without a fault takes HEAD_OFF. -/
def headFault (s : State) (p k : Nat) : State :=
  if !headOk s p && strF s p k SENSOR_S_STATUS_ACTIVE = 1 && strF s p k SENSOR_S_STATUS_FAULT = 0
  then declareFault s p k F_HEAD_OFF else s

def headFaults (s : State) (p : Nat) : State := eachStream (fun s k => headFault s p k) s

/-- Which faults a stream slot can show, with what the port itself sees of them. -/
def faultFits (s : State) (p k code : Nat) : Bool :=
  match code with
  | 1 => isMic k
  | 2 => isMic k
  | 3 => 8 ≤ k && k < 12
  | 4 => isCamera k
  | 5 => isCamera k && !(s.stream p k).lastData
  | 6 => !headOk s p
  | _ => false

def execStreamFault (p slot code : Nat) (s : State) : Host.Outcome State Fault Refusal :=
  guardDo (portOn s p && slot < 16 && strF s p slot SENSOR_S_STATUS_ACTIVE = 1 && strF s p slot SENSOR_S_STATUS_FAULT = 0
      && faultFits s p slot code)
    (fun s => declareFault s p slot code) s

/-- The clearing condition of a fault holds, as far as the port sees it. -/
def clearFits (s : State) (p k : Nat) : Bool :=
  match strF s p k SENSOR_S_STATUS_FAULT with
  | 0 => false
  | 4 => (s.stream p k).lastWhole
  | 5 => (s.stream p k).lastData
  | 6 => headOk s p
  | 7 => false
  | _ => true

def execStreamClear (p slot : Nat) (s : State) : Host.Outcome State Fault Refusal :=
  guardDo (portOn s p && slot < 16 && clearFits s p slot) (fun s => clearFault s p slot) s

/-! ## Commits (R294 to R296) -/

/-- Shadowed fields of a stream entry. -/
def streamFields : List Fld :=
  [SENSOR_S_CFG_EN, SENSOR_S_CFG_FORMAT, SENSOR_S_CFG_SRC, SENSOR_S_CFG_TO_LISTENER, SENSOR_S_CFG_TO_ROAD,
   SENSOR_S_CFG_DT, SENSOR_S_DEST_FACE, SENSOR_S_DEST_SYNC_IDX, SENSOR_S_DEST_SYNC_EN, SENSOR_S_RING_BASE_BASE,
   SENSOR_S_RING_LEN_LEN, SENSOR_S_GAIN_SET, SENSOR_S_CAMSLOT_SLOT]

/-- The ring of a stream is not valid (R294): it ends beyond 4 MiB, is shorter than a record or slot, or its camera
slot is shorter than 64 bytes plus a line of the last frame seen. -/
def ringBad (s : State) (p k : Nat) : Bool :=
  let len := strF s p k SENSOR_S_RING_LEN_LEN * 64
  let slot := strF s p k SENSOR_S_CAMSLOT_SLOT * 64
  0x400000 < strF s p k SENSOR_S_RING_BASE_BASE * 64 + len ||
    (if isCamera k then len < slot || slot < 64 + max 1 (strF s p k SENSOR_S_CAMSEEN_LINE_BYTES)
     else len < recordBytes s p k)

/-- A stream stays inactive with FAULT = CONFIG. -/
def configFault (s : State) (p k : Nat) : State :=
  let s := setStr s p k SENSOR_S_STATUS_ACTIVE 0
  if strF s p k SENSOR_S_STATUS_FAULT = F_CONFIG then s else declareFault s p k F_CONFIG

/-- A stream whose configuration is valid is active; CONFIG clears, and without the head supply it takes HEAD_OFF. -/
def configOk (s : State) (p k : Nat) : State :=
  let s := if strF s p k SENSOR_S_STATUS_ACTIVE = 1 then s
    else (setStr s p k SENSOR_S_STATUS_ACTIVE 1).updStream p k (fun x => { x with ringPos := 0, camSeq := 0, camSlot := 0 })
  headFault (if strF s p k SENSOR_S_STATUS_FAULT = F_CONFIG then clearFault s p k else s) p k

/-- A stream's configuration has taken effect (R294, R295, Table 5-6). -/
def judgeStream (s : State) (p k : Nat) : State :=
  let ring := ringBad s p k
  let face := strF s p k SENSOR_S_DEST_FACE
  let s :=
    if strF s p k SENSOR_S_CFG_EN = 0 then setStr (setStr s p k SENSOR_S_STATUS_ACTIVE 0) p k SENSOR_S_STATUS_FAULT 0
    else
      let s := if ring then recordErr s (sensorPg p) 0x41 .block 15 0 else s
      let s := if faceAssigned face then s else recordErr s (sensorPg p) 0x42 .block 4 face
      if ring || !faceAssigned face then configFault s p k else configOk s p k
  lookDeliverable s p k

/-- A stream takes the values of a commit, or of the page's enable; none is left for a Frame Start. -/
def takeStream (s : State) (p k : Nat) : State := judgeStream (s.updStream p k (fun x => { x with held := none })) p k

/-- A camera stream whose frame is in progress keeps its old values until its next Frame Start (R296). -/
def holdStream (old : State) (s : State) (p k : Nat) : State :=
  let pg := sensorPg p
  let news := streamFields.map (fun f => getF s pg (f.ix k))
  let s := streamFields.foldl (fun s f => setF s pg (f.ix k) (getF old pg (f.ix k))) s
  let s := (streamFields.zip news).foldl (fun s x => setShadow s pg (x.1.ix k) x.2) s
  s.updStream p k (fun x => { x with held := some news })

/-- A commit of the port page. -/
def sensorCommit (s : State) (p : Nat) : State :=
  let t := commitPage s (sensorPg p)
  eachStream (fun t k => if (s.stream p k).cam.isSome then holdStream s t p k else takeStream t p k) t

/-- The port starts: its shadows have been copied (R210). -/
def sensorStarts (s : State) (p : Nat) : State :=
  let s := s.updSensor p (fun x => { x with calFrom := x.frame })
  eachStream (fun s k => takeStream (s.updStream p k (fun x => { x with
    cal := BandSum.reset, calCount := 0, calFault := false })) p k) s

/-! ## Camera frames (R265, R266, R279, R280, R302) -/

/-- A closed frame's pixels have all been written: its header goes to slot offset 0 (R279). -/
def headerDue (s : State) (p k : Nat) : State :=
  match (s.stream p k).closing with
  | [] => s
  | c :: _ =>
    if isCamera k && (s.stream p k).busy.isNone && !s.road.packets.any (fun q => q.ofPort p k) then
      let flags := c.gap.toNat + c.trunc.toNat * 16 + c.crc.toNat * 32
      beginFlight s p k ⟨c.seq, c.face, c.sync, 0, .unsent⟩ c.base
        (recordHeader (16 * p + k) flags c.fill c.seq c.tick 0 c.lines c.lineBytes ++ List.replicate 32 0)
    else s

/-- A camera frame closes: its header is to be written when its pixels are (R279). -/
def closeFrame (s : State) (p k : Nat) (trunc whole : Bool) : State :=
  match (s.stream p k).cam with
  | none => s
  | some c =>
    let s := setStr s p k SENSOR_S_CAMSEEN_LINE_BYTES c.lineBytes
    let s := setStr s p k SENSOR_S_CAMSEEN_LINES c.lines
    headerDue (s.updStream p k (fun x =>
      let x := { x with cam := none, lastWhole := x.lastWhole || whole, lastData := c.sawData }
      if c.room = 0 then { x with gap := x.gap || c.gap }
      else { x with closing := x.closing ++ [{ c with trunc := c.trunc || trunc }], camSlot := x.camSlot + 1 })) p k

/-- Apply the values a commit left for the next Frame Start (R296). -/
def applyHeld (s : State) (p k : Nat) : State :=
  match (s.stream p k).held with
  | none => s
  | some vs =>
    let pg := sensorPg p
    let shadows := streamFields.map (fun f => getShadow s pg (f.ix k))
    let s := (streamFields.zip vs).foldl (fun s x => setF s pg (x.1.ix k) x.2) s
    let s := (streamFields.zip shadows).foldl (fun s x => setShadow s pg (x.1.ix k) x.2) s
    takeStream s p k

/-- A Frame Start on a virtual channel. -/
def frameStarts (s : State) (p k : Nat) : State :=
  let s := applyHeld (closeFrame s p k true false) p k
  if strF s p k SENSOR_S_STATUS_ACTIVE = 0 then s
  else
    let x := s.stream p k
    let slot := strF s p k SENSOR_S_CAMSLOT_SLOT
    let slots := strF s p k SENSOR_S_RING_LEN_LEN / slot
    let live := x.deliv && strF s p k SENSOR_S_STATUS_FAULT = 0
    let c : CamFrame := {
      face := strF s p k SENSOR_S_DEST_FACE
      base := strF s p k SENSOR_S_RING_BASE_BASE * 64 + x.camSlot % slots * (slot * 64)
      room := if live then slot * 64 else 0
      seq := x.camSeq + 1, tick := s.time, lines := 0, lineBytes := 0, fill := 0, sawData := false, crc := false
      trunc := false, gap := live && x.gap, sync := syncOf s p k }
    s.updStream p k (fun x => { x with cam := some c, camSeq := x.camSeq + 1, gap := x.gap && !live })

def csiOn (s : State) (p vc : Nat) : Bool := portOn s p && portF s p SENSOR_PORT_CFG_CSI_EN == 1 && vc < 4

def execFrameStart (p vc : Nat) (s : State) : Host.Outcome State Fault Refusal :=
  guardDo (csiOn s p vc) (fun s => frameStarts s p (12 + vc)) s

def execFrameEnd (p vc : Nat) (s : State) : Host.Outcome State Fault Refusal :=
  guardDo (csiOn s p vc && (s.stream p (12 + vc)).cam.isSome) (fun s => closeFrame s p (12 + vc) false true) s

/-- Unpack RAW10: four pixels in five bytes, the fifth holding the low bits (CSI-2 packing, PRESUMED). -/
def unpack10 : List Nat → List Nat
  | a :: b :: c :: d :: e :: l =>
    (leBytes 2 (a * 4 + bits e 0 2) ++ leBytes 2 (b * 4 + bits e 2 2) ++ leBytes 2 (c * 4 + bits e 4 2)
      ++ leBytes 2 (d * 4 + bits e 6 2)) ++ unpack10 l
  | _ => []

/-- Unpack RAW12: two pixels in three bytes, the third holding the low bits (CSI-2 packing, PRESUMED). -/
def unpack12 : List Nat → List Nat
  | a :: b :: c :: l => (leBytes 2 (a * 16 + bits c 0 4) ++ leBytes 2 (b * 16 + bits c 4 4)) ++ unpack12 l
  | _ => []

/-- The bytes stored of a line (R280), at most the 65,535 of Table 5-5. -/
def storedLine (format dt : Nat) (bs : List Nat) : List Nat :=
  (if format = 1 ∧ dt = 0x2B then unpack10 bs else if format = 1 ∧ dt = 0x2C then unpack12 bs else bs).take 65535

/-- A camera frame is abandoned (R298, R299): nothing of it is written any more. -/
def abandonFrame (s : State) (p k : Nat) : State :=
  s.updStream p k (fun x => { x with gap := true, cam := x.cam.map (fun c => { c with room := 0, gap := true }) })

/-- Pixels of frame `n` go to the face, in packets of at most 256 bytes (R28). -/
def sendPixels (s : State) (p k n g addr : Nat) (bs : List Nat) : State :=
  (packets (bs.length + 1) 0 bs.length).foldl (fun s c => portSend s p k n g ⟨addr + c.1, (bs.drop c.1).take c.2, []⟩) s

/-- A line of the accepted data type: its pixels are written into the frame's slot. -/
def takeLine (s : State) (p k : Nat) (c : CamFrame) (pkt : CsiPacket) : State :=
  let bs := storedLine (strF s p k SENSOR_S_CFG_FORMAT) pkt.dt pkt.payload
  let fit := bs.take (c.room - 64 - c.fill)
  let c := { c with
    sawData := true, lines := c.lines + 1, lineBytes := bs.length, crc := c.crc || !pkt.crcOk }
  if c.room = 0 then s.updStream p k (fun x => { x with cam := some c })
  else if pkt.overrun then
    let s := abandonFrame (s.updStream p k (fun x => { x with cam := some c })) p k
    raise (addF s (sensorPg p) (SENSOR_S_DROP_AGED.ix k) 1) (sensorPg p) 3
  else if !destOk s p c.face then deliveryDead (abandonFrame (s.updStream p k (fun x => { x with cam := some c })) p k) p k
  else
    sendPixels (s.updStream p k (fun x => { x with
      cam := some { c with fill := c.fill + fit.length, trunc := c.trunc || fit.length < bs.length } }))
      p k c.seq c.face (c.base + 64 + c.fill) fit

/-- A long packet arrives (R265, R266, R306). -/
def longPacket (s : State) (p vc : Nat) (pkt : CsiPacket) : State :=
  let pg := sensorPg p
  if !pkt.headerOk then raise (addF s pg SENSOR_CSI_ERR_HDR 1) pg 5
  else
    let s := if pkt.crcOk then s else raise (addF s pg SENSOR_CSI_ERR_CRC 1) pg 5
    match (s.stream p (12 + vc)).cam with
    | some c => if pkt.dt = strF s p (12 + vc) SENSOR_S_CFG_DT then takeLine s p (12 + vc) c pkt else s
    | none => s

/-- A long packet holds at most 65,535 bytes (Table 5-5). -/
def execCsiLongPacket (p vc : Nat) (pkt : CsiPacket) (s : State) : Host.Outcome State Fault Refusal :=
  guardDo (csiOn s p vc && pkt.payload.length < 65536) (fun s => longPacket s p vc pkt) s

/-- A frame's header has been written: DEST_DEAD clears, and the counter add follows (R281). -/
def frameDone (s : State) (p k : Nat) (v : Delivery) : State :=
  portSignal (setStr (setF s (sensorPg p) (SENSOR_S_SEQ.ix k) v.frame) p k SENSOR_S_STATUS_DEST_DEAD 0) p v.face v.sync

/-- The delivery of the oldest closed frame's header ends (R279, R281, R299). -/
def frameWritten (s : State) (p k : Nat) : State :=
  match (s.stream p k).busy with
  | none => s
  | some v =>
    let s := s.updStream p k (fun x => { x with closing := x.closing.drop 1, busy := none })
    headerDue (if v.flight = .landed then frameDone s p k v
      else deliveryDead (s.updStream p k (fun x => { x with gap := true })) p k) p k

def execCameraFrameWritten (p slot : Nat) (s : State) : Host.Outcome State Fault Refusal :=
  guardDo (p < 6 && isCamera slot && arrivedOrLost s p slot) (fun s => frameWritten s p slot) s

/-- A record, a header or pixels of a frame have arrived in face SRAM. -/
def portLanded (s : State) (p k n : Nat) : State :=
  headerDue (s.updStream p k (fun x => { x with
    busy := x.busy.map (fun v => if v.frame = n then { v with flight := .landed } else v) })) p k

/-- They do not arrive. A camera frame whose pixels are hit is abandoned without its header or counter add (R299). -/
def portLost (s : State) (p k n : Nat) : State :=
  let x := s.stream p k
  if x.busy.any (·.frame == n) then
    s.updStream p k (fun x => { x with busy := x.busy.map (fun v => { v with flight := .lost }) })
  else if x.cam.any (fun c => c.seq == n && c.room != 0) then headerDue (deliveryDead (abandonFrame s p k) p k) p k
  else if x.closing.any (·.seq == n) then
    headerDue (deliveryDead (s.updStream p k (fun x => { x with
      gap := true, closing := x.closing.filter (·.seq != n) })) p k) p k
  else s

/-! ## Samples (R261 to R263, R268, R270, R271, R282, R283) -/

def full24 (x : Int) : Int := clampTo (-8388608) 8388607 x

/-- The level of TDM_FS at bit clock `b` of a frame of 256, bit 0 the first of slot 0 (R263): in I²S framing the frame sync
is one bit clock ahead of the slots and high for slots 4 to 7; in pulse framing it is high for the clock before slot 0. -/
def tdmFs (fmt b : Nat) : Bool := if fmt = 0 then 127 ≤ b && b < 255 else b == 255

/-- The source of a slot is clocked. -/
def clocked (s : State) (p k : Nat) : Bool :=
  portF s p (if isMic k then SENSOR_PORT_CFG_PDM_EN else SENSOR_PORT_CFG_TDM_EN) == 1

/-- The PDM bits of a microphone slot: line n feeds slots 2n (rising) and 2n + 1 (falling edge) (R261). -/
def pdmBits (i : PortInput) (k : Nat) : List Bool :=
  let l := i.pdm.getD (k / 2) ⟨[], []⟩
  if k % 2 = 0 then l.rising else l.falling

/-- The first 24 of a TDM slot's 32 bits, MSB first, as a signed sample (R263). -/
def tdmSample (w : Nat) : Int := toSigned 24 (w / 256)

/-- `n` free values: the samples of a source that is not clocked. -/
def freeSamples (s : State) (n : Nat) : State × List Int :=
  (List.range n).foldl (fun x _ => let f := x.1.fresh; (f.1, x.2 ++ [toSigned 24 f.2])) (s, [])

/-- The 24-bit samples of a slot in the frame that ends: its decimator's, or those of the TDM slot its SRC names. -/
def rawSamples (s : State) (p k : Nat) (i : PortInput) : State × List Int :=
  let n := blockSamples s p k
  if !clocked s p k then freeSamples (s.updStream p k (fun x => { x with past := [] })) n
  else if isMic k then
    let bs := (s.stream p k).past ++ [pdmBits i k]
    (s.updStream p k (fun x => { x with past := bs.drop (bs.length - 2) }),
      (List.range n).map (fun j => full24 (Config.decimate (portF s p SENSOR_PORT_CFG_PDM_RATE) bs j)))
  else (s, (List.range n).map (fun j => tdmSample ((i.tdm.getD (strF s p k SENSOR_S_CFG_SRC) []).getD j 0)))

/-- First-order DC removal (R282) with coefficient `a`: the estimate afterwards and the samples less the estimate. -/
def removeDc (a : Nat) (est : Int) (xs : List Int) : Int × List Int :=
  xs.foldl (fun acc v =>
    let e := acc.1 + (a : Int) * (v * 65536 - acc.1) / 4294967296
    (e, acc.2 ++ [v - e / 65536])) (est, [])

/-- A gain of `g` in 0.005 dB is the factor 10^(g / 4000): `lhs ≤ rhs` says that it is at most `f` / 2^32. -/
def gainLhs (g : Int) : Nat := 2 ^ 128000 * 10 ^ g.toNat
def gainRhs (g : Int) (f : Nat) : Nat := f ^ 4000 * 10 ^ (-g).toNat

/-- The factor is within 0.005 dB of the gain (R283). -/
def gainFits (g : Int) (f : Nat) : Bool := gainLhs (g - 1) ≤ gainRhs (g - 1) f && gainRhs (g + 1) f ≤ gainLhs (g + 1)

/-- The largest factor that is at most the gain's. -/
def gainBelow (g : Int) : Nat → Nat → Nat
  | 0, f => f
  | k + 1, f => gainBelow g k (if gainRhs g (f + 2 ^ k) ≤ gainLhs g then f + 2 ^ k else f)

/-- The factor of a gain: one within 0.005 dB; a gain of 0 leaves the sample as it is. -/
def gainFactor (g : Int) : Nat :=
  if g = 0 then 4294967296
  else if gainFits g (Config.gainFactor g) then Config.gainFactor g else gainBelow g 37 0

/-- Apply a factor and saturate (R271, R283). -/
def applyGain (f : Nat) (v : Int) : Int :=
  let q := v * f / 4294967296
  full24 (if v * f % 4294967296 = 0 then q else if Config.gainUp v f then q + 1 else q)

/-- Bytes of a sample in FORMAT S16 (round half to even, saturate) or S24. -/
def sampleBytes (format : Nat) (v : Int) : List Nat :=
  if format = 0 then leBytes 2 (ofSigned 16 (clampTo (-32768) 32767 (rheDiv v 256))) else leBytes 4 (ofSigned 32 v)

/-- The gain of a stream in 0.005 dB (R283). -/
def streamGain (s : State) (p k : Nat) : Int :=
  2 * toSigned 16 (strF s p k SENSOR_S_GAIN_SET)
    + (if isMic k && portF s p SENSOR_CAL_CFG_GAIN_CAL_EN = 1 then (s.stream p k).calOff else 0)

/-- Samples through a band filter: its squared outputs are added up. -/
def bandRun (band khz : Nat) (x : BandSum) (vs : List Int) : BandSum :=
  vs.foldl (fun x v => ⟨Config.bandState band khz x.filt v,
    x.sum + (Config.bandOut band khz x.filt v * Config.bandOut band khz x.filt v).toNat⟩) x

/-- The listener of the island takes a stream's processed samples (R272, R314). -/
def hear (s : State) (p k : Nat) (vs : List Int) : State :=
  if listenerOn s p && strF s p k SENSOR_S_CFG_TO_LISTENER = 1 then
    let khz := slotKhz s p k
    s.updSource p k (fun x => { x with
      count := x.count + vs.length
      bands := (List.range 8).foldl (fun m b =>
        tset BandSum.reset m b (bandRun b khz (tget BandSum.reset m b) vs)) x.bands })
  else s

/-! ## Blocks (R270 to R274, R286, R297) -/

/-- A new block enters history; the oldest make room (R273, R297): an undelivered one is overwritten, unless its transfer
has begun, when the new block is discarded. Either loss marks the next block delivered; a record in progress carries the
flags it began with. -/
def pushBlock (s : State) (p k : Nat) (b : HBlock) : State :=
  let x := s.stream p k
  let out := x.hist.take (x.hist.length + 1 - histDepth s p k)
  let kept := x.hist.drop (x.hist.length + 1 - histDepth s p k)
  let lost := (out.filter (!·.delivered)).length
  let mark (x : StreamSt) : StreamSt := if x.busy.isSome then { x with gapNext := true } else { x with gap := true }
  let aged (s : State) (n : Nat) : State :=
    if x.deliv then raise (addF s (sensorPg p) (SENSOR_S_DROP_AGED.ix k) n) (sensorPg p) 3 else s
  if lost = 0 then s.updStream p k (fun x => { x with hist := kept ++ [b] })
  else if x.busy.isSome then aged (s.updStream p k (fun x => mark { x with hist := out.filter (!·.delivered) ++ kept })) 1
  else aged (s.updStream p k (fun x => mark { x with hist := kept ++ [b] })) lost

/-- RMS level of a block in 0.1 dBFS; that of a block of zeros is no number: a free value. -/
def setLevel (s : State) (p k : Nat) (vs : List Int) : State :=
  let power := (vs.map (fun v => (v * v).toNat)).foldl (· + ·) 0
  if power = 0 then let f := s.fresh; setF f.1 (sensorPg p) (SENSOR_S_LEVEL_DBFS.ix k) f.2
  else setF s (sensorPg p) (SENSOR_S_LEVEL_DBFS.ix k) (ofSigned 16 (db10 power (vs.length * 2 ^ 46)))

/-- DC removal of a block (R282): the samples after it; S_DC reports the estimate removed. -/
def blockDc (s : State) (p k : Nat) (xs : List Int) : State × List Int :=
  let hpf := portF s p SENSOR_CAL_CFG_HPF
  let y := if hpf = 0 then (0, xs)
    else removeDc (Config.dcAlpha (if hpf = 1 then 5 else 20) (slotKhz s p k)) (s.stream p k).dcEst xs
  (setF (s.updStream p k (fun x => { x with dcEst := y.1 })) (sensorPg p) (SENSOR_S_DC_DC.ix k) (ofSigned 24 (y.1 / 65536)),
    y.2)

/-- A calibrating microphone's band power grows by a block, taken before the gain (R284). -/
def blockCal (s : State) (p k : Nat) (ys : List Int) : State :=
  if isMic k && portF s p SENSOR_CAL_CFG_GAIN_CAL_EN = 1 then
    s.updStream p k (fun x => { x with cal := bandRun 8 (slotKhz s p k) x.cal ys, calCount := x.calCount + ys.length })
  else s

/-- The port forms a stream's block of the frame that ends (R270, R271, R286, R304). -/
def formBlock (s : State) (p k frame : Nat) (raw : List Int) : State :=
  let n := blockSamples s p k
  let fault := strF s p k SENSOR_S_STATUS_FAULT != 0
  let gain := streamGain s p k
  let changed := gain != (s.stream p k).gain
  let y := if fault then (s, List.replicate n 0) else blockDc s p k raw
  let vs := y.2.map (applyGain (gainFactor gain))
  let s := (blockCal y.1 p k y.2).updStream p k (fun x => { x with gain := gain })
  let s := setLevel (setF s (sensorPg p) (SENSOR_S_GAIN_ACT.ix k) (ofSigned 16 (gain / 2))) p k vs
  let s := if strF s p k SENSOR_S_CFG_TO_LISTENER = 1 then markSource (hear s p k vs) p k fault changed else s
  pushBlock s p k ⟨frame, vs.flatMap (sampleBytes (strF s p k SENSOR_S_CFG_FORMAT)), n, fault, changed,
    ofSigned 16 (gain / 2), false, false⟩

/-! ## The port frame (R269) -/

/-- A calibration window sees the faults of the enabled microphones (R285); with calibration off, a new one begins. -/
def calWatch (s : State) (p : Nat) : State :=
  let on := portF s p SENSOR_CAL_CFG_GAIN_CAL_EN == 1
  let s := if on then s else s.updSensor p (fun x => { x with calFrom := x.frame })
  (List.range 8).foldl (fun s k =>
    let bad := strF s p k SENSOR_S_CFG_EN = 1 && strF s p k SENSOR_S_STATUS_FAULT != 0
    s.updStream p k (fun x => if on then { x with calFault := x.calFault || bad }
      else { x with calFault := bad, cal := BandSum.reset, calCount := 0 })) s

/-- One port frame of an enabled port. -/
def portBlocks (s : State) (p frame : Nat) (i : PortInput) : State :=
  let s := (List.range 12).foldl (fun s k =>
    if strF s p k SENSOR_S_STATUS_ACTIVE = 1 then
      let x := rawSamples s p k i
      formBlock x.1 p k frame x.2
    else s) s
  let s := if flagF s (sensorPg p) COMMIT_ARMED then sensorCommit s p else s
  let s :=
    if flagF s (sensorPg p) CTRL_EN then s
    else
      -- The port stops at this boundary (R303): a camera frame in progress closes with TRUNC.
      let s := eachStream (fun s k => closeFrame s p k true false) s
      setF s (sensorPg p) STATUS_ENABLED 0
  let s := sensorLook (calWatch s p) p
  (List.range 12).foldl (fun s k => beginDelivery s p k true) s

/-- The port frame that ends next, and the clock set to its end. -/
def portFrameEnds (s : State) (p : Nat) (i : PortInput) : State :=
  let n := max (s.time / 24576) ((s.sensor p).frame + 1)
  let s := { s with time := max s.time (n * 24576) }
  let s := s.updSensor p (fun x => { x with frame := n })
  let s := setF s (sensorPg p) SENSOR_HEAD_MEAS_MA (min i.ma 4095)
  let s := setF s (sensorPg p) SENSOR_HEAD_MEAS_MV (min i.mv 4095)
  let s := putFlag s (sensorPg p) SENSOR_PORT_STATUS_CSI_HS i.csiHs
  if portOn s p then portBlocks s p (n - 1) i else s

def execPortFrame (p : Nat) (input : PortInput) (s : State) : Host.Outcome State Fault Refusal :=
  guardDo (p < 6 && s.carrier.vaon == .up) (fun s => portFrameEnds s p input) s

/-! ## Calibration (R284, R285) -/

/-- The microphone takes part in calibration. -/
def calibrating (s : State) (p k : Nat) : Bool :=
  isMic k && portOn s p && strF s p k SENSOR_S_STATUS_ACTIVE = 1 && portF s p SENSOR_CAL_CFG_GAIN_CAL_EN = 1
    && strF s p k SENSOR_S_STATUS_FAULT = 0

/-- Insert in ascending order. -/
def insertInt (v : Int) : List Int → List Int
  | [] => [v]
  | a :: l => if v ≤ a then v :: a :: l else a :: insertInt v l

/-- Twice the median of powers in 0.01 dB: an even number takes the mean of the two middle ones. -/
def median2 (l : List Int) : Int :=
  let o := l.foldl (fun acc v => insertInt v acc) []
  let n := o.length
  if n % 2 = 1 then 2 * o.getD (n / 2) 0 else o.getD (n / 2 - 1) 0 + o.getD (n / 2) 0

/-- One step of an offset toward its target, in 0.005 dB: at most 0.1 dB, within ±LIMIT. -/
def calStep (limit : Nat) (off target : Int) : Int :=
  clampTo (-(20 * limit : Nat)) (20 * limit : Nat) (off + clampTo (-20) 20 (target - off))

/-- A microphone's mean power in the 200 Hz to 2 kHz band in the window, in 0.01 dB of full scale. -/
def calPower (s : State) (p k : Nat) : Int :=
  db100 (s.stream p k).cal.sum ((s.stream p k).calCount * 2 ^ 78)

/-- The end of a calibration window. -/
def calibrate (s : State) (p : Nat) : State :=
  let mics := (List.range 8).filter (calibrating s p)
  let faulted := (List.range 8).any (fun k => (s.stream p k).calFault)
  let m := median2 (mics.map (calPower s p))
  let t := if mics.length < 3 || faulted then s
    else mics.foldl (fun t k => t.updStream p k (fun x => { x with
      calOff := calStep (portF s p SENSOR_CAL_CFG_LIMIT) x.calOff (m - 2 * calPower s p k) })) s
  (List.range 8).foldl (fun t k => t.updStream p k (fun x => { x with
    cal := { x.cal with sum := 0 }, calCount := 0
    calFault := strF s p k SENSOR_S_CFG_EN = 1 && strF s p k SENSOR_S_STATUS_FAULT != 0 }))
    (t.updSensor p (fun x => { x with calFrom := x.frame }))

/-- WINDOW seconds of port frames have passed. -/
def windowOver (s : State) (p : Nat) : Bool :=
  (s.sensor p).calFrom + portF s p SENSOR_CAL_CFG_WINDOW * 1000 ≤ (s.sensor p).frame

def execCalibrationWindow (p : Nat) (s : State) : Host.Outcome State Fault Refusal :=
  guardDo (portOn s p && portF s p SENSOR_CAL_CFG_GAIN_CAL_EN == 1 && windowOver s p) (fun s => calibrate s p) s

/-! ## Head supply (R287, R305) -/

def execHeadTrip (p : Nat) (s : State) : Host.Outcome State Fault Refusal :=
  guardDo (p < 6 && headOk s p)
    (fun s =>
      let s := setF s (sensorPg p) SENSOR_PORT_STATUS_HEAD_OK 0
      let s := raise (s.updSensor p (fun x => { x with tripped := true })) (sensorPg p) 0
      headFaults s p) s

def execHeadRetry (p : Nat) (s : State) : Host.Outcome State Fault Refusal :=
  guardDo (p < 6 && (s.sensor p).tripped && portF s p SENSOR_HEAD_CTRL_AUTO_RETRY == 1)
    (fun s => setF (s.updSensor p (fun x => { x with tripped := false })) (sensorPg p) SENSOR_PORT_STATUS_HEAD_OK 1) s

/-- HEAD_CTRL.ON has been written: the supply follows it; after a trip only 0 and then 1 switches it on again. -/
def headFollows (s : State) (p : Nat) : State :=
  if portF s p SENSOR_HEAD_CTRL_ON = 0 then
    headFaults (setF (s.updSensor p (fun x => { x with tripped := false })) (sensorPg p) SENSOR_PORT_STATUS_HEAD_OK 0) p
  else if (s.sensor p).tripped then s
  else setF s (sensorPg p) SENSOR_PORT_STATUS_HEAD_OK 1

/-! ## Camera control (R288) -/

/-- CCI_CTRL.GO: a transfer begins, unless one is in progress. -/
def cciBegin (s : State) (p : Nat) : State :=
  if (s.sensor p).cci.isSome then s
  else
    let s := setF s (sensorPg p) SENSOR_CCI_CTRL_BUSY 1
    let s := setF s (sensorPg p) SENSOR_CCI_CTRL_NACK 0
    s.updSensor p (fun x => { x with cci := some ⟨portF s p SENSOR_CCI_CTRL_DEV, portF s p SENSOR_CCI_CTRL_READ == 1,
      portF s p SENSOR_CCI_CTRL_REG16 == 1, portF s p SENSOR_CCI_REG_REG, portF s p SENSOR_CCI_CTRL_LEN + 1,
      portF s p SENSOR_CCI_DATA_DATA⟩ })

/-- The stop condition: BUSY clears, NACK and the bytes read are reported. -/
def cciEnd (s : State) (p : Nat) (c : CciSt) (nack : Bool) (data : Nat) : State :=
  let s := setF s (sensorPg p) SENSOR_CCI_CTRL_BUSY 0
  let s := putFlag s (sensorPg p) SENSOR_CCI_CTRL_NACK nack
  let s := if c.read && !nack then setF s (sensorPg p) SENSOR_CCI_DATA_DATA (data % 2 ^ (8 * c.len)) else s
  raise (s.updSensor p (fun x => { x with cci := none })) (sensorPg p) 6

def execCciDone (p : Nat) (nack : Bool) (data : Nat) (s : State) : Host.Outcome State Fault Refusal :=
  guardDo (p < 6 && (s.sensor p).cci.isSome)
    (fun s => match (s.sensor p).cci with
      | some c => cciEnd s p c nack data
      | none => s) s

/-- A soft reset (R311): history discarded, port stopped, head supply off (the page itself is reset by R212). -/
def sensorReset (s : State) (p : Nat) : State :=
  s.updSensor p (fun x => { SensorSt.reset with frame := x.frame })

end Sys2Proof.Machine
end

