-- ==== Sys2Proof/Machine/Carry.lean ====
section
/-! DEFINITION. Machine/Carry.lean: what haul-road packets do where they arrive, and when they are lost (R28, R52, R53,
R58, R659, R665, R719, R994): hoist data, LOAD requests and answers, sensor-port data, frames for an Adit link. -/

namespace Sys2Proof.Machine

open Sys2Proof

/-! ## Hoist transfers between regions -/

/-- The face's hoist has a transfer in flight (R149, R170): one that waits for lines or packets, or lines it writes back
or writes to its scale log. -/
def faceHoist (s : State) (g : Nat) : Bool :=
  (s.faceAt g).issued.any (fun i => match i.st with | .writes .. => true | .moving _ => true | _ => false)
    || (s.bed (faceRegion g)).queue.any (fun w => w.who == .hoist g || w.who == .scaleLog g)

/-- The oldest record of a face whose lines a region's bed store still writes: its number, operation and descriptor. -/
def writesTo (s : State) (g r : Nat) : Option (Nat × Nat × Nat) :=
  (s.faceAt g).issued.findSome? (fun i => match i.st with
    | .writes q op desc => if q = r then some (i.id, op, desc) else none
    | _ => none)

/-- A STORE whose lines still wait inside a region that fails completes with ROUTE_LOST (R58). -/
def failStores (s : State) (r : Nat) : State :=
  (s.bed r).queue.foldl (fun s w => match w.who with
    | .hoist g => (match writesTo s g r with
      | some (id, op, desc) => xferFail (s.updFace g (fun f => f.setIssue id .done)) g op desc 4 3 (w.line * 64)
      | none => s)
    | _ => s) s

/-- HITS, IN and OUT hold at 0 for a confidential owner (R651). -/
def hoistCount (s : State) (g : Nat) (f : Fld) (n : Nat) : State :=
  if (s.faceAt g).confidential then s else addF s (hoistPg g) f n

/-- XFER_SPOIL (bit 1) when delivered lines carry spoil. -/
def xferSpoil (s : State) (g : Nat) (spoiled : Bool) : State :=
  if spoiled then raise (addF s (hoistPg g) HOIST_XFER_COUNT_SPOILED 1) (hoistPg g) 1 else s

/-- The transfer that an issued record has on the road. -/
def FaceSt.transferOf (f : FaceSt) (id : Nat) : Option Transfer :=
  match f.issue? id with
  | some i => (match i.st with | .moving t => some t | _ => none)
  | none => none

/-- Change a transfer that is on the road. -/
def updTransfer (s : State) (g id : Nat) (f : Transfer → Transfer) : State :=
  match (s.faceAt g).transferOf id with
  | some t => s.updFace g (fun x => x.setIssue id (.moving (f t)))
  | none => s

/-- A transfer none of whose packets is left on the road ends: it fails with the status it met (R665), or its data has
arrived; a STORE then waits for its lines (Table 11-4). -/
def xferStep (s : State) (g id : Nat) : State :=
  match (s.faceAt g).transferOf id with
  | none => s
  | some t =>
    if s.road.packets.any (fun p => p.of g id) then s
    else
      let s := s.updFace g (fun f => f.setIssue id (match t.fail with
        | some _ => .done
        | none => if t.op = 4 then .writes t.far t.op t.desc else .done))
      match t.fail with
      | some (st, a) => xferFail s g t.op t.desc st (if t.op = 5 then 4 else 3) a
      | none => xferSpoil s g t.spoiled

/-- The part of own face SRAM that a LOAD's packet was to fill. -/
def Body.ownRange : Body → Option (Nat × Nat)
  | .ask _ _ _ _ len face => some (face, len)
  | .give _ _ _ _ d => some (d.addr, d.bytes.length)
  | _ => none

/-- The address a failure at this packet is recorded with: bed-store line, or destination face (R650). -/
def Body.failAddr : Body → Nat
  | .ask _ _ _ far _ _ => far
  | .give _ _ _ far _ => far
  | .toBed _ d => d.addr
  | .toFace _ g _ => g
  | _ => 0

/-- A packet of a transfer does not arrive (R665): later ones are not delivered either, and the own lines a LOAD does not
write are tagged spoil. -/
def xferLose (s : State) (b : Body) (g id n st : Nat) : State :=
  match (s.faceAt g).transferOf id with
  | none => s
  | some _ =>
    let late := fun (p : Packet) => match p.body.xfer with
      | some (h, i, m) => h == g && i == id && n < m
      | none => false
    let cut := b :: (s.road.packets.filter late).map (·.body)
    let s := s.updRoad (fun x => { x with packets := x.packets.filter (fun p => !late p) })
    let s := (cut.filterMap Body.ownRange).foldl (fun s x => markSpoil s g x.1 x.2) s
    xferStep (updTransfer s g id (fun t => { t with fail := some (st, b.failAddr) })) g id

/-- Every packet of a face's transfers is abandoned (R660, R661). -/
def dropTransfers (s : State) (g : Nat) : State :=
  s.updRoad (fun x => { x with packets := x.packets.filter (fun p => match p.body.xfer with
    | some (h, _, _) => h != g
    | none => true) })

/-! ## Remote operations on their way to their link -/

/-- The operation of a frame that its link still waits for. -/
def remOf (s : State) (k : Nat) (f : DataFrame) : Option RemOp :=
  (s.link k).ops.find? (fun o => o.id == f.opId && o.g == f.face)

/-- The frame joins its link's queue, unless its operation has ended. -/
def landFrame (s : State) (k : Nat) (f : DataFrame) : State :=
  match remOf s k f with
  | some _ => queueData s k f
  | none => s

/-! ## Arriving -/

/-- Lines written for an access checked under an older epoch keep the fence (R852). -/
def keepFence (s : State) (r epoch : Nat) : State :=
  if epoch = getF s wbPg WB_EPOCH then s
  else { s with wb := { s.wb with fence := tset 0 s.wb.fence r (s.bed r).queue.length } }

/-- Data for a bed store is written line by line (R606, R608), with its spoil (R610). -/
def landBed (s : State) (r : Nat) (who : Requester) (d : Load) : State :=
  (piecesOf (d.bytes.length + 1) d.addr d.bytes.length 0).foldl (fun s p =>
    bedWrite s r who p.1 ((d.bytes.drop p.2.2).take p.2.1)
      (d.bad.any (fun b => b.1 < p.2.2 + p.2.1 && p.2.2 < b.1 + b.2)) true) s

/-- The answer to a LOAD's request leaves the bed store's region. -/
def answerLoad (s : State) (p : Packet) (g id n far len face : Nat) : State :=
  let x := readPieces s p.dst (piecesOf (len + 1) far len 0)
  if route x.1 p.dst p.src = HOP_DEAD then xferLose x.1 p.body g id n 3
  else inject x.1 ⟨p.cls, p.dst, p.src, p.dst, p.epoch,
    .give g id n far ⟨face, x.2.1, x.2.2.map (fun q => (q.2.2, q.2.1))⟩⟩

/-- Data for a face of the module: written where the slot is backed by a face that answers (R991). -/
def landFace (s : State) (who : Sender) (b : Body) (h : Nat) (d : Load) : State :=
  let ok := backed s h && !(s.faceAt h).dead
  let s := if ok then writeLoad s h d else s
  match who with
  | .hoist g id n => if ok then xferStep s g id else xferLose s b g id n 3
  | .port p k n => if ok then portLanded s p k n else portLost s p k n
  | .adit k tag peer opId => linkReply s k tag peer opId (if ok then 0 else 3)

/-- A packet leaves the crossbar of its destination. The road no longer holds it. -/
def landPacket (s : State) (p : Packet) : State :=
  match p.body with
  | .sync op => s.updSync p.dst (fun b => { b with arrivals := b.arrivals ++ [op] })
  | .toFace who h d => landFace s who p.body h d
  | .toBed who d =>
    (match who with
      | .hoist g id _ => xferStep (keepFence (landBed s p.dst (.hoist g) d) p.dst p.epoch) g id
      | _ => s)
  | .ask g id n far len face => answerLoad s p g id n far len face
  | .give g id n _ d =>
    (match (s.faceAt g).transferOf id with
      | none => s
      | some _ =>
        if !backed s g || (s.faceAt g).dead then xferLose s p.body g id n 3
        else
        let s := hoistCount (writeLoad s g d) g HOIST_IN d.bytes.length
        xferStep (updTransfer s g id (fun t => { t with spoiled := t.spoiled || !d.bad.isEmpty })) g id)
  | .toLink k f => landFrame s k f

/-- A packet does not arrive: its operation completes with DEAD_TARGET (3) or ROUTE_LOST (4). -/
def losePacket (s : State) (st : Nat) (p : Packet) : State :=
  match p.body with
  | .sync op => opFail s st op
  | .toFace (.port q k n) _ _ => portLost s q k n
  | .toFace (.adit k tag peer opId) _ _ => linkReply s k tag peer opId st
  | .toLink k f => (match remOf s k f with | some o => remFail s k o st | none => s)
  | b => (match b.xfer with | some (g, id, n) => xferLose s b g id n st | none => s)

/-- Packets fail where they stand. -/
def failPackets (s : State) (st : Nat) (p : Packet → Bool) : State :=
  let bad := s.road.packets.filter p
  let s := s.updRoad (fun x => { x with packets := x.packets.filter (fun q => !p q) })
  bad.foldl (fun s q => losePacket s st q) s

end Sys2Proof.Machine
end

