-- ==== Sys2Proof/Machine/Float.lean ====
section
/-! DEFINITION. Machine/Float.lean: binary floating point, exactly: numbers as m · 2^e, rounding to nearest even with
subnormals (R451, R515, R516, R525), and the function tables (R455). -/

namespace Sys2Proof.Machine

open Sys2Proof

/-- A number the engines work with: NaN, an infinity, or ± m · 2^e; the Bool is the sign. -/
inductive Fp where
  | nan
  | inf (neg : Bool)
  | fin (neg : Bool) (m : Nat) (e : Int)
  deriving DecidableEq, Repr

/-- A format: exponent bits, fraction bits, and the NaN it produces. -/
structure Fmt where
  eb : Nat
  mb : Nat
  nan : Nat
  deriving DecidableEq, Repr

def fp32 : Fmt := ⟨8, 23, 0x7FC00000⟩
def fp16 : Fmt := ⟨5, 10, 0x7E00⟩
def bf16 : Fmt := ⟨8, 7, 0x7FC0⟩

/-- Exponent of the unit of the subnormals. -/
def Fmt.low (f : Fmt) : Int := 2 - (2 ^ (f.eb - 1) : Nat) - (f.mb : Nat)

/-- The number a bit pattern stands for. -/
def Fmt.read (f : Fmt) (n : Nat) : Fp :=
  let m := bits n 0 f.mb
  let e := bits n f.mb f.eb
  let neg := bit n (f.mb + f.eb)
  if e = 2 ^ f.eb - 1 then (if m = 0 then .inf neg else .nan)
  else if e = 0 then .fin neg m f.low
  else .fin neg (m + 2 ^ f.mb) (f.low + e - 1)

/-- m · 2^k rounded to the nearest integer, ties to even. -/
def scaleRhe (m : Nat) (k : Int) : Nat :=
  if 0 ≤ k then m * 2 ^ k.toNat else (rheDiv m (2 ^ (-k).toNat)).toNat

/-- Round to a format, nearest even: overflow gives infinity, subnormals are kept. -/
def Fmt.round (f : Fmt) : Fp → Nat
  | .nan => f.nan
  | .inf neg => neg.toNat * 2 ^ (f.mb + f.eb) + (2 ^ f.eb - 1) * 2 ^ f.mb
  | .fin neg m e =>
    let sign := neg.toNat * 2 ^ (f.mb + f.eb)
    if m = 0 then sign
    else
      let q := max (e + (Nat.log2 m : Nat) - (f.mb : Nat)) f.low
      sign + min ((q - f.low).toNat * 2 ^ f.mb + scaleRhe m (e - q)) ((2 ^ f.eb - 1) * 2 ^ f.mb)

/-! ## Exact operations -/

def Fp.neg : Fp → Fp
  | .nan => .nan
  | .inf n => .inf (!n)
  | .fin n m e => .fin (!n) m e

/-- The signed integer ± m · 2^(e − low), for a common exponent not above e. -/
def Fp.scaled (neg : Bool) (m : Nat) (e low : Int) : Int :=
  let v : Int := (m * 2 ^ (e - low).toNat : Nat)
  if neg then -v else v

/-- The exact sum; two zeros of one sign keep it, and every other zero sum is +0. -/
def Fp.add : Fp → Fp → Fp
  | .nan, _ => .nan
  | _, .nan => .nan
  | .inf a, .inf b => if a = b then .inf a else .nan
  | .inf a, .fin _ _ _ => .inf a
  | .fin _ _ _, .inf b => .inf b
  | .fin a m e, .fin b n d =>
    let low := min e d
    let v := Fp.scaled a m e low + Fp.scaled b n d low
    if v = 0 then .fin (a && b) 0 0 else .fin (v < 0) v.natAbs low

/-- The exact product. -/
def Fp.mul : Fp → Fp → Fp
  | .nan, _ => .nan
  | _, .nan => .nan
  | .inf a, .inf b => .inf (a != b)
  | .inf a, .fin b n _ => if n = 0 then .nan else .inf (a != b)
  | .fin a m _, .inf b => if m = 0 then .nan else .inf (a != b)
  | .fin a m e, .fin b n d => .fin (a != b) (m * n) (e + d)

/-- The quotient to 64 bits and more, its last bit set when it is not exact, so that rounding it to fp32 rounds the
exact quotient. -/
def Fp.div : Fp → Fp → Fp
  | .nan, _ => .nan
  | _, .nan => .nan
  | .inf _, .inf _ => .nan
  | .inf a, .fin b _ _ => .inf (a != b)
  | .fin a _ _, .inf b => .fin (a != b) 0 0
  | .fin a m e, .fin b n d =>
    if n = 0 then (if m = 0 then .nan else .inf (a != b))
    else
      let k := 64 + Nat.log2 n
      let v := m * 2 ^ k
      .fin (a != b) (2 * (v / n) + (if v % n = 0 then 0 else 1)) (e - d - k - 1)

/-- x < y; false when either is a NaN. -/
def Fp.lt (x y : Fp) : Bool :=
  match Fp.add x y.neg with
  | .nan => false
  | .inf n => n
  | .fin n m _ => n && m != 0

def Fp.isNan : Fp → Bool
  | .nan => true
  | _ => false

def Fp.isZero : Fp → Bool
  | .fin _ m _ => m == 0
  | _ => false

def Fp.isFinite : Fp → Bool
  | .fin _ _ _ => true
  | _ => false

def Fp.ofInt (i : Int) : Fp := .fin (i < 0) i.natAbs 0

/-- x · 2^k rounded half to even and kept within an interval; a NaN gives `none`. -/
def Fp.toRange (x : Fp) (k lo hi : Int) : Option Int :=
  match x with
  | .nan => none
  | .inf n => some (if n then lo else hi)
  | .fin n m e => some (clampTo lo hi (let v : Int := scaleRhe m (e + k); if n then -v else v))

/-- floor of x · 2^k, for finite x. -/
def Fp.floorAt (x : Fp) (k : Int) : Int :=
  match x with
  | .fin n m e =>
    let v : Int := if 0 ≤ e + k then (m * 2 ^ (e + k).toNat : Nat) else m
    let v := if n then -v else v
    if 0 ≤ e + k then v else v.fdiv (2 ^ (-(e + k)).toNat : Nat)
  | _ => 0

/-! ## fp32 operations on bit patterns -/

def fadd (a b : Nat) : Nat := fp32.round (Fp.add (fp32.read a) (fp32.read b))
def fsub (a b : Nat) : Nat := fp32.round (Fp.add (fp32.read a) (fp32.read b).neg)
def fmul (a b : Nat) : Nat := fp32.round (Fp.mul (fp32.read a) (fp32.read b))
def ffma (a b c : Nat) : Nat := fp32.round (Fp.add (Fp.mul (fp32.read a) (fp32.read b)) (fp32.read c))
def fdiv32 (a b : Nat) : Nat := fp32.round (Fp.div (fp32.read a) (fp32.read b))
/-- int to fp32, rounded half to even. -/
def ofInt32 (i : Int) : Nat := fp32.round (Fp.ofInt i)

def isNan32 (a : Nat) : Bool := (fp32.read a).isNan

/-- Minimum or maximum; where the editions of IEEE 754 differ, one of the values they name. -/
def fpick (max : Bool) (a b : Nat) : Nat :=
  let x := fp32.read a
  let y := fp32.read b
  if x.isNan && y.isNan then fp32.nan
  else if x.isNan || y.isNan then
    (if Config.pickFirst a b then (if x.isNan then b else a) else fp32.nan)
  else if x.isZero && y.isZero && a != b then (if Config.pickFirst a b then a else b)
  else if Fp.lt x y = max then b else a

def fabs32 (a : Nat) : Nat := if isNan32 a then fp32.nan else a % 2 ^ 31
def fneg32 (a : Nat) : Nat := if isNan32 a then fp32.nan else a ^^^ 2 ^ 31

/-! ## Function tables (R455) -/

/-- Word `k` (C0, C1, C2) of a segment. -/
def FTable.coef (t : FTable) (i k : Nat) : Nat := tget 0 t.segs (4 * i + k)

/-- fma(t, fma(t, C2, C1), C0) of a segment. -/
def FTable.poly (t : FTable) (i off : Nat) : Nat := ffma off (ffma off (t.coef i 2) (t.coef i 1)) (t.coef i 0)

/-- The value at an input: index and offset are formed exactly, and the offset is rounded once to fp32. -/
def FTable.eval (t : FTable) (x : Nat) : Nat :=
  let w := toSigned 8 t.w
  match fp32.read x, fp32.read t.x0 with
  | .nan, _ => fp32.nan
  | .inf neg, .fin _ _ _ =>
    if !t.loaded then Config.table t.x0 t.w x
    else if neg then t.poly 0 0 else t.poly 255 (fp32.round (.fin false 1 w))
  | .fin n m e, .fin n0 m0 e0 =>
    if !t.loaded then Config.table t.x0 t.w x
    else
      let d := Fp.add (.fin n m e) (.fin (!n0) m0 e0)
      let i := (clampTo 0 255 (d.floorAt (-w))).toNat
      let off := Fp.add d (.fin true i w)
      let off := if Fp.lt off (.fin false 0 0) then .fin false 0 0
        else if Fp.lt (.fin false 1 w) off then .fin false 1 w else off
      t.poly i (fp32.round off)
  | _, _ => Config.table t.x0 t.w x

end Sys2Proof.Machine
end

