-- ==== Sys2Proof/Machine/Numerics.lean ====
section
/-! DEFINITION. Machine/Numerics.lean: quantisation descriptors and requantisation (R517 to R524), what the end of a step
does (R526 to R532), and the scale log (R534 to R538, R554, R556, R557). -/

namespace Sys2Proof.Machine

open Sys2Proof

/-! ## Quantisation descriptors (Tables 9-2 and 9-3) -/

def qdCount (m : Tab Byte) (qa : Nat) : Nat := mnum m qa 2
def qdFlag (m : Tab Byte) (qa i : Nat) : Bool := bit (mbyte m (qa + 2)) i
def qdSatTh (m : Tab Byte) (qa : Nat) : Nat := mnum m (qa + 4) 2
def qdRelax (m : Tab Byte) (qa : Nat) : Nat := mbyte m (qa + 6)
def qdAdjMax (m : Tab Byte) (qa : Nat) : Nat := mbyte m (qa + 7)
def qdAdj (m : Tab Byte) (qa : Nat) : Nat := mbyte m (qa + 8)
def qdRun (m : Tab Byte) (qa : Nat) : Nat := mbyte m (qa + 9)

/-- Offset of the entry that serves a channel (R519). -/
def qdEntry (m : Tab Byte) (qa ch : Nat) : Nat := 0x40 + 16 * (if qdCount m qa = 1 then 0 else ch)

/-- Channel entries that `n` channels use. -/
def qdUsed (m : Tab Byte) (qa n : Nat) : Nat := if qdCount m qa = 1 then 1 else n

/-- Offsets from `lo` up to, not including, `hi` that hold a non-zero byte: the first of them. -/
def firstNonZero (m : Tab Byte) (qa lo hi : Nat) : Option Nat :=
  ((List.range (hi - lo)).map (· + lo)).find? (fun o => mbyte m (qa + o) != 0)

/-- The first field of entry `e` that breaks Table 9-3. -/
def qdEntryBad (m : Tab Byte) (qa : Nat) (float : Bool) (e : Nat) : Option Nat :=
  let o := 0x40 + 16 * e
  let a := qa + o
  let v := mnum m a 4
  if (if float then !(fp32.read v).isFinite || (fp32.read v).isZero else !(2 ^ 30 ≤ v && v < 2 ^ 31)) then some o
  else if float && !(fp32.read (mnum m (a + 4) 4)).isFinite then some (o + 4)
  else if (if float then mbyte m (a + 8) != 0 else 31 < mbyte m (a + 8)) then some (o + 8)
  else firstNonZero m qa (o + 10) (o + 16)

/-- The first field of a QD that breaks Table 9-2, Table 9-3, R518 or R519, for `n` channels (R524). -/
def qdBad (m : Tab Byte) (qa : Nat) (float : Bool) (n : Nat) : Option Nat :=
  if qdCount m qa = 0 || (qdCount m qa != 1 && qdCount m qa < n) then some 0
  else if qdFlag m qa 2 != float || 8 ≤ mbyte m (qa + 2) then some 2
  else if mbyte m (qa + 3) != 0 then some 3
  else if qdSatTh m qa = 0 then some 4
  else if qdRelax m qa = 0 then some 6
  else if 7 < qdAdjMax m qa then some 7
  else if qdAdjMax m qa < qdAdj m qa then some 8
  else match firstNonZero m qa 10 12 with
    | some o => some o
    | none =>
      match firstNonZero m qa 16 64 with
      | some o => some o
      | none => (List.range (qdUsed m qa n)).findSome? (qdEntryBad m qa float)

/-- Bytes of a QD that are read for `n` channels. -/
def qdBytes (m : Tab Byte) (qa n : Nat) : Nat := 0x40 + 16 * qdUsed m qa n

/-- A requantised output: the byte, whether it was saturated (R522), and whether |v| is at most 63 (R529). -/
structure YOut where
  y : Nat
  sat : Bool
  small : Bool
  deriving DecidableEq, Repr

/-- R520: x = acc + BIAS in 48 bits, v = rhe(x · M / 2^(31 + SHIFT + ADJ)), y = ZP_OUT + v saturated. -/
def requantInt (m : Tab Byte) (qa ch : Nat) (acc : Int) : YOut :=
  let e := qa + qdEntry m qa ch
  let bias := toSigned 32 (mnum m (e + 4) 4)
  let x := acc + bias
  let x := if -(2 ^ 47 : Nat) ≤ x ∧ x < (2 ^ 47 : Nat) then x else Config.bias48 acc bias
  let v := rheDiv (x * (mnum m e 4 : Nat)) (2 ^ (31 + mbyte m (e + 8) + qdAdj m qa))
  let y := toSigned 8 (mbyte m (e + 9)) + v
  ⟨ofSigned 8 (clampTo (-128) 127 y), clampTo (-128) 127 y != y, v.natAbs ≤ 63⟩

/-- R521: w = acc + BIAS, u = w · S in fp32, v = rhe(u · 2^−ADJ); a NaN u gives ZP_OUT and counts. -/
def requantFloat (m : Tab Byte) (qa ch acc : Nat) : YOut :=
  let e := qa + qdEntry m qa ch
  let u := fmul (fadd acc (mnum m (e + 4) 4)) (mnum m e 4)
  let zp := toSigned 8 (mbyte m (e + 9))
  match (fp32.read u).toRange (-(qdAdj m qa : Nat)) (-(2 ^ 40 : Nat)) (2 ^ 40 : Nat) with
  | none => ⟨ofSigned 8 zp, true, false⟩
  | some v => ⟨ofSigned 8 (clampTo (-128) 127 (zp + v)), clampTo (-128) 127 (zp + v) != zp + v, v.natAbs ≤ 63⟩

/-! ## The scale log (R534 to R538) -/

/-- Address of slot `j` of segment `k`. -/
def logSlot (s : State) (g k j : Nat) : Nat := getF s (numPg g) NUM_LOG_BASE_ADDR + 512 * k + 256 * j

/-- Bytes 0x00 to 0xBF of a slot (Table 9-5). -/
def logBody (s : State) (g seq : Nat) : List Nat :=
  let n := (s.faceAt g).num
  let pg := numPg g
  let head := leBytes 4 0x534C4F47 ++ leBytes 2 1 ++ [n.entries.length, getF s pg NUM_LOG_POS_GEN] ++ leBytes 4 seq
    ++ leBytes 4 (getF s pg NUM_LOG_POS_SEGMENT) ++ leBytes 4 n.bootAt ++ leBytes 8 n.runId ++ leBytes 2 g
    ++ leBytes 2 (getF s (facePg g) FACE_MODEL)
  let es := n.entries.flatMap (fun e => e.flatMap (leBytes 4))
  head ++ es ++ List.replicate (160 - es.length) 0

/-- The last line of a slot: CRC and COMMIT. -/
def logTail (body : List Nat) (seq : Nat) : List Nat :=
  leBytes 4 (crc32 body) ++ leBytes 4 (0xFFFFFFFF - seq % 2 ^ 32) ++ List.replicate 56 0

/-- A log write fails (R554): ERR sets, LOG_WRITE is recorded and LOG_ERR (bit 5) raised; no further write is made. -/
def logFail (s : State) (g addr : Nat) : State :=
  let s := setF s (numPg g) NUM_LOG_POS_ERR 1
  let s := s.updFace g (fun f => { f with num := { f.num with writeDue := false } })
  raise (recordErr s (numPg g) 0x41 .block 3 addr) (numPg g) 5

/-- Write the open segment into slot `j` as write number `seq`, in the order of R535. -/
def putSegment (s : State) (g j seq : Nat) : State :=
  let r := faceRegion g
  let a := logSlot s g (getF s (numPg g) NUM_LOG_POS_SEGMENT) j
  if !faceMay s g r a 256 1 then logFail (denyBed s r a 256 (.face g)) g a
  else
    let body := logBody s g seq
    let s := bedWrite s r (.scaleLog g) (a + 0xC0) (List.replicate 64 0) false false
    let s := bedWrite s r (.scaleLog g) a body false false
    let s := bedWrite s r (.scaleLog g) (a + 0xC0) (logTail body seq) false false
    s.updFace g (fun f => { f with num := { f.num with seq := seq, slot := j, writeDue := false } })

/-- Write the open segment into the slot that does not hold its newest copy. -/
def writeSegment (s : State) (g : Nat) : State :=
  let n := (s.faceAt g).num
  putSegment s g (if n.slot = 0 then 1 else 0) (n.seq + 1)

def execScaleLogWrite (g : Nat) (ok : Bool) (s : State) : Host.Outcome State Fault Refusal :=
  guardDo (inRun s (faceRegion g) && !(s.faceAt g).dead && (s.faceAt g).num.writeDue)
    (fun s => if ok then writeSegment s g
      else logFail s g (logSlot s g (getF s (numPg g) NUM_LOG_POS_SEGMENT) (if (s.faceAt g).num.slot = 0 then 1 else 0))) s

/-- The log takes no further entry (R532). -/
def logClosed (s : State) (g : Nat) : Bool :=
  getF s (numPg g) NUM_LOG_POS_FULL == 1 || getF s (numPg g) NUM_LOG_POS_ERR == 1

/-- Append an entry (R536, Table 9-6): an eleventh entry opens the next segment, after a write that is still due; the
tenth of the last segment fills the log (LOG_FULL, bit 4). -/
def appendEntry (s : State) (g step qd old new sats : Nat) : State :=
  let pg := numPg g
  let s := if (s.faceAt g).num.entries.length = 10 then
      let s := if (s.faceAt g).num.writeDue then writeSegment s g else s
      let s := addF s pg NUM_LOG_POS_SEGMENT 1
      s.updFace g (fun f => { f with num := { f.num with entries := [], seq := 0, slot := 2 } })
    else s
  let e := [step % 2 ^ 32, step / 2 ^ 32 % 2 ^ 32, qd + old * 0x10000 + new * 0x1000000, sats % 2 ^ 32]
  let s := s.updFace g (fun f => { f with num := { f.num with entries := f.num.entries ++ [e], writeDue := true } })
  let s := setF s pg NUM_LOG_POS_COUNT (s.faceAt g).num.entries.length
  let s := setF s pg NUM_LAST_STEP step
  let s := setF s pg NUM_LAST_ADAPT_QD qd
  let s := setF s pg NUM_LAST_ADAPT_OLD old
  let s := setF s pg NUM_LAST_ADAPT_NEW new
  let s := setF s pg NUM_LAST_SATS_SATS sats
  if (s.faceAt g).num.entries.length = 10 && getF s pg NUM_LOG_POS_SEGMENT + 1 == getF s pg NUM_LOG_SEGS_SEGS then
    raise (setF s pg NUM_LOG_POS_FULL 1) pg 4
  else s

/-! ## The end of a step (R526 to R532) -/

/-- Events that a confidential owner withholds (R545). -/
def raiseNum (s : State) (g evbit : Nat) : State :=
  if (s.faceAt g).confidential then s else raise s (numPg g) evbit

/-- ADJ changes and the change is logged, or is held while the log is closed (R532): RUN is as if it had been made. -/
def changeAdj (s : State) (g step qa new sats evbit : Nat) : State :=
  let old := qdAdj (s.faceAt g).sram qa
  if logClosed s g then addF s (numPg g) NUM_HELD_COUNT 1
  else
    let s := sramWrite s g (qa + 8) [new] false
    let s := addF s (numPg g) (if old < new then NUM_ADAPT_COUNT_UP else NUM_ADAPT_COUNT_DOWN) 1
    raiseNum (appendEntry s g step (qa / 64) old new sats) g evbit

/-- What a step did with a QD: its address, saturations, and whether every |v| was at most 63. -/
structure QdUse where
  qa : Nat
  sats : Nat
  small : Bool
  deriving DecidableEq, Repr

/-- The face updates a QD that the step named (R527 to R529): LAST_SATS, SAT_STEP (bit 0), RUN, ADJ, ADAPTED (1),
RESTORED (2), ADJ_LIMIT (3). The writes of QD headers carry no spoil. -/
def endQd (s : State) (g step : Nat) (u : QdUse) : State :=
  let m := (s.faceAt g).sram
  let th := qdSatTh m u.qa
  let adapt := qdFlag m u.qa 1
  let may := adapt && getF s (numPg g) NUM_NUM_CFG_ADAPT_EN == 1
  let adj := qdAdj m u.qa
  let s := sramWrite s g (u.qa + 0xC) (leBytes 4 u.sats) false
  let s := if th ≤ u.sats && qdFlag m u.qa 0 then raiseNum s g 0 else s
  if th ≤ u.sats then
    let s := sramWrite s g (u.qa + 9) [0] false
    if adapt && adj == qdAdjMax m u.qa then raiseNum s g 3
    else if may then changeAdj s g step u.qa (adj + 1) u.sats 1
    else s
  else if u.sats = 0 && u.small then
    let run := min (qdRun m u.qa + 1) 255
    if may && 0 < adj && qdRelax m u.qa ≤ run then
      changeAdj (sramWrite s g (u.qa + 9) [0] false) g step u.qa (adj - 1) u.sats 2
    else sramWrite s g (u.qa + 9) [run] false
  else sramWrite s g (u.qa + 9) [0] false

/-- A step ends (R526, R549): it takes the next step number, and updates its QDs in ascending address. -/
def endStep (s : State) (g : Nat) (us : List QdUse) : State :=
  let step := getF s (numPg g) NUM_NSTEP
  let s := addF s (numPg g) NUM_NSTEP 1
  let s := addF s (numPg g) NUM_SAT_EPI_COUNT ((us.map (·.sats)).foldl (· + ·) 0)
  us.foldl (fun s u => endQd s g step u) s

/-! ## Starts (R539, R540, R556, R557) -/

/-- The numeric block of a face entry breaks R540; its words NUM_CFG, LOG_BASE, LOG_SEGS and the last. -/
def numBlockBad (r cfg base segs rest : Nat) : Bool :=
  4 ≤ cfg || rest != 0 || (bit cfg 1 && !bit cfg 0)
    || (bit cfg 0 && (base % 512 != 0 || segs = 0 || 4095 < segs || bedCapacity r < base + 512 * segs))

/-- The numeric configuration is loaded, NSTEP and LOG_POS become 0 (R539, R556). -/
def numLoad (s : State) (g cfg base segs : Nat) : State :=
  let pg := numPg g
  let s := setF (setF s pg NUM_NUM_CFG_LOG_EN (bits cfg 0 1)) pg NUM_NUM_CFG_ADAPT_EN (bits cfg 1 1)
  let s := setF (setF s pg NUM_LOG_BASE_ADDR base) pg NUM_LOG_SEGS_SEGS segs
  let s := [NUM_NSTEP, NUM_LOG_POS_SEGMENT, NUM_LOG_POS_COUNT, NUM_LOG_POS_FULL, NUM_LOG_POS_ERR,
    NUM_LOG_POS_GEN].foldl (fun s f => setF s pg f 0) s
  s.updFace g (fun f => { f with num := ⟨0, 2, s.time, s.map.committed.bootCount, [], false⟩ })

/-- The log begins (R556). -/
def logBegin (s : State) (g : Nat) : State :=
  if getF s (numPg g) NUM_NUM_CFG_LOG_EN = 0 then s
  else
    let r := faceRegion g
    let a := logSlot s g 0 1 + 0xC0
    if !faceMay s g r a 64 1 then logFail (denyBed s r a 64 (.face g)) g a
    else putSegment (bedWrite s r (.scaleLog g) a (List.replicate 64 0) false false) g 0 1

/-- A valid log slot at an address for segment `k` (R537): GEN, SEQUENCE, BOOT, RUN_ID. -/
def logSlotRead (s : State) (r k a : Nat) : Option (Nat × Nat × Nat × Nat) :=
  let b := s.bed r
  let m := b.bytes
  let seq := mnum m (a + 8) 4
  if mnum m a 4 = 0x534C4F47 && mnum m (a + 4) 2 = 1 && mbyte m (a + 6) ≤ 10 && mnum m (a + 0xC) 4 = k
      && mnum m (a + 0xC0) 4 = crc32 (mbytes m a 0xC0) && mnum m (a + 0xC4) 4 = 0xFFFFFFFF - seq
      && (linesOf a 256).all (fun l => !lineSpoil b l && !lineUE b l)
  then some (mbyte m (a + 7), seq, mnum m (a + 0x10) 4, mnum m (a + 0x14) 8) else none

/-- The best slot of a segment (R537): slot, GEN, SEQUENCE. -/
def bestSlot (s : State) (g k : Nat) : Option (Nat × Nat × Nat) :=
  let n := (s.faceAt g).num
  let get (j : Nat) : Option (Nat × Nat × Nat) :=
    match logSlotRead s (faceRegion g) k (logSlot s g k j) with
    | some (gen, seq, boot, run) => if k = 0 || (boot == n.bootAt && run == n.runId) then some (j, gen, seq) else none
    | none => none
  match get 0, get 1 with
  | some x, some y => some (if x.2.1 < y.2.1 || (x.2.1 == y.2.1 && x.2.2 < y.2.2) then y else x)
  | some x, none => some x
  | none, y => y

/-- NUMERIC of a context record is loaded (R481, Table 9-9), and the log continues (R557). -/
def numRestore (s : State) (g : Nat) (b : List Nat) : State :=
  let pg := numPg g
  let at4 (o : Nat) : Nat := leNum ((b.drop o).take 4)
  let s := setF s pg NUM_NSTEP (leNum (b.take 8))
  let s := setF s pg NUM_LOG_POS_SEGMENT (leNum ((b.drop 8).take 2))
  let s := setF s pg NUM_LOG_POS_COUNT (b.getD 0xA 0)
  let s := setF s pg NUM_LOG_POS_GEN (b.getD 0xB 0)
  let s := putFlag s pg NUM_LOG_POS_FULL (bit (b.getD 0x1C 0) 0)
  let s := putFlag s pg NUM_LOG_POS_ERR (bit (b.getD 0x1C 0) 1)
  let s := setF s pg NUM_SAT_EPI_COUNT (at4 0x20)
  let s := setF s pg NUM_SAT_ACC_COUNT (at4 0x24)
  let s := setF s pg NUM_SAT_ELT_COUNT (at4 0x28)
  let s := setF s pg NUM_ADAPT_COUNT_UP (at4 0x2C)
  let s := setF s pg NUM_ADAPT_COUNT_DOWN (at4 0x2C / 65536)
  let s := setF s pg NUM_HELD_COUNT (at4 0x30)
  let s := s.updFace g (fun f => { f with num := ⟨at4 0xC, 2, leNum ((b.drop 0x10).take 8), at4 0x18, [], false⟩ })
  if getF s pg NUM_NUM_CFG_LOG_EN = 0 then s
  else
    let k := getF s pg NUM_LOG_POS_SEGMENT
    match bestSlot s g k with
    | none => logFail s g (logSlot s g k 0)
    | some (j, gen, seq) =>
      let m := (s.bed (faceRegion g)).bytes
      let a := logSlot s g k j + 0x20
      let es := (List.range (min (getF s pg NUM_LOG_POS_COUNT) 10)).map (fun i =>
        (List.range 4).map (fun w => mnum m (a + 16 * i + 4 * w) 4))
      let s := setF s pg NUM_LOG_POS_GEN (gen + 1)
      let s := s.updFace g (fun f => { f with num := { f.num with entries := es } })
      putSegment s g (1 - j) (seq + 1)

/-- NUMERIC of a context record (Table 9-9). -/
def numericBytes (s : State) (g : Nat) : List Nat :=
  let pg := numPg g
  let n := (s.faceAt g).num
  leBytes 8 (getF s pg NUM_NSTEP) ++ leBytes 2 (getF s pg NUM_LOG_POS_SEGMENT)
    ++ [getF s pg NUM_LOG_POS_COUNT, getF s pg NUM_LOG_POS_GEN] ++ leBytes 4 n.seq ++ leBytes 8 n.runId
    ++ leBytes 4 n.bootAt ++ [getF s pg NUM_LOG_POS_FULL + 2 * getF s pg NUM_LOG_POS_ERR, 0, 0, 0]
    ++ leBytes 4 (getF s pg NUM_SAT_EPI_COUNT) ++ leBytes 4 (getF s pg NUM_SAT_ACC_COUNT)
    ++ leBytes 4 (getF s pg NUM_SAT_ELT_COUNT)
    ++ leBytes 4 (getF s pg NUM_ADAPT_COUNT_UP + getF s pg NUM_ADAPT_COUNT_DOWN * 65536)
    ++ leBytes 4 (getF s pg NUM_HELD_COUNT) ++ List.replicate 12 0

end Sys2Proof.Machine
end

