-- ==== Sys2Proof/Machine/FaceIssue.lean ====
section
/-! DEFINITION. Machine/FaceIssue.lean: when a record issues (R430 to R435, R470), what every record does as it issues,
completes or is skipped (R433, R468), and the encodings that stop the face (R471). -/

namespace Sys2Proof.Machine

open Sys2Proof

/-! ## Illegal encodings of a record's words (R471) -/

/-- The bits that words 1 to 7 of a family and SUBOP may use (Tables 8-4 to 8-10); `none`: reserved. -/
def recordMasks (fam sub : Nat) : Option (List Nat) :=
  let all := 0xFFFFFFFF
  match fam, sub with
  | 0, 0 => some [0xF1FFFF, 0xF1FFFF, 0xF1FFFF, all, all, all, all]
  | 1, 0 => some [all, all, 0x1FFFFFF, 0x1FFFFFF, 0x1FFFFFF, 0x1FFFFFF, 0x1FFFFFF]
  | 2, 0 => some [0xF1FFFF, all, 0, 0, 0, 0, 0]
  | 3, k => if k ≤ 10 then some [0x1F1FFF7F, all, 0x7F, 0, 0, 0, 0] else none
  | 4, 0 => some [0, 0, 0, 0, 0, 0, 0]
  | 4, 1 => some [0xFFFFFFF, 0xFFFFF, all, 0, 0, 0, 0]
  | 4, 2 => some [0xFFFFFF, 0, 0, 0, 0, 0, 0]
  | 4, 3 => some [0x1FF377, all, 0, 0, 0, 0, 0]
  | 4, 4 => some [0xF, all, 0, 0, 0, 0, 0]
  | 4, 5 => some [0xFF, all, 0, 0, 0, 0, 0]
  | 4, 6 => some [0xFF, all, 0, 0, 0, 0, 0]
  | 4, 7 => some [0xFF, all, 0, 0, 0, 0, 0]
  | 4, 8 => some [0, 0, 0, 0, 0, 0, 0]
  | 4, 9 => some [0xF3FFFFF, 0, 0, 0, 0, 0, 0]
  | 5, k => if k ≤ 1 then some [0xF0FFFF, 0xFFFF, 0x1F3FFFFF, 0, 0, 0, 0] else none
  | 6, k => if k ≤ 1 then some [0xF0FFFF, all, 0x1F3FFFFF, 0xFFFF, 0, 0, 0] else none
  | _, _ => none

/-- The family and SUBOP are not reserved. -/
def OpRec.known (o : OpRec) : Bool := (recordMasks o.family o.subop).isSome

/-- Size of dimension `i` and its role in a MAT (Table 8-4). -/
def OpRec.size (o : OpRec) (i : Nat) : Nat := bits (o.word (5 + i / 2)) (16 * (i % 2)) 16
def OpRec.role (o : OpRec) (i : Nat) : Nat := bits (o.word 4) (2 * i) 2

def dims6 : List Nat := [0, 1, 2, 3, 4, 5]

/-- A SYN record breaks R458, R459, R461 or names class 3. -/
def synIllegal (o : OpRec) : Bool :=
  let w := o.word 1
  let cls := bits w 16 2
  let signal := [0, 2, 3, 6, 7].contains o.subop
  cls = 3 || (cls != 0 && !signal) || (bit w 18 && !([0, 2, 7].contains o.subop))
    || (o.subop = 10 && w % 2 ^ 21 != 0)

/-- Rows of a REC or ATT are 1 to 4,096. -/
def rowsIllegal (n : Nat) : Bool := n = 0 || 4096 < n

/-- The record contains an encoding of R471 or R523 that its words alone show. -/
def OpRec.illegal (o : OpRec) : Bool :=
  match recordMasks o.family o.subop with
  | none => true
  | some ms =>
    bits (o.word 0) 25 7 != 0
      || (List.range 7).any (fun i => o.word (i + 1) &&& ms.getD i 0 != o.word (i + 1))
      || (match o.family with
          | 0 => dims6.all (fun i => o.role i == 0) || dims6.any (fun i => o.role i != 0 && o.size i == 0)
              || (bits (o.word 4) 13 2 == 1 && !bit (o.word 4) 15) || (bit (o.word 4) 15 && bit (o.word 4) 12)
          | 1 => bits (o.word 2) 0 16 == 0 || bits (o.word 2) 16 16 == 0 || bits (o.word 1) 16 16 == 0
              || 1024 ≤ bits (o.word 1) 0 10 + bits (o.word 1) 10 6
          | 3 => synIllegal o
          | 4 => (o.subop == 1 && bits (o.word 2) 0 16 == 0)
              || (o.subop == 3 && (6 ≤ bits (o.word 1) 4 3 || bits (o.word 1) 8 2 == 3))
          | 5 => rowsIllegal (bits (o.word 2) 0 16)
          | 6 => rowsIllegal (bits (o.word 2) 0 16) || rowsIllegal (bits (o.word 2) 16 16)
          | _ => false)

/-! ## Addresses -/

/-- A pattern reference or descriptor pointer: its 32-byte address, without the register. -/
def refAddr (w : Nat) : Nat := bits w 0 17 * 32
def refReg (w : Nat) : Nat := bits w 20 4

/-- An address operand (R438). -/
def FaceSt.addrOperand (f : FaceSt) (w : Nat) : Nat := (bits w 0 22 + f.a (bits w 24 4)) % 2 ^ 32

/-- The address of a MOV's hoist descriptor (R456). -/
def FaceSt.descAddr (f : FaceSt) (o : OpRec) : Nat := (refAddr (o.word 1) + f.a (refReg (o.word 1))) % 2 ^ 32

/-- Size of face SRAM. -/
def sramSize : Nat := 0x400000

/-! ## Hazards and units -/

/-- Address registers a record reads (R430). -/
def FaceSt.reads (f : FaceSt) (o : OpRec) : List Nat :=
  let w := o.word 1
  match o.family with
  | 0 => [refReg (o.word 1), refReg (o.word 2), refReg (o.word 3)]
  | 1 => [3, 4, 5, 6, 7].map (fun i => refReg (o.word i))
  | 2 => let d := mnum f.sram (f.descAddr o + 28) 4
         [refReg w, bits d 0 4, bits d 4 4]
  | 3 => if bit w 28 then [bits w 24 4] else []
  | 4 => match o.subop with
    | 1 => [bits w 24 4]
    | 3 => [bits w 12 4] ++ (if bit w 20 then [] else [bits w 16 4])
    | 5 => [bits w 4 4]
    | 6 => [bits w 4 4]
    | 7 => [bits w 0 4, bits w 4 4]
    | 9 => [bits w 24 4]
    | _ => []
  | _ => [refReg w, bits (o.word 3) 24 4]

/-- Predicates a record reads. -/
def OpRec.readsP (o : OpRec) : List Nat :=
  (if o.predEn then [o.pred] else [])
    ++ (if o.family = 4 && o.subop = 3 && bits (o.word 1) 8 2 != 0 then [bits (o.word 1) 0 3] else [])

/-- Address registers and predicates that records still incomplete will write. -/
def FaceSt.pendingA (f : FaceSt) : List Nat :=
  (f.issued.filter (fun i => !i.st.ended && i.record.family == 3 && i.record.subop == 9)).map
    (fun i => bits (i.record.word 3) 0 4)
def FaceSt.pendingP (f : FaceSt) : List Nat :=
  (f.issued.filter (fun i => !i.st.ended && i.record.family == 3 && i.record.subop == 5)).map
    (fun i => bits (i.record.word 3) 4 3)

/-- No earlier record that writes a register or predicate the record reads is still incomplete. -/
def FaceSt.noHazard (f : FaceSt) (o : OpRec) : Bool :=
  (f.reads o).all (fun r => r = 0 || !f.pendingA.contains r) && o.readsP.all (fun p => !f.pendingP.contains p)

/-- Families in progress. -/
def FaceSt.busyWith (f : FaceSt) (fams : List Nat) : Bool := f.issued.any (fun i => fams.contains i.record.family)

/-- Hoist transfers in flight. -/
def FaceSt.transfers (f : FaceSt) : Nat := (f.issued.filter (fun i => i.record.family == 2)).length

/-- Waiting SYN records outstanding (R686). -/
def FaceSt.waits (f : FaceSt) : Nat := (f.issued.filter (fun i => i.st.isWait)).length

/-- A SYN record that signals another region or wafer (R491). -/
def OpRec.remoteSignal (o : OpRec) (g : Nat) : Bool :=
  o.family == 3 && [0, 2, 3, 6, 7].contains o.subop && (bit (o.word 1) 18 || bits (o.word 1) 0 7 != faceRegion g)

/-- Remote signals outstanding. -/
def FaceSt.signals (f : FaceSt) (g : Nat) : Nat :=
  (f.issued.filter (fun i => !i.st.ended && i.record.remoteSignal g)).length

/-- The record waits on a sync object (R686, R689). -/
def OpRec.isWait (o : OpRec) : Bool := o.family == 3 && [1, 4, 5, 8].contains o.subop

/-- The record's unit can accept it. -/
def FaceSt.unitFree (f : FaceSt) (g : Nat) (o : OpRec) : Bool :=
  match o.family with
  | 0 => !f.busyWith [0, 5, 6]
  | 1 => !f.busyWith [1, 5, 6]
  | 2 => f.transfers < 64
  | 3 => (!o.isWait || f.waits < 8) && (!o.remoteSignal g || f.signals g < 32)
  | 4 => if o.subop = 0 || o.subop = 9 then f.issued.isEmpty else true
  | _ => !f.busyWith [0, 1, 5, 6]

/-- The record is skipped (R468). -/
def FaceSt.skips (f : FaceSt) (o : OpRec) : Bool := o.predEn && bit f.preds o.pred == o.pneg

/-- The face runs: RUNNING, not lost, its slot backed and its region in Run. -/
def faceRuns (s : State) (g : Nat) : Bool :=
  (s.faceAt g).run == .running && !(s.faceAt g).dead && backed s g && inRun s (faceRegion g)

/-- The oldest record of the queue issues now (R430). -/
def headReady (s : State) (g : Nat) : Option OpRec :=
  let f := s.faceAt g
  match f.queue with
  | [] => none
  | o :: _ =>
    if faceRuns s g && o.wait &&& f.tokens == o.wait && f.noHazard o && (f.skips o || f.unitFree g o) then some o
    else none

/-! ## Issue, completion, skipping -/

/-- RETIRED counts, but not for a confidential owner (R487). -/
def countRetired (s : State) (g : Nat) : State :=
  if (s.faceAt g).confidential then s else addF s (facePg g) FACE_RETIRED 1

/-- The record leaves the queue and completes as it issues (CTL, and every skipped record). -/
def finishNow (s : State) (g : Nat) (o : OpRec) : State :=
  countRetired (s.updFace g (fun f =>
    let f := { f with queue := f.queue.drop 1 }
    if o.tokenEn then f.setToken o.token true else f)) g

/-- The record leaves the queue for its unit: its token clears (R433). Its number is `nextId` before this. -/
def startIssue (s : State) (g : Nat) (o : OpRec) (st : IssueSt) : State :=
  s.updFace g (fun f =>
    let f := { f with queue := f.queue.drop 1, issued := f.issued ++ [⟨f.nextId, o, st⟩], nextId := f.nextId + 1 }
    if o.tokenEn then f.setToken o.token false else f)

/-- Why a record does not execute: a code of Table 8-14 with its ERRADDR, or a QD field (R524). -/
inductive StopAt where
  | face (code space addr : Nat)
  | qd (addr : Nat)
  deriving DecidableEq, Repr

def ILLEGAL_OP : Nat := 0x40
def SRAM_RANGE : Nat := 0x41

/-- ILLEGAL_OP at a record. -/
def illegalAt (o : OpRec) : StopAt := .face ILLEGAL_OP 3 o.addr

/-- The face stops at the record (R501, R524). -/
def stopAt (s : State) (g : Nat) (o : OpRec) : StopAt → State
  | .face code space addr => faceStop s g o code space addr
  | .qd addr => faceStop (recordErr s (numPg g) 0x40 .block 6 addr) g o ILLEGAL_OP 3 o.addr

/-- What every record does first when it issues: an illegal encoding stops the face; a skipped record sets its token;
otherwise it has its effect. -/
def issueRecord (s : State) (g : Nat) (o : OpRec) (effect : State → State) : State :=
  if o.illegal then stopAt s g o (illegalAt o)
  else if (s.faceAt g).skips o then finishNow s g o
  else effect s

/-- A record command acts when the oldest queued record is its own and can issue. -/
def recordCmd (g fam sub : Nat) (effect : OpRec → State → State) (s : State) : Host.Outcome State Fault Refusal :=
  match headReady s g with
  | some o => guardDo (o.family == fam && o.subop == sub) (fun s => issueRecord s g o (effect o)) s
  | none => done s

/-- Face SRAM check bits met while a record executes (R428, R504): corrections count (ECC_CORRECTED, bit 5); an
uncorrectable word stops the face with SRAM_ECC at the record, and `effect` does not take place. -/
def withEcc (s : State) (g : Nat) (o : OpRec) (ecc : SramEcc) (effect : State → State) : State :=
  let s := if ecc.corrected = 0 then s
    else raise (addF s (facePg g) FACE_SRAM_ECC_CORRECTED ecc.corrected) (facePg g) 5
  match ecc.bad with
  | some a => stopAt s g o (.face 0x43 6 (a % sramSize))
  | none => effect s

/-- Control data in a byte range carries spoil (R988): the first such line. -/
def FaceSt.spoilStop (f : FaceSt) (a n : Nat) : Option StopAt :=
  ((linesOf a n).find? (fun l => tget false f.spoil l)).map (fun l => .face 0x43 6 (l * 64))

/-- The first of several checks that stops. -/
def firstStop : List (Option StopAt) → Option StopAt
  | [] => none
  | none :: l => firstStop l
  | some x :: _ => some x

end Sys2Proof.Machine
end

