-- ==== Sys2Proof/Machine/Adit.lean ====
section
/-! DEFINITION. Machine/Adit.lean: the Adit links (13_adit_links_collectives.md): training, frames sent and received, remote
operations at both ends, role swaps, cabinet time, HOLD and FAILED. -/

namespace Sys2Proof.Machine

open Sys2Proof

/-- The link works: one of the four, its region in Run, the block enabled (R211, R739). -/
def linkOn (s : State) (k : Nat) : Bool := k < 4 && inRun s (aditRegion k) && flagF s (aditPg k) STATUS_ENABLED

/-! ## Training (R739 to R742, R780, R783) -/

/-- The lanes a training can use, in the encoding of LANES: all four, or a pair where both ends allow it (R741); 0 none. -/
def usableLanes (lanes : Nat) (two : Bool) : Nat :=
  if lanes % 16 = 15 then 3
  else if !two then 0
  else if lanes % 4 = 3 then 1
  else if lanes / 4 % 4 = 3 then 2
  else 0

/-- The lanes of an attempt lock: LANES is set, TWO_LANE (bit 10) raised on a pair, or the attempt fails. -/
def trainLanes (s : State) (k lanes : Nat) (peerTwoLane : Bool) : State :=
  match usableLanes lanes (peerTwoLane && flagF s (aditPg k) ADIT_LINK_CFG_TWO_LANE) with
  | 0 => trainFail s k
  | n =>
    let s := setF s (aditPg k) ADIT_LINK_STATE_LANES n
    if n = 3 then s else raise s (aditPg k) 10

/-- An attempt is under way and has no lanes yet. -/
def awaitsLanes (s : State) (k : Nat) : Bool :=
  linkOn s k && flagF s (aditPg k) CTRL_EN && [0, 1, 4].contains (linkState s k) && !(s.link k).retry
    && getF s (aditPg k) ADIT_LINK_STATE_LANES == 0

/-- The lane PLLs lock: TRAINING, or UNPROVISIONED without keys; a link in HOLD keeps that state while it retrains. -/
def execLanePllLock (k lanes : Nat) (peerTwoLane : Bool) (s : State) : Host.Outcome State Fault Refusal :=
  guardDo (awaitsLanes s k) (fun s =>
    if !provisioned s then setLinkState s k 6
    else trainLanes (if linkState s k = 0 then setLinkState s k 1 else s) k lanes peerTwoLane) s

def execTrainingAttemptFail (k : Nat) (s : State) : Host.Outcome State Fault Refusal :=
  guardDo (linkOn s k && (linkState s k == 1 || linkState s k == 4) && !(s.link k).retry) (fun s => trainFail s k) s

/-- A new attempt begins 10 ms after a failed one. -/
def execTrainRetry (k : Nat) (s : State) : Host.Outcome State Fault Refusal :=
  guardDo (linkOn s k && flagF s (aditPg k) CTRL_EN && (s.link k).retry) (fun s =>
    let s := s.updLink k (fun l => { l with retry := false })
    if linkState s k = 4 then s else setLinkState s k (if provisioned s then 1 else 6)) s

/-- PROBE is answered with ECHO. -/
def execProbe (k stamp : Nat) (s : State) : Host.Outcome State Fault Refusal :=
  guardDo (linkOn s k && [1, 2, 3, 4].contains (linkState s k)) (fun s => queueCtl s k (.echo (stamp % 2 ^ 64))) s

/-- ECHO measures the one-way delay; more than 2 µs fails a training (R768). -/
def execEcho (k ns : Nat) (s : State) : Host.Outcome State Fault Refusal :=
  guardDo (linkOn s k && [1, 2, 3, 4].contains (linkState s k)) (fun s =>
    if 2000 < ns && !linkPasses s k then trainFail s k
    else setF s (aditPg k) ADIT_DELAY_NS (min ns 65535)) s

/-- Sent frames of a class that are not acknowledged. -/
def LinkSt.unacked (l : LinkSt) (c : Nat) : Nat := (l.sent.filter (fun t => t.frame.cls == c)).length

/-- The role in force; a leader end's OFFSET reads 0, and no rate is known. -/
def setRole (s : State) (k : Nat) (follower : Bool) : State :=
  let s := putFlag s (aditPg k) ADIT_LINK_STATE_ROLE_ACT follower
  let s := setF s (aditPg k) ADIT_OFFSET (offsetNow s k)
  let s := s.updLink k (fun l => { l with timed := false, timeAt := s.time, rate := (0, 1) })
  if follower then s else setF s (aditPg k) ADIT_OFFSET 0

/-- The roles of R740. -/
def trainRoles (s : State) (k peerId : Nat) (peerFollower : Bool) : State :=
  let own := flagF s (aditPg k) ADIT_LINK_CFG_ROLE
  if own = peerFollower then
    let s := setRole s k (!decide (linkId k < peerId))
    raise (setF s (aditPg k) ADIT_LINK_STATE_ROLE_ADJUSTED 1) (aditPg k) 7
  else setRole s k own

/-- The link comes up (R739, R780): roles, PEER_ID, credits and LINK_UP (bit 0); the frames not acknowledged are resent and
hold their credits. -/
def linkComesUp (s : State) (k peerId : Nat) (peerFollower : Bool) : State :=
  let s := s.updLink k (fun l =>
    let l := if linkState s k = 4 then { l with trainNo := l.trainNo + 1 } else { l with trainNo := 1 }
    { l with sent := l.sent.map (fun t => { t with again := true }), ctr := tdel l.ctr 0, naks := (0, 0, 0) })
  let s := (List.range 4).foldl (fun s c => setF s (aditPg k) (creditFld c) (512 - (s.link k).unacked c)) s
  let s := setF s (aditPg k) ADIT_PEER_ID peerId
  let s := trainRoles s k peerId peerFollower
  let s := raise (setLinkState s k 2) (aditPg k) 0
  reselectTime s

/-- Training ends (R739); a different peer after a HOLD fails the link (R781). -/
def execLinkUp (k peerId : Nat) (peerFollower : Bool) (s : State) : Host.Outcome State Fault Refusal :=
  guardDo (linkOn s k && (linkState s k == 1 || linkState s k == 4) && !(s.link k).retry && provisioned s
      && getF s (aditPg k) ADIT_LINK_STATE_LANES != 0) (fun s =>
    if linkState s k = 4 && getF s (aditPg k) ADIT_PEER_ID != peerId % 2 ^ 64 then
      linkFailed (setF s (aditPg k) ADIT_PEER_ID peerId) k
    else linkComesUp s k (peerId % 2 ^ 64) peerFollower) s

/-! ## Sending (R726 to R729, R737) -/

/-- The next frame of a class: a frame to be resent, else the oldest waiting one if a credit is held. -/
def nextOf (s : State) (k c : Nat) : Option (TxFrame × Bool) :=
  let l := s.link k
  match l.sent.find? (fun t => t.frame.cls == c && t.again) with
  | some t => some (t, true)
  | none =>
    if getF s (aditPg k) (creditFld c) = 0 then none
    else (l.tx.find? (fun t => t.frame.cls == c)).map (fun t => (t, false))

/-- The credits and acknowledgement a frame returns: the lowest class with credits to return, else each class in turn. -/
def ackOf (l : LinkSt) : LinkAck :=
  let c := ((List.range 4).find? (fun c => tget 0 l.owed c != 0)).getD (l.out.length % 4)
  ⟨c, min (tget 0 l.owed c) 512, (tget 0 l.rxNext c + 65535) % 65536⟩

/-- A frame goes on the wire; frames that are not IDLE count (R728). -/
def LinkSt.puts (l : LinkSt) (f : LinkFrame) : LinkSt :=
  { l with out := l.out ++ [f], sinceIdle := match f with | .idle _ _ => 0 | _ => l.sinceIdle + 1 }

/-- Put a new frame on the wire; `key` names the key whose counter it carries. -/
def putFrame (s : State) (k key : Nat) (f : Nat → LinkAck → LinkFrame) : State :=
  s.updLink k (fun l =>
    let a := ackOf l
    let n := tget 0 l.ctr key
    { l.puts (f n a) with owed := tset 0 l.owed a.cls (tget 0 l.owed a.cls - a.credits), ctr := tset 0 l.ctr key (n + 1) })

/-- Send a DATA frame for the first time: SEQ, counter, credit, TX; the operation it belongs to learns its SEQ. -/
def sendNew (s : State) (k : Nat) (t : TxFrame) : State :=
  let c := t.frame.cls
  let l := s.link k
  let seq := tget 0 l.nextSeq c
  let f := { t.frame with seq := seq }
  let ctr := tget 0 l.ctr f.tag
  let ack := ackOf l
  let isStatus := match f.op with | .status _ => true | _ => false
  let s := putFrame s k f.tag (fun n a => .data f n a)
  let s := s.updLink k (fun l => { l with
    tx := dropFirst (· == t) l.tx
    sent := l.sent ++ [⟨f, ctr, false, ack⟩]
    nextSeq := tset 0 l.nextSeq c ((seq + 1) % 65536)
    ops := if isStatus then l.ops else l.ops.map (fun o => if o.id = f.opId then { o with seqs := o.seqs ++ [(c, seq)] } else o) })
  let s := setF s (aditPg k) (creditFld c) (getF s (aditPg k) (creditFld c) - 1)
  addF s (aditPg k) ADIT_TX 1

/-- Resend a frame, byte-identical to the original (R729). -/
def sendAgain (s : State) (k : Nat) (t : TxFrame) : State :=
  let s := s.updLink k (fun l => { l.puts (.data t.frame t.ctr t.ack) with
    sent := l.sent.map (fun x => if x = t then { x with again := false } else x) })
  addF s (aditPg k) ADIT_TX 1

/-- Send the next frame of a class. -/
def sendClass (s : State) (k c : Nat) : State :=
  match nextOf s k c with
  | some (t, true) => sendAgain s k t
  | some (t, false) => sendNew s k t
  | none => s

/-- Send a CONTROL frame. -/
def sendControl (s : State) (k : Nat) (op : CtlOp) : State :=
  putFrame (s.updLink k (fun l => { l with ctl := dropFirst (· == op) l.ctl })) k 0 (fun n a => .control op n a)

/-- Classes 1 to 3 are paused by a swap (R750). -/
def LinkSt.paused (l : LinkSt) : Bool := match l.swap with | some w => w.paused | none => false

/-- The frame that goes at a frame boundary of a link that passes frames: IDLE as the 4,096th frame since the last one
(R728), CONTROL, class 0, classes 1 to 3 by deficit round robin, or IDLE (R727). -/
def sendFrame (s : State) (k : Nat) : State :=
  let l := s.link k
  if 4095 ≤ l.sinceIdle then putFrame s k 0 (fun n a => .idle n a)
  else match l.ctl with
  | op :: _ => sendControl s k op
  | [] =>
    if (nextOf s k 0).isSome then sendClass s k 0
    else
      let heads := fun c => if l.paused then none else (nextOf s k c).map (fun x => 1 + frameFlits x.1.frame)
      let x := drrPick heads 64 l.turn false l.deficit
      let s := s.updLink k (fun l => { l with turn := x.2.1, deficit := x.2.2 })
      match x.1 with
      | some c => sendClass s k c
      | none => putFrame s k 0 (fun n a => .idle n a)

/-- A link that trains sends its waiting ECHO. -/
def sendEcho (s : State) (k : Nat) : State :=
  match (s.link k).ctl.find? (fun c => match c with | .echo _ => true | _ => false) with
  | some op => sendControl s k op
  | none => s

/-- A frame boundary: one frame is sent; an armed commit applies (R776); a block whose EN is clear stops (R211, R252). -/
def execLinkFrameSend (k : Nat) (s : State) : Host.Outcome State Fault Refusal :=
  guardDo (linkOn s k) (fun s =>
    let s := if linkPasses s k then sendFrame s k
      else if linkState s k = 1 || linkState s k = 4 then sendEcho s k else s
    let s := if flagF s (aditPg k) COMMIT_ARMED then reselectTime (commitPage s (aditPg k)) else s
    if flagF s (aditPg k) CTRL_EN then s else linkDown (putFlag s (aditPg k) STATUS_ENABLED false) k 0) s

/-- The leader end sends TIME (R744). -/
def execTimeSend (k : Nat) (s : State) : Host.Outcome State Fault Refusal :=
  guardDo (linkOn s k && linkPasses s k && !flagF s (aditPg k) ADIT_LINK_STATE_ROLE_ACT)
    (fun s => queueCtl s k (.time (cabTime s))) s

/-! ## Receiving -/

/-- A frame of sequence number `q` is covered by an acknowledgement of `a`. -/
def covered (a q : Nat) : Bool := (a + 65536 - q) % 65536 < 32768

/-- The acknowledgement of a received frame (R729). -/
def linkAcked (s : State) (k : Nat) (a : LinkAck) : State :=
  s.updLink k (fun l => { l with
    sent := l.sent.filter (fun t => !(t.frame.cls == a.cls % 4 && covered (a.ack % 65536) t.frame.seq)) })

/-- Credits and acknowledgement of a received frame (R726, R729). -/
def coverAck (s : State) (k : Nat) (a : LinkAck) : State :=
  let fld := creditFld (a.cls % 4)
  linkAcked (setF s (aditPg k) fld (min (getF s (aditPg k) fld + a.credits) 512)) k a

/-- A frame is received on a link that passes frames. -/
def onFrame (s : State) (k : Nat) (ack : LinkAck) (f : State → State) : Host.Outcome State Fault Refusal :=
  guardDo (linkOn s k && linkPasses s k) (fun s => f (coverAck s k ack)) s

def execIdleFrame (k : Nat) (ack : LinkAck) (s : State) : Host.Outcome State Fault Refusal := onFrame s k ack id

/-- A COPY packet reaches a face of the local job's cut (R733, R734): written with its spoil tag, or answered CLAIM_DENIED
or DEAD_TARGET. -/
def takeCopy (s : State) (k j : Nat) (f : DataFrame) (face addr : Nat) (bs : List Nat) (spoil : Bool) : State :=
  let reply := fun s code => linkReply s k f.tag f.face f.opId code
  if !(s.job j).cut.any (fun c => c.face == face) then reply s 2
  else if !backed s face || !inRun s (faceRegion face) || route s (aditRegion k) (faceRegion face) = HOP_DEAD
      || sramSize < addr + bs.length then reply s 3
  else
    let d : Load := ⟨addr, bs, if spoil then [(0, bs.length)] else []⟩
    let who : Sender := .adit k f.tag f.face f.opId
    if faceRegion face = aditRegion k then landFace s who (.toFace who face d) face d
    else inject s ⟨f.cls, aditRegion k, faceRegion face, aditRegion k, getF s wbPg WB_EPOCH, .toFace who face d⟩

/-- The sync operation a signal stands for. -/
def signalSub (n : Nat) : SyncSub := if n = 0 then .add else if n = 2 then .set else .arrive

/-- A remote signal enters the haul road at the link region, for its job's face (R683, R733, R735). -/
def takeSignal (s : State) (k j : Nat) (f : DataFrame) (region obj sub val : Nat) : State :=
  if !inRun s region || (region != aditRegion k && route s (aditRegion k) region = HOP_DEAD) then
    linkReply s k f.tag f.face f.opId 3
  else sendOp s f.cls (aditRegion k) region
    ⟨obj % 256, signalSub sub, val % 2 ^ 32, .adit k j (f.rank * 4096 + f.face) f.opId, 0⟩

/-- The status of an own operation comes back. -/
def takeStatus (s : State) (k : Nat) (f : DataFrame) (code : Nat) : State :=
  match (s.link k).ops.find? (fun o => o.id == f.opId && o.g == f.face && o.tag == f.tag) with
  | some o => remAnswer s k o code
  | none => s

/-- The packet of an accepted DATA frame. -/
def deliverData (s : State) (k j : Nat) (f : DataFrame) : State :=
  match f.op with
  | .copy face addr bs spoil => takeCopy s k j f face addr bs spoil
  | .signal region obj sub val => takeSignal s k j f region obj sub val
  | .status code => takeStatus s k f code

/-- A frame that passes its CRC fails authentication (R782): its tag is cut off, REJECT AUTH, code AUTH, AUTH_FAIL
(bit 8), and the local job receives LINK_AUTH. -/
def authFail (s : State) (k j : Nat) (f : DataFrame) : State :=
  let s := s.updLink k (fun l => { l with cut := l.cut ++ [f.tag] })
  let s := queueCtl s k (.reject f.tag f.cls f.seq 2)
  let s := addF s (aditPg k) ADIT_ERRORS_AUTH_FAIL 1
  let s := raise (recordErr s (aditPg k) 0x42 .block 5 f.tag) (aditPg k) 8
  failRems (jobStop s j 0x15 k 0xFFFF) k (fun o => o.tag == f.tag) 3

/-- A DATA frame in order (R729): it is acknowledged and its credit returned, then judged (R775, R782). -/
def takeData (s : State) (k : Nat) (f : DataFrame) (authOk : Bool) : State :=
  let s := s.updLink k (fun l => { l with
    rxNext := tset 0 l.rxNext f.cls ((f.seq + 1) % 65536), owed := tset 0 l.owed f.cls (tget 0 l.owed f.cls + 1) })
  match (s.link k).jobOf f.tag with
  | none =>
    let s := queueCtl s k (.reject f.tag f.cls f.seq 1)
    recordErr s (aditPg k) 0x43 .block 5 f.tag
  | some j =>
    if (s.link k).cut.contains f.tag then s
    else if !authOk then authFail s k j f
    else deliverData s k j f

/-- DATA_FRAME: a bad CRC or a gap is answered with NAK (R778, R729), a duplicate is acknowledged and discarded. The credits
of a frame that is discarded come with its resent original, or have come with it. -/
def execDataFrame (k : Nat) (f : DataFrame) (ack : LinkAck) (crcOk authOk : Bool) (s : State) :
    Host.Outcome State Fault Refusal :=
  let f := { f with cls := f.cls % 4, seq := f.seq % 65536, face := f.face % 4096, rank := f.rank % 16 }
  let want := tget 0 (s.link k).rxNext f.cls
  if !crcOk then guardDo (linkOn s k && linkPasses s k) (fun s => queueCtl s k (.nak f.cls want)) s
  else guardDo (linkOn s k && linkPasses s k) (fun s =>
    let s := addF (linkAcked s k ack) (aditPg k) ADIT_RX 1
    if f.seq = want then takeData (coverAck s k ack) k f authOk
    else if covered ((want + 65535) % 65536) f.seq then s
    else queueCtl s k (.nak f.cls want)) s

/-! ## HOLD and FAILED (R779, R781) -/

/-- The link enters HOLD: LINK_DOWN (bit 1), a swap ends with SWAP_FAIL (bit 5, R772), and it retrains at once. REJECTs
that wait are kept. -/
def enterHold (s : State) (k : Nat) : State :=
  let swapping := (s.link k).swap.isSome
  let s := endSwap (setLinkState s k 4) k
  let s := setF s (aditPg k) ADIT_LINK_STATE_LANES 0
  let s := s.updLink k (fun l => { l with
    retry := false, naks := (0, 0, 0), ctl := l.ctl.filter (fun c => match c with | .reject _ _ _ _ => true | _ => false) })
  let s := addF s (aditPg k) ADIT_TRAIN_RETRAINS 1
  let s := raise s (aditPg k) 1
  let s := if swapping then raise s (aditPg k) 5 else s
  reselectTime s

/-- Lane loss, or (`auth`) a CONTROL or IDLE frame that fails authentication. -/
def execLinkHold (k : Nat) (auth : Bool) (s : State) : Host.Outcome State Fault Refusal :=
  guardDo (linkOn s k && linkPasses s k)
    (fun s => enterHold (if auth then addF s (aditPg k) ADIT_ERRORS_AUTH_FAIL 1 else s) k) s

def execHoldTimeout (k : Nat) (s : State) : Host.Outcome State Fault Refusal :=
  guardDo (linkOn s k && linkState s k == 4) (fun s => linkFailed s k) s

/-- NAK: the class is resent from the expected SEQ (R729); the fourth for one SEQ without progress puts the link in HOLD
(R779). -/
def takeNak (s : State) (k cls seq : Nat) : State :=
  let s := s.updLink k (fun l =>
    let n := if l.naks.1 = cls ∧ l.naks.2.1 = seq then l.naks.2.2 + 1 else 1
    { l with naks := (cls, seq, n)
             sent := (l.sent.filter (fun t => !(t.frame.cls == cls && covered ((seq + 65535) % 65536) t.frame.seq))).map
               (fun t => if t.frame.cls = cls then { t with again := true } else t) })
  let s := addF s (aditPg k) ADIT_ERRORS_REPLAYS 1
  if 4 ≤ (s.link k).naks.2.2 then enterHold s k else s

def execNak (k cls seq : Nat) (ack : LinkAck) (s : State) : Host.Outcome State Fault Refusal :=
  onFrame s k ack (fun s => takeNak s k (cls % 4) (seq % 65536))

/-- REJECT completes the operation that sent the named frame with DEAD_TARGET (R775); for reason AUTH every operation of
the tag, whose later ones end the same way (R782). -/
def takeReject (s : State) (k tag cls seq reason : Nat) : State :=
  let s := if reason = 2 then s.updLink k (fun l => { l with cut := if l.cut.contains tag then l.cut else l.cut ++ [tag] })
    else s
  failRems s k (fun o => o.tag == tag && (reason == 2 || o.seqs.contains (cls, seq))) 3

def execReject (k tag cls seq reason : Nat) (ack : LinkAck) (s : State) : Host.Outcome State Fault Refusal :=
  onFrame s k ack (fun s => takeReject s k tag cls seq reason)

/-! ## Cabinet time (R744, R748) -/

/-- One tick is 1,000,000,000 / 24,576,000 ns: nanoseconds in 1/256 tick, to the nearest. -/
def nsTo256 (ns : Nat) : Nat := (rheDiv (ns * 6291456) 1000000).toNat

/-- TIME at a follower end: OFFSET is the leader's cabinet time plus DELAY minus the own wafer time, and slews from now on at
the rate by which it changed since the TIME before; the time source's OFFSET is the one in use. -/
def takeTime (s : State) (k t : Nat) : State :=
  let off := (t + nsTo256 (getF s (aditPg k) ADIT_DELAY_NS) + 2 ^ 64 - s.time * 256 % 2 ^ 64) % 2 ^ 64
  let before := getF s (aditPg k) ADIT_OFFSET
  let s := setF s (aditPg k) ADIT_OFFSET off
  let s := s.updLink k (fun l => { l with
    timed := true, timeAt := s.time
    rate := if !l.timed then (0, 1) else if l.timeAt < s.time then
      (toSigned 64 ((off + 2 ^ 64 - before) % 2 ^ 64), s.time - l.timeAt) else l.rate })
  if s.cab.src = some k then adoptOffset s k else s

def execTime (k t : Nat) (ack : LinkAck) (s : State) : Host.Outcome State Fault Refusal :=
  onFrame s k ack (fun s =>
    if flagF s (aditPg k) ADIT_LINK_STATE_ROLE_ACT then takeTime s k (t % 2 ^ 64) else s)

/-! ## Role swap (R750 to R754, R769 to R773) -/

/-- A swap begins at this end: SWAPPING and BUSY. -/
def beginSwap (s : State) (k : Nat) (w : SwapSt) : State :=
  let s := setF (setLinkState s k 3) (aditPg k) ADIT_ROLE_CMD_BUSY 1
  s.updLink k (fun l => { l with swap := some w })

/-- ROLE_CMD.SWAP while UP. -/
def requestSwap (s : State) (k : Nat) : State := queueCtl (beginSwap s k ⟨true, false⟩) k (.swapReq (linkId k))

/-- The swap ends without an exchange, and the link is UP. -/
def abortSwap (s : State) (k : Nat) (fail : Bool) : State :=
  let s := setLinkState (endSwap s k) k 2
  if fail then raise s (aditPg k) 5 else s

/-- The roles are exchanged and stored; SWAP_DONE (bit 3) (R750, R754). -/
def completeSwap (s : State) (k : Nat) : State :=
  let role := !flagF s (aditPg k) ADIT_LINK_STATE_ROLE_ACT
  let s := setLinkState (endSwap s k) k 2
  let s := putFlag (setRole s k role) (aditPg k) ADIT_LINK_CFG_ROLE role
  let s := addF s (aditPg k) ADIT_SWAPS_DONE 1
  reselectTime (raise s (aditPg k) 3)

/-- This end answers a request: classes 1 to 3 pause, SWAP_ACK. -/
def acceptSwap (s : State) (k : Nat) : State := queueCtl (beginSwap s k ⟨false, true⟩) k .swapAck

/-- SWAP_REQ, crossed requests included (R769, R770). -/
def takeSwapReq (s : State) (k id : Nat) : State :=
  match (s.link k).swap with
  | none => acceptSwap s k
  | some w =>
    if !w.requester || w.paused then s
    else if linkId k < id then s
    else if id < linkId k then
      let s := acceptSwap s k
      let s := setF s (aditPg k) ADIT_LINK_STATE_SWAP_COLLIDED 1
      raise (addF s (aditPg k) ADIT_SWAPS_COLLIDED 1) (aditPg k) 4
    else
      let s := queueCtl (abortSwap s k false) k (.swapAbort 1)
      let s := setF s (aditPg k) ADIT_LINK_STATE_ID_EQUAL 1
      raise (recordErr s (aditPg k) 0x44 .block 15 0) (aditPg k) 6

def execSwapReq (k id : Nat) (ack : LinkAck) (s : State) : Host.Outcome State Fault Refusal :=
  onFrame s k ack (fun s => takeSwapReq s k (id % 2 ^ 64))

def execSwapAck (k : Nat) (ack : LinkAck) (s : State) : Host.Outcome State Fault Refusal :=
  onFrame s k ack (fun s => match (s.link k).swap with
    | some w => if w.requester then s.updLink k (fun l => { l with swap := some ⟨true, true⟩ }) else s
    | none => s)

def execSwapDone (k : Nat) (ack : LinkAck) (s : State) : Host.Outcome State Fault Refusal :=
  onFrame s k ack (fun s => match (s.link k).swap with
    | some w => if w.requester then s else completeSwap s k
    | none => s)

def execSwapAbort (k reason : Nat) (ack : LinkAck) (s : State) : Host.Outcome State Fault Refusal :=
  onFrame s k ack (fun s => if (s.link k).swap.isSome then abortSwap s k (reason != 1) else s)

/-- Every frame of classes 1 to 3 sent is acknowledged. -/
def LinkSt.drained (l : LinkSt) : Bool := !l.sent.any (fun t => t.frame.cls != 0)

/-- Both ends are drained and the transmitters re-phased: the requester sends SWAP_DONE. -/
def execSwapDrained (k : Nat) (s : State) : Host.Outcome State Fault Refusal :=
  guardDo (linkOn s k && (s.link k).swap == some ⟨true, true⟩ && (s.link k).drained)
    (fun s => completeSwap (queueCtl s k .swapDone) k) s

def execSwapDrainTimeout (k : Nat) (s : State) : Host.Outcome State Fault Refusal :=
  guardDo (linkOn s k && (s.link k).paused && !(s.link k).drained)
    (fun s => queueCtl (abortSwap s k true) k (.swapAbort 2)) s

end Sys2Proof.Machine
end

