-- ==== Sys2Proof/Machine/Hoist.lean ====
section
/-! DEFINITION. Machine/Hoist.lean: MOV records: the hoist descriptor and its checks (R621 to R624), and the six hoist
operations (Table 11-4, R610 to R617, R625, R654 to R656, R665). A transfer has its effect as its record issues. -/

namespace Sys2Proof.Machine

open Sys2Proof

/-! ## The descriptor (Table 11-3) -/

/-- A hoist descriptor with its effective addresses (R622). -/
structure HoistDesc where
  addr : Nat
  words : List Nat
  op : Nat
  cls : Nat
  remote : Bool
  link : Nat
  rows : Nat
  rowBytes : Nat
  face : Nat
  pitch : Nat
  far : Nat
  farPitch : Nat
  region : Nat
  dst : Nat
  deriving DecidableEq, Repr

def HoistDesc.word (d : HoistDesc) (i : Nat) : Nat := d.words.getD i 0

/-- The descriptor a MOV names. -/
def FaceSt.desc (f : FaceSt) (o : OpRec) : HoistDesc :=
  let a := f.descAddr o
  let w := (List.range 8).map (fun i => mnum f.sram (a + 4 * i) 4)
  let x := fun i => w.getD i 0
  ⟨a, w, bits (x 0) 0 4, bits (x 0) 4 2, bit (x 0) 6, bits (x 0) 7 2, bits (x 0) 16 16, bits (x 1) 0 23,
    (bits (x 2) 0 22 + f.a (bits (x 7) 0 4)) % 2 ^ 32, bits (x 3) 0 23,
    (bits (x 4) 0 28 + o.word 2 + f.a (bits (x 7) 4 4)) % 2 ^ 32, bits (x 5) 0 28, bits (x 6) 0 7, bits (x 6) 16 12⟩

/-- Face and far address of a row. -/
def HoistDesc.faceAt (d : HoistDesc) (r : Nat) : Nat := d.face + r * d.pitch
def HoistDesc.farAt (d : HoistDesc) (r : Nat) : Nat := d.far + r * d.farPitch

/-- The bits Table 11-3 names. -/
def descMasks : List Nat := [0xFFFF01FF, 0x7FFFFF, 0x3FFFFF, 0x7FFFFF, 0xFFFFFFF, 0xFFFFFFF, 0x0FFF007F, 0xFF]

/-- OP moves whole lines (R623). -/
def HoistDesc.grain (d : HoistDesc) : Nat := if d.op ≤ 2 then 64 else 4

/-- OP has a far side. -/
def HoistDesc.hasFar (d : HoistDesc) : Bool := d.op == 0 || 3 ≤ d.op

/-- The region whose bed store the far side lies in. -/
def HoistDesc.bedRegion (d : HoistDesc) (g : Nat) : Nat := if d.op = 0 then faceRegion g else d.region

/-- One past the last far byte. -/
def HoistDesc.farEnd (d : HoistDesc) : Nat := d.farAt (d.rows - 1) + d.rowBytes

/-- A condition of R624 holds. -/
def HoistDesc.bad (d : HoistDesc) (g : Nat) : Bool :=
  5 < d.op || d.cls == 0 || d.cls == 3 || d.rows == 0 || d.rowBytes == 0 || sramSize < d.rowBytes
    || (List.range 8).any (fun i => d.word i &&& descMasks.getD i 0 != d.word i)
    || (!d.hasFar && (d.word 4 != 0 || d.word 5 != 0))
    || (d.op != 3 && d.op != 4 && d.region != 0)
    || (d.op != 5 && (d.dst != 0 || d.remote))
    || [bits (d.word 2) 0 22, d.pitch, d.rowBytes, bits (d.word 4) 0 28, d.farPitch, d.face].any (· % d.grain != 0)
    || (d.hasFar && d.far % d.grain != 0)
    || ((d.op == 3 || d.op == 4) && !present d.region)
    || ((d.op == 0 || d.op == 3 || d.op == 4) && bedCapacity (d.bedRegion g) < d.farEnd)
    || (d.op == 5 && (!faceAssigned d.dst || sramSize < d.farEnd))

/-- The descriptor address is misaligned or beyond face SRAM (R456, R492). -/
def descUnreadable (a : Nat) : Bool := a % 32 != 0 || sramSize < a + 32

/-- The first row that leaves face SRAM (R492). -/
def HoistDesc.rangeStop (d : HoistDesc) : Option StopAt :=
  ((List.range d.rows).find? (fun r => sramSize < d.faceAt r + d.rowBytes)).map
    (fun r => .face SRAM_RANGE 6 (max (d.faceAt r) sramSize))

/-- Why a MOV does not execute: its descriptor address, a spoiled descriptor (R988), R624, its face range. -/
def movStop (s : State) (g : Nat) (o : OpRec) : Option StopAt :=
  let f := s.faceAt g
  let d := f.desc o
  if descUnreadable d.addr then some (.face SRAM_RANGE 6 d.addr)
  else firstStop [f.spoilStop d.addr 32, if d.bad g then some (illegalAt o) else none, d.rangeStop]

/-- The stop of a MOV: a breach of R624 is also recorded in the hoist page as HOIST_DESC. -/
def movStopAt (s : State) (g : Nat) (o : OpRec) (x : StopAt) : State :=
  let d := (s.faceAt g).desc o
  let s := if x = illegalAt o then recordErr s (hoistPg g) 0x40 .block 6 d.addr else s
  stopAt s g o x

/-! ## Steps of a transfer -/

/-- What one row comes to: the state, the status, bed or face address and offset in the row where it failed, and whether
delivered data carried spoil. -/
structure RowRes where
  st : State
  fail : Option (Nat × Nat × Nat)
  spoiled : Bool

/-- Rows in ascending order, to the first that fails; answers that row. -/
def runRows (step : State → Nat → RowRes) : List Nat → State → Bool → RowRes × Nat
  | [], s, sp => (⟨s, none, sp⟩, 0)
  | r :: rs, s, sp =>
    let x := step s r
    match x.fail with
    | some _ => (⟨x.st, x.fail, sp || x.spoiled⟩, r)
    | none => runRows step rs x.st (sp || x.spoiled)

/-- Pieces of a row in order, to the first that fails. -/
def runPieces {α : Type} (step : State → α → RowRes) : List α → State → Bool → RowRes
  | [], s, sp => ⟨s, none, sp⟩
  | a :: l, s, sp =>
    let x := step s a
    match x.fail with
    | some _ => ⟨x.st, x.fail, sp || x.spoiled⟩
    | none => runPieces step l x.st (sp || x.spoiled)

/-- A claim refusal of a face's bed access at a line (R848), as a failed piece. -/
def claimFail (s : State) (g r a off : Nat) : RowRes := ⟨denyBed s r a 64 (.face g), some (2, a, off), false⟩

/-- A dirty face line goes to its HOME (R616): OUT counts, and the line is clean. -/
def putBack (s : State) (g line : Nat) : State :=
  let f := s.faceAt g
  let t := f.tag line
  let s := writeBackLine s (faceRegion g) g t.home (mbytes f.sram (line * 64) 64) (tget false f.spoil line)
  let s := s.updFace g (fun f => { f with tags := tset LineTag.reset f.tags line { t with dirty := false } })
  hoistCount s g HOIST_OUT 64

/-- The data of a bed line enters a face line with its tag (R613). -/
def fillLine (s : State) (g line home : Nat) : State × Bool :=
  let x := bedRead s (faceRegion g) (home * 64) 64
  let s := x.1.updFace g (fun f => { f with
    sram := mputs f.sram (line * 64) x.2.1, spoil := tset false f.spoil line x.2.2
    tags := tset LineTag.reset f.tags line ⟨true, false, home⟩ })
  (hoistCount s g HOIST_IN 64, x.2.2)

/-- FETCH of one line: a hit is skipped (R654), a dirty line of another HOME is written back first (R655). -/
def fetchLine (g face far : Nat) (s : State) (j : Nat) : RowRes :=
  let r := faceRegion g
  let line := face / 64 + j
  let home := far / 64 + j
  let t := (s.faceAt g).tag line
  if !faceMay s g r (home * 64) 64 0 then claimFail s g r (home * 64) (64 * j)
  else if t.valid && t.home == home then ⟨hoistCount s g HOIST_HITS 1, none, false⟩
  else if t.dirty && !faceMay s g r (t.home * 64) 64 1 then claimFail s g r (t.home * 64) (64 * j)
  else
    let x := fillLine (if t.dirty then putBack s g line else s) g line home
    ⟨x.1, none, x.2⟩

/-- WRITEBACK of one line. -/
def writeBackOne (g face : Nat) (s : State) (j : Nat) : RowRes :=
  let r := faceRegion g
  let line := face / 64 + j
  let t := (s.faceAt g).tag line
  if !t.dirty then ⟨s, none, false⟩
  else if !faceMay s g r (t.home * 64) 64 1 then claimFail s g r (t.home * 64) (64 * j)
  else ⟨putBack s g line, none, tget false (s.faceAt g).spoil line⟩

/-- DISCARD of one line: its tag clears; the OUT mark of a dirty line is cleared, which writes the line's metadata. -/
def discardLine (g face : Nat) (s : State) (j : Nat) : RowRes :=
  let r := faceRegion g
  let line := face / 64 + j
  let t := (s.faceAt g).tag line
  let s := s.updFace g (fun f => { f with tags := tset LineTag.reset f.tags line LineTag.reset })
  if !t.dirty then ⟨s, none, false⟩
  else ⟨s.updBed r (fun b =>
    let b := { b with outQueue := b.outQueue.filter (fun o => o.line != t.home) }
    if tget 0 b.marks t.home = 0 then b else wearLine r t.home { b with marks := tset 0 b.marks t.home 0 }), none, false⟩

/-- A region's bed store or faces can be reached from another region: Run and routes both ways. -/
def reachable (s : State) (r d : Nat) : Bool :=
  inRun s d && (r == d || (route s r d != HOP_DEAD && route s d r != HOP_DEAD))

/-- LOAD of a row, up to the first line its claims refuse; the spoil of each bed line goes with its bytes. -/
def loadRow (g : Nat) (d : HoistDesc) (s : State) (r : Nat) : RowRes :=
  let fa := d.faceAt r
  if !reachable s (faceRegion g) d.region then ⟨s, some (3, d.farAt r, 0), false⟩
  else
    let ps := piecesOf (d.rowBytes + 1) (d.farAt r) d.rowBytes 0
    let no := ps.find? (fun p => !faceMay s g d.region p.1 p.2.1 0)
    let x := readPieces s d.region (match no with | some q => ps.filter (fun p => p.2.2 < q.2.2) | none => ps)
    let s := sramWrite x.1 g fa x.2.1 false
    let s := x.2.2.foldl (fun s p => markSpoil s g (fa + p.2.2) p.2.1) s
    let s := hoistCount s g HOIST_IN x.2.1.length
    match no with
    | some q => { claimFail s g d.region q.1 q.2.2 with spoiled := !x.2.2.isEmpty }
    | none => ⟨s, none, !x.2.2.isEmpty⟩

/-- STORE of the piece of one bed line, with the spoil of the face lines it comes from. -/
def storePiece (g region face : Nat) (s : State) (p : Nat × Nat × Nat) : RowRes :=
  if !faceMay s g region p.1 p.2.1 1 then claimFail s g region p.1 p.2.2
  else
    let f := s.faceAt g
    let sp := f.rangeSpoil (face + p.2.2) p.2.1
    let s := bedWrite s region (.hoist g) p.1 (mbytes f.sram (face + p.2.2) p.2.1) sp true
    ⟨hoistCount s g HOIST_OUT p.2.1, none, sp⟩

def storeRow (g : Nat) (d : HoistDesc) (s : State) (r : Nat) : RowRes :=
  if !reachable s (faceRegion g) d.region then ⟨s, some (3, d.farAt r, 0), false⟩
  else runPieces (storePiece g d.region (d.faceAt r)) (piecesOf (d.rowBytes + 1) (d.farAt r) d.rowBytes 0) s false

/-- COPY of a row to a face of this module. -/
def copyRow (g : Nat) (d : HoistDesc) (s : State) (r : Nat) : RowRes :=
  if !copyMay s g d.dst then ⟨s, some (2, d.dst, 0), false⟩
  else if !backed s d.dst || !reachable s (faceRegion g) (faceRegion d.dst) then ⟨s, some (3, d.dst, 0), false⟩
  else
    let x := (s.faceAt g).readLoad (d.faceAt r) d.rowBytes (d.farAt r)
    ⟨hoistCount (writeLoad s d.dst x) g HOIST_OUT d.rowBytes, none, !x.bad.isEmpty⟩

/-- Lines of a row. -/
def HoistDesc.rowLines (d : HoistDesc) : List Nat := List.range (d.rowBytes / 64)

/-- One row of a transfer within the module. -/
def moveRow (g : Nat) (d : HoistDesc) (s : State) (r : Nat) : RowRes :=
  match d.op with
  | 0 => runPieces (fetchLine g (d.faceAt r) (d.farAt r)) d.rowLines s false
  | 1 => runPieces (writeBackOne g (d.faceAt r)) d.rowLines s false
  | 2 => runPieces (discardLine g (d.faceAt r)) d.rowLines s false
  | 3 => loadRow g d s r
  | 4 => storeRow g d s r
  | _ => copyRow g d s r

/-- The lines of its own face SRAM that a failed FETCH or LOAD did not write are tagged spoil (R665). -/
def spoilRest (s : State) (g : Nat) (d : HoistDesc) (row off : Nat) : State :=
  if d.op = 0 || d.op = 3 then
    ((List.range d.rows).filter (row ≤ ·)).foldl (fun s r =>
      let o := if r = row then off else 0
      markSpoil s g (d.faceAt r + o) (d.rowBytes - o)) s
  else s

/-- A transfer within its region: its crossbar takes the rows at once. -/
def moveLocal (g : Nat) (o : OpRec) (d : HoistDesc) (s : State) : State :=
  let wr := d.op == 1 || d.op == 4
  let s := startIssue s g o (if wr then .writes (if d.op = 1 then faceRegion g else d.region) d.op d.addr else .done)
  let x := runRows (moveRow g d) (List.range d.rows) s false
  match x.1.fail with
  | some (st, a, off) =>
    xferFail (spoilRest x.1.st g d x.2 off) g d.op d.addr st (if d.op = 5 then 4 else 3) a
  | none => xferSpoil x.1.st g x.1.spoiled

/-! ## LOAD, STORE and COPY between regions (R28, R39, R625) -/

/-- One packet's share of a transfer: row, offset in the row, bytes. -/
structure Chunk where
  row : Nat
  off : Nat
  len : Nat
  deriving DecidableEq, Repr

/-- A transfer cut into packets, in the order in which they leave (R622, R625). -/
def HoistDesc.chunks (d : HoistDesc) : List Chunk :=
  (List.range d.rows).flatMap (fun r => (packets (d.rowBytes + 1) 0 d.rowBytes).map (fun p => ⟨r, p.1, p.2⟩))

/-- The chunks up to the first bed line that `may` refuses, and that line with its place. -/
def allowedPart (d : HoistDesc) (may : Nat → Nat → Bool) : List Chunk → List Chunk × Option (Nat × Nat × Nat)
  | [] => ([], none)
  | c :: cs =>
    match (piecesOf (c.len + 1) (d.farAt c.row + c.off) c.len 0).find? (fun p => !may p.1 p.2.1) with
    | none => let x := allowedPart d may cs; (c :: x.1, x.2)
    | some q => (if q.2.2 = 0 then [] else [⟨c.row, c.off, q.2.2⟩], some (q.1, c.row, c.off + q.2.2))

/-- The region a transfer goes to or reads from. -/
def HoistDesc.farRegion (d : HoistDesc) : Nat := if d.op = 5 then faceRegion d.dst else d.region

/-- LOAD, STORE or COPY with another region. -/
def HoistDesc.leaves (d : HoistDesc) (g : Nat) : Bool := 3 ≤ d.op && d.farRegion != faceRegion g

/-- The packet of a chunk, as the record with number `id` issues. -/
def chunkBody (s : State) (g id : Nat) (d : HoistDesc) (x : Chunk × Nat) : Body :=
  let c := x.1
  let far := d.farAt c.row + c.off
  let own := d.faceAt c.row + c.off
  match d.op with
  | 3 => .ask g id x.2 far c.len own
  | 4 => .toBed (.hoist g id x.2) ((s.faceAt g).readLoad own c.len far)
  | _ => .toFace (.hoist g id x.2) d.dst ((s.faceAt g).readLoad own c.len far)

/-- Spoil leaves with a packet. -/
def Body.spoiled : Body → Bool
  | .toBed _ d => !d.bad.isEmpty
  | .toFace _ _ d => !d.bad.isEmpty
  | _ => false

/-- A transfer between regions: its checks, its packets, and the status that already ends it. -/
def moveFar (g : Nat) (o : OpRec) (d : HoistDesc) (s : State) : State :=
  let src := faceRegion g
  let id := (s.faceAt g).nextId
  let refuse (st a : Nat) : State :=
    xferFail (spoilRest (startIssue s g o .done) g d 0 0) g d.op d.addr st (if d.op = 5 then 4 else 3) a
  if d.op = 5 && !copyMay s g d.dst then refuse 2 d.dst
  else if !reachable s src d.farRegion || (d.op == 5 && !backed s d.dst) then refuse 3 (if d.op = 5 then d.dst else d.farAt 0)
  else
    let right := if d.op = 3 then 0 else 1
    let x := allowedPart d (fun a n => d.op == 5 || faceMay s g d.region a n right) d.chunks
    let bodies := x.1.zipIdx.map (chunkBody s g id d)
    let s := startIssue s g o (.moving ⟨d.op, d.addr, d.cls, d.farRegion, d.faceAt 0, d.faceAt (d.rows - 1) + d.rowBytes,
      bodies.any Body.spoiled, x.2.map (fun q => (2, q.1))⟩)
    let s := if d.op = 3 then s else hoistCount s g HOIST_OUT ((x.1.map (·.len)).foldl (· + ·) 0)
    let s := match x.2 with
      | some q => spoilRest (denyBed s d.region q.1 64 (.face g)) g d q.2.1 q.2.2
      | none => s
    let s := bodies.foldl (fun s b => inject s ⟨d.cls, src, d.farRegion, src, getF s wbPg WB_EPOCH, b⟩) s
    xferStep s g id

/-- The own SRAM range of a descriptor meets that of a transfer. -/
def HoistDesc.meets (d : HoistDesc) (t : Transfer) : Bool := d.faceAt 0 < t.hi && t.lo < d.faceAt (d.rows - 1) + d.rowBytes

/-- A record sees every effect of the hoist records before it (R432): it waits while a LOAD that fills part of its own range
is on the road, and a LOAD or STORE while the other of its region is on the road in another class. -/
def hoistFree (f : FaceSt) (d : HoistDesc) : Bool :=
  f.issued.all (fun i => match i.st with
    | .moving t => !(t.op == 3 && d.meets t) && !((d.op == 3 && t.op == 4 || d.op == 4 && t.op == 3)
      && d.region == t.far && d.cls != t.cls)
    | _ => true)

/-! ## COPY across an Adit link (R731, R732) -/

/-- The link takes remote operations of the face (R731, R781, R782): 0, or the status that refuses them. -/
def remoteStatus (s : State) (g k : Nat) : Nat :=
  match ownerJob s g with
  | none => 2
  | some j =>
    if !jobClaimsLink s j k then 2
    else match (s.link k).tagOf j with
      | none => if linkTakes s k then 2 else 3
      | some tag =>
        if !linkTakes s k || (s.link k).cut.contains tag
          || (faceRegion g != aditRegion k && route s (faceRegion g) (aditRegion k) == HOP_DEAD) then 3 else 0

/-- A frame goes from its face to its link: at once within the link region, else over the haul road. -/
def sendFrameTo (s : State) (g k : Nat) (f : DataFrame) : State :=
  if faceRegion g = aditRegion k then queueData s k f
  else inject s ⟨f.cls, faceRegion g, aditRegion k, faceRegion g, getF s wbPg WB_EPOCH, .toLink k f⟩

/-- The frames of a remote operation set out for the link, and its issue waits for their answers. -/
def sendRemote (s : State) (g : Nat) (o : OpRec) (k cls desc dst : Nat) (ops : List AditOp) : State :=
  let j := (ownerJob s g).getD 0
  let x := s.job j
  let id := (s.link k).nextOp
  let rid := (s.faceAt g).nextId
  let s := startIssue s g o (.remote k id)
  let s := s.updLink k (fun l => { l with nextOp := id + 1, ops := l.ops ++ [⟨id, g, rid, x.tag, ops.length, [], desc, dst⟩] })
  ops.foldl (fun s op => sendFrameTo s g k ⟨cls, 0, x.rank, x.tag, getF s wbPg WB_EPOCH % 65536, g, id, op⟩) s

/-- A COPY whose REMOTE is set. -/
def moveRemote (g : Nat) (o : OpRec) (d : HoistDesc) (s : State) : State :=
  match remoteStatus s g d.link with
  | 0 =>
    let f := s.faceAt g
    let ops := (List.range d.rows).flatMap (fun r => (packets (d.rowBytes + 1) 0 d.rowBytes).map (fun p =>
      (.copy d.dst (d.farAt r + p.1) (mbytes f.sram (d.faceAt r + p.1) p.2) (f.rangeSpoil (d.faceAt r + p.1) p.2) : AditOp)))
    let sp := (List.range d.rows).any (fun r => f.rangeSpoil (d.faceAt r) d.rowBytes)
    let s := sendRemote s g o d.link d.cls d.addr d.dst ops
    xferSpoil (hoistCount s g HOIST_OUT (d.rows * d.rowBytes)) g sp
  | st => xferFail (startIssue s g o .done) g 5 d.addr st 4 d.dst

/-! ## The commands -/

/-- A MOV record's effect. -/
def movEffect (g : Nat) (ecc : SramEcc) (errs : List (Nat × Nat)) (o : OpRec) (s : State) : State :=
  match movStop s g o with
  | some x => movStopAt s g o x
  | none =>
    withEcc s g o ecc (fun s =>
      let d := (s.faceAt g).desc o
      if d.remote then moveRemote g o d s
      else
        let s := ageLines s (d.bedRegion g) errs
        if d.leaves g then moveFar g o d s else moveLocal g o d s)

/-- OP of the descriptor of a MOV; `none` when it cannot be read or is reserved: any row takes such a MOV. -/
def movOp (s : State) (g : Nat) (o : OpRec) : Option Nat :=
  let d := (s.faceAt g).desc o
  if descUnreadable d.addr || 5 < d.op then none else some d.op

/-- The oldest queued record is a MOV whose descriptor names the operation, and it can issue. -/
def hoistCmd (g op : Nat) (ecc : SramEcc) (errs : List (Nat × Nat)) (s : State) : Host.Outcome State Fault Refusal :=
  match headReady s g with
  | some o => guardDo (o.family == 2 && (match movOp s g o with
      | none => true
      | some n => n == op && ((s.faceAt g).skips o || hoistFree (s.faceAt g) ((s.faceAt g).desc o))))
      (fun s => issueRecord s g o (movEffect g ecc errs o)) s
  | none => done s

def execFetch (g : Nat) (ecc : SramEcc) (errs : List (Nat × Nat)) (s : State) : Host.Outcome State Fault Refusal :=
  hoistCmd g 0 ecc errs s
def execWriteback (g : Nat) (ecc : SramEcc) (s : State) : Host.Outcome State Fault Refusal := hoistCmd g 1 ecc [] s
def execDiscard (g : Nat) (ecc : SramEcc) (s : State) : Host.Outcome State Fault Refusal := hoistCmd g 2 ecc [] s
def execLoad (g : Nat) (ecc : SramEcc) (errs : List (Nat × Nat)) (s : State) : Host.Outcome State Fault Refusal :=
  hoistCmd g 3 ecc errs s
def execStore (g : Nat) (ecc : SramEcc) (s : State) : Host.Outcome State Fault Refusal := hoistCmd g 4 ecc [] s
def execCopy (g : Nat) (ecc : SramEcc) (s : State) : Host.Outcome State Fault Refusal := hoistCmd g 5 ecc [] s

end Sys2Proof.Machine
end

