-- ==== Sys2Proof/Machine/Syn.lean ====
section
/-! DEFINITION. Machine/Syn.lean: SYN records (R457 to R462, R686, R689 to R693) and the sync block: operations applied in
order of arrival (R671 to R688, R706, R710 to R718), snapshots (R695 to R699, R714, R720) and its soft reset (R722). -/

namespace Sys2Proof.Machine

open Sys2Proof

/-! ## Codes -/

def SyncKind.code : SyncKind → Nat
  | .none => 0 | .counter => 1 | .event => 2 | .lock => 3 | .barrier => 4

def SyncKind.ofCode (n : Nat) : SyncKind :=
  match n with
  | 1 => .counter
  | 2 => .event
  | 3 => .lock
  | 4 => .barrier
  | _ => .none

def SyncSub.code : SyncSub → Nat
  | .add => 0 | .waitGe => 1 | .set => 2 | .clear => 3 | .waitSet => 4 | .acquire => 5 | .release => 6 | .arrive => 7
  | .arriveWait => 8 | .read => 9

/-- The kind an operation takes or requires (Table 12-2). -/
def SyncSub.needs : SyncSub → Option SyncKind
  | .add => some .counter | .waitGe => some .counter
  | .set => some .event | .clear => some .event | .waitSet => some .event
  | .acquire => some .lock | .release => some .lock
  | .arrive => some .barrier | .arriveWait => some .barrier
  | .read => none

/-- SRC of LAST_REFUSAL. -/
def SyncSrc.code : SyncSrc → Nat
  | .face _ => 0 | .host => 1 | .banksman => 2 | .sensor _ => 3 | .esc => 4 | .adit _ _ _ _ => 5

/-- SOURCE of ERRINFO (R706). -/
def SyncSrc.errSrc : SyncSrc → Src
  | .face g => .face g | .host => .host | .banksman => .banksman | _ => .island

/-- The state word of Table 12-1. -/
def SyncObj.word (o : SyncObj) (queued : Bool) : Nat :=
  match o.kind with
  | .none => 0
  | .counter => o.value
  | .event => o.value % 2
  | .lock => o.holder % 4096 + (if queued then 2 ^ 29 else 0) + (if o.abandoned then 2 ^ 30 else 0)
      + (if o.held then 2 ^ 31 else 0)
  | .barrier => o.value % 65536 + o.gen * 65536

/-- An object has waiters. -/
def SyncBlk.waited (b : SyncBlk) (o : Nat) : Bool := b.waiters.any (fun w => w.op.obj == o)

/-! ## Refusals (R706) -/

/-- Reasons: 1 KIND, 2 OWNER, 3 NOT_HOLDER, 4 PARTIES, 5 CORRUPT; the code each records. -/
def reasonCode (n : Nat) : Nat :=
  match n with
  | 1 => 0x40
  | 2 => 0x20
  | 3 => 0x41
  | 4 => 0x42
  | _ => 0x46

/-- Record a refusal in a sync block: LAST_REFUSAL, the count, ERRINFO and REFUSED (bit 0). -/
def noteRefusal (s : State) (r : Nat) (obj sub reason : Nat) (src : SyncSrc) : State :=
  let pg := syncPg r
  let s := setF s pg SYNC_LAST_REFUSAL_OBJ obj
  let s := setF s pg SYNC_LAST_REFUSAL_SUBOP sub
  let s := setF s pg SYNC_LAST_REFUSAL_REASON reason
  let s := setF s pg SYNC_LAST_REFUSAL_FACE src.faceNo
  let s := setF s pg SYNC_LAST_REFUSAL_SRC src.code
  let s := addF s pg SYNC_REFUSED_COUNT 1
  raise (recordErr s pg (reasonCode reason) src.errSrc 5 (r * 256 + obj)) pg 0

/-- The source of a refused operation learns of it (R692, R693, R734). -/
def refuseOp (s : State) (r : Nat) (op : SyncOp) (reason : Nat) : State :=
  let s := noteRefusal s r op.obj op.sub.code reason op.src
  match op.src with
  | .face g => syncFail s g op.recId 2
  | .adit link job peer opId => signalReply s link job peer opId 2
  | _ => s

/-! ## Applying one operation -/

/-- Table 12-3; a remote signal stands for its job's face (R683). -/
def syncAllowed (s : State) (o : SyncObj) : SyncSrc → Bool
  | .face g =>
    match (s.faceAt g).owner with
    | .job j => o.job == some j
    | .stage _ _ => o.job.isNone
    | .none => false
  | .host => true
  | .adit _ j _ _ => o.job == some j
  | _ => o.job.isNone

/-- `val` is at or past `want` in serial order (R674). -/
def serialGe (val want : Nat) : Bool := (val + 2 ^ 32 - want % 2 ^ 32) % 2 ^ 32 < 2 ^ 31

/-- Every waiter that satisfies `p` completes, in order of entry (R688). -/
def wakeWaiters (s : State) (r : Nat) (p : Waiter → Bool) : State :=
  let b := s.sync r
  let s := s.updSync r (fun b => { b with waiters := b.waiters.filter (fun w => !p w) })
  (b.waiters.filter p).foldl (fun s w => answer s w.op 0 false) s

/-- A wait enters the waiter table, or is answered RETRY when it is full (R687); the Bool tells that it entered. -/
def enterWait (s : State) (r : Nat) (op : SyncOp) (gen : Nat) : State × Bool :=
  if 1024 ≤ (s.sync r).waiters.length then
    let s := raise (addF s (syncPg r) SYNC_RETRIES_COUNT 1) (syncPg r) 4
    (match op.src with
      | .face g => s.updFace g (fun f => f.setIssue op.recId (.retry r op true))
      | _ => s, false)
  else (s.updSync r (fun b => { b with waiters := b.waiters ++ [⟨op, gen⟩] }), true)

/-- OPS counts an applied operation. -/
def countOp (s : State) (r : Nat) : State := addF s (syncPg r) SYNC_OPS 1

def setObjOf (s : State) (r o : Nat) (x : SyncObj) : State := s.updSync r (fun b => b.setObj o x)

/-- A wait that is satisfied completes; else it enters the table, and the object takes its kind. -/
def applyWait (s : State) (r : Nat) (op : SyncOp) (x : SyncObj) (sat : Bool) : State :=
  if sat then answer (countOp (setObjOf s r op.obj x) r) op 0 false
  else
    let y := enterWait s r op 0
    if y.2 then countOp (setObjOf y.1 r op.obj x) r else y.1

/-- ACQUIRE (R676, R679). -/
def applyAcquire (s : State) (r : Nat) (op : SyncOp) (x : SyncObj) : State :=
  match op.src with
  | .face g =>
    if !x.held then
      answer (countOp (setObjOf s r op.obj { x with
        held := true, abandoned := false, holder := g, former := setDel g x.former }) r) op 0 x.abandoned
    else if x.holder = g then refuseOp s r op 3
    else applyWait s r op x false
  | _ => refuseOp s r op 3

/-- RELEASE (R676, R711). -/
def applyRelease (s : State) (r : Nat) (op : SyncOp) (x : SyncObj) : State :=
  match op.src with
  | .face g =>
    if x.held && x.holder == g then
      let s := setObjOf s r op.obj { x with held := false, holder := 0 }
      answer (countOp (handLock s r op.obj) r) op 0 false
    else if x.former.contains g then
      answer (setObjOf s r op.obj { x with former := setDel g x.former }) op 0 false
    else refuseOp s r op 3
  | _ => refuseOp s r op 3

/-- ARRIVE and ARRIVE_WAIT (R675): an arrival answered RETRY is not counted. -/
def applyArrive (s : State) (r : Nat) (op : SyncOp) (x : SyncObj) (fresh : Bool) : State :=
  if op.val = 0 || 65535 < op.val || (!fresh && op.val != x.parties) then refuseOp s r op 4
  else
    let x := { x with parties := op.val }
    let waits := op.sub == .arriveWait
    if op.val ≤ x.value + 1 then
      let s := setObjOf s r op.obj { x with value := 0, gen := (x.gen + 1) % 65536 }
      let s := wakeWaiters s r (fun w => w.is op.obj .arriveWait && w.gen == x.gen)
      answer (countOp s r) op 0 false
    else
      let x' := { x with value := x.value + 1 }
      if waits then
        let y := enterWait s r op x.gen
        if y.2 then countOp (setObjOf y.1 r op.obj x') r else y.1
      else answer (countOp (setObjOf s r op.obj x') r) op 0 false

/-- The effect of an accepted operation on an object of the right kind; `fresh`: the object was NONE (Table 12-2). -/
def applyEffect (s : State) (r : Nat) (op : SyncOp) (x : SyncObj) (fresh : Bool) : State :=
  match op.sub with
  | .add =>
    let v := (x.value + op.val) % 2 ^ 32
    let s := wakeWaiters (setObjOf s r op.obj { x with value := v }) r
      (fun w => w.is op.obj .waitGe && serialGe v w.op.val)
    answer (countOp s r) op 0 false
  | .set =>
    let s := wakeWaiters (setObjOf s r op.obj { x with value := 1 }) r (fun w => w.is op.obj .waitSet)
    answer (countOp s r) op 0 false
  | .clear => answer (countOp (setObjOf s r op.obj { x with value := 0 }) r) op 0 false
  | .waitGe => applyWait s r op x (serialGe x.value op.val)
  | .waitSet => applyWait s r op x (x.value == 1)
  | .acquire => applyAcquire s r op x
  | .release => applyRelease s r op x
  | .arrive => applyArrive s r op x fresh
  | .arriveWait => applyArrive s r op x fresh
  | .read => answer (countOp s r) op (if x.corrupt then 0 else x.word ((s.sync r).waited op.obj)) false

/-- Judge an operation (reasons in the order OWNER, CORRUPT, KIND) and apply it. -/
def applyOp (s : State) (r : Nat) (op : SyncOp) : State :=
  let x := (s.sync r).obj op.obj
  if !syncAllowed s x op.src then refuseOp s r op 2
  else if x.corrupt && op.sub != .read then refuseOp s r op 5
  else match op.sub.needs with
    | none => applyEffect s r op x false
    | some k =>
      if x.kind = .none then applyEffect s r op { x with kind := k, value := 0, gen := 0 } true
      else if x.kind = k then applyEffect s r op x false
      else refuseOp s r op 1

/-- An object's state is found uncorrectable (R718): CORRUPT, code OBJ_CORRUPT, event bit 5. -/
def corruptObj (s : State) (r o : Nat) : State :=
  let s := s.updSync r (fun b => b.setObj o { b.obj o with corrupt := true })
  raise (recordErr s (syncPg r) 0x46 .block 5 (r * 256 + o)) (syncPg r) 5

/-- The oldest arrival is applied (R684); `bad`: the check bits of its object show more than one error. -/
def execSyncOperationApply (r : Nat) (bad : Bool) (s : State) : Host.Outcome State Fault Refusal :=
  match (s.sync r).arrivals with
  | [] => done s
  | op :: rest => guardDo (inRun s r) (fun s =>
      let s := s.updSync r (fun b => { b with arrivals := rest })
      let s := if bad && !((s.sync r).obj op.obj).corrupt then corruptObj s r op.obj else s
      applyOp s r op) s

/-- A wait answered RETRY is sent again (R687). -/
def execWaitRetry (g i : Nat) (s : State) : Host.Outcome State Fault Refusal :=
  match (s.faceAt g).issued[i]? with
  | some x =>
    match x.st with
    | .retry r op w => guardDo (inRun s (faceRegion g)) (fun s =>
        let s := s.updFace g (fun f => f.setIssue x.id (.waiting r op w))
        if inRun s r && (r == faceRegion g || route s (faceRegion g) r != HOP_DEAD) then sendOp s 0 (faceRegion g) r op
        else syncFail s g x.id 3) s
    | _ => done s
  | none => done s

/-! ## SYN records -/

/-- The value of a SYN record (R673). -/
def FaceSt.synValue (f : FaceSt) (o : OpRec) : Nat :=
  let w := o.word 1
  if bit w 28 then f.a (bits w 24 4) else o.word 2

/-- A REMOTE signal (R731): refused with OWNER in the own region's sync block, DEAD_TARGET, or sent across the link. -/
def synRemote (g : Nat) (o : OpRec) (s : State) : State :=
  let w := o.word 1
  let k := bits w 19 2
  let id := (s.faceAt g).nextId
  match remoteStatus s g k with
  | 0 => sendRemote s g o k (bits w 16 2) 0 0 [.signal (bits w 0 7) (bits w 8 8) o.subop ((s.faceAt g).synValue o)]
  | 2 =>
    let s := noteRefusal (startIssue s g o .done) (faceRegion g) (bits w 8 8) o.subop 2 (.face g)
    syncFail s g id 2
  | _ => syncFail (startIssue s g o .done) g id 3

/-- A SYN record is sent to the sync block of its region, or completes with DEAD_TARGET (R719). -/
def synLocal (g : Nat) (sub : SyncSub) (o : OpRec) (s : State) : State :=
  let w := o.word 1
  let r := bits w 0 7
  let f := s.faceAt g
  let op : SyncOp := ⟨bits w 8 8, sub, f.synValue o, .face g, f.nextId⟩
  let s := startIssue s g o (.waiting r op o.isWait)
  if inRun s r && (r == faceRegion g || route s (faceRegion g) r != HOP_DEAD) then
    sendOp s (bits w 16 2) (faceRegion g) r op
  else syncFail s g f.nextId 3

/-- The effect of a SYN record: a wait of a job with a stop status is its face's sync point (R691). -/
def synEffect (g : Nat) (sub : SyncSub) (o : OpRec) (s : State) : State :=
  if o.isWait && jobStopped s g then endAndCheck s g
  else if bit (o.word 1) 18 then synRemote g o s
  else synLocal g sub o s

/-- An operation of the face for an object is on the haul road in another class than 0. -/
def opOnWay (s : State) (g r obj : Nat) : Bool :=
  s.road.packets.any (fun p => p.dst == r && p.cls != 0 && (match p.body with
    | .sync op => op.src == .face g && op.obj == obj
    | _ => false))

/-- A record sees every effect of the sync unit's records before it (R432): one that travels on class 0 waits while an
earlier operation of the face on its object is on the road in another class. -/
def syncFree (s : State) (g : Nat) (o : OpRec) : Bool :=
  let w := o.word 1
  bits w 16 2 != 0 || bit w 18 || !opOnWay s g (bits w 0 7) (bits w 8 8)

/-- A SYN record with a SUBOP. -/
def synCmd (g : Nat) (sub : SyncSub) (s : State) : Host.Outcome State Fault Refusal :=
  match headReady s g with
  | some o => guardDo (o.family == 3 && o.subop == sub.code && ((s.faceAt g).skips o || syncFree s g o))
      (fun s => issueRecord s g o (synEffect g sub o)) s
  | none => done s

def execSynAdd (g : Nat) (s : State) : Host.Outcome State Fault Refusal := synCmd g .add s
def execSynWaitGe (g : Nat) (s : State) : Host.Outcome State Fault Refusal := synCmd g .waitGe s
def execSynSet (g : Nat) (s : State) : Host.Outcome State Fault Refusal := synCmd g .set s
def execSynClear (g : Nat) (s : State) : Host.Outcome State Fault Refusal := synCmd g .clear s
def execSynWaitSet (g : Nat) (s : State) : Host.Outcome State Fault Refusal := synCmd g .waitSet s
def execSynAcquire (g : Nat) (s : State) : Host.Outcome State Fault Refusal := synCmd g .acquire s
def execSynRelease (g : Nat) (s : State) : Host.Outcome State Fault Refusal := synCmd g .release s
def execSynArrive (g : Nat) (s : State) : Host.Outcome State Fault Refusal := synCmd g .arrive s
def execSynArriveWait (g : Nat) (s : State) : Host.Outcome State Fault Refusal := synCmd g .arriveWait s
def execSynRead (g : Nat) (s : State) : Host.Outcome State Fault Refusal := synCmd g .read s

/-- VERDICT is posted through the region's banksman and the management ring (R394). -/
def verdictEffect (g : Nat) (o : OpRec) (s : State) : State :=
  let v := (s.faceAt g).synValue o
  let s := startIssue s g o .done
  if (s.region (faceRegion g)).unreached then s else post s (.verdict g v)

/-- A verdict can leave the face's region: fewer than the 64 packets that fit the class-0 reserve of its ingress wait
(R390, R404; the number is a DESIGN CHOICE, log entry 86). -/
def verdictGoes (s : State) (g : Nat) : Bool :=
  (s.ring.filter (fun m => match m with | .verdict h _ => faceRegion h == faceRegion g | _ => false)).length < 64

def execSynVerdict (g : Nat) (s : State) : Host.Outcome State Fault Refusal :=
  if verdictGoes s g || (headReady s g).any (s.faceAt g).skips then recordCmd g 3 10 (verdictEffect g) s else done s

/-! ## SIG_CMD (R704) -/

/-- The operation of a SIG_CMD joins the arrivals. -/
def sigApply (s : State) (r : Nat) (src : SyncSrc) (sub : SyncSub) (obj : Nat) : State :=
  s.updSync r (fun b => { b with arrivals := b.arrivals ++ [⟨obj, sub, getF s (syncPg r) SYNC_SIG_VAL_VALUE, src, 0⟩] })

/-! ## OBJ_CFG (R702) -/

/-- A write of a shared object's kind and PARTIES puts its state to zero. -/
def objCfgSet (s : State) (r o v : Nat) : State :=
  setObjOf s r o { SyncObj.reset with kind := SyncKind.ofCode (bits v 0 3), parties := bits v 16 16 }

/-- Why OBJ_CFG is not written: authority, range, busy; 0 when it is. -/
def objCfgRefusal (s : State) (r o v : Nat) : Nat :=
  let x := (s.sync r).obj o
  let kind := bits v 0 3
  if x.job.isSome then 0x12
  else if 4 < kind || ((kind == 4) != (bits v 16 16 != 0)) then 0x11
  else if x.held || (s.sync r).waited o then 0x43
  else 0

/-! ## Snapshots (R695 to R699) -/

/-- The bytes of an entry of Table 12-4; the lost state of a CORRUPT object is saved as READ returns it. -/
def snapEntry (b : SyncBlk) (p : Nat × SyncObj) : List Nat :=
  [p.1, p.2.kind.code] ++ leBytes 2 p.2.parties ++ leBytes 4 (if p.2.corrupt then 0 else p.2.word (b.waited p.1)) ++ leBytes 4 0

/-- The objects a job owns in a region, ascending. -/
def ownedObjs (b : SyncBlk) (j : Nat) : List (Nat × SyncObj) := b.objs.filter (fun p => p.2.job == some j)

/-- The record of Table 12-4. -/
def snapBytes (s : State) (r j seq : Nat) : List Nat :=
  let b := s.sync r
  let es := ownedObjs b j
  let body := leBytes 4 0x53594E43 ++ leBytes 2 1 ++ leBytes 2 es.length ++ leBytes 8 seq ++ leBytes 2 j ++ [r]
    ++ List.replicate 5 0 ++ leBytes 8 s.time ++ es.flatMap (snapEntry b)
  body ++ leBytes 4 (crc32 body) ++ leBytes 4 (0xFFFFFFFF - seq % 2 ^ 32)

/-- A slot is valid (R696); answers its SEQUENCE. -/
def snapValid (m : Tab Byte) (a : Nat) : Option Nat :=
  let n := mnum m (a + 6) 2
  let seq := mnum m (a + 8) 8
  if mnum m a 4 = 0x53594E43 && mnum m (a + 4) 2 = 1 && n ≤ 256
      && mnum m (a + 0x20 + 12 * n) 4 = crc32 (mbytes m a (0x20 + 12 * n))
      && mnum m (a + 0x24 + 12 * n) 4 = 0xFFFFFFFF - seq % 2 ^ 32
  then some seq else none

/-- The newer valid slot and its SEQUENCE; slot A when both are equal. -/
def snapNewest (m : Tab Byte) (a : Nat) : Option (Nat × Nat) :=
  match snapValid m a, snapValid m (a + 0x1000) with
  | some p, some q => some (if p < q then (a + 0x1000, q) else (a, p))
  | some p, none => some (a, p)
  | none, some q => some (a + 0x1000, q)
  | none, none => none

/-- SNAP_BASE as a bed-store address. -/
def snapBase (s : State) (r : Nat) : Nat := getF s (syncPg r) SYNC_SNAP_BASE_ADDR * 0x2000

/-- A snapshot command is in progress with a result to come. -/
def snapBegin (s : State) (r : Nat) (save : Bool) (result seq addr : Nat) : State :=
  setF (s.updSync r (fun b => { b with snap := some ⟨save, result, seq, addr⟩ })) (syncPg r) SYNC_SNAP_CMD_BUSY 1

/-- SAVE: the capture and its line writes (R695, R699). -/
def snapSave (s : State) (r j : Nat) : State :=
  let a := snapBase s r
  if !jobClaims s j r a 0x2000 1 then snapBegin s r true 2 0 a
  else
    let newest := snapNewest (s.bed r).bytes a
    let slot := match newest with
      | some (x, _) => if x = a then a + 0x1000 else a
      | none => a
    let seq := match newest with
      | some (_, q) => (q + 1) % 2 ^ 64
      | none => 1
    snapBegin (bedWrite s r .sync slot (snapBytes s r j seq) false false) r true 1 seq slot

/-- The state an entry of a record restores (R697): a HELD lock becomes ABANDONED; a CORRUPT object stays so (R718). -/
def restoredObj (m : Tab Byte) (j e : Nat) (corrupt : Bool) : SyncObj :=
  let k := SyncKind.ofCode (mbyte m (e + 1))
  let w := mnum m (e + 4) 4
  let x := { SyncObj.reset with kind := k, job := some j, corrupt := corrupt, parties := mnum m (e + 2) 2 }
  match k with
  | .counter => { x with value := w }
  | .event => { x with value := w % 2 }
  | .lock => { x with abandoned := bit w 30 || bit w 31, former := if bit w 31 then [bits w 0 12] else [] }
  | .barrier => { x with value := w % 65536, gen := w / 65536 }
  | .none => x

/-- RESTORE of a region's objects for a job from a base address: RESULT, SEQUENCE and the state (R697). -/
def snapRestoreFrom (s : State) (r j a : Nat) : Nat × Nat × State :=
  let b := s.sync r
  let m := (s.bed r).bytes
  if !jobClaims s j r a 0x2000 0 then (2, 0, s)
  else match snapNewest m a with
    | none => (3, 0, s)
    | some (slot, seq) =>
      let es := (List.range (mnum m (slot + 6) 2)).map (fun e => slot + 0x20 + 12 * e)
      if es.any (fun e => (b.obj (mbyte m e)).job != some j) then (5, seq, s)
      else if es.any (fun e => b.waited (mbyte m e)) then (4, seq, s)
      else (1, seq, s.updSync r (fun b => es.foldl (fun b e => b.setObj (mbyte m e) (restoredObj m j e (b.obj (mbyte m e)).corrupt)) b))

def snapRestore (s : State) (r j : Nat) : State :=
  let x := snapRestoreFrom s r j (snapBase s r)
  snapBegin x.2.2 r false x.1 x.2.1 (snapBase s r)

/-- The command's line writes have ended. -/
def snapEnded (s : State) (r : Nat) (x : SnapSt) : Bool :=
  !x.save || x.result != 1 || !(s.bed r).queue.any (fun w => w.who == .sync)

/-- A SAVE or RESTORE ends (R698, R720): RESULT and SNAP_SEQ; SNAP_DONE (bit 2) or SNAP_FAIL (bit 3). -/
def snapEnd (s : State) (r : Nat) (x : SnapSt) : State :=
  let pg := syncPg r
  let s := setF (s.updSync r (fun b => { b with snap := none })) pg SYNC_SNAP_CMD_BUSY 0
  let s := setF s pg SYNC_SNAP_CMD_RESULT x.result
  if x.result = 1 then raise (setF s pg SYNC_SNAP_SEQ_SEQ x.seq) pg 2
  else
    let s := if x.result = 6 then recordErr s pg 0x45 .block 3 x.addr else s
    raise s pg 3

def execSnapComplete (r : Nat) (s : State) : Host.Outcome State Fault Refusal :=
  match (s.sync r).snap with
  | some x => guardDo (inRun s r && snapEnded s r x) (fun s => snapEnd s r x) s
  | none => done s

/-! ## Soft reset (R722) -/

/-- Waits and arrivals complete with DEAD_TARGET, objects return to reset, their jobs receive SYNC_FAILED. -/
def syncReset (s : State) (r : Nat) : State :=
  let b := s.sync r
  let owners := (b.objs.filterMap (fun p => p.2.job)).foldl (fun l j => setIns j l) []
  let s := s.updSync r (fun _ => SyncBlk.reset)
  let s := (b.waiters.map (·.op) ++ b.arrivals).foldl (fun s op => opFail s 3 op) s
  owners.foldl (fun s j => jobStop s j 0x13 r 0xFFFF) s

end Sys2Proof.Machine
end

