-- ==== Sys2Proof/Machine/BedOps.lean ====
section
/-! DEFINITION. Machine/BedOps.lean: what a bed-store controller does by itself: OUT marks and line writes that become
durable (R607, R615, R635, R664), scrubbing (R633, R634), relocation (R637 to R639, R666). -/

namespace Sys2Proof.Machine

open Sys2Proof

/-- The oldest queued OUT mark becomes durable. -/
def execOutMarkDurable (r : Nat) (s : State) : Host.Outcome State Fault Refusal :=
  match (s.bed r).outQueue with
  | [] => done s
  | o :: rest => guardDo (inRun s r) (fun s => s.updBed r (fun b => { writeMark r o b with outQueue := rest })) s

/-! ## Line writes -/

/-- Element `i` of a queue may end: no earlier write of its requester or to its line waits (R608, R657). -/
def mayEnd (q : List LineWrite) (i : Nat) : Bool :=
  match q[i]? with
  | none => false
  | some w => !(q.take i).any (fun v => v.who == w.who || v.line == w.line)

/-- A requester's write failed for good (R664, R665, R720): the oldest transfer of a hoist that writes to the region
completes with WRITE_FAIL, a snapshot with RESULT WRITE_FAIL, a job with IMAGE_WRITE; a scale log ends (R554). -/
def writeFailed (s : State) (r line : Nat) : Requester → State
  | .hoist g =>
    match writesTo s g r with
    | some (id, op, desc) => xferFail (s.updFace g (fun f => f.setIssue id .done)) g op desc 5 3 (line * 64)
    | none => s
  | .scaleLog g => logFail s g (line * 64)
  | .sync => s.updSync r (fun b => { b with snap := b.snap.map (fun x => { x with result := 6 }) })
  | .imageCopy =>
    let a := line * 64
    let hit := fun (m : RangeEnt) => m.region == r && a < m.bedAddr + m.len && m.bedAddr < a + 64
    match (liveJobs s).find? (fun j => (s.job j).images.any hit) with
    | some j => jobStop s j 0x09 ((s.job j).images.findIdx hit) 0xFFFF
    | none => s
  | _ => s

/-- No spare is left for a line that failed twice: its SPOIL bit, WRITE_FAIL (bit 1) and code WRITE_FAIL (R664). -/
def lineLost (s : State) (r : Nat) (w : LineWrite) : State :=
  let s := s.updBed r (fun b => { b with spoil := tset false b.spoil w.line true })
  let s := raise (recordErr s (bedPg r) 0x41 .block 3 (w.line * 64)) (bedPg r) 1
  writeFailed s r w.line w.who

/-- Remove an element of a list. -/
def dropAt {α : Type} (l : List α) (i : Nat) : List α := l.take i ++ l.drop (i + 1)

/-- A line write ends: wear for each write, WRITES, and the directory selected again after a write into it (R628). With
`fails` 2 the readback differed twice: the block waits for relocation and its write stays queued, or the line is lost. -/
def endWrite (s : State) (r i fails : Nat) (w : LineWrite) : State :=
  let s := (List.range (if fails = 0 then 1 else 2)).foldl (fun s _ =>
    addF (s.updBed r (wearLine r w.line)) (bedPg r) BED_WRITES 1) s
  if 2 ≤ fails && sparesFree r (s.bed r) != 0 then s.updBed r (fun b => { b with failing := setIns (w.line / 64) b.failing })
  else
    let s := s.updBed r (fun b => { b with queue := dropAt b.queue i })
    let old := tget 0 s.wb.fence r
    let s := if i < old then { s with wb := { s.wb with fence := tset 0 s.wb.fence r (old - 1) } } else s
    let s := if 2 ≤ fails then lineLost s r w else s
    if w.line < 512 then directorySelect s r false else s

def execLineWriteDurable (r i fails : Nat) (s : State) : Host.Outcome State Fault Refusal :=
  match (s.bed r).queue[i]? with
  | some w => guardDo (inRun s r && mayEnd (s.bed r).queue i && !(s.bed r).failing.contains (w.line / 64))
      (fun s => endWrite s r i fails w) s
  | none => done s

/-! ## Scrubbing -/

/-- Lines of a region. -/
def bedLines (r : Nat) : Nat := bedCapacity r / 64

/-- A stale OUT mark becomes SPOIL (R634). -/
def scrubMark (r line : Nat) (b : BedSt) : BedSt :=
  let m := tget 0 b.marks line
  if m != 0 && m != b.epoch + 1 then
    wearLine r line { b with marks := tset 0 b.marks line 0, spoil := tset false b.spoil line true }
  else b

/-- The scrubber reads the next line, in which `errs` more bits have failed; after the last line the pass ends
(SCRUB_PASS_END). -/
def scrubNext (s : State) (r errs : Nat) : State :=
  let line := (s.bed r).scrubPos
  let s := checkLine (ageLines s r [(line, errs)]) r line
  let s := s.updBed r (scrubMark r line)
  s.updBed r (fun b => { b with scrubPos := line + 1 })

def execScrubRead (r errs : Nat) (s : State) : Host.Outcome State Fault Refusal :=
  guardDo (inRun s r && (s.bed r).scrubPos < bedLines r) (fun s => scrubNext s r errs) s

/-! ## Relocation -/

/-- Why a block is to be relocated (R637): 0 not, 1 levelling, 2 retirement. -/
def relocWhy (s : State) (r blk : Nat) : Nat :=
  let b := s.bed r
  let w := physWear b (physBlock r b blk)
  if bedLines r / 64 ≤ blk then 0
  else if b.failing.contains blk || 1900000 ≤ w then 2
  else if wearMean r b + getF s (bedPg r) BED_WEAR_CFG_GAP * 1024 < w then 1
  else 0

/-- The free spare of lowest wear, the lowest number first. -/
def bestSpare (b : BedSt) : List Nat → Option Nat
  | [] => none
  | p :: ps =>
    match bestSpare b ps with
    | some q => some (if physWear b q < physWear b p then q else p)
    | none => some p

def execBlockRelocation (r blk : Nat) (s : State) : Host.Outcome State Fault Refusal :=
  match bestSpare (s.bed r) (freeSpares r (s.bed r)) with
  | none => done s
  | some p => guardDo (inRun s r && (s.bed r).reloc.isNone && relocWhy s r blk != 0) (fun s =>
      let why := relocWhy s r blk
      s.updBed r (fun b => { b with reloc := some ⟨blk, p, why == 1, why == 2⟩ })) s

/-- The block now lies in the spare: its lines were written once more there, and the old block is free or retired. -/
def commitReloc (r : Nat) (x : Reloc) (b : BedSt) : BedSt :=
  let old := physBlock r b x.block
  let lines := (List.range 64).map (· + x.block * 64)
  let b := { b with
    remap := tset 0 b.remap x.block (x.spare + 1), reloc := none, relocCount := (b.relocCount + 1) % 65536
    sparesUsed := if x.spare < spareBlocks r then setIns x.spare b.sparesUsed else b.sparesUsed
    freed := setDel x.spare b.freed
    failing := setDel x.block b.failing
    bitErrs := b.bitErrs.filter (fun e => e.1 / 64 != x.block || 3 ≤ e.2) }
  let b := if x.retire then { b with retired := setIns old b.retired }
    else if old < spareBlocks r then { b with sparesUsed := setDel old b.sparesUsed }
    else { b with freed := setIns old b.freed }
  lines.foldl (fun b l => wearLine r l b) b

/-- WEAR_LOW (bit 3) when the free spares fall to 64, SPARES_OUT (bit 4) at none (R666). -/
def spareEvents (s : State) (r before : Nat) : State :=
  let n := sparesFree r (s.bed r)
  let s := if 64 < before && n ≤ 64 then raise s (bedPg r) 3 else s
  if 0 < before && n = 0 then raise s (bedPg r) 4 else s

def execRelocationCommit (r : Nat) (s : State) : Host.Outcome State Fault Refusal :=
  match (s.bed r).reloc with
  | none => done s
  | some x => guardDo (inRun s r) (fun s =>
      let before := sparesFree r (s.bed r)
      spareEvents (raise (s.updBed r (commitReloc r x)) (bedPg r) 2) r before) s

end Sys2Proof.Machine
end

