-- ==== Sys2Proof/Machine/Listener.lean ====
section
/-! DEFINITION. Machine/Listener.lean: the listeners (06_listener.md): hops and detectors, the micro-net of stage B, chain
slots and their LEVELs, messages to the escalation controller, image memory. -/

namespace Sys2Proof.Machine

open Sys2Proof

/-! ## Parts -/

def State.det (s : State) (p d : Nat) : DetSt := tget DetSt.reset (s.listener p).dets d
def State.updDet (s : State) (p d : Nat) (f : DetSt → DetSt) : State :=
  s.updListener p (fun x => { x with dets := tset DetSt.reset x.dets d (f (s.det p d)) })
def State.lslot (s : State) (p k : Nat) : LSlotSt := tget LSlotSt.reset (s.listener p).slots k
def State.updLslot (s : State) (p k : Nat) (f : LSlotSt → LSlotSt) : State :=
  s.updListener p (fun x => { x with slots := tset LSlotSt.reset x.slots k (f (s.lslot p k)) })

def lisF (s : State) (p : Nat) (f : Fld) : Nat := getF s (listenerPg p) f
def detF (s : State) (p d : Nat) (f : Fld) : Nat := getF s (listenerPg p) (f.ix d)
def chnF (s : State) (p k : Nat) (f : Fld) : Nat := getF s (listenerPg p) (f.ix k)
def setLis (s : State) (p : Nat) (f : Fld) (v : Nat) : State := setF s (listenerPg p) f v

/-- The active values of a chain slot. -/
def slotCfg (s : State) (p k : Nat) : SlotCfg :=
  ⟨chnF s p k LISTENER_CHAIN_CFG_EN == 1, chnF s p k LISTENER_CHAIN_CFG_WAKE_CHAIN, chnF s p k LISTENER_CHAIN_CFG_B_OUT,
    toSigned 8 (chnF s p k LISTENER_CHAIN_B_B_TH), chnF s p k LISTENER_CHAIN_B_B_HYST, chnF s p k LISTENER_CHAIN_B_B_HOLD,
    chnF s p k LISTENER_CHAIN_B_B_LINGER⟩

def bFault (s : State) (p : Nat) : Nat := lisF s p LISTENER_STATUS_B_FAULT
def bReady (s : State) (p : Nat) : Bool := lisF s p LISTENER_STATUS_B_READY == 1

/-- CHAIN_STATE (Table 6-4). -/
def chainState (s : State) (p : Nat) : Nat :=
  ((List.range 4).map (fun k => let x := s.lslot p k
    (x.level + x.firing.toNat * 4 + x.fallback.toNat * 8) * 2 ^ (4 * k))).foldl (· + ·) 0

/-! ## Messages (R331 to R334, R355) -/

/-- Detectors that are FIRED, as a mask. -/
def firedMask (s : State) (p : Nat) : Nat :=
  ((List.range 16).map (fun d => if (s.det p d).fired then 2 ^ d else 0)).foldl (· + ·) 0

def MsgKind.code : MsgKind → Nat
  | .aFire => 0 | .trigger => 1 | .refresh => 2 | .demoted => 3

/-- The message is one of this port and chain slot. -/
def msgOf (p k : Nat) : RingMsg → Bool
  | .listener m => m.port == p && m.lslot == k
  | _ => false

/-- Put the pending message of a slot on the ring; an older one of the slot on its way is replaced (R333). -/
def postMsg (s : State) (p k : Nat) (m : ListenerMsg) : State :=
  post { s with ring := s.ring.filter (fun r => !msgOf p k r) } (.listener m)

/-- The score of a chain slot: output `o` of the last evaluation, int8. -/
def scoreOf (s : State) (p o : Nat) : Nat := bits (lisF s p (LISTENER_SCORES.ix (o / 4))) (8 * (o % 4)) 8

/-- A REFRESH updates the score of the slot's TRIGGER, on its way or not (R333). -/
def rescore (p k v : Nat) : RingMsg → RingMsg
  | .listener m => if m.port = p ∧ m.lslot = k then .listener { m with score := v } else .listener m
  | r => r

/-- A pending message of the slot takes a message of this kind into itself (R333). -/
def LSlotSt.takes (x : LSlotSt) (kind : MsgKind) : Bool :=
  kind == .refresh && (match x.pending with | some q => q.kind == .trigger | none => false)

/-- Send a message of a chain slot (R330 to R333): LAST_TRIG and SENT. A pending message is replaced and counted in
MERGED; a REFRESH goes into a pending TRIGGER, is counted in MERGED too (Table 6-8), and is not sent. -/
def sendMsg (s : State) (p k : Nat) (c : SlotCfg) (kind : MsgKind) (manual fb : Bool) : State :=
  let x := s.lslot p k
  let m : ListenerMsg := {
    kind := kind, port := p, lslot := k, chain := c.wake, manual := manual
    fallback := fb, frame := (s.listener p).hopFrame, fired := firedMask s p, score := scoreOf s p c.out, level := x.level
    sent := s.time }
  let pg := listenerPg p
  let s := if x.pending.isSome then addF s pg LISTENER_TRIG_COUNT_MERGED 1 else s
  if x.takes kind then
    let s := { s with ring := s.ring.map (rescore p k m.score) }
    s.updLslot p k (fun x => { x with pending := x.pending.map (fun q => { q with score := m.score }) })
  else
    let s := addF s pg LISTENER_TRIG_COUNT_SENT 1
    let s := setF s pg (LISTENER_LAST_TRIG.ix 0)
      (k + MsgKind.code m.kind * 256 + m.level * 65536 + (m.manual.toNat + m.fallback.toNat * 2) * 16777216)
    let s := setF s pg (LISTENER_LAST_TRIG.ix 1) (m.frame % 2 ^ 32)
    let s := setF s pg (LISTENER_LAST_TRIG.ix 2) m.fired
    let s := setF s pg (LISTENER_LAST_TRIG.ix 3) m.score
    postMsg (s.updLslot p k (fun x => { x with pending := some m })) p k m

/-- LEVEL changes with their messages and events (R329, R331). -/
def toLevel1 (s : State) (p k : Nat) (c : SlotCfg) : State :=
  let s := s.updLslot p k (fun x => { x with level := 1, hold := 0, linger := 0, fallback := false })
  raise (sendMsg s p k c .aFire false false) (listenerPg p) 0

def toLevel2 (s : State) (p k : Nat) (c : SlotCfg) (manual fb : Bool) : State :=
  let s := s.updLslot p k (fun x => { x with level := 2, hold := 0, linger := 0, fallback := fb })
  raise (sendMsg s p k c .trigger manual fb) (listenerPg p) 1

def toLevel0 (s : State) (p k : Nat) (c : SlotCfg) : State :=
  let s := s.updLslot p k (fun x => { x with level := 0, hold := 0, linger := 0, fallback := false })
  raise (sendMsg s p k c .demoted false false) (listenerPg p) 2

/-- Stage B has a fault: chain slots at LEVEL 1 return to LEVEL 0 (R354). -/
def faultDemotes (s : State) (p : Nat) : State :=
  (List.range 4).foldl (fun s k => if (s.lslot p k).level = 1 then toLevel0 s p k (slotCfg s p k) else s) s

/-! ## Stage A (R314 to R320, R347, R352) -/

/-- The sums of squares of a source's bands in the hop, in 2^-78 of full scale squared; band 7 of a microphone at 16 kHz carries no signal (R314). -/
def sourceBands (s : State) (p slot : Nat) : List Nat :=
  (List.range 8).map (fun k =>
    if k = 7 ∧ slotKhz s p slot = 16 then 0 else (tget BandSum.reset (s.source p slot).bands k).sum)

/-- The energy of the bands of a mask, in 0.1 dBFS (R315): the sum of their mean squares over the hop. -/
def maskEnergy (ps : List Nat) (count mask : Nat) : Int :=
  db10 (((List.range 8).map (fun k => if bit mask k then ps.getD k 0 else 0)).foldl (· + ·) 0) (max 1 count * 2 ^ 78)

/-- The source does not feed the listener: its port is off or its stream lacks EN or TO_LISTENER (R352). -/
def srcIdle (s : State) (p slot : Nat) : Bool :=
  !portOn s p || strF s p slot SENSOR_S_CFG_EN = 0 || strF s p slot SENSOR_S_CFG_TO_LISTENER = 0

/-- A sample of the source had FAULT set in the hop (R323, R352). -/
def srcFault (s : State) (p slot : Nat) : Bool :=
  (s.source p slot).fault || strF s p slot SENSOR_S_STATUS_FAULT != 0

/-- Write D_STATUS. -/
def putStatus (s : State) (p d : Nat) (fired e r o fault idle blank : Bool) : State :=
  setF s (listenerPg p) (LISTENER_D_STATUS_FLAGS.ix d)
    (fired.toNat + e.toNat * 2 + r.toNat * 4 + o.toNat * 8 + fault.toNat * 16 + idle.toNat * 32 + blank.toNat * 64)

/-- Hops of onset blanking: GAIN_CHANGED fails the onset test for its hop and the next four (R347). -/
def blanking (x : DetSt) (changed : Bool) : Nat := if changed then 5 else x.blank

/-- A detector whose source is faulted or idle is not FIRED; its FLOOR is set when the source is back (R352). SRC_FAULT is
raised as either condition sets. -/
def detBlind (s : State) (p d : Nat) (fault idle changed : Bool) : State :=
  let x := s.det p d
  let src := detF s p d LISTENER_D_CFG_SRC
  let old := if x.src = src then detF s p d LISTENER_D_STATUS_FLAGS else 0
  let blank := blanking x changed
  let s := s.updDet p d (fun _ => ⟨[], x.floor, 0, 0, false, blank - 1, true, src⟩)
  let s := if (fault && !bit old 4) || (idle && !bit old 5) then raise s (listenerPg p) 5 else s
  putStatus s p d false false false false fault idle (blank != 0)

/-- A detector measures and judges a hop (R315 to R319). -/
def detHop (s : State) (p d : Nat) (ps : List Nat) (count : Nat) (changed : Bool) : State :=
  let pg := listenerPg p
  let x := s.det p d
  let e := maskEnergy ps count (detF s p d LISTENER_D_CFG_BAND_MASK)
  let ref := maskEnergy ps count (detF s p d LISTENER_D_CFG_REF_MASK)
  let blank := blanking x changed
  let sum := x.past.foldl (· + ·) 0
  let eEn := detF s p d LISTENER_D_CFG_E_EN == 1
  let rEn := detF s p d LISTENER_D_CFG_R_EN == 1
  let oEn := detF s p d LISTENER_D_CFG_O_EN == 1
  let floor := if x.setFloor then e * 10 else x.floor
  let eOk := eEn && ((50 * detF s p d LISTENER_D_TH_E_TH : Nat) : Int) ≤ e * 10 - floor
  let rOk := rEn && toSigned 8 (detF s p d LISTENER_D_TH_R_TH) * 5 ≤ e - ref
  let oOk := oEn && x.past.length == 4 && blank == 0
    && ((20 * detF s p d LISTENER_D_TH_O_TH : Nat) : Int) ≤ 4 * e - sum
  let pass := (!eEn || eOk) && (!rEn || rOk) && (!oEn || oOk)
  let passRun := if pass then x.passRun + 1 else 0
  let failRun := if pass then 0 else x.failRun + 1
  let hold := detF s p d LISTENER_D_CFG_HOLD
  let fired := if x.fired then failRun < hold else hold ≤ passRun
  let floor := if e * 10 < floor then e * 10
    else if fired then floor
    else min (e * 10) (floor + detF s p d LISTENER_D_TH_FLOOR_RISE)
  let s := s.updDet p d (fun _ =>
    ⟨(e :: x.past).take 4, floor, passRun, failRun, fired, blank - 1, false, detF s p d LISTENER_D_CFG_SRC⟩)
  let s := if fired && !x.fired then addF s pg (LISTENER_D_STATUS_FIRES.ix d) 1 else s
  let s := setF s pg (LISTENER_D_LEVEL_E.ix d) (ofSigned 16 e)
  let s := setF s pg (LISTENER_D_LEVEL_FLOOR.ix d) (ofSigned 16 (rheDiv floor 10))
  let s := setF s pg (LISTENER_D_DIFF_RATIO.ix d) (ofSigned 16 (e - ref))
  let s := setF s pg (LISTENER_D_DIFF_ONSET.ix d) (ofSigned 16 (if x.past.length = 4 then rheDiv (4 * e - sum) 4 else 0))
  putStatus s p d fired eOk rOk oOk false false (blank != 0)

/-- Every detector for a hop. -/
def hopDetectors (s : State) (p : Nat) : State :=
  (List.range 16).foldl (fun s d =>
    let src := detF s p d LISTENER_D_CFG_SRC
    if detF s p d LISTENER_D_CFG_EN = 0 then
      if s.det p d = DetSt.reset then s
      else putStatus (s.updDet p d (fun _ => DetSt.reset)) p d false false false false false false false
    else
      let x := s.source p src
      if srcIdle s p src || srcFault s p src then detBlind s p d (srcFault s p src) (srcIdle s p src) x.changed
      else detHop s p d (sourceBands s p src) x.count x.changed) s

/-- The stage A of a chain slot fires (R320). -/
def stageA (s : State) (p k : Nat) : Bool :=
  chnF s p k LISTENER_CHAIN_CFG_A_MIN ≤ ((List.range 16).filter (fun d =>
    (s.det p d).fired && detF s p d LISTENER_D_CFG_EN == 1 && detF s p d LISTENER_D_CFG_CHAIN == k)).length

/-! ## Stage B: features (R321 to R323) -/

def srcList (s : State) (p : Nat) : List Nat :=
  (List.range 12).filter (fun k => bit (lisF s p LISTENER_B_SRC_SRC_MASK) k)

/-- The feature of a band's energy, E_k in 0.1 dBFS: clamp(rhe(2·E_k) + 128, −128, 127). -/
def feature (e : Int) : Int := clampTo (-128) 127 (rheDiv e 5 + 128)

/-- The feature vector of a hop. -/
def featureVec (s : State) (p : Nat) : List Int :=
  (srcList s p).flatMap (fun src =>
    if srcFault s p src then List.replicate 8 (toSigned 8 (lisF s p LISTENER_B_SRC_FILL))
    else
      let ps := sourceBands s p src
      (List.range 8).map (fun k => feature (maskEnergy ps (s.source p src).count (2 ^ k))))

/-! ## Stage B: the image (Tables 6-1 and 6-2) -/

def imgByte (m : Tab Byte) (a : Nat) : Int := toSigned 8 (mbyte m a)

/-- A layer record. -/
structure Layer where
  kind : Nat
  act : Nat
  k : Nat
  stride : Nat
  inOff : Nat
  outOff : Nat
  rows : Nat
  cols : Nat
  outCols : Nat
  w : Nat
  b : Nat
  lut : Nat
  zpIn : Int
  zpOut : Int
  shift : Nat
  mul : Nat
  deriving DecidableEq, Repr

def readLayer (m : Tab Byte) (i : Nat) : Layer :=
  let a := 0x40 + 32 * i
  ⟨mbyte m a, mbyte m (a + 1), mbyte m (a + 2), mbyte m (a + 3), mnum m (a + 4) 2, mnum m (a + 6) 2, mnum m (a + 8) 2,
   mnum m (a + 0xA) 2, mnum m (a + 0xC) 2, mnum m (a + 0xE) 2, mnum m (a + 0x10) 2, mnum m (a + 0x12) 2,
   imgByte m (a + 0x14), imgByte m (a + 0x15), mbyte m (a + 0x16), mnum m (a + 0x18) 4⟩

/-- Output rows of a layer. -/
def Layer.outRows (l : Layer) : Nat := if l.kind = 0 ∨ l.kind = 4 then 1 else (l.rows - l.k) / l.stride + 1

/-- Weight bytes of a layer: output column, kernel row, input column (the order is a DESIGN CHOICE, log entry 79). -/
def Layer.weights (l : Layer) : Nat :=
  match l.kind with
  | 0 => l.outCols * (l.rows * l.cols)
  | 1 => l.outCols * (l.k * l.cols)
  | 2 => l.cols * l.k
  | _ => 0

/-- Multiply-accumulates of a layer; a pooling layer counts one per input element (R326). -/
def Layer.macs (l : Layer) : Nat :=
  match l.kind with
  | 0 => l.outCols * (l.rows * l.cols)
  | 1 => l.outRows * l.outCols * (l.k * l.cols)
  | 2 => l.outRows * l.cols * l.k
  | _ => l.rows * l.cols

/-- A layer record is valid (R341); `window` is INPUT_BYTES, the size of the feature window. -/
def layerOk (m : Tab Byte) (i len window : Nat) : Bool :=
  let l := readLayer m i
  let a := 0x40 + 32 * i
  let same := l.kind = 2 || l.kind = 3 || l.kind = 4
  l.kind ≤ 4 && l.act ≤ 2 && 1 ≤ l.k && l.k ≤ 16 && (l.kind == 1 || l.kind == 2 || l.kind == 3 || l.k == 1)
    && 1 ≤ l.stride && l.stride ≤ 8 && 1 ≤ l.rows && l.rows ≤ 64 && 1 ≤ l.cols && l.cols ≤ 4096
    && 1 ≤ l.outCols && l.outCols ≤ 4096 && l.k ≤ l.rows && (!same || l.outCols == l.cols) && l.shift ≤ 31
    && 2 ^ 30 ≤ l.mul && l.mul < 2 ^ 31 && mbyte m (a + 0x17) = 0 && mnum m (a + 0x1C) 4 = 0
    && (2 < l.kind || (l.w + l.weights ≤ len && l.b + 4 * l.outCols ≤ len))
    && (l.act != 2 || l.lut + 256 ≤ len)
    && (if l.inOff = 0xFFFF then l.rows * l.cols == window else l.inOff + l.rows * l.cols ≤ 16384)
    && l.outOff + l.outRows * l.outCols ≤ 16384

/-- The header fields and the two CRCs of Table 6-1, by offset. -/
def headerChecks (m : Tab Byte) : List (Nat × Bool) :=
  let len := mnum m 8 4
  [(0, mnum m 0 4 == 0x4C495342), (4, mnum m 4 2 == 1), (6, 1 ≤ mbyte m 6 && mbyte m 6 ≤ 64),
    (7, 1 ≤ mbyte m 7 && mbyte m 7 ≤ 16), (8, 96 ≤ len && len ≤ 49152 && 0x40 + 32 * mbyte m 6 ≤ len)]
    ++ (List.range 40).map (fun i => (0x14 + i, mbyte m (0x14 + i) == 0))
    ++ [(0x3C, mnum m 0x3C 4 == crc32 (mbytes m 0 0x3C)), (0x10, mnum m 0x10 4 == crc32 (mbytes m 0x40 (len - 0x40)))]

/-- The image check of R341: 0, or the B_FAULT code, with the offset of the field or the record that fails. -/
def checkImage (s : State) (p : Nat) : Nat × Nat :=
  let m := (s.listener p).image
  let layers := mbyte m 6
  let window := mnum m 0x0C 2
  let last := readLayer m (layers - 1)
  match (headerChecks m).find? (fun c => !c.2) with
  | some c => (1, c.1)
  | none =>
    if window != lisF s p LISTENER_B_SRC_CONTEXT * 8 * (srcList s p).length then (1, 0x0C)
    else match (List.range layers).find? (fun i => !layerOk m i (mnum m 8 4) window) with
    | some i => (2, 0x40 + 32 * i)
    | none =>
      if last.outRows * last.outCols < mbyte m 7 then (2, 0x40 + 32 * (layers - 1))
      else if 16384 < window + mnum m 0x0E 2 then (3, 0) else (0, 0)

/-! ## Stage B: an evaluation (R324 to R328) -/

/-- A 32-bit wrapping accumulator. -/
def wrap32 (x : Int) : Int := toSigned 32 (ofSigned 32 x)

/-- One output of a layer: y = ZP_OUT + rhe(acc · M / 2^(31 + SHIFT)), saturated and activated; 1 when it saturated. -/
def layerOut (m : Tab Byte) (l : Layer) (acc : Int) : Int × Nat :=
  let y := l.zpOut + rheDiv (acc * l.mul) (2 ^ (31 + l.shift))
  let z := clampTo (-128) 127 y
  let a := if l.act = 1 then max z l.zpOut else if l.act = 2 then imgByte m (l.lut + (z + 128).toNat) else z
  (a, if z = y then 0 else 1)

/-- The accumulator of output row `r`, column `c`, with ZP_IN subtracted from each input (R327). -/
def layerAcc (m : Tab Byte) (l : Layer) (x : List Int) (r c : Nat) : Int :=
  let at_ (i j : Nat) : Int := x.getD (i * l.cols + j) 0 - l.zpIn
  let bias : Int := if l.kind ≤ 2 then toSigned 32 (mnum m (l.b + 4 * c) 4) else 0
  let sum (terms : List Int) : Int := terms.foldl (· + ·) 0
  match l.kind with
  | 0 => wrap32 (bias + sum ((List.range (l.rows * l.cols)).map (fun i =>
      (x.getD i 0 - l.zpIn) * imgByte m (l.w + c * (l.rows * l.cols) + i))))
  | 1 => wrap32 (bias + sum ((List.range (l.k * l.cols)).map (fun i =>
      at_ (r * l.stride + i / l.cols) (i % l.cols) * imgByte m (l.w + c * (l.k * l.cols) + i))))
  | 2 => wrap32 (bias + sum ((List.range l.k).map (fun i => at_ (r * l.stride + i) c * imgByte m (l.w + c * l.k + i))))
  | 3 => ((List.range l.k).map (fun i => at_ (r * l.stride + i) c)).foldl max (at_ (r * l.stride) c)
  | _ => wrap32 (sum ((List.range l.rows).map (fun i => at_ i c)))

/-- Run one layer over work memory: the new work memory, its outputs and saturations. -/
def runLayer (m : Tab Byte) (window : List Int) (l : Layer) (work : Tab Byte) : Tab Byte × List Int × Nat :=
  let x := if l.inOff = 0xFFFF then window else (mbytes work l.inOff (l.rows * l.cols)).map (toSigned 8)
  let ys := (List.range (l.outRows * l.outCols)).map (fun i => layerOut m l (layerAcc m l x (i / l.outCols) (i % l.outCols)))
  (mputs work l.outOff (ys.map (fun y => ofSigned 8 y.1)), ys.map (·.1), (ys.map (·.2)).foldl (· + ·) 0)

/-- Run the image once over a feature window. -/
def runImage (m : Tab Byte) (window : List Int) (work : Tab Byte) : Tab Byte × EvalSt :=
  let layers := (List.range (mbyte m 6)).map (readLayer m)
  let y := layers.foldl (fun (acc : Tab Byte × List Int × Nat × Nat) l =>
    let r := runLayer m window l acc.1
    (r.1, r.2.1, acc.2.2.1 + r.2.2, acc.2.2.2 + 64 + (l.macs + 7) / 8)) (work, [], 0, 0)
  (y.1, ⟨y.2.1.take (mbyte m 7), y.2.2.1, y.2.2.2, [], false⟩)

/-- The ring holds CONTEXT vectors. -/
def windowFull (s : State) (p : Nat) : Bool := (s.listener p).ring.length == lisF s p LISTENER_B_SRC_CONTEXT

/-- A chain slot has LEVEL 1 or 2 (R325). -/
def anyActive (s : State) (p : Nat) : Bool := (List.range 4).any (fun k => (s.lslot p k).level != 0)

/-- The score of a chain slot is below B_TH − B_HYST. -/
def scoreLow (s : State) (p : Nat) (c : SlotCfg) : Bool := toSigned 8 (scoreOf s p c.out) < c.th - (c.hyst : Nat)

/-- Why stage B does not evaluate a hop: not ready (`some true`), or busy with the last one (`some false`, R343); while the
ring fills, LEVELs hold (R344). -/
def skips (s : State) (p : Nat) : Option Bool :=
  if !bReady s p then some true
  else if windowFull s p && (s.listener p).eval.isSome then some false
  else none

/-- A hop without evaluation counts toward B_LINGER only while stage A has not fired (R343); with stage B off, the
score last seen must be low as well (R329). -/
def lingerSkipped (s : State) (p k : Nat) : State :=
  let x := s.lslot p k
  match skips s p with
  | none => s
  | some off =>
    if x.level != 1 then s
    else
      let c := slotCfg s p k
      let n := if x.firing || (off && !scoreLow s p c) then 0 else x.linger + 1
      let s := s.updLslot p k (fun x => { x with linger := n })
      if c.linger ≤ n then toLevel0 s p k c else s

/-- Stage B begins its evaluation of the hop (R325), or counts it as skipped (R343). -/
def beginEval (s : State) (p : Nat) : State :=
  if !bReady s p || !windowFull s p then s
  else if (s.listener p).eval.isSome then raise (addF s (listenerPg p) LISTENER_B_LOAD_OVERRUNS 1) (listenerPg p) 4
  else
    let x := s.listener p
    let y := runImage x.image (x.ring.flatMap id) x.work
    let e := { y.2 with cfgs := (List.range 4).map (slotCfg s p) }
    setLis (s.updListener p (fun x => { x with eval := some e, work := y.1 })) p LISTENER_STATUS_B_BUSY 1

/-! ## The hop (R312, R329, R350, R354) -/

/-- The chain slot stays enabled: a commit that applies at this hop end and disables it wins (R349). -/
def slotEnabled (s : State) (p k : Nat) : Bool :=
  let f := LISTENER_CHAIN_CFG_EN.ix k
  getF s (listenerPg p) f == 1 && (!flagF s (listenerPg p) COMMIT_ARMED || getShadow s (listenerPg p) f == 1)

/-- A chain slot's stage A at a hop end (R329, R350, R354, R355). -/
def slotHop (s : State) (p k : Nat) : State :=
  let was := s.lslot p k
  let c := slotCfg s p k
  let fires := c.enabled && stageA s p k
  let s := s.updLslot p k (fun x => { x with firing := fires, crossed := false })
  let s := if was.resend then (match was.pending with | some m => postMsg s p k m | none => s) else s
  if !c.enabled then s
  else if was.manual then toLevel2 (s.updLslot p k (fun x => { x with manual := false })) p k c true false
  else if bFault s p != 0 then
    let s := if was.level = 1 then toLevel0 s p k c else s
    if (s.lslot p k).level = 0 && fires && slotEnabled s p k then
      if chnF s p k LISTENER_CHAIN_CFG_FALLBACK = 1 then toLevel2 s p k c false true
      else if !was.firing then raise (sendMsg s p k c .aFire false false) (listenerPg p) 0 else s
    else s
  else if was.level = 0 && fires && slotEnabled s p k then toLevel1 s p k c
  else s

/-- The shadow copies of the page have taken effect (R344, R349): a changed B_SRC clears the ring, and the evaluation in
progress moves no LEVEL 1; a disabled chain slot goes to LEVEL 0, from LEVEL 1 with DEMOTED (R331). `s` is the state
before. -/
def listenerTakes (s : State) (t : State) (p : Nat) : State :=
  let src (s : State) := (lisF s p LISTENER_B_SRC_SRC_MASK, lisF s p LISTENER_B_SRC_CONTEXT, lisF s p LISTENER_B_SRC_FILL)
  let t := if src t = src s then t else t.updListener p (fun x => { x with
    ring := [], eval := x.eval.map (fun e => { e with stale := true }) })
  (List.range 4).foldl (fun t k => if chnF t p k LISTENER_CHAIN_CFG_EN = 1 then t
    else
      let t := if (t.lslot p k).level = 1 then toLevel0 t p k (slotCfg t p k) else t
      t.updLslot p k (fun x => { LSlotSt.reset with pending := x.pending, resend := x.resend })) t

/-- A commit of the page. -/
def listenerCommit (s : State) (p : Nat) : State := listenerTakes s (commitPage s (listenerPg p)) p

/-- The listener starts: nothing it heard before counts. -/
def listenerStarts (s : State) (t : State) (p : Nat) : State :=
  listenerTakes s (t.updListener p (fun x => { x with srcs := [] })) p

/-- A new hop begins: the filters go on, their sums from 0. -/
def newHop (x : ListenerSt) : ListenerSt :=
  { x with srcs := x.srcs.map (fun y => (y.1, ⟨y.2.bands.map (fun b => (b.1, { b.2 with sum := 0 })), 0, false, false⟩)) }

/-- A hop ends: detectors, features, chain slots in ascending order with their evaluation, then the commit and the stop of
the page. -/
def hopEnds (s : State) (p : Nat) : State :=
  let s := s.updListener p (fun x => { x with hopFrame := s.time / 24576 })
  let s := hopDetectors s p
  let s := if lisF s p LISTENER_CTRL_B_EN = 1 then
      let v := featureVec s p
      let n := lisF s p LISTENER_B_SRC_CONTEXT
      s.updListener p (fun x => { x with ring := (x.ring ++ [v]).drop (x.ring.length + 1 - n) })
    else s
  let s := s.updListener p newHop
  let active := anyActive s p
  let s := (List.range 4).foldl (fun s k => lingerSkipped (slotHop s p k) p k) s
  let s := if active || anyActive s p then beginEval s p else s
  let s := if flagF s (listenerPg p) COMMIT_ARMED then listenerCommit s p else s
  if flagF s (listenerPg p) CTRL_EN then s else setLis s p STATUS_ENABLED 0

/-- A hop ends at this moment (R312): a port frame boundary, with the port's frame taken, where PORT_FRAME is a multiple of
HOP. -/
def hopDue (s : State) (p : Nat) : Bool :=
  let n := (s.sensor p).frame
  s.time == n * 24576 && n % lisF s p LISTENER_LCFG_HOP == 0 && n != (s.listener p).hopFrame

def execListenerHop (p : Nat) (s : State) : Host.Outcome State Fault Refusal :=
  guardDo (listenerOn s p && hopDue s p) (fun s => hopEnds s p) s

/-! ## The end of an evaluation -/

/-- A chain slot after an evaluation (R329, R330), judged with the values of its hop. -/
def slotEval (s : State) (p k : Nat) (c : SlotCfg) : State :=
  let x := s.lslot p k
  let high := decide (c.th ≤ toSigned 8 (scoreOf s p c.out))
  let s := s.updLslot p k (fun x => { x with crossed := high })
  if x.level = 2 then if high then sendMsg s p k c .refresh false false else s
  else if x.level = 1 then
    let hold := if high then x.hold + 1 else 0
    let linger := if !x.firing && scoreLow s p c then x.linger + 1 else 0
    let s := s.updLslot p k (fun x => { x with hold := hold, linger := linger })
    if c.hold ≤ hold then toLevel2 s p k c false false
    else if c.linger ≤ linger then toLevel0 s p k c
    else s
  else s

/-- An image word read is uncorrectable (R353): stage B stops. -/
def memEcc (s : State) (p off : Nat) : State :=
  let s := setLis s p LISTENER_STATUS_B_FAULT 4
  let s := setLis s p LISTENER_STATUS_B_READY 0
  let s := setLis s p LISTENER_STATUS_B_BUSY 0
  let s := s.updListener p (fun x => { x with eval := none, checking := false })
  faultDemotes (raise (recordErr s (listenerPg p) 0x44 .block 5 off) (listenerPg p) 3) p

/-- An evaluation still counts for a chain slot: not disabled since, and at LEVEL 1 no change of B_SRC since (R344). -/
def slotCurrent (s : State) (p k : Nat) (e : EvalSt) : Bool :=
  chnF s p k LISTENER_CHAIN_CFG_EN == 1 && !(e.stale && (s.lslot p k).level == 1)

/-- The results of an evaluation. -/
def evalEnds (s : State) (p : Nat) (e : EvalSt) : State :=
  let pg := listenerPg p
  let word (i : Nat) : Nat := leNum ((List.range 4).map (fun j => ofSigned 8 (e.scores.getD (4 * i + j) 0)))
  let s := (List.range 4).foldl (fun s i => setF s pg (LISTENER_SCORES.ix i) (word i)) s
  let s := setF s pg LISTENER_B_LOAD_CYCLES (min ((e.cycles + 15) / 16) 65535)
  let s := setF s pg LISTENER_B_SAT_LAST (min e.sats 65535)
  let s := addF s pg LISTENER_B_SAT_TOTAL e.sats
  let s := if e.sats = 0 then s else raise s pg 7
  let s := setF s pg LISTENER_STATUS_B_BUSY 0
  let s := s.updListener p (fun x => { x with eval := none })
  (List.range 4).foldl (fun s k => match e.cfgs[k]? with
    | some c => if c.enabled && slotCurrent s p k e then slotEval s p k c else s
    | none => s) s

def execEvaluationDone (p corrected : Nat) (badWord : Option Nat) (s : State) : Host.Outcome State Fault Refusal :=
  guardDo (p < 6 && (s.listener p).eval.isSome)
    (fun s =>
      let s := addF s (listenerPg p) LISTENER_B_ECC_CORRECTED corrected
      match badWord, (s.listener p).eval with
      | some off, _ => memEcc s p off
      | none, some e => evalEnds s p e
      | none, none => s) s

/-! ## Image memory (R341, R345, R346, R353) -/

/-- CTRL.B_EN has been written: 1 begins the image check, 0 stops stage B. -/
def bEnChanged (s : State) (p : Nat) (on : Bool) : State :=
  let s := putFlag s (listenerPg p) LISTENER_CTRL_B_EN on
  if on then s.updListener p (fun x => { x with checking := true })
  else
    let s := setLis s p LISTENER_STATUS_B_READY 0
    let s := setLis s p LISTENER_STATUS_B_BUSY 0
    s.updListener p (fun x => { x with checking := false, eval := none, ring := [] })

/-- The image check ends. -/
def checkEnds (s : State) (p : Nat) : State :=
  let m := (s.listener p).image
  let s := s.updListener p (fun x => { x with checking := false })
  let s := setLis s p LISTENER_IMG_CRC_CRC (crc32 (mbytes m 0x40 (min (mnum m 8 4) 49152 - 0x40)))
  let c := checkImage s p
  if c.1 = 0 then setLis (setLis s p LISTENER_STATUS_B_FAULT 0) p LISTENER_STATUS_B_READY 1
  else
    let s := bEnChanged s p false
    let s := setLis s p LISTENER_STATUS_B_FAULT c.1
    faultDemotes (raise (recordErr s (listenerPg p) (0x40 + c.1) .block (if c.1 = 3 then 15 else 5) c.2) (listenerPg p) 3) p

def execImageCheckDone (p corrected : Nat) (badWord : Option Nat) (s : State) : Host.Outcome State Fault Refusal :=
  guardDo (p < 6 && (s.listener p).checking)
    (fun s =>
      let s := addF s (listenerPg p) LISTENER_B_ECC_CORRECTED corrected
      match badWord with
      | some off => setLis (memEcc s p off) p LISTENER_CTRL_B_EN 0
      | none => checkEnds s p) s

/-- B_ADDR advances by one word. -/
def bAdvance (s : State) (p : Nat) : State :=
  setLis s p LISTENER_B_ADDR_ADDR ((lisF s p LISTENER_B_ADDR_ADDR + 1) % 12288)

/-- An image word is written. -/
def bDataPut (s : State) (p v : Nat) : State :=
  let a := lisF s p LISTENER_B_ADDR_ADDR * 4
  bAdvance (s.updListener p (fun x => { x with image := mputs x.image a (leBytes 4 v) })) p

/-- An image word is read, with the errors corrected in it: the state after it and the word; an uncorrectable word reads as
a free value. -/
def bDataGet (s : State) (p corrected : Nat) (bad : Bool) : State × Nat :=
  let a := lisF s p LISTENER_B_ADDR_ADDR * 4
  let s := addF s (listenerPg p) LISTENER_B_ECC_CORRECTED corrected
  if bad then
    let f := s.fresh
    (bAdvance (memEcc f.1 p a) p, f.2 % 2 ^ 32)
  else (bAdvance s p, mnum (s.listener p).image a 4)

/-! ## Acknowledgements and reports (R329, R351, R355, R366) -/

/-- An acknowledgement of a message of this slot. -/
def slotAck (p k : Nat) : RingMsg → Bool
  | .ack m => m.port == p && m.lslot == k
  | _ => false

/-- The same message, but for a score that a REFRESH has updated (R333). -/
def ListenerMsg.same (m q : ListenerMsg) : Bool := { m with score := 0 } == { q with score := 0 }

/-- The acknowledgement clears the pending message when it is that one's. -/
def ackArrives (s : State) (p k : Nat) : State :=
  let x := takeMsg (slotAck p k) s.ring
  let s := { s with ring := x.2 }
  match x.1 with
  | some (.ack m) =>
    if (s.lslot p k).pending.any m.same then s.updLslot p k (fun y => { y with pending := none, resend := false }) else s
  | _ => s

def execMessageAck (p lslot : Nat) (s : State) : Host.Outcome State Fault Refusal :=
  guardDo (p < 6 && lslot < 4 && ringFree s && s.ring.any (slotAck p lslot)) (fun s => ackArrives s p lslot) s

def execAckTimeout (p lslot : Nat) (s : State) : Host.Outcome State Fault Refusal :=
  guardDo (p < 6 && lslot < 4 && (s.lslot p lslot).pending.isSome)
    (fun s => raise (s.updLslot p lslot (fun x => { x with resend := true })) (listenerPg p) 6) s

/-- A DEMOTED report takes the chain slot from LEVEL 2 to LEVEL 1; a crossing of the same hop counts toward B_HOLD after
that (R351), and with a fault of stage B LEVEL 1 gives way to LEVEL 0 (R354). -/
def reportArrives (s : State) (p k : Nat) : State :=
  let s := { s with ring := (takeMsg (· == .demoted p k) s.ring).2 }
  let x := s.lslot p k
  if x.level = 2 then
    let s := s.updLslot p k (fun x => { x with level := 1, hold := x.crossed.toNat, linger := 0, fallback := false })
    if bFault s p != 0 then toLevel0 s p k (slotCfg s p k)
    else if x.crossed && chnF s p k LISTENER_CHAIN_B_B_HOLD ≤ 1 then toLevel2 s p k (slotCfg s p k) false false
    else s
  else s

def execDemotedReport (p lslot : Nat) (s : State) : Host.Outcome State Fault Refusal :=
  guardDo (p < 6 && lslot < 4 && ringFree s && s.ring.contains (.demoted p lslot)) (fun s => reportArrives s p lslot) s

/-- A soft reset (R360): ring cleared, LEVELs 0, pending messages discarded; image memory kept. -/
def listenerReset (s : State) (p : Nat) : State :=
  let s := { s with ring := s.ring.filter (fun r => match r with | .listener m => m.port != p | _ => true) }
  s.updListener p (fun x => { ListenerSt.reset with image := x.image })

end Sys2Proof.Machine
end

