-- ==== Sys2Proof/Machine/Ctl.lean ====
section
/-! DEFINITION. Machine/Ctl.lean: the CTL records (R463 to R468, R477, R480). Each completes as it issues. -/

namespace Sys2Proof.Machine

open Sys2Proof

/-! ## END -/

/-- END: STATE IDLE, the owner is kept, ENDED (bit 2); a job may thereby have ended. For a job with a stop status it is
a sync point, where the face handles an END message instead (R689, R691). -/
def ctlEnd (g : Nat) (o : OpRec) (s : State) : State :=
  if jobStopped s g then endAndCheck s g
  else
    let s := finishNow s g o
    let s := s.updFace g (fun f => { f with run := .idle, queue := [], ended := true })
    let s := raise s (facePg g) 2
    match ownerJob s g with
    | some j => jobCheckEnd s j
    | none => s

def execEndProg (g : Nat) (s : State) : Host.Outcome State Fault Refusal := recordCmd g 4 0 (ctlEnd g) s

/-! ## LOOP and BRANCH -/

/-- The address after the body of a LOOP. -/
def loopStop (o : OpRec) : Nat := o.addr + 32 + 32 * bits (o.word 2) 0 16

/-- LOOP (R465, R471): a body beyond that of the enclosing loop, or a fifth level, stops the face; a count of 0 skips
the body. REMAIN is the number of iterations after the one that begins. -/
def ctlLoop (g : Nat) (o : OpRec) (s : State) : State :=
  let f := s.faceAt g
  let w := o.word 1
  let count := if bits w 24 4 = 0 then bits w 0 24 else f.a (bits w 24 4)
  let stop := loopStop o
  let beyond := match f.loops with
    | l :: _ => decide (l.stop < stop)
    | [] => false
  if beyond then stopAt s g o (illegalAt o)
  else if count = 0 then (finishNow s g o).updFace g (fun f => { f with pc := stop })
  else if 4 ≤ f.loops.length then stopAt s g o (illegalAt o)
  else
    let l : Loop := ⟨o.addr + 32, stop, count - 1, o.word 3, bits (o.word 2) 16 4⟩
    (finishNow s g o).updFace g (fun f => { f with loops := l :: f.loops })

/-- A skipped LOOP skips its body (R468). -/
def execLoop (g : Nat) (s : State) : Host.Outcome State Fault Refusal :=
  match headReady s g with
  | some o => guardDo (o.family == 4 && o.subop == 1)
      (fun s =>
        let skip := !o.illegal && (s.faceAt g).skips o
        let s := issueRecord s g o (ctlLoop g o)
        if skip then s.updFace g (fun f => { f with pc := loopStop o }) else s) s
  | none => done s

/-- Pop every loop level whose body does not hold the target, innermost first (R467). -/
def popLoops (t : Nat) : List Loop → List Loop
  | [] => []
  | l :: ls => if l.start ≤ t && t < l.stop then l :: ls else popLoops t ls

/-- BRANCH continues at its own address + 32 · OFFSET, in 32 bits. -/
def ctlBranch (g : Nat) (o : OpRec) (s : State) : State :=
  let t := (((o.addr : Int) + 32 * toSigned 24 (bits (o.word 1) 0 24)) % (2 ^ 32 : Nat)).toNat
  (finishNow s g o).updFace g (fun f => { f with pc := t, loops := popLoops t f.loops })

def execBranch (g : Nat) (s : State) : Host.Outcome State Fault Refusal := recordCmd g 4 2 (ctlBranch g) s

/-! ## Predicates and address registers -/

/-- CMP of R464: 0 EQ, 1 NE, 2 LT, 3 GE, 4 LTU, 5 GEU. -/
def cmpWords (c x y : Nat) : Bool :=
  match c with
  | 0 => x == y
  | 1 => x != y
  | 2 => toSigned 32 x < toSigned 32 y
  | 3 => toSigned 32 y ≤ toSigned 32 x
  | 4 => x < y
  | _ => y ≤ x

def ctlSetp (g : Nat) (o : OpRec) (s : State) : State :=
  let f := s.faceAt g
  let w := o.word 1
  let y := if bit w 20 then o.word 2 else f.a (bits w 16 4)
  let c := cmpWords (bits w 4 3) (f.a (bits w 12 4)) y
  let pd := bits w 0 3
  let old := bit f.preds pd
  let v := match bits w 8 2 with
    | 0 => c
    | 1 => old && c
    | _ => old || c
  (finishNow s g o).updFace g (fun f => f.setP pd v)

def execSetp (g : Nat) (s : State) : Host.Outcome State Fault Refusal := recordCmd g 4 3 (ctlSetp g) s

def ctlSeta (g : Nat) (o : OpRec) (s : State) : State :=
  (finishNow s g o).updFace g (fun f => f.setA (bits (o.word 1) 0 4) (o.word 2))

def execSeta (g : Nat) (s : State) : Host.Outcome State Fault Refusal := recordCmd g 4 4 (ctlSeta g) s

def ctlAdda (g : Nat) (o : OpRec) (s : State) : State :=
  (finishNow s g o).updFace g (fun f => f.setA (bits (o.word 1) 0 4) (f.a (bits (o.word 1) 4 4) + o.word 2))

def execAdda (g : Nat) (s : State) : Host.Outcome State Fault Refusal := recordCmd g 4 5 (ctlAdda g) s

/-- The address of LDA and STA: a register and OFF, in 32 bits. -/
def FaceSt.wordAddr (f : FaceSt) (o : OpRec) : Nat := (f.a (bits (o.word 1) 4 4) + o.word 2) % 2 ^ 32

/-- A word access is misaligned or beyond face SRAM (R492). -/
def wordBad (a : Nat) : Option StopAt :=
  if a % 4 != 0 || sramSize < a + 4 then some (.face SRAM_RANGE 6 a) else none

/-- LDA: A[D] ← face SRAM word; a spoiled line stops the face (R988). -/
def ctlLda (g : Nat) (o : OpRec) (s : State) : State :=
  let f := s.faceAt g
  let a := f.wordAddr o
  match firstStop [wordBad a, f.spoilStop a 4] with
  | some x => stopAt s g o x
  | none => (finishNow s g o).updFace g (fun f => f.setA (bits (o.word 1) 0 4) (mnum f.sram a 4))

def execLda (g : Nat) (ecc : SramEcc) (s : State) : Host.Outcome State Fault Refusal :=
  recordCmd g 4 6 (fun o s => withEcc s g o ecc (ctlLda g o)) s

/-- STA: face SRAM word ← A[S], without spoil (R989). -/
def ctlSta (g : Nat) (o : OpRec) (s : State) : State :=
  let f := s.faceAt g
  let a := f.wordAddr o
  match wordBad a with
  | some x => stopAt s g o x
  | none => sramWrite (finishNow s g o) g a (leBytes 4 (f.a (bits (o.word 1) 0 4))) false

/-- The word's other half is read with it (R428). -/
def execSta (g : Nat) (ecc : SramEcc) (s : State) : Host.Outcome State Fault Refusal :=
  recordCmd g 4 7 (fun o s => withEcc s g o ecc (ctlSta g o)) s

def execCtlNop (g : Nat) (s : State) : Host.Outcome State Fault Refusal := recordCmd g 4 8 (fun o s => finishNow s g o) s

/-! ## SAVE_CTX (R480) -/

/-- A loop level of a context record: START, END, REMAIN, STEP, AREG. -/
def loopBytes (l : Loop) : List Nat :=
  leBytes 4 l.start ++ leBytes 4 l.stop ++ leBytes 4 l.remain ++ leBytes 4 l.step ++ [l.areg] ++ List.replicate 15 0

/-- The context record of Table 8-11; `pc` is the address of the record after SAVE_CTX. -/
def contextBytes (s : State) (g pc : Nat) : List Nat :=
  let f := s.faceAt g
  let loops := f.loops.reverse.flatMap loopBytes
  let b := leBytes 4 0x46435458 ++ leBytes 2 1 ++ leBytes 2 (getF s (facePg g) FACE_MODEL) ++ leBytes 2 g ++ [0, 0]
    ++ leBytes 4 pc ++ [f.preds % 256, f.loops.length, 0, 0] ++ List.replicate 4 0 ++ leBytes 8 s.time
    ++ (List.range 16).flatMap (fun k => leBytes 4 (f.a k))
    ++ loops ++ List.replicate (128 - loops.length) 0 ++ numericBytes s g ++ List.replicate 216 0
  b ++ leBytes 4 (crc32 b) ++ List.replicate 4 0

/-- SAVE_CTX writes the face context at its face SRAM address, 512-byte aligned (R492), and raises CTX_SAVED (bit 4). -/
def ctlSaveCtx (g : Nat) (o : OpRec) (s : State) : State :=
  let a := (s.faceAt g).addrOperand (o.word 1)
  if a % 512 != 0 || sramSize < a + 512 then stopAt s g o (.face SRAM_RANGE 6 a)
  else
    let b := contextBytes s g (o.addr + 32)
    raise (sramWrite (finishNow s g o) g a b false) (facePg g) 4

def execSaveCtx (g : Nat) (s : State) : Host.Outcome State Fault Refusal := recordCmd g 4 9 (ctlSaveCtx g) s

end Sys2Proof.Machine
end

