-- ==== Sys2Proof/Machine/FaceStart.lean ====
section
/-! DEFINITION. Machine/FaceStart.lean: starting, switching and ending (R473 to R482, R495, R505, R630, R631), fetching op
records (R429, R466, R492, R504), and the retirement of issued records (R431, R433). -/

namespace Sys2Proof.Machine

open Sys2Proof

/-! ## The model directory (R630, R631) -/

/-- The model entry of a model in the selected copy: its address. -/
def modelEntry (b : BedSt) (model : Nat) : Option Nat :=
  if b.dirSel = 0 then none
  else
    let base := dirBase (b.dirSel == 2) + 0x40
    ((List.range b.dirCount).map (fun e => base + 64 * e)).find? (fun a => mnum b.bytes a 2 == model)

/-- The face entry of a model for a logical slot: its address, when the directory names one. -/
def faceEntry (r : Nat) (b : BedSt) (model slot : Nat) : Option Nat :=
  match modelEntry b model with
  | none => none
  | some a =>
    let t := mnum b.bytes (a + 8) 4 + 64 * slot
    if bit (mnum b.bytes (a + 4) 2) slot && t + 64 ≤ bedCapacity r then some t else none

/-- The model's FLAGS.CONFIDENTIAL (R856). -/
def modelConfidential (b : BedSt) (model : Nat) : Bool :=
  match modelEntry b model with
  | some a => bit (mbyte b.bytes (a + 2)) 0
  | none => false

/-- The byte ranges a start loads: the element program and the tables of FT_MASK. -/
def loadRanges (m : Tab Byte) (a : Nat) : List (Nat × Nat) :=
  [(mnum m (a + 4) 4, 8 * mnum m (a + 8) 2)]
    ++ ((List.range 4).filter (fun t => bit (mbyte m (a + 0xA)) t)).map (fun t => (mnum m (a + 0xC) 4 + 0x1040 * t, 0x1040))

/-- A face entry breaks Table 11-7 or names bytes outside the bed store, or a line it needs is bad (R631). -/
def entryBad (r : Nat) (b : BedSt) (a : Nat) : Bool :=
  let m := b.bytes
  let n (off len : Nat) : Nat := mnum m (a + off) len
  let lineBad (x : Nat × Nat) : Bool := (linesOf x.1 x.2).any (fun l => lineSpoil b l || lineUE b l)
  n 0x3C 4 != crc32 (mbytes m a 0x3C) || n 0 4 % 32 != 0 || bedCapacity r < n 0 4 + 32 || n 4 4 % 64 != 0
    || 1024 < n 8 2 || 16 ≤ n 0xA 1 || n 0xB 1 != 0 || n 0xC 4 % 64 != 0 || n 0x10 16 != 0 || n 0x30 12 != 0
    || (loadRanges m a).any (fun x => x.2 != 0 && bedCapacity r < x.1 + x.2)
    || numBlockBad r (n 0x20 4) (n 0x24 4) (n 0x28 4) (n 0x2C 4)
    || lineBad (a, 64) || (loadRanges m a).any lineBad

/-- The words of a function table block. -/
def readTable (m : Tab Byte) (a : Nat) : FTable :=
  ⟨true, mnum m a 4, mbyte m (a + 4),
    (List.range 1024).foldl (fun t k => tset 0 t k (mnum m (a + 0x40 + 4 * k) 4)) []⟩

/-- The element program and the function tables are loaded (R630). -/
def loadModel (m : Tab Byte) (a : Nat) (f : FaceSt) : FaceSt :=
  let len := mnum m (a + 8) 2
  let prog := (List.range len).foldl (fun t k => tset 0 t k (mnum m (mnum m (a + 4) 4 + 8 * k) 8)) f.prog
  let tables := (List.range 4).foldl (fun t k =>
    tset FTable.reset t k (if bit (mbyte m (a + 0xA)) k then readTable m (mnum m (a + 0xC) 4 + 0x1040 * k)
      else { tget FTable.reset t k with loaded := false })) f.tables
  { f with prog := prog, epLen := len, tables := tables }

/-- MODEL_INVALID (R505): ERRADDR SPACE 7 holds the model number. -/
def modelInvalid (s : State) (g model : Nat) : State := faceStop s g noRecord 0x46 7 model

/-- The start loads a model (R473, R630): answers whether the face goes on. -/
def startLoad (s : State) (g model : Nat) : State × Bool :=
  let r := faceRegion g
  let b := s.bed r
  let conf := match (s.faceAt g).owner with
    | .job j => (s.job j).confidential
    | _ => false
  let s := setF s (facePg g) FACE_MODEL model
  match faceEntry r b model (faceSlot g) with
  | none => (modelInvalid s g model, false)
  | some a =>
    let s := (bedRead s r a 64).1
    if entryBad r b a || (modelConfidential b model && !conf) then (modelInvalid s g model, false)
    else
      match (loadRanges b.bytes a).find? (fun x => x.2 != 0 && !faceMay s g r x.1 x.2 0) with
      | some x => (modelInvalid (denyBed s r x.1 x.2 (.face g)) g model, false)
      | none =>
        let s := (loadRanges b.bytes a).foldl (fun s x => (bedRead s r x.1 x.2).1) s
        let s := s.updFace g (fun f => { loadModel b.bytes a f with pc := mnum b.bytes a 4 })
        (numLoad s g (mnum b.bytes (a + 0x20) 4) (mnum b.bytes (a + 0x24) 4) (mnum b.bytes (a + 0x28) 4), true)

/-! ## Starts -/

/-- The face takes a start from the owner `o`, which is none (R476), or of a restart the job that owns the spare (R997). -/
def mayStart (s : State) (g : Nat) (o : Owner) : Bool :=
  let f := s.faceAt g
  f.run == .idle && !f.dead && backed s g && inRun s (faceRegion g) && (f.owner == .none || f.owner == o)

/-- An END message reaches a face (R478). -/
def endArrives (s : State) (g : Nat) : State :=
  if inRun s (faceRegion g) && backed s g && !(s.faceAt g).dead then endAndCheck s g else s

/-- The start that reaches a face, and the state it finds. Messages to a face come in the order they were sent, so an END
sent before it comes first; one that comes in the same cycle is handled first (R494). A start of a job gives way to
listener messages (R334). -/
def startArrives (s : State) (g : Nat) (fits : RingMsg → Bool) (withEnd : Bool) : Option (State × RingMsg) :=
  let e := takeMsg (· == .endFace g) s.ring
  let s := if withEnd && e.1.isSome then endArrives { s with ring := e.2 } g else s
  let x := takeMsg (fun m => fits m || m == .endFace g) s.ring
  match x.1 with
  | some m => if fits m && (m.isWake || ringFree s) then some ({ s with ring := x.2 }, m) else none
  | none => none

/-- The start is refused, or its face cannot be reached: the starter counts the face unavailable (R476). -/
def startRefused (s : State) (g : Nat) : Owner → State
  | .job j => jobStop s j 0x11 0 g
  | _ => escFaceLost s g 3

/-- The face records its owner and enters SWITCHING; registers, predicates and loops are cleared, tokens read 1 (R473);
the counters that a confidential owner withholds go to 0 (R487, R651). -/
def startSwitch (s : State) (g : Nat) (o : Owner) (ack : Option (Nat × Nat)) : State :=
  let conf := match o with
    | .job j => (s.job j).confidential
    | _ => false
  let s := addF s (facePg g) FACE_MODEL_SWITCHES 1
  let s := if conf then
      [FACE_RETIRED, FACE_MAT_CYC, FACE_ELT_CYC].foldl (fun s f => setF s (facePg g) f 0)
        ([HOIST_HITS, HOIST_IN, HOIST_OUT].foldl (fun s f => setF s (hoistPg g) f 0) s)
    else s
  s.updFace g (fun f => { f with
    run := .switching, owner := o, confidential := conf, start := some ⟨s.time, ack⟩, ended := false, endPending := false
    regs := [], preds := 0, loops := [], tokens := 255, queue := [] })

/-- A start message reaches a face: the model is loaded and the scale log begins (R473, R556). -/
def startFace (s : State) (g model : Nat) (o : Owner) (ack : Option (Nat × Nat)) (wakeRec : List Nat) : State :=
  if !mayStart s g .none then startRefused s g o
  else
    let s := startSwitch s g o ack
    let s := sramWrite s g 0x3FFFC0 wakeRec false
    let x := startLoad s g model
    if x.2 then logBegin x.1 g else x.1

/-- The oldest start or wake message for a face, without a context address. -/
def isStart (g : Nat) : RingMsg → Bool
  | .wake h _ _ _ _ => h == g
  | .start h _ _ none => h == g
  | _ => false

def execStartMessage (g : Nat) (errs : List (Nat × Nat)) (withEnd : Bool) (s : State) : Host.Outcome State Fault Refusal :=
  match startArrives s g (isStart g) withEnd with
  | some (t, .wake _ c pos model rec32) =>
    done (startFace (ageLines t (faceRegion g) errs) g model (.stage c pos) (some (c, pos)) rec32)
  | some (t, .start _ j model _) => done (startFace (ageLines t (faceRegion g) errs) g model (.job j) none [])
  | _ => done s

/-! ## Restarts (R481, R482) -/

/-- A context record is valid, but for its model (R482). -/
def contextValid (m : Tab Byte) (a : Nat) : Bool :=
  mnum m a 4 == 0x46435458 && mnum m (a + 4) 2 == 1 && mbyte m (a + 0x11) ≤ 4
    && mnum m (a + 0x1F8) 4 == crc32 (mbytes m a 0x1F8)

/-- PC, predicates, registers and loop levels of a context record. -/
def loadContext (m : Tab Byte) (a : Nat) (f : FaceSt) : FaceSt :=
  let level (k : Nat) : Loop :=
    let o := a + 0x60 + 32 * k
    ⟨mnum m o 4, mnum m (o + 4) 4, mnum m (o + 8) 4, mnum m (o + 12) 4, mbyte m (o + 16) % 16⟩
  { f with
    pc := mnum m (a + 0xC) 4
    preds := mbyte m (a + 0x10)
    regs := (List.range 15).foldl (fun t k => tset 0 t (k + 1) (mnum m (a + 0x20 + 4 * (k + 1)) 4)) []
    loops := ((List.range (mbyte m (a + 0x11))).map level).reverse }

/-- A restart: the context record is read through the hoist and checked; then the model it names is started and the
context loaded. -/
def restartFace (s : State) (g j ctx : Nat) : State :=
  let o := Owner.job j
  if !mayStart s g o then startRefused s g o
  else
    let r := faceRegion g
    let s := startSwitch s g o none
    let invalid (s : State) : State := faceStop s g noRecord 0x45 3 ctx
    if bedCapacity r < ctx + 512 then invalid s
    else if !faceMay s g r ctx 512 0 then invalid (denyBed s r ctx 512 (.face g))
    else
      let s := (bedRead s r ctx 512).1
      let m := (s.bed r).bytes
      let model := mnum m (ctx + 6) 2
      if !contextValid m ctx || (modelEntry (s.bed r) model).isNone then invalid s
      else
        let x := startLoad s g model
        if x.2 then numRestore (x.1.updFace g (loadContext m ctx)) g (mbytes m (ctx + 0xE0) 64) else x.1

def isRestart (g : Nat) : RingMsg → Bool
  | .start h _ _ (some _) => h == g
  | _ => false

def execRestartMessage (g : Nat) (errs : List (Nat × Nat)) (withEnd : Bool) (s : State) : Host.Outcome State Fault Refusal :=
  match startArrives s g (isRestart g) withEnd with
  | some (t, .start _ j _ (some ctx)) => done (restartFace (ageLines t (faceRegion g) errs) g j ctx)
  | _ => done s

/-! ## The end of a switch, and END -/

/-- The loads end (R474): RUNNING, SWITCH_TIME in 0.1 µs, SWITCHED (bit 1); a wake message is acknowledged (R382). An END
that came meanwhile is handled now, and no record issues (R495). -/
def switchDone (s : State) (g : Nat) : State :=
  let f := s.faceAt g
  let st := f.start.getD ⟨s.time, none⟩
  let t := min ((s.time - st.at_) * 1250 / 3072) 65535
  let s := s.updFace g (fun f => { f with run := .running, start := none, endPending := false })
  if f.endPending then endAndCheck s g
  else
    let s := setF s (facePg g) FACE_SWITCH_TIME_LAST t
    let s := setF s (facePg g) FACE_SWITCH_TIME_MAX (max t (getF s (facePg g) FACE_SWITCH_TIME_MAX))
    let s := raise s (facePg g) 1
    match st.ack with
    | some (c, pos) => post s (.wakeAck g c pos)
    | none => s

def execSwitchComplete (g : Nat) (s : State) : Host.Outcome State Fault Refusal :=
  guardDo ((s.faceAt g).run == .switching && !(s.faceAt g).dead && inRun s (faceRegion g)) (fun s => switchDone s g) s

def execEndMessage (g : Nat) (s : State) : Host.Outcome State Fault Refusal :=
  let x := takeMsg (· == .endFace g) s.ring
  match x.1 with
  | some _ => done (endArrives { s with ring := x.2 } g)
  | none => done s

/-! ## Fetching op records -/

/-- The next fetch stands at the end of the innermost body. -/
def atLoopEnd (f : FaceSt) : Bool :=
  match f.loops with
  | l :: _ => f.pc == l.stop
  | [] => false

/-- R466, R497: step to the next iteration, or leave the level and look at the next one out. -/
def loopEnd : List Loop → FaceSt → FaceSt
  | [], f => { f with loops := [] }
  | l :: ls, f =>
    if f.pc = l.stop then
      if 0 < l.remain then
        { (f.setA l.areg (f.a l.areg + l.step)) with pc := l.start, loops := { l with remain := l.remain - 1 } :: ls }
      else loopEnd ls { f with loops := ls }
    else { f with loops := l :: ls }

/-- Records after a LOOP, BRANCH or END are fetched once it has issued. -/
def fetchHeld (f : FaceSt) : Bool := f.queue.any (fun o => o.family == 4 && o.subop ≤ 2)

/-- The record at an address. -/
def fetchRecord (s : State) (g pc : Nat) : OpRec :=
  ⟨pc, (List.range 8).map (fun i => mnum (s.bed (faceRegion g)).bytes (pc / 32 * 32 + 4 * i) 4)⟩

/-- One op record is fetched into the queue. A fetch that fails, or brings a reserved FAMILY or SUBOP, stops the face
when every earlier record has issued (R471, R492, R501, R504). -/
def fetchNext (s : State) (g : Nat) : State :=
  let r := faceRegion g
  let pc := (s.faceAt g).pc
  let idle := (s.faceAt g).queue.isEmpty
  let o := fetchRecord s g pc
  let bad : OpRec := ⟨pc, []⟩
  if bedCapacity r < pc + 32 then (if idle then faceStop s g bad 0x42 3 pc else s)
  else if !faceMay s g r pc 32 2 then (if idle then faceStop (denyBed s r pc 32 (.face g)) g bad 0x44 3 pc else s)
  else if (linesOf pc 32).any (fun l => lineSpoil (s.bed r) l || lineUE (s.bed r) l) then
    (if idle then faceStop (bedRead s r pc 32).1 g bad 0x44 3 pc else s)
  else
    let s' := (bedRead s r pc 32).1
    if o.known then s'.updFace g (fun f => { f with queue := f.queue ++ [o], pc := pc + 32 })
    else if idle then stopAt s' g o (illegalAt o)
    else s

/-- The loop end waits until every earlier record has issued and AREG is not about to be written (R496). -/
def loopReady (f : FaceSt) : Bool :=
  !atLoopEnd f || (f.queue.isEmpty && match f.loops with
    | l :: _ => !f.pendingA.contains l.areg
    | [] => true)

def execOpRecordFetch (g : Nat) (errs : List (Nat × Nat)) (s : State) : Host.Outcome State Fault Refusal :=
  let f := s.faceAt g
  guardDo (faceRuns s g && !f.endPending && f.opq < 256 && !fetchHeld f && loopReady f)
    (fun s =>
      let s := ageLines s (faceRegion g) errs
      fetchNext (s.updFace g (fun f => loopEnd f.loops f)) g) s

/-! ## Retirement -/

/-- The record's completion event has come (Table 8-2): bed lines that it wrote are durable. -/
def isComplete (s : State) (g : Nat) (i : Issued) : Bool :=
  match i.st with
  | .done => true
  | .failed _ => true
  | .writes r _ _ => !(s.bed r).queue.any (·.who == .hoist g)
  | _ => false

/-- An issued record retires: its token is set (R433). -/
def retire (s : State) (g : Nat) (i : Issued) : State :=
  countRetired (s.updFace g (fun f =>
    let f := { f with issued := f.issued.filter (·.id != i.id) }
    if i.record.tokenEn then f.setToken i.record.token true else f)) g

/-- An END that waited for issued records is done when the last of them has completed (R478). -/
def endsNow (s : State) (g : Nat) : State :=
  let f := s.faceAt g
  if f.endPending && f.run != .switching && f.issued.all (·.st.ended) then endAndCheck s g else s

def execRecordComplete (g i : Nat) (s : State) : Host.Outcome State Fault Refusal :=
  match (s.faceAt g).issued[i]? with
  | some x => guardDo (isComplete s g x && !(s.faceAt g).dead && inRun s (faceRegion g)) (fun s => endsNow (retire s g x) g) s
  | none => done s

end Sys2Proof.Machine
end

