-- ==== Sys2Proof/Machine/FieldCore.lean ====
section
/-! DEFINITION. Machine/FieldCore.lean: the channels of the field outputs: when they are active (R939), their targets and
settings (R942, R943, R957), the status each shows (R962, R974), commits channel by channel (R222, R225). -/

namespace Sys2Proof.Machine

open Sys2Proof

def State.loop (s : State) (n : Nat) : LoopSt := tget LoopSt.reset s.outs.loops n
def State.updLoop (s : State) (n : Nat) (f : LoopSt → LoopSt) : State :=
  { s with outs := { s.outs with loops := tset LoopSt.reset s.outs.loops n (f (s.loop n)) } }
def State.lamp (s : State) (n : Nat) : LampSt := tget LampSt.reset s.outs.lamps n
def State.updLamp (s : State) (n : Nat) (f : LampSt → LampSt) : State :=
  { s with outs := { s.outs with lamps := tset LampSt.reset s.outs.lamps n (f (s.lamp n)) } }

/-- An active field of channel `n`. -/
def chF (s : State) (n : Nat) (f : Fld) : Nat := getF s fieldPg (f.ix n)
def setCh (s : State) (n : Nat) (f : Fld) (v : Nat) : State := setF s fieldPg (f.ix n) v

/-- The block runs. -/
def fieldOn (s : State) : Bool := flagF s fieldPg STATUS_ENABLED && inRun s fieldRegion

/-- A channel of a block that stops runs on to its own boundary (R211, Table 4-3). -/
def notStopped (s : State) (ch : Nat) : Bool :=
  match s.outs.stopping with
  | some l => l.contains ch
  | none => true

def loopActive (s : State) (n : Nat) : Bool := fieldOn s && notStopped s n && chF s n FIELD_LOOP_CFG_EN == 1
def lampActive (s : State) (n : Nat) : Bool := fieldOn s && notStopped s (4 + n) && chF s n FIELD_LAMP_CFG_EN == 1

/-- The channels with a periodic boundary: every loop, and each active lamp (R225, Table 4-3). -/
def periodic (s : State) : List Nat :=
  if fieldOn s then [0, 1, 2, 3] ++ ([0, 1, 2, 3].filter (lampActive s)).map (· + 4) else []

/-- An alarm input of the mask is latched. -/
def alarmFor (s : State) (mask : Nat) : Bool := (mask &&& getF s fieldPg FIELD_ALARM_STAT_IN) != 0

/-! ## Loops -/

/-- The target of R942, and whether R943 limited it. -/
def loopTarget (s : State) (n : Nat) : Nat × Bool :=
  let t := if alarmFor s (chF s n FIELD_LOOP_CFG_ALM_MASK) then chF s n FIELD_LOOP_SET_ALM_UA else chF s n FIELD_LOOP_SET_SET_UA
  if chF s n FIELD_LOOP_CFG_NE43 = 1 && t != 3600 && t != 21000 && (t < 3800 || 20500 < t) then
    (if t < 3800 then 3800 else 20500, true)
  else (t, false)

/-- STATE (R974). -/
def loopStateCode (x : LoopSt) : Nat :=
  if !x.on then 0 else if x.internal then 6 else if x.overvolt then 5 else if x.opened then 4 else if x.faultLow then 3
  else if x.comp then 2 else 1

/-- LOOP_STATUS of a channel. -/
def showLoop (s : State) (n : Nat) : State :=
  let x := s.loop n
  let alarm := alarmFor s (chF s n FIELD_LOOP_CFG_ALM_MASK)
  let s := setCh s n FIELD_LOOP_STATUS_STATE (loopStateCode x)
  setCh s n FIELD_LOOP_STATUS_FLAGS (x.comp.toNat + alarm.toNat * 2 + x.clamped.toNat * 4 + x.retrying.toNat * 8)

/-- A channel that has become active or inactive begins anew (R940, R948, R981); only its EN written 0 ends an internal
fault (R977). -/
def lookLoop (s : State) (n : Nat) : State :=
  let on := loopActive s n
  let keep := (s.loop n).internal && chF s n FIELD_LOOP_CFG_EN == 1
  let s := if (s.loop n).on = on then s.updLoop n (fun x => { x with internal := keep })
    else setCh (s.updLoop n (fun _ => { LoopSt.reset with on := on, internal := keep })) n FIELD_LOOP_TARGET_UA 0
  showLoop s n

/-! ## Lamps -/

/-- Current and duty of R956 and R957. -/
def lampSetting (s : State) (n : Nat) : Nat × Nat :=
  if alarmFor s (chF s n FIELD_LAMP_CFG_ALM_MASK) then (chF s n FIELD_LAMP_ALARM_ALM_MA, chF s n FIELD_LAMP_ALARM_ALM_DUTY)
  else (chF s n FIELD_LAMP_SET_MA, chF s n FIELD_LAMP_SET_DUTY)

/-- On-time per period in µs, rounded down. -/
def onUs (duty hz : Nat) : Nat := if duty = 4095 then 1000000 / hz else duty * 1000000 / (4096 * hz)

/-- A pulse of at least 25 µs at a current above 0 (R959). -/
def diagnosable (x : LampSt) : Bool := x.ma != 0 && (x.proof || 25 ≤ onUs x.duty x.hz)

/-- DIAG (R962). -/
def lampDiag (s : State) (n : Nat) (x : LampSt) : Nat :=
  if !x.on || x.ma = 0 then 0 else if x.overcurrent || x.internal then 5
  else if x.fresh then chF s n FIELD_LAMP_STATUS_LAST_DIAG else 2

/-- LAMP_STATUS of a channel; entering UNVERIFIED raises LAMP_UNVERIFIED (bit 8). -/
def showLamp (s : State) (n : Nat) : State :=
  let x := s.lamp n
  let alarm := alarmFor s (chF s n FIELD_LAMP_CFG_ALM_MASK)
  let d := lampDiag s n x
  let enters := d = 2 && chF s n FIELD_LAMP_STATUS_DIAG != 2
  let s := setCh s n FIELD_LAMP_STATUS_DIAG d
  let s := setCh s n FIELD_LAMP_STATUS_FLAGS (alarm.toNat + x.proofing.toNat * 2)
  let s := setCh s n FIELD_LAMP_STATUS_ON_US (if x.on then min (onUs x.duty x.hz) 65535 else 0)
  if enters then raise s fieldPg 8 else s

/-- A PWM period begins with the settings of now (R953, R958). -/
def beginPeriod (s : State) (n : Nat) : State :=
  let set := lampSetting s n
  s.updLamp n (fun x => { x with
    ma := set.1, duty := set.2, hz := chF s n FIELD_LAMP_PWM_HZ, proof := x.proofDue, proofDue := false })

/-- A channel that has become active or inactive begins anew (R940, R981); only its EN written 0 ends an internal fault
(R977). -/
def lookLamp (s : State) (n : Nat) : State :=
  let on := lampActive s n
  let keep := (s.lamp n).internal && chF s n FIELD_LAMP_CFG_EN == 1
  let s := if (s.lamp n).on = on then s.updLamp n (fun x => { x with internal := keep })
    else
      let s := s.updLamp n (fun _ => { LampSt.reset with on := on, internal := keep })
      if on then beginPeriod s n else s
  showLamp s n

/-- Look at every channel. -/
def lookOuts (s : State) : State :=
  [0, 1, 2, 3].foldl lookLamp ([0, 1, 2, 3].foldl lookLoop s)

/-! ## Commits (R222, R225) -/

/-- The shadow copies of one channel take effect (lamp n as 4 + n). -/
def commitChannel (s : State) (ch : Nat) : State :=
  let lo := if ch < 4 then 0x100 else 0x200
  (fieldRows.filter (fun w => w.cls == .h && lo ≤ w.fld.off && w.fld.off < lo + 0x20)).foldl (fun s w =>
    let f := w.fld.ix (ch % 4)
    let s := setF s fieldPg f (getShadow s fieldPg f)
    { s with shadow := tdel s.shadow (fieldKey fieldPg f) }) s

/-- A channel applies the armed commit; the last one disarms it. -/
def applyChannel (s : State) (ch : Nat) : State :=
  if !s.outs.arming.contains ch then s
  else
    let s := commitChannel s ch
    let s := { s with outs := { s.outs with arming := setDel ch s.outs.arming } }
    if s.outs.arming.isEmpty then addF (setF s fieldPg COMMIT_ARMED 0) fieldPg COMMIT_APPLIED 1 else s

/-- A commit of the page is armed: channels without a periodic boundary apply it now. -/
def armFields (s : State) : State :=
  let waits := periodic s
  let s := { s with outs := { s.outs with arming := List.range 8 } }
  lookOuts (((List.range 8).filter (fun c => !waits.contains c)).foldl applyChannel s)

/-- The block has stopped: every channel has applied an armed commit (R252). -/
def fieldStopped (s : State) : State :=
  let s := (List.range 8).foldl applyChannel s
  lookOuts (putFlag { s with outs := { s.outs with stopping := none } } fieldPg STATUS_ENABLED false)

/-- CTRL.EN is cleared: each channel stops at its own boundary, and the block with the last (R211). -/
def fieldStops (s : State) : State :=
  let waits := periodic s
  if waits.isEmpty then fieldStopped s else lookOuts { s with outs := { s.outs with stopping := some waits } }

/-- Channel `ch` comes to its boundary: the armed commit applies to it, and in a block that stops it stops. -/
def channelBoundary (s : State) (ch : Nat) : State :=
  let s := applyChannel s ch
  match s.outs.stopping with
  | none => s
  | some l =>
    let l := setDel ch l
    if l.isEmpty then fieldStopped s else { s with outs := { s.outs with stopping := some l } }

/-- Every output opens or turns off. -/
def dropOuts (s : State) : State := { s with outs := FieldSt.reset }

end Sys2Proof.Machine
end

