-- ==== Sys2Proof/Machine/Hooks.lean ====
section
/-! DEFINITION. Machine/Hooks.lean: what a region's entry to and exit from Run does to the function block it carries:
host port (R826, R827), Adit link, field outputs (R964, R979). -/

namespace Sys2Proof.Machine

open Sys2Proof

/-- The host port loses its link (R826): every job receives HOST_LINK and retires without a completion record, pending
submissions are discarded, JOBQ returns to its reset values; LINK_DOWN (bit 1). -/
def hostDown (s : State) : State :=
  let wasUp := s.host.linkUp
  let s := s.updHost (fun h => { h with linkUp := false, pend := [], doneSubs := [] })
  let s := setF s hostPg HOST_PCIE_STATUS_LINK_UP 0
  let s := setF s hostPg HOST_PCIE_STATUS_SPEED 0
  let s := setF s hostPg HOST_PCIE_STATUS_WIDTH 0
  let s := (liveJobs s).foldl (fun s j =>
    let had := (s.job j).stop.isSome
    let s := s.updJob j (fun x => { x with silent := true })
    let s := jobStop s j 0x17 0 0xFFFF
    if had then s else logJob s j 0x17 0x17) s
  let s := resetPage s jobqPg []
  if wasUp then raise s hostPg 1 else s

/-- A link region leaves Run (R787): the link goes DOWN. -/
def aditDown (s : State) (k : Nat) : State := if linkState s k = 0 then s else linkDown s k 0

/-- Region (5,0) leaves Run (R940, R979): every loop opens, every lamp turns off. -/
def outputsOff (s : State) : State := dropOuts s

/-- Region (5,0) enters Run with the fields the foreman restored: its channels begin anew (R963, R981). -/
def outputsOn (s : State) : State := lookOuts (putFlag s fieldPg STATUS_ENABLED (flagF s fieldPg CTRL_EN))

/-- Zeros with SPOIL clear over a range of a bed store (R864, R865). -/
def zeroRange (s : State) (r base len : Nat) : State :=
  let lo := base / 64
  let hi := (base + len) / 64
  let s := s.updBed r (fun b =>
    let b := { b with
      bytes := tclear b.bytes base (base + len), spoil := tclear b.spoil lo hi, marks := tclear b.marks lo hi
      bitErrs := tclear b.bitErrs lo hi, outQueue := b.outQueue.filter (fun o => o.line < lo || hi ≤ o.line)
      digests := b.digests.filter (fun d => d.2.1 + d.2.2 ≤ base || base + len ≤ d.2.1) }
    (List.range (hi - lo)).foldl (fun b i => wearLine r (lo + i) b) b)
  let s := addF s (bedPg r) BED_WRITES (hi - lo)
  if base < 0x8000 then directorySelect s r false else s

def State.updWb (s : State) (f : WbSt → WbSt) : State := { s with wb := f s.wb }

/-- The owed partition lines not yet zeroed, in 4 KiB units. -/
def owedUnits (s : State) : Nat := (s.wb.owed.map (·.len)).foldl (· + ·) 0 / 4096

/-- DAP.ERASE.SKIPPED shows the owed lines. -/
def showOwed (s : State) : State := setF s dapPg DAP_ERASE_SKIPPED (owedUnits s)

/-- Owed partition lines of a region are zeroed before its routes are installed (R865): PART_ERASED (bit 7). -/
def zeroOwed (s : State) (r : Nat) : State :=
  (s.wb.owed.filter (·.region == r)).foldl (fun s p =>
    let s := zeroRange s r p.base p.len
    raise (showOwed { s with wb := { s.wb with owed := s.wb.owed.filter (· != p) } }) wbPg 7) s

/-- A job's cut or claim uses the link (Table 3-4). -/
def aditUsed (s : State) (k : Nat) : Bool :=
  !(s.link k).jobs.isEmpty || (liveJobs s).any (fun j => (s.job j).claims.any (fun c => c.kind == 2 && c.link == k))

/-- Frames are in flight on the link, or a swap is in progress (Table 3-4, R773). -/
def aditBusy (s : State) (k : Nat) : Bool :=
  let l := s.link k
  !l.tx.isEmpty || !l.sent.isEmpty || l.swap.isSome

/-- A loop or lamp channel is enabled (Table 3-4). -/
def outputsEnabled (s : State) : Bool :=
  [0, 1, 2, 3].any (fun n => chF s n FIELD_LOOP_CFG_EN == 1 || chF s n FIELD_LAMP_CFG_EN == 1)

/-- What leaving Run does to the function block of a region. -/
def blockLeavesRun (s : State) (r : Nat) : State :=
  let s := if r = hostRegion then hostDown s else s
  let s := if aditRegions.contains r then aditDown s (instOf r) else s
  let s := if sensorRegions.contains r then sensorLook s (instOf r) else s
  if r = fieldRegion then outputsOff s else s

/-- What entering Run does to the function block of a region. -/
def blockEntersRun (s : State) (r : Nat) : State :=
  if r = fieldRegion then outputsOn s
  else if aditRegions.contains r then putFlag s (aditPg (instOf r)) STATUS_ENABLED (flagF s (aditPg (instOf r)) CTRL_EN)
  else if sensorRegions.contains r then sensorLook s (instOf r)
  else s

end Sys2Proof.Machine
end

