-- ==== Sys2Proof/Machine/RegionCore.lean ====
section
/-! DEFINITION. Machine/RegionCore.lean: how regions enter and leave Run (03_clocks_run_stop.md): wakes and their queue
(R34, R54, R154), the stop handshake (R158 to R169, R181, R187 to R190), what Stop loses (R152), forced stops (R165,
R166), failures (R57, R58, R999), transit release (R36) and connectivity (R168), and the POWER log record (R1060). -/

namespace Sys2Proof.Machine

open Sys2Proof

/-! ## BRINGUP.PHASE -/

def PHASE_POWER : Nat := 0
def PHASE_ISLANDS : Nat := 1
def PHASE_MAP : Nat := 2
def PHASE_ROUND : Nat := 3
def PHASE_COMMIT : Nat := 4
def PHASE_READY : Nat := 5
def PHASE_HALTED : Nat := 6

/-! ## Management view (R1060) -/

def QState.code : QState → Nat
  | .absent => 0 | .healthy => 1 | .failed => 2 | .isolated => 3 | .stranded => 4

def QCause.code : QCause → Nat
  | .none => 0 | .router => 1 | .control => 2 | .sync => 3 | .bed => 4 | .overcurrent => 5 | .noPath => 6
  | .field => 7 | .management => 8

/-- MGMT_STATE of a region (Table 16-7): FAILED, ISOLATED and STRANDED from the commit that records them. -/
def mgmtState (s : State) (r : Nat) : Nat :=
  if !present r then 0
  else match (s.map.committed.entry r).state with
    | .isolated => 6
    | .failed => 7
    | .stranded => 8
    | _ =>
      let x := s.region r
      match x.power with
      | .waking => 2
      | .run => if x.hs.isSome then 4 else 3
      | .stop => if x.hold then 5 else 1

/-- HS_RESULT as one word. -/
def hsResult (s : State) (r : Nat) : Nat :=
  let p := powerPg r
  getF s p POWER_HS_RESULT_OUTCOME + getF s p POWER_HS_RESULT_ANSWER * 16 + getF s p POWER_HS_RESULT_REASON * 64
    + getF s p POWER_HS_RESULT_DECIDER * 256 + getF s p POWER_HS_RESULT_ELAPSED * 65536

/-- A POWER record (Table 16-8), and the state the foreman sends to the banksman. -/
def logPower (s : State) (r cause hs trip : Nat) : State :=
  let s := logRec s 3 r (mgmtState s r) [cause, hs, trip, 0]
  setF s (banksmanPg r) BANKSMAN_MGMT_VIEW_MGMT_STATE (mgmtState s r)

/-! ## Pages across Stop (R152, R204, R259) -/

/-- Kept fields of the power controller page. -/
def powerKeep : List Fld :=
  [EVT_RAW, EVT_EN .power, EVT_ROUTE, POWER_HS_CFG_DEADLINE, POWER_IDLE_CFG_TIMEOUT, POWER_HS_RESULT_OUTCOME,
   POWER_HS_RESULT_ANSWER, POWER_HS_RESULT_REASON, POWER_HS_RESULT_DECIDER, POWER_HS_RESULT_ELAPSED,
   POWER_HS_COUNT_STOPS, POWER_HS_COUNT_ABANDONS, POWER_THERM_CFG_WARN, POWER_THERM_CFG_STEP, POWER_THERM_CFG_HYST,
   POWER_RUN_US]

/-- Kept fields of the clock block page. -/
def clockKeep : List Fld :=
  [EVT_RAW, EVT_EN .clock, EVT_ROUTE, CLOCK_LOCK_COUNT_LOCKS, CLOCK_LOCK_COUNT_LOSSES]

/-- Fields of the bed-store page that the foreman writes again at a wake (R669). -/
def bedKeep : List Fld := [BED_SCRUB_CFG_HOURS, BED_SCRUB_CFG_REFRESH_TH, BED_WEAR_CFG_GAP]

/-- Fields of an Adit link page that the foreman writes again at a wake (R786). -/
def aditKeep : List Fld :=
  [CTRL_EN, ADIT_LINK_CFG_ROLE, ADIT_LINK_CFG_TWO_LANE, ADIT_LINK_CFG_TIME_EN, ADIT_LINK_CFG_HOLD_MS]

/-- Fields of the field outputs page that the foreman restores at a wake (R963): every RW field and ALARM_STAT. -/
def fieldKeep : List Fld :=
  [CTRL_EN, EVT_EN .field, EVT_ROUTE, FIELD_ALARM_STAT_IN] ++
  (fieldRows.filter (fun w => w.acc == .rw)).flatMap (fun w => (List.range w.count).map w.fld.ix)

/-- Fields kept by a page of a region when the region stops. -/
def keptFields (ref : Nat) : List Fld :=
  match pageKind ref with
  | some .power => powerKeep
  | some .clock => clockKeep
  | some .bed => bedKeep
  | some .adit => aditKeep
  | some .field => fieldKeep
  | _ => []

/-- The register pages of a region's window. -/
def regionPages (r : Nat) : List Nat :=
  ((List.range 0x19).map (pageRef r)).filter (fun p => (pageKind p).isSome)
    ++ (facesOf r).flatMap (fun g => [facePg g, fctxPg g, hoistPg g, numPg g])

/-- Every non-island page of a region returns to its reset values but for the kept fields. -/
def resetRegionPages (s : State) (r : Nat) : State :=
  (regionPages r).foldl (fun s p => if islandPage p then s else resetPage s p (keptFields p)) s

/-! ## Leaving Run -/

/-- Waits and unserved operations of a region's sync block fail at their sources (R716, R719). -/
def failSyncs (s : State) (r st : Nat) : State :=
  let b := s.sync r
  let s := s.updSync r (fun b => { b with waiters := [], arrivals := [] })
  (b.waiters.map (·.op) ++ b.arrivals).foldl (fun s op => opFail s st op) s

/-- The locks of a region that are held. -/
def lockedIn (s : State) (r : Nat) : List Nat :=
  ((s.sync r).objs.filter (fun x => x.2.kind == .lock && x.2.held)).map (·.1)

/-- The faces of a region lose everything; with `lost`, dirty lines become spoil (their queued OUT marks are written),
and locks in the region or held by its faces become ABANDONED (R165, R716). -/
def dropFaces (s : State) (r : Nat) (lost : Bool) : State :=
  let s := if lost then lockedIn s r |>.foldl (fun s o => abandonLock s r o) s else s
  let s := if lost then (facesOf r).foldl (fun s g => abandonLocks (dropWaits s g) g) s else s
  let s := s.updBed r (fun b => flushWrites r (if lost then flushMarks r b else { b with outQueue := [] }))
  (facesOf r).foldl (fun s g => s.updFace g (fun f => { FaceSt.reset with nextId := f.nextId })) s

/-- Jobs and stages with faces in a region that stops by force (R166, R420) or fails (R999). -/
def dropUsers (s : State) (r : Nat) (failed : Bool) : State :=
  let s := (facesOf r).foldl (fun s g => if inActiveStage s g then escFaceLost s g (if failed then 1 else 2) else s) s
  (liveJobs s).foldl (fun s j =>
    let x := s.job j
    match (x.cut.filter (fun c => faceRegion c.face == r)).map (·.face), x.ran || x.state == .admitting with
    | g :: gs, true => if failed then jobStop s j 0x11 0 (gs.foldl min g) else jobStop s j 0x12 r 0xFFFF
    | [], true => if failed && x.syncs.any (·.region == r) then jobStop s j 0x13 r 0xFFFF else s
    | _, false => s) s

/-! ## Spares (R101 to R105, R996 to R998) -/

/-- The lowest-numbered healthy spare of a region that backs no slot (R102). -/
def freeSpare (r : Nat) (e : QEntry) : Option Nat :=
  ((List.range (physicalSlots r)).filter (fun p => logicalSlots r ≤ p && !bit e.physBad p
    && !(e.slots.any (fun b => bit b 7 && b % 32 == p)))).head?

/-- Back one logical slot whose face is bad with a spare, or leave it unbacked (R102, R105); the Bool tells that a
spare was used. -/
def backSlot (r : Nat) (x : QEntry × Nat) (slot : Nat) : QEntry × Nat :=
  let e := x.1
  let b := e.slots.getD slot 0
  if bit e.physBad (b % 32) then
    match freeSpare r { e with slots := e.slots.set slot (b % 128) } with
    | some p => ({ e with slots := e.slots.set slot (0x80 + p) }, x.2 + 1)
    | none => ({ e with slots := e.slots.set slot (b % 128) }, x.2)
  else x

/-- Substitute spares in ascending slot order (R103, R104): the entry and how many spares were used. -/
def backSlots (r : Nat) (e : QEntry) : QEntry × Nat := (List.range (logicalSlots r)).foldl (backSlot r) (e, 0)

/-- The slots of a region as a record backs them; a slot whose lost face is still scanned stays unbacked (R991). -/
def slotsShown (s : State) (r : Nat) (e : QEntry) : List Nat :=
  let hidden (k b : Nat) : Bool := (s.faceAt (r * 32 + k)).scanning && !bit e.physBad (slotByte s (r * 32 + k) % 32) && bit b 7
  (List.range e.slots.length).map (fun k => let b := e.slots.getD k 0; if hidden k b then b % 128 else b)

/-- Physical faces marked bad, and their slots backed anew. -/
def markBad (s : State) (r mask : Nat) : State :=
  let e := { s.entry r with physBad := (s.entry r).physBad ||| (mask % 2 ^ physicalSlots r) }
  let x := backSlots r e
  let shown := slotsShown s r x.1
  let s := s.updEntry r (fun _ => x.1)
  let s := addF s bringupPg BRINGUP_FACES_SPARES_USED x.2
  let s := s.updRegion r (fun y => { y with slots := shown })
  if x.2 = 0 then s else raise s bringupPg 3

/-- The physical faces behind lost slots of a region whose tag scan has not ended. -/
def scanningMask (s : State) (r : Nat) : Nat :=
  ((facesOf r).filter (fun g => (s.faceAt g).scanning)).foldl (fun m g => m ||| 2 ^ (slotByte s g % 32)) 0

/-- A region that stops while a lost face is scanned keeps no use for the scan: the spare is substituted now. -/
def settleScans (s : State) (r : Nat) : State := if scanningMask s r = 0 then s else markBad s r (scanningMask s r)

/-- A region stops: converters off, RUN_US counted, an armed commit of the power page applied (R179), everything of
R152 lost (shadow copies that no commit armed with them: DESIGN CHOICE, log entry 84), routes through it recomputed (R37,
R59). A packet inside a region that fails completes with ROUTE_LOST (R58), one addressed to a stopped region with
DEAD_TARGET (R52); a stop with FORCE abandons the transfers of the region's faces (R660). -/
def leaveRun (s : State) (r : Nat) (lost forced failed : Bool) : State :=
  let s := if failed then s else settleScans s r
  let x := s.region r
  let s := addF s (powerPg r) POWER_RUN_US (usOf (s.time - x.runSince))
  let s := if flagF s (powerPg r) COMMIT_ARMED then copyShadows s powerRows (powerPg r) else s
  let s := s.updRegion r (fun x => { x with
    power := .stop, hs := none, stopHeld := none, transit := false, background := false })
  let s := routesDead s r
  let s := allRegions.foldl (fun s d => setRoute s r d (if d = r then 0 else HOP_DEAD)) s
  let s := reroute s (fun path => path.contains r) true
  let st := if failed then 4 else 3
  let s := if lost && !failed then (facesOf r).foldl dropTransfers s else s
  let s := failPackets (failPackets s st (·.loc == r)) 3 (·.dst == r)
  let s := if failed then failStores s r else s
  let s := failSyncs s r st
  let s := if forced || failed then dropUsers s r failed else s
  let s := dropFaces s r lost
  let s := blockLeavesRun s r
  let s := s.updSync r (fun _ => SyncBlk.reset)
  let s := { s with wb := { s.wb with fence := tdel s.wb.fence r } }
  let s := resetRegionPages s r
  (liveJobs s).foldl jobCheckEnd s

/-! ## Stop requests and handshakes -/

/-- Handshake agents of a region (Table 3-4). -/
def agents (s : State) (r : Nat) : List Nat :=
  ((facesOf r).filter (backed s)).map faceSlot ++ [0x20, 0x21, 0x22] ++ (if funcOf r = 0 then [] else [0x23])

/-- Every agent has answered ACCEPT (R161). -/
def allAccepted (s : State) (r : Nat) (h : Handshake) : Bool := (agents s r).all (h.accepted.contains ·)

/-- The lowest-ID agent not at ACCEPT (R181). -/
def firstOpen (s : State) (r : Nat) (h : Handshake) : Nat :=
  (((agents s r).filter (fun a => !h.accepted.contains a)).head?).getD 0xFF

def HsAnswer.code : HsAnswer → Nat
  | .accept => 0 | .delay _ => 1 | .refuse => 2 | .none => 3
def HsAnswer.reason : HsAnswer → Nat
  | .delay n => n
  | _ => 0

/-- Write HS_RESULT (R181). -/
def putResult (s : State) (r outcome : Nat) (a : HsAnswer) (decider us : Nat) : State :=
  let p := powerPg r
  let s := setF s p POWER_HS_RESULT_OUTCOME outcome
  let s := setF s p POWER_HS_RESULT_ANSWER a.code
  let s := setF s p POWER_HS_RESULT_REASON a.reason
  let s := setF s p POWER_HS_RESULT_DECIDER decider
  setF s p POWER_HS_RESULT_ELAPSED (min us 65535)

/-- Would the removal of `r` split the regions of `ok` (R36, R167)? Components of stranded regions are not counted. -/
def splitsIn (s : State) (ok : Nat → Bool) (r : Nat) : Bool :=
  let before := fun x => ok x && (s.entry x).state == .healthy
  (components s before allRegions).length < (components s (fun x => before x && x != r) allRegions).length

/-- A stop of `r` would split the regions in Run or starting, or (so that two stops never split them together, R32) those of
them that are not in `leaving`. -/
def splits (s : State) (leaving : List Nat) (r : Nat) : Bool :=
  splitsIn s (runOrStarting s) r || splitsIn s (fun x => runOrStarting s x && !leaving.contains x) r

/-- Regions in a stop handshake. -/
def stopping (s : State) : List Nat := allRegions.filter (fun r => (s.region r).hs.isSome)

/-- A stop is not begun, for it would split the regions in Run (R167). READY and LOW_INPUT ask every region to stop at once
(R86, R136), so a region whose stop has begun counts as in Run for those. -/
def stopSplits (s : State) (q : StopWait) : Bool :=
  !q.force && splits s (if q.cause = 7 ∨ q.cause = 11 then [] else stopping s) q.region

/-- Ask for a stop (R158); a region that wakes keeps the request until RUN = 1 (R188); during a handshake FORCE is
added (R189). -/
def requestStop (s : State) (r : Nat) (force : Bool) (cause : Nat) (idle : Bool) : State :=
  let x := s.region r
  match x.power, x.hs with
  | .stop, _ => s
  | .waking, _ => s.updRegion r (fun x => { x with
      stopHeld := some ⟨force || (match x.stopHeld with | some q => q.force | none => false), cause⟩ })
  | .run, some h => s.updRegion r (fun x => { x with hs := some { h with force := h.force || force } })
  | .run, none =>
    if s.stopQ.any (·.region == r) then
      { s with stopQ := s.stopQ.map (fun q => if q.region = r then { q with force := q.force || force } else q) }
    else { s with stopQ := s.stopQ ++ [⟨r, force, cause, idle⟩] }

/-- Unowned faces write back their dirty lines when a handshake begins (R620). The check bits correct words of them (R428);
an uncorrectable one stops the face (R504), and its line and the later ones stay dirty. -/
def flushFace (eccs : List (Nat × SramEcc)) (s : State) (g : Nat) : State :=
  let f := s.faceAt g
  let ecc := (tfind eccs (faceSlot g)).getD ⟨0, none⟩
  let bad := ecc.bad.filter (fun a => f.dirtyLines.contains (a / 64))
  if f.owner = .none && !f.dirtyLines.isEmpty then
    let lines := f.dirtyLines.filter (fun l => bad.all (fun a => l < a / 64))
    let s := if ecc.corrected = 0 then s else raise (addF s (facePg g) FACE_SRAM_ECC_CORRECTED ecc.corrected) (facePg g) 5
    let s := lines.foldl (fun s l =>
      writeBackLine s (faceRegion g) g (f.tag l).home (mbytes f.sram (l * 64) 64) (tget false f.spoil l)) s
    let s := s.updFace g (fun f => { f with
      tags := f.tags.map (fun t => (t.1, { t.2 with dirty := t.2.dirty && !lines.contains t.1 })) })
    match bad with
    | some a => faceStop s g noRecord 0x43 6 a
    | none => s
  else s

/-- The route entries to a region that do not read DEAD, by router. -/
def routesTo (s : State) (d : Nat) : Tab Nat :=
  (allRegions.filter (fun r => r != d && route s r d != HOP_DEAD)).map (fun r => (r, route s r d))

/-- A router's entries lead to the region over regions in Run and links that are not faulty. -/
def reaches (s : State) (d : Nat) : Nat → Nat → Bool
  | 0, _ => false
  | k + 1, r => inRun s r && (r == d || (!linkFaulty s r (route s r d) && match neighbour r (route s r d) with
    | some n => reaches s d k n
    | none => false))

/-- Reinstall a region's routes (R164): those that still lead there as they were (R38), then the others. -/
def reinstall (s : State) (d : Nat) (old : Tab Nat) : State :=
  let t := old.foldl (fun t x => setRoute t x.1 d x.2) s
  installRoutes ((old.filter (fun x => reaches t d 100 x.1)).foldl (fun s x => setRoute s x.1 d x.2) s)

/-- A stop of a region in Run begins (R51, R159), or the region is kept as transit (R167): ANSWER and REASON then read 0
(DESIGN CHOICE, log entry 84). -/
def beginStop (s : State) (q : StopWait) (eccs : List (Nat × SramEcc)) : State :=
  let r := q.region
  if !inRun s r then s
  else if stopSplits s q then
    putResult (s.updRegion r (fun x => { x with transit := true })) r 6 .accept 0xFF 0
  else
    let old := routesTo s r
    let s := routesDead s r
    let s := s.updRegion r (fun x => { x with
      hs := some ⟨q.force, q.idle, q.cause, getF s (powerPg r) POWER_HS_CFG_DEADLINE, s.time, s.time, [], [], old⟩ })
    let s := logPower s r q.cause 0 0
    (facesOf r).foldl (flushFace eccs) s

/-- A handshake ends without a stop (R162 to R164, R187): routes are reinstalled; HS_ABANDONED (bit 2) and ABANDONS
only for the outcomes 3 and 4. A stop that a tamper asked for is asked for again (Table 15-11). -/
def endWithoutStop (s : State) (r outcome : Nat) (a : HsAnswer) (decider : Nat) : State :=
  match (s.region r).hs with
  | none => s
  | some h =>
    let s := putResult s r outcome a decider (usOf (s.time - h.t0))
    let s := s.updRegion r (fun x => { x with hs := none })
    let s := reinstall s r h.routes
    let s := if outcome = 5 then s
      else raise (addF s (powerPg r) POWER_HS_COUNT_ABANDONS 1) (powerPg r) 2
    let s := logPower s r h.cause (hsResult s r) 0
    if s.wb.tamper && h.force then { s with stopQ := s.stopQ ++ [⟨r, true, 14, false⟩] } else s

/-- After a region has left Run: the transit regions no longer needed are asked to stop, in descending index, each seen
beside those asked before it (R36). -/
def releaseTransit (s : State) : State :=
  ((allRegions.reverse.filter (fun r => inRun s r && (s.region r).transit && (s.region r).hs.isNone
      && !(s.stopQ.any (·.region == r)))).foldl (fun x r =>
    if splits s x.2 r then x else (requestStop x.1 r false 4 false, r :: x.2))
    (s, stopping s ++ s.stopQ.map (·.region))).1

/-! ## Wakes -/

/-- Add a start to the wake queue. A region `e` that it joins and that is being stopped stays in Run where its stop would
leave the start apart (R32): the stop is cancelled, or, past its last ACCEPT, made good by a wake (R187). -/
def queueStart (s : State) (e : Option Nat) (ws : List WakeReq) : State :=
  let t := { s with wakeQ := s.wakeQ ++ ws }
  match e with
  | none => t
  | some e =>
    match (s.region e).hs with
    | none => t
    | some h =>
      if !splits t ((stopping t).filter (· != e)) e then t
      else if allAccepted s e h then
        { s with wakeQ := s.wakeQ ++ (if s.wakeQ.any (·.region == e) then [] else [⟨e, 4, true⟩]) ++ ws }
      else endWithoutStop t e 5 .accept 0xFF

/-- A wake that waits already is one that a user names. -/
def nameWake (s : State) (r cause : Nat) : State :=
  { s with wakeQ := s.wakeQ.map (fun w => if w.region = r then
      { w with transit := false, cause := if w.cause = 5 then cause else w.cause } else w) }

/-- Ask the foreman to start a region (R34, R54, R154); answers whether the region can be had. A wake within the
handshake cancels the stop (R187). `named`: a user names the region (a stage, a cut, outputs or an erase): it is no longer
transit (R35) or background (R929), and an idle, background or bring-up stop that has not begun is dropped. -/
def startRegion (s : State) (r cause : Nat) (named : Bool) : State × Bool :=
  let x := s.region r
  if x.power = .run then
    let s := if named then s.updRegion r (fun x => { x with transit := false, background := false }) else s
    match x.hs with
    | none => ({ s with stopQ := if named then s.stopQ.filter (fun q => !(q.region == r && (q.idle || q.cause == 5 || q.cause == 11)))
        else s.stopQ }, true)
    | some h =>
      if !allAccepted s r h then (endWithoutStop s r 5 .accept 0xFF, true)
      else if s.wakeQ.any (·.region == r) then (if named then nameWake s r cause else s, true)
      else ({ s with wakeQ := s.wakeQ ++ [⟨r, cause, false⟩] }, true)
  else if x.power = .waking || s.wakeQ.any (·.region == r) then
    (if named then nameWake (s.updRegion r (fun x => { x with transit := false, background := false })) r cause else s, true)
  else if !startable s r || s.carrier.backup || getF s bringupPg BRINGUP_PHASE = PHASE_HALTED || s.carrier.vbus ≠ .on then (s, false)
  else match joinPath s r with
    | none => (s, false)
    | some path =>
      let transit := path.reverse.filter (fun p => !runOrStarting s p)
      (queueStart s path.getLast? (transit.map (fun p => (⟨p, 4, true⟩ : WakeReq)) ++ [⟨r, cause, false⟩]), true)

/-- R168: regions still in Run that no longer form one component are joined to the main one by transit paths. -/
def restoreConnectivity (s : State) : State :=
  let cs := components s (runOrStarting s) allRegions
  match cs with
  | [] => s
  | [_] => s
  | c :: _ =>
    let main := match anchor s with
      | some a => if runOrStarting s a then ((cs.filter (fun d => d.contains a)).head?).getD c else c
      | none => c
    (cs.filter (fun d => d != main && d.all (inRun s))).foldl (fun s d =>
      match d.head? with
      | none => s
      | some low =>
        if !anchored s low then s
        else
          let tgts := component s (runOrStarting s) (main.headD low)
          if tgts.contains low then s
          else
            let anc := anchorSet s
            let layers := layersFrom s (fun x => startableIn anc s x || d.contains x) tgts
            match layerOf low layers with
            | some (k + 1) =>
              let path := (descend s layers (k + 1) low).filter (fun x => !runOrStarting s x)
              { s with wakeQ := s.wakeQ ++ path.reverse.map (fun p => (⟨p, 4, true⟩ : WakeReq)) }
            | _ => s) s

/-! ## The erase of Table 15-10, which wakes regions and waits for a tamper's stops -/

/-- A range that cannot be zeroed now is owed (R865). -/
def owePart (s : State) (p : Part) : State := showOwed (s.updWb (fun w => { w with owed := w.owed ++ [p] }))

/-- The region's lines are out of reach (R865). -/
def outOfReach (s : State) (r : Nat) : Bool :=
  let e := (s.entry r).state
  e == .failed || e == .isolated || e == .stranded

/-- Regions that hold a partition line and are within reach, ascending. -/
def partRegions (s : State) : List Nat :=
  ((s.wb.parts.map (·.2.region)).foldl (fun l r => setIns r l) []).filter (fun r => !outOfReach s r)

/-- The regions to be zeroed are woken. -/
def wakeZeroing (s : State) : State :=
  match s.wb.erase with
  | some e => e.zeroing.foldl (fun s r => (startRegion s r 14 true).1) s
  | none => s

/-- An erase begins (Table 15-10): ERASING, ERASE_PENDING, every link key gone and the links UNPROVISIONED, the regions
that hold partition lines woken; at a start they are woken at READY (R886). -/
def eraseBegin (s : State) (opens resumed : Bool) : State :=
  let s := raise (setF s dapPg DAP_DAP_STATE_STATE 1) dapPg 1
  let s := setF s dapPg DAP_ERASE_DONE 0
  let s := s.updWb (fun w => { w with
    erasePending := true, pendingOpens := opens, dapOpen := false
    erase := some ⟨opens, true, partRegions s, false, resumed⟩ })
  let s := [0, 1, 2, 3].foldl (fun s k => if inRun s (aditRegion k) then linkDown s k 6 else s) s
  if resumed then s else wakeZeroing s

/-- An erase is asked for: one in progress goes on, and a tamper makes it end CLOSED (R881). -/
def eraseAsk (s : State) (opens resumed : Bool) : State :=
  match s.wb.erase with
  | some e => s.updWb (fun w => { w with pendingOpens := e.opens && opens, erase := some { e with opens := e.opens && opens } })
  | none => eraseBegin s opens resumed

/-- A tamper's erase comes after the stops with FORCE that it asks for (Table 15-11); before READY the regions that hold
partition lines are woken at READY (R886). -/
def tamperGoesOn (s : State) : State :=
  if s.wb.tamper && !s.stopQ.any (·.force) && !allRegions.any (fun r => (s.region r).hs.any (·.force)) then
    eraseAsk (s.updWb (fun w => { w with tamper := false })) false
      (getF s bringupPg BRINGUP_PHASE != PHASE_READY || s.carrier.vbus != .on)
  else s

/-! ## Entering Run, forced stops and failures -/

/-- A region enters Run (R150, R153, R155, R669): pages at reset but for the kept fields, SRAM zero, directory selected,
owed lines zeroed, routes installed, WOKE (bit 1) raised. -/
def enterRun (s : State) (r lockUs cause : Nat) : State :=
  let s := resetRegionPages s r
  let s := s.updSync r (fun _ => SyncBlk.reset)
  let s := (facesOf r).foldl (fun s g => s.updFace g (fun f => { FaceSt.reset with nextId := f.nextId })) s
  let s := bedWake s r
  let s := setF s (clockPg r) CLOCK_CLK_STATUS_REF_OK 1
  let s := setF s (clockPg r) CLOCK_CLK_STATUS_LOCKED 1
  let s := setF s (clockPg r) CLOCK_LOCK_US_US lockUs
  let s := addF s (clockPg r) CLOCK_LOCK_COUNT_LOCKS 1
  let s := setF s (banksmanPg r) BANKSMAN_BK_STATUS_RING_OK 1
  let s := setF s (banksmanPg r) BANKSMAN_BK_STATUS_ROUTE_MATCH 1
  let s := setF s (banksmanPg r) BANKSMAN_BK_STATUS_POWER_MATCH 1
  let s := setF s (claimPg r) CLAIM_CLAIM_STATUS_EPOCH (getF s wbPg WB_EPOCH)
  let s := zeroOwed s r
  let s := s.updRegion r (fun x => { x with power := .run, runSince := s.time, wakeFails := 0, wakeBackoff := false })
  let s := blockEntersRun s r
  let s := installRoutes s
  let s := raise s (powerPg r) 1
  logPower s r cause 0 0

/-- Stop a region at once with FORCE (R177, R198, R201): HS_RESULT as the end of R181 gives it. -/
def forceStopNow (s : State) (r cause : Nat) : State :=
  if !inRun s r then s
  else
    let us := match (s.region r).hs with
      | some h => usOf (s.time - h.t0)
      | none => 0
    let s := putResult s r 2 .none 0xFF us
    let s := addF s (powerPg r) POWER_HS_COUNT_STOPS 1
    let s := raise s (powerPg r) 3
    let s := raise s (powerPg r) 0
    let s := leaveRun s r true true false
    let s := logPower s r cause (hsResult s r) 0
    tamperGoesOn (releaseTransit (restoreConnectivity s))

/-- A region is recorded STRANDED (R61); in Run it is asked to stop, and in a start it no longer counts as passed. -/
def strandRegion (s : State) (r : Nat) : State :=
  let s := s.updEntry r (fun e => { e with state := .stranded, cause := .noPath })
  let s := s.updBoot (fun b => if b.active then { b with
    passedBefore := setDel r b.passedBefore, passedNow := setDel r b.passedNow, failed := setIns r b.failed } else b)
  requestStop s r false 9 false

/-- Healthy regions without a path to the anchor region are recorded STRANDED (R61). During bring-up these are the
regions in Run that had one (`was`) and lose it; R99 judges the others at its end. While the anchor region itself is no
longer healthy, the judgement waits for the commit that determines it again (R1059). -/
def strand (was : List Nat) (s : State) : State :=
  let anc := anchorSet s
  if s.boot.active then (was.filter (fun r => inRun s r && !anc.contains r)).foldl strandRegion s
  else if anc.isEmpty then s
  else (allRegions.filter (fun r => (s.entry r).state == .healthy && !anc.contains r)).foldl strandRegion s

/-- A region of a start has failed or been isolated: it is tested, has not passed and is out of its round. -/
def bootDrop (s : State) (r : Nat) : State :=
  s.updBoot (fun b => if b.active then { b with
    testing := setDel r b.testing, running := setDel r b.running, toClose := setDel r b.toClose
    retrying := setDel r b.retrying, passedBefore := setDel r b.passedBefore, passedNow := setDel r b.passedNow
    failed := setIns r b.failed } else b)

/-- The switch of a region is not closed again in this start (R130, R131). -/
def bar (s : State) (r : Nat) : State :=
  s.updBoot (fun b => if b.active then { b with barred := setIns r b.barred } else b)

/-- The carrier takes HOST_PWR_OK back when region (0,3) fails (R80). -/
def hostFails (s : State) (r : Nat) : State :=
  if r = hostRegion then s.updCarrier (fun c => { c with hostPwrOk := false }) else s

/-- A region fails (R57, R192, R999, R1000): recorded FAILED with its cause, switch opened, routes rerouted. -/
def failRegion (s : State) (r : Nat) (cause : QCause) (trip : Nat) : State :=
  let run := inRun s r
  let was := anchorSet s
  let s := s.updEntry r (fun e => { e with state := .failed, cause := cause })
  let s := bar (bootDrop (hostFails s r) r) r
  let s := s.updRegion r (fun x => { x with switchOn := false, wakeFails := 0, wakeBackoff := false })
  let s := { s with wakeQ := s.wakeQ.filter (·.region != r), stopQ := s.stopQ.filter (·.region != r) }
  let s := raise s bringupPg 1
  if run then
    let s := leaveRun s r true true true
    let s := logPower s r 9 0 trip
    tamperGoesOn (admitLost (releaseTransit (restoreConnectivity (strand was s))) r)
  else admitLost (restoreConnectivity (strand was (logPower (s.updRegion r (fun x => { x with power := .stop })) r 9 0 trip))) r

end Sys2Proof.Machine
end

