-- ==== Sys2Proof/Machine/Admit.lean ====
section
/-! DEFINITION. Machine/Admit.lean: the steps of a job's admission (R802) as far as each can go: the wakes, the key and the
claims (R844 to R857, R867, R883), the images, sync objects, link entries, the ticket, the start messages. -/

namespace Sys2Proof.Machine

open Sys2Proof

/-! ## Bytes of a host structure -/

/-- The little-endian number of `n` bytes at an offset. -/
def hnum (bs : List Nat) (off n : Nat) : Nat := leNum ((bs.drop off).take n)

/-- Weighbridge state (Table 15-12): 0 STARTING, 1 READY, 2 ERROR, 3 ERASING. -/
def wbState (s : State) : Nat :=
  if s.carrier.vaon != .up then 0 else if s.wb.erase.isSome then 3 else if s.wb.error then 2 else 1

/-! ## The key request (R842 to R845, R857, R867, R883) -/

/-- A claim names a partition. -/
def ClaimEnt.part (c : ClaimEnt) : Bool := c.kind == 1 && c.right 6
def JobSt.asksPart (x : JobSt) : Bool := x.claims.any ClaimEnt.part

/-- TICKET_ADDR, TICKET_LEN, TICKET_NONCE, CAB_NONCE and OWNER_SECRET of the key request block (Table 15-4). -/
def JobSt.ticketAddr (x : JobSt) : Nat := hnum x.keyBlock 8 8
def JobSt.ticketLen (x : JobSt) : Nat := hnum x.keyBlock 0x10 4
def JobSt.ticketNonce (x : JobSt) : List Nat := (x.keyBlock.drop 0x20).take 32
def JobSt.cabNonce (x : JobSt) : List Nat := (x.keyBlock.drop 0x40).take 32
def JobSt.ownerSecret (x : JobSt) : List Nat := (x.keyBlock.drop 0x60).take 32

/-- The block obeys Table 15-4. -/
def keyBlockOk (x : JobSt) : Bool :=
  let b := x.keyBlock
  let n (off len : Nat) : Nat := hnum b off len
  b.length == 128 && n 0 4 == 0x4B524551 && n 4 2 == 1 && n 6 2 == 0 && n 8 8 % 64 == 0 && (x.ticket || n 8 8 == 0)
    && n 0x14 8 == 0 && n 0x1C 4 == crc32 (b.take 0x1C ++ b.drop 0x20)
    && (x.cabinet || n 0x40 32 == 0) && (x.asksPart || n 0x60 32 == 0)

/-- Links that a job claims, ascending. -/
def JobSt.claimLinks (x : JobSt) : List Nat :=
  ((x.claims.filter (fun c => c.kind == 2)).map (·.link)).foldl (fun l k => setIns k l) []

/-- The job holds link keys (R840, R843). -/
def JobSt.holdsKeys (x : JobSt) : Bool := x.installed || (x.state == .retiring && x.step == 5)

/-- Why the weighbridge refuses a job's key request (Table 15-14); 0 when it does not. -/
def keyRefusal (s : State) (j : Nat) : Nat :=
  let x := s.job j
  if wbState s = 2 then 4
  else if wbState s = 3 && (x.keyAddr != 0 || x.confidential) then 5
  else if !s.wb.provisioned && (x.confidential || x.cabinet || x.ticket || x.asksPart) then 3
  else if x.keyAddr = 0 then (if x.ticket || x.cabinet || x.asksPart then 2 else 0)
  else if !keyBlockOk x then 1
  else if x.cabinet && (liveJobs s).any (fun i => i != j && (s.job i).holdsKeys && (s.job i).tag == x.tag
      && (s.job i).cabNonce == x.cabNonce && (s.job i).claimLinks.any (x.claimLinks.contains ·)) then 7
  else 0

/-! ## The claims (R853, R854) -/

/-- The entry obeys Table 15-5 and its range lies in the bed store. -/
def ClaimEnt.formed (c : ClaimEnt) : Bool :=
  let w := c.word
  c.words.length == 8 && [4, 5, 6, 7].all (fun i => w i == 0) && !bit (w 0) 15 &&
    (if c.kind = 1 then
      present c.region && bits (w 0) 23 9 == 0 && c.base % 4096 == 0 && c.len % 4096 == 0 && c.len != 0
        && c.base + c.len ≤ bedCapacity c.region && w 3 == 0
    else c.kind == 2 && w 0 == 2 && c.base == 0 && c.len == 0 && w 3 < 4)

/-- The region whose claim table holds an entry (R849). -/
def ClaimEnt.home (c : ClaimEnt) : Nat := if c.kind = 2 then aditRegion c.link else c.region

/-- Entries of the jobs in force that a region's table holds. -/
def tableEntries (s : State) (r : Nat) : Nat := ((liveClaims s).filter (fun x => x.2.home == r)).length

def Part.isRange (p : Part) (c : ClaimEnt) : Bool := p.region == c.region && p.base == c.base && p.len == c.len

/-- The partition table after a claim with PARTITION (R854), if it is not refused. -/
def namePart (digest : Nat) (c : ClaimEnt) (ps : Tab Part) : Option (Tab Part) :=
  match (ps.map (·.2)).filter (fun p => p.meets c.region c.base c.len) with
  | [] =>
    match (List.range 64).find? (fun i => (tfind ps i).isNone) with
    | some i => some (tput ps i ⟨c.region, c.base, c.len, digest⟩)
    | none => none
  | [p] => if p.isRange c && p.digest == digest then some ps else none
  | _ => none

/-- The claims of the other live jobs: ADMITTING through RETIRING (R847). -/
def otherClaims (s : State) (j : Nat) : List ClaimEnt :=
  ((liveJobs s).filter (fun i => i != j && (s.job i).reached2)).flatMap (fun i => (s.job i).claims)

/-- Judge the claims from index `i` on: the first refused, or the partition table. -/
def judgeClaims (s : State) (j : Nat) (x : JobSt) : List ClaimEnt → Nat → Tab Part → Nat ⊕ Tab Part
  | [], _, ps => .inr ps
  | c :: cs, i, ps =>
    let earlier := (x.claims.take (i + 1)).filter (fun d => d.home == c.home)
    let overlap := c.kind == 1 && (otherClaims s j).any (fun o =>
      (c.right 5 || o.right 5) && o.meets c.region c.base c.len)
    if !c.formed || (c.kind == 2 && (linkState s c.link != 2 || (s.link c.link).freeEntry.isNone))
        || 120 < tableEntries s c.home + earlier.length || overlap || (c.part && !x.confidential) then .inl i
    else if c.part then
      match namePart (Config.sha384 x.ownerSecret) c ps with
      | some qs => judgeClaims s j x cs (i + 1) qs
      | none => .inl i
    else judgeClaims s j x cs (i + 1) ps

/-- The job's own claims cover a range with a right. -/
def JobSt.covered (x : JobSt) (m : RangeEnt) (right : Nat) : Bool :=
  x.claims.any (fun c => c.covers m.region m.bedAddr m.len && c.right right)

/-- An image range needs WRITE and no partition that the job does not name; an output range READ and no partition. -/
def judgeRanges (s : State) (j : Nat) : Option Nat :=
  let x := s.job j
  let badImage (m : RangeEnt) : Bool := !x.covered m 1 || !jobHasParts s j m.region m.bedAddr m.len
  let badOut (m : RangeEnt) : Bool := !x.covered m 0 || !(partsAt s m.region m.bedAddr m.len).isEmpty
  if x.images.any badImage then some (0x8000 + x.images.findIdx badImage)
  else if x.outs.any badOut then some (0xC000 + x.outs.findIdx badOut)
  else none

/-! ## The steps -/

/-- The next step, unless the job has a stop status (R820). -/
def admitNext (s : State) (j step : Nat) : State :=
  if (s.job j).stop.isSome then admitEnd (s.updJob j (fun x => { x with step := step })) j
  else s.updJob j (fun x => { x with step := step, item := 0 })

/-- The job is at an admission step. -/
def admitAt (s : State) (j step : Nat) : Bool := (s.job j).state == .admitting && (s.job j).step == step

/-- The region is on its way to Run. -/
def coming (s : State) (r : Nat) : Bool := (s.region r).power == .waking || s.wakeQ.any (·.region == r)

/-- Step 2 ends when no region is awaited; each must be in Run. -/
def admitRegions (s : State) (j : Nat) : State :=
  let needs := (s.job j).needs
  if admitAt s j 2 && !needs.any (coming s) then
    match needs.find? (fun r => !inRun s r) with
    | some r => admitFail s j 0x12 r
    | none => admitNext s j 3
  else s

/-- The claims are installed: an epoch change (R850). -/
def installClaims (s : State) (j : Nat) : State :=
  let s := epochChange (s.updJob j (fun x => { x with installed := true })) (s.job j).claimRegions
  s.updJob j (fun x => { x with epoch := getF s wbPg WB_EPOCH })

/-- Step 3: the key and the claims. -/
def admitKeys (s : State) (j : Nat) : State :=
  if !admitAt s j 3 then s
  else match keyRefusal s j with
  | 0 =>
    match judgeClaims s j (s.job j) (s.job j).claims 0 s.wb.parts with
    | .inl i => admitFail s j 0x04 i
    | .inr ps =>
      match judgeRanges { s with wb := { s.wb with parts := ps } } j with
      | some d => admitFail s j 0x04 d
      | none =>
        let grown := s.wb.parts.length < ps.length
        let s := s.updWb (fun w => { w with parts := ps })
        let s := if grown then raise s wbPg 6 else s
        admitNext (installClaims s j) j 4
  | why => admitFail s j 0x05 why

/-- Step 4 ends with the last image. -/
def admitImages (s : State) (j : Nat) : State :=
  if admitAt s j 4 && (s.job j).images.length ≤ (s.job j).item then admitNext s j 5 else s

/-- Step 5: the job's sync objects, with zero state (R681). -/
def ownSyncs (s : State) (j : Nat) : State :=
  (s.job j).syncs.foldl (fun s e => s.updSync e.region (fun b =>
    (List.range e.count).foldl (fun b i => b.setObj (e.first + i)
      { SyncObj.reset with kind := SyncKind.ofCode e.kind, job := some j, parties := e.parties }) b)) s

def admitSyncs (s : State) (j : Nat) : State := if admitAt s j 5 then admitNext (ownSyncs s j) j 6 else s

/-- Step 6: the link job tables (R730). -/
def admitLinks (s : State) (j : Nat) : State :=
  if admitAt s j 6 then admitNext ((s.job j).claimLinks.foldl (fun s k => linkAddJob s k (s.job j).tag j) s) j 7 else s

/-- Step 7 waits for a ticket only when TICKET is set. -/
def admitTicket (s : State) (j : Nat) : State :=
  if admitAt s j 7 && !(s.job j).ticket then admitNext s j 8 else s

/-- Insert a cut entry at its place by face number. -/
def cutIns (c : CutEnt) : List CutEnt → List CutEnt
  | [] => [c]
  | d :: ds => if c.face < d.face then c :: d :: ds else d :: cutIns c ds

/-- The cut in ascending global face number. -/
def JobSt.sorted (x : JobSt) : List CutEnt := x.cut.foldr cutIns []

/-- Step 8: start and restart messages; RUNNING. -/
def admitStart (s : State) (j : Nat) : State :=
  if !admitAt s j 8 then s
  else
    let x := s.job j
    let s := x.sorted.foldl (fun s c => post s (.start c.face j c.model (if c.ctx = 0 then none else some c.ctx))) s
    s.updJob j (fun x => { x with state := .running, ran := true, runSince := s.time })

/-- Carry a job's admission forward as far as it goes. -/
def admitGo (s : State) (j : Nat) : State :=
  admitStart (admitTicket (admitLinks (admitSyncs (admitImages (admitKeys (admitRegions s j) j) j) j) j) j) j

/-- Carry every admission forward. -/
def admitAll (s : State) : State := (liveJobs s).foldl admitGo s

/-- Step 1 and the wakes of step 2: the cut is reserved. -/
def admitBegin (s : State) (j : Nat) : State :=
  let s := s.updJob j (fun x => { x with state := .admitting, step := 2, item := 0, reached2 := true })
  let s := (s.job j).needs.foldl (fun s r =>
    if (s.job j).state = .admitting then
      let y := startRegion s r 2 true
      if y.2 then y.1 else admitFail y.1 j 0x12 r
    else s) s
  admitGo s j

end Sys2Proof.Machine
end

