-- ==== Sys2Proof/Machine/Bringup.lean ====
section
/-! DEFINITION. Machine/Bringup.lean: power entry, test rounds, switches and fuses, brownout and warm start
(02_first_light.md), the crystal (R198, R199) and the host's sideband signals (R82, R826). -/

namespace Sys2Proof.Machine

open Sys2Proof

def phase (s : State) : Nat := getF s bringupPg BRINGUP_PHASE
def setPhase (s : State) (p : Nat) : State := setF s bringupPg BRINGUP_PHASE p

/-- Every command that states VIN sets it. -/
def setVin (s : State) (vin : Nat) : State := s.updCarrier (fun c => { c with vin := vin })

/-- Absolute maximum VIN, mV (Table 19-12): beyond it no rule holds (R1041). -/
def vinMax : Nat := 70000

/-- A command that states VIN: beyond the absolute maximum the module stops. -/
def vinDo (vin : Nat) (c : Bool) (f : State → State) (s : State) : Host.Outcome State Fault Refusal :=
  if vinMax < vin then .fault .absoluteMaximum else guardDo c (fun s => f (setVin s vin)) s

/-! ## The committed record, its registers and the mirror (R115 to R117) -/

/-- Present regions whose entry has a state. -/
def countState (q : QRec) (t : QState) : Nat := (allRegions.filter (fun r => (q.entry r).state == t)).length

/-- Backed slots of a SLOT_MAP. -/
def backedSlots (slots : List Nat) : Nat := (slots.filter (fun b => bit b 7)).length

/-- Backed logical faces of HEALTHY regions (Table 2-4, TOTALS). -/
def backedFaces (q : QRec) : Nat :=
  (allRegions.map (fun r => if (q.entry r).state == .healthy then backedSlots (q.entry r).slots else 0)).foldl (· + ·) 0

/-- FLAGS byte of an entry (Table 2-5). -/
def QEntry.flags (e : QEntry) : Nat :=
  e.fused.toNat + e.linkE.toNat * 2 + e.linkS.toNat * 4 + e.factory.toNat * 8 + e.retest.toNat * 16

/-- The 32 bytes of an entry (Table 2-5). -/
def QEntry.bytes (e : QEntry) : List Nat :=
  [e.state.code, (QCause.code e.cause), e.flags, 0] ++ leBytes 4 e.physBad ++ leBytes 4 e.changedAt ++ leBytes 4 0
    ++ (List.range 16).map (fun k => e.slots.getD k 0)

/-- Offsets 0x000 to 0xC9F of a record (Table 2-4). -/
def QRec.body (q : QRec) : List Nat :=
  leBytes 4 0x514D4150 ++ leBytes 2 1 ++ leBytes 2 32 ++ leBytes 8 q.seq ++ leBytes 4 3200 ++ leBytes 4 q.bootCount
    ++ leBytes 4 (countState q .healthy + backedFaces q * 256) ++ leBytes 4 q.orderCode
    ++ (List.range 100).flatMap (fun r => (q.entry r).bytes)

/-- COMMIT of a record. -/
def QRec.commitWord (q : QRec) : Nat := 0xFFFFFFFF - q.seq % 2 ^ 32

/-- The 3,240 bytes of a record (R106). -/
def QRec.bytes (q : QRec) : List Nat := q.body ++ leBytes 4 (crc32 q.body) ++ leBytes 4 q.commitWord

/-- A copy is valid (R107). -/
def QCopy.valid (c : QCopy) : Bool :=
  c.magic == 0x514D4150 && c.format == 1 && c.headerLen == 32 && c.bodyLen == 3200 && c.crc == crc32 c.record.body
    && c.commit == c.record.commitWord

/-- A copy written whole (R109). -/
def QCopy.written (q : QRec) : QCopy := ⟨0x514D4150, 1, 32, 3200, q, crc32 q.body, q.commitWord⟩

/-- A copy whose writing has begun: COMMIT is zero, and it is not valid until it is written whole (R109, R123). -/
def QCopy.torn (c : QCopy) : QCopy := { c with magic := 0, commit := 0 }

/-! ## Shipment (R3 to R7, R1036 to R1040) -/

/-- Regions that carry a named function (R5), and the four floor regions. -/
def keyRegions : List Nat :=
  sensorRegions ++ aditRegions ++ [hostRegion, mgmtRegion, fieldRegion, wbRegion] ++ allRegions.filter (fun r => depthOf r == 4)

/-- The entry of a region as a map may ship it under an ordering code (R1036, R1037, R1038, R1040). -/
def QEntry.shipOk (code r : Nat) (e : QEntry) : Bool :=
  (match e.state with
    | .healthy => !e.fused && (List.range (logicalSlots r)).all (fun k => bit (e.slots.getD k 0) 7)
    | .failed => code == 0x1C && e.factory && [QCause.router, .control, .sync, .bed].contains e.cause && [1, 2, 3].contains (depthOf r)
    | .isolated => code == 0x1C && e.factory && e.cause == .overcurrent && e.fused && [1, 2, 3].contains (depthOf r)
    | _ => false)
  && (!(e.linkE || e.linkS) || (code == 0x1C && e.factory))
  && (List.range (physicalSlots r)).all (fun p => !bit e.physBad p
    || (p < logicalSlots r && bit (e.slots.getD p 0) 7 && logicalSlots r ≤ (e.slots.getD p 0) % 32))

/-- Every HEALTHY region of a record has a path of HEALTHY regions to (0,3) over links without a fault flag (R1039). -/
def QRec.joinedUp (q : QRec) : Bool :=
  let s := State.reset.updMap (fun m => { m with working := q })
  let ok := fun r => present r && (q.entry r).state == .healthy
  let found := component s ok hostRegion
  allRegions.all (fun r => !ok r || found.contains r)

/-- A record that a module may ship with (R3 to R7, R1036 to R1040). -/
def QRec.shipOk (q : QRec) : Bool :=
  (q.orderCode == 0x1A || q.orderCode == 0x1C)
  && allRegions.all (fun r => QEntry.shipOk q.orderCode r (q.entry r))
  && keyRegions.all (fun r => (q.entry r).state == .healthy)
  && (q.orderCode == 0x1C || allRegions.all (fun r => (q.entry r).state == .healthy))
  && (allRegions.filter (fun r => (q.entry r).state != .healthy)).length ≤ 4
  && (allRegions.map (fun r => (q.entry r).linkE.toNat + (q.entry r).linkS.toNat)).foldl (· + ·) 0 ≤ 4
  && q.joinedUp

/-- The module as it is shipped with a quarry map record: copy A holds it, committed, and copy B is blank. `State.reset` is
the STD-PLP-W1A module with no spare in use; a STD-PLP-W1C module starts from its own record here (log entry 5). -/
def State.shipped (q : QRec) : State :=
  State.reset.updMap (fun m => { m with
    copyA := QCopy.written q, committed := q, working := q, identityCode := q.orderCode })

/-- Write the BRINGUP registers that show the committed record, and the mirror. -/
def publish (s : State) : State :=
  let q := s.map.committed
  let s := setF s bringupPg BRINGUP_COUNTS_HEALTHY (countState q .healthy)
  let s := setF s bringupPg BRINGUP_COUNTS_FAILED (countState q .failed)
  let s := setF s bringupPg BRINGUP_COUNTS_ISOLATED (countState q .isolated)
  let s := setF s bringupPg BRINGUP_COUNTS_STRANDED (countState q .stranded)
  let s := setF s bringupPg BRINGUP_FACES_BACKED (backedFaces q)
  let s := setF s bringupPg BRINGUP_BOOT_COUNT q.bootCount
  let s := setF s bringupPg BRINGUP_QMAP_SEL_COPY s.map.selB.toNat
  let s := setF s bringupPg BRINGUP_QMAP_SEL_A_VALID s.map.copyA.valid.toNat
  let s := setF s bringupPg BRINGUP_QMAP_SEL_B_VALID s.map.copyB.valid.toNat
  let s := s.updMap (fun m => { m with mirror := some q })
  setF s bringupPg BRINGUP_QMAP_SEQ q.seq

/-! ## Selection (R112 to R114, R134) -/

/-- The valid copy with the higher SEQUENCE, copy A on a tie; the Bool is true for copy B. -/
def selectCopy (m : MapSt) : Option (QRec × Bool) :=
  match m.copyA.valid, m.copyB.valid with
  | true, true =>
    if m.copyA.record.seq < m.copyB.record.seq then some (m.copyB.record, true) else some (m.copyA.record, false)
  | true, false => some (m.copyA.record, false)
  | false, true => some (m.copyB.record, true)
  | false, false => none

/-- The default record (R134). -/
def QRec.default (code : Nat) : QRec := ⟨0, 0, code, []⟩

/-- The working record begins again from the committed one (R112, R136, R1062): open fuses make their regions ISOLATED
(R114; CAUSE is left as the entry has it and no event is raised: log entry 83), and what failed in Run in this start
stands. -/
def restoreMap (s : State) : State :=
  let old := s.map.working
  let s := s.updMap (fun m => { m with working := m.committed, changed := [] })
  let s := s.carrier.fusesOpen.foldl (fun s r => s.updEntry r (fun e => { e with state := .isolated, fused := true })) s
  let s := s.boot.barred.foldl (fun s r => s.updEntry r (fun e => { old.entry r with
    linkE := e.linkE, linkS := e.linkS, retest := e.retest })) s
  let s := s.boot.runLinks.foldl (fun s l => setLinkFault s l.region (if l.east then 2 else 3)) s
  allRegions.foldl (fun s r => s.updRegion r (fun x => { x with slots := (s.entry r).slots })) s

/-- In the MAP phase: select a copy or build the default record, read the fuses, load the slot maps (R66). QMAP_DEFAULT
tells what this selection found, and until the first commit the default record is what QMAP_READ, the mirror and COUNTS
show (log entry 83). -/
def mapSelect (s : State) : State :=
  let s := match selectCopy s.map with
    | some (q, b) => setF (s.updMap (fun m => { m with selB := b, committed := q })) bringupPg BRINGUP_PHASE_QMAP_DEFAULT 0
    | none =>
      -- The default record goes to copy A (R134), so copy B counts as the one that holds the selected record.
      let s := s.updMap (fun m => { m with selB := true, committed := QRec.default m.identityCode })
      raise (setF s bringupPg BRINGUP_PHASE_QMAP_DEFAULT 1) bringupPg 4
  let s := (restoreMap s).updBoot (fun b => { b with mapRead := true })
  publish (setPhase s PHASE_MAP)

def execQuarryMapSelect (s : State) : Host.Outcome State Fault Refusal :=
  guardDo (s.boot.active && !s.boot.mapRead && s.carrier.vaon == .up) mapSelect s

/-! ## Cold start and VBUS -/

def execVaonInRegulation (s : State) : Host.Outcome State Fault Refusal :=
  guardDo (s.carrier.vaon == .rising) (fun s => s.updCarrier (fun c => { c with vaon := .crystalStarting })) s

def execVbusSoftStart (vin : Nat) (s : State) : Host.Outcome State Fault Refusal :=
  vinDo vin (36000 ≤ vin && s.carrier.vbus == .off && s.carrier.vaon != .off && s.boot.active)
    (fun s => s.updCarrier (fun c => { c with vbus := .rising, overvolt := false })) s

/-- Eligible for test (R89). In a warm start a FAILED region is not tested (R903); a region whose switch is not to be closed
again in this start is not either (R130, R131). -/
def eligible (s : State) (r : Nat) : Bool :=
  let e := s.entry r
  present r && !s.carrier.fusesOpen.contains r && !s.boot.barred.contains r && match e.state with
    | .healthy => true
    | .stranded => true
    | .failed => !s.boot.warm && !e.factory && (e.retest || e.cause == .overcurrent)
    | _ => false

/-- Not tested yet in this start. -/
def untested (s : State) (r : Nat) : Bool :=
  !s.boot.passedBefore.contains r && !s.boot.passedNow.contains r && !s.boot.failed.contains r

/-- The regions of the next round (R90, R91), in the order their switches close (R79). A region whose link tests have all
failed is tested again through a neighbour that has passed since (R95), so a start has at most 84 rounds (R122). -/
def roundSet (s : State) : List Nat :=
  if s.boot.nextRound = 0 then
    (if eligible s hostRegion then [hostRegion] else []) ++
      allRegions.filter (fun r => isRim r && r != hostRegion && eligible s r)
  else allRegions.filter (fun r => eligible s r && untested s r &&
    (neighbours r).any (fun n => (s.boot.passedBefore.contains n || s.boot.passedNow.contains n)
      && !s.boot.linkTried.contains (r, n)))

/-- A test round begins (R79, R90, R91). -/
def beginRound (s : State) : State :=
  let regs := roundSet s
  let s := setPhase s PHASE_ROUND
  let s := setF s bringupPg BRINGUP_PHASE_ROUND s.boot.nextRound
  s.updBoot (fun b => { b with
    roundOpen := true, toClose := regs, testing := [], running := [],
    passedBefore := b.passedNow.foldl (fun l r => setIns r l) b.passedBefore, passedNow := [],
    nextRound := b.nextRound + 1 })

/-- The foreman closes the next switch of the round (R77, R79); the region reads WAKING (R1060). -/
def closeSwitch (s : State) (r : Nat) : State :=
  let s := s.updBoot (fun b => { b with toClose := b.toClose.filter (· != r), testing := setIns r b.testing })
  let s := s.updRegion r (fun x => { x with switchOn := true, power := .waking })
  logPower s r 11 0 0

def execVbusInRegulation (s : State) : Host.Outcome State Fault Refusal :=
  guardDo (s.carrier.vbus == .rising && s.boot.active && s.boot.mapRead)
    (fun s =>
      let s := s.updCarrier (fun c => { c with vbus := .on })
      let s := beginRound s
      if s.boot.toClose.head? = some hostRegion then closeSwitch s hostRegion else s) s

def execTestRoundBegin (s : State) : Host.Outcome State Fault Refusal :=
  guardDo (s.boot.active && !s.boot.paused && s.carrier.vbus == .on && s.boot.mapRead && !s.boot.roundOpen
    && (phase s == PHASE_ROUND || phase s == PHASE_MAP) && !(roundSet s).isEmpty) beginRound s

def execRegionSwitchClose (r : Nat) (s : State) : Host.Outcome State Fault Refusal :=
  guardDo (s.boot.toClose.head? == some r && !s.carrier.fusesOpen.contains r) (fun s => closeSwitch s r) s

def execSelfTestBegin (r : Nat) (s : State) : Host.Outcome State Fault Refusal :=
  guardDo (s.boot.testing.contains r && (s.region r).switchOn && !s.boot.running.contains r)
    (fun s => s.updBoot (fun b => { b with running := setIns r b.running })) s

/-! ## Self-test (R94 to R96, R101 to R105, R141) -/

/-- The first region check that failed (Table 2-3); a warm start only checks links and rails (R141), and rails that fail are
recorded with cause CONTROL, which is the model's choice (log entry 83). -/
def testCause (warm : Bool) (t : SelfTest) : Option QCause :=
  if warm then (if t.controlOk then none else some .control)
  else if !t.routerOk then some .router
  else if !t.controlOk then some .control
  else if !t.syncOk then some .sync
  else if !t.bedOk then some .bed
  else none

/-- Directions of a region toward neighbours that passed in an earlier round and through which no test has failed. -/
def passedDirs (s : State) (r : Nat) : List Nat :=
  [1, 4, 2, 3].filter (fun d => match neighbour r d with
    | some n => s.boot.passedBefore.contains n && !s.boot.linkTried.contains (r, n)
    | none => false)

/-- The link test in direction `d` failed. -/
def testLinkFailed (t : SelfTest) (d : Nat) : Bool := bit t.badLinks (d - 1)

/-- A region leaves the round without passing: its supply is taken off. -/
def testOff (s : State) (r : Nat) : State :=
  let s := s.updBoot (fun b => { b with testing := setDel r b.testing, running := setDel r b.running })
  s.updRegion r (fun x => { x with power := .stop })

/-- The faces that the self-test found bad (R101); a warm start does not test them (R141). -/
def testFaces (s : State) (r : Nat) (t : SelfTest) : State := if s.boot.warm then s else markBad s r t.badFaces

/-- A region passes (R67, R80, R98). That WOKE is raised as at a wake is the model's choice (log entry 84). -/
def testPass (s : State) (r : Nat) (t : SelfTest) : State :=
  let s := s.updEntry r (fun e => { e with state := .healthy, cause := .none })
  let s := s.updRegion r (fun x => { x with slots := (s.entry r).slots })
  let s := s.updBoot (fun b => { b with
    testing := setDel r b.testing, running := setDel r b.running, passedNow := setIns r b.passedNow })
  let s := if r = hostRegion then s.updCarrier (fun c => { c with hostPwrOk := true }) else s
  enterRun s r t.lockUs 11

/-- A region fails its test; HOST_PWR_OK goes with region (0,3) (R80, R133). -/
def testFail (s : State) (r : Nat) (c : QCause) : State :=
  let s := testOff (hostFails s r) r
  let s := s.updEntry r (fun e => { e with state := .failed, cause := c })
  let s := s.updBoot (fun b => { b with failed := setIns r b.failed })
  let s := s.updRegion r (fun x => { x with switchOn := false })
  logPower (raise s bringupPg 1) r 11 0 0

/-- A region's test ends (R94 to R96): in a round after 0 it needs one good link to a region that passed before. -/
def selfTestEnd (s : State) (r : Nat) (t : SelfTest) : State :=
  let s := testFaces s r t
  match testCause s.boot.warm t with
  | some c => testFail s r c
  | none =>
    let dirs := passedDirs s r
    let s := (dirs.filter (testLinkFailed t)).foldl (fun s d => setLinkFault s r d) s
    if s.boot.nextRound ≤ 1 || dirs.any (fun d => !testLinkFailed t d) then testPass s r t
    else
      let s := s.updBoot (fun b => { b with
        linkTried := b.linkTried ++ dirs.filterMap (fun d => (neighbour r d).map (fun n => (r, n))) })
      logPower (testOff s r) r 11 0 0

def execSelfTestDone (r : Nat) (res : SelfTest) (s : State) : Host.Outcome State Fault Refusal :=
  guardDo (s.boot.running.contains r) (fun s => selfTestEnd s r res) s

/-- Record the failure of one link and route around it (R60). -/
def failLink (s : State) (l : LinkName) : State :=
  let d := if l.east then 2 else 3
  match neighbour l.region d with
  | none => s
  | some n =>
    let s := setLinkFault s l.region d
    reroute s (usesLink l.region n) true

/-- Both ends of a link passed in the round that has just ended (R1061). -/
def sameRound (s : State) (l : LinkName) : Bool :=
  match neighbour l.region (if l.east then 2 else 3) with
  | some n => s.boot.passedNow.contains l.region && s.boot.passedNow.contains n
  | none => false

/-- Every region of the open round has been tested. -/
def roundTested (s : State) : Bool :=
  s.boot.active && s.boot.roundOpen && s.boot.toClose.isEmpty && s.boot.testing.isEmpty && s.boot.retrying.isEmpty

def execSameRoundLinkTest (failed : List LinkName) (s : State) : Host.Outcome State Fault Refusal :=
  guardDo (roundTested s) (fun s => (failed.filter (sameRound s)).foldl failLink s) s

/-! ## Trips and fuses (R71 to R75, R129 to R132) -/

/-- A region is recorded ISOLATED (bit 2); one in Run fails under R57. -/
def isolate (s : State) (r : Nat) (c : QCause) (fused : Bool) : State :=
  let run := inRun s r
  let was := anchorSet s
  let s := s.updEntry r (fun e => { e with state := .isolated, cause := c, fused := fused })
  let s := s.updRegion r (fun x => { x with switchOn := false })
  let s := { s with wakeQ := s.wakeQ.filter (·.region != r), stopQ := s.stopQ.filter (·.region != r) }
  let s := raise (bar (bootDrop (hostFails s r) r) r) bringupPg 2
  let s := if run then
      releaseTransit (restoreConnectivity (strand was (logPower (leaveRun s r true true true) r 9 0 0)))
    else strand was (logPower (s.updRegion r (fun x => { x with power := .stop })) r 9 0 0)
  tamperGoesOn (admitLost s r)

/-- A trip during test (R129): the first waits for its retry, the second blows the fuse (R72). -/
def tripInTest (s : State) (r : Nat) : State :=
  let n := tget 0 s.boot.trips r + 1
  let s := s.updBoot (fun b => { b with trips := tset 0 b.trips r n })
  let s := s.updRegion r (fun x => { x with switchOn := false })
  if 2 ≤ n then
    let s := logPower s r 9 0 1
    isolate s r .overcurrent false
  else
    let s := s.updBoot (fun b => { b with running := setDel r b.running, retrying := setIns r b.retrying })
    logPower s r 9 0 1

/-- In test the trip is retried once (R129), in Run the region fails (R131). A region that is neither (it wakes, or its
switch is closed in Stop) is recorded FAILED with cause OVERCURRENT as one in Run: the model's choice (log entry 83). -/
def execSwitchTrip (r : Nat) (s : State) : Host.Outcome State Fault Refusal :=
  guardDo ((s.region r).switchOn && present r)
    (fun s => if s.boot.testing.contains r then tripInTest s r else failRegion s r .overcurrent 1) s

def execTripRetry (r : Nat) (s : State) : Host.Outcome State Fault Refusal :=
  guardDo (s.boot.retrying.contains r)
    (fun s => (s.updBoot (fun b => { b with retrying := setDel r b.retrying })).updRegion r
      (fun x => { x with switchOn := true })) s

def execFuseConfirm (r : Nat) (isOpen : Bool) (s : State) : Host.Outcome State Fault Refusal :=
  guardDo ((s.entry r).state == .isolated && (s.entry r).cause == .overcurrent && 2 ≤ tget 0 s.boot.trips r)
    (fun s => if isOpen then
        (s.updEntry r (fun e => { e with fused := true })).updCarrier
          (fun c => { c with fusesOpen := setIns r c.fusesOpen })
      else s.updEntry r (fun e => { e with fused := false })) s

/-- A fuse opens by itself (R132); the cause OVERCURRENT is the model's choice (log entry 83). -/
def execFuseSelfOpen (r : Nat) (s : State) : Host.Outcome State Fault Refusal :=
  guardDo (present r && !s.carrier.fusesOpen.contains r)
    (fun s => isolate (s.updCarrier (fun c => { c with fusesOpen := setIns r c.fusesOpen })) r .overcurrent true) s

/-! ## Brownout, VBUS off, warm start (R136 to R144, R1062) -/

/-- The round in progress ends; nothing that the start's rounds found counts, and nothing is committed (R136, R1062). -/
def clearRounds (s : State) : State :=
  let s := s.boot.testing.foldl (fun s r => s.updRegion r (fun x => { x with power := .stop })) s
  let s := if phase s = PHASE_COMMIT then setPhase (s.updMap (fun m => { m with writing := none })) PHASE_ROUND else s
  (restoreMap s).updBoot (fun b => { b with
    roundOpen := false, toClose := [], testing := [], running := [], retrying := [], passedBefore := [], passedNow := [],
    failed := [], linkTried := [], nextRound := 0 })

def execBrownout (vin : Nat) (s : State) : Host.Outcome State Fault Refusal :=
  vinDo vin (vin < 34000 && s.carrier.vbus == .on)
    (fun s =>
      let s := raise s bringupPg 5
      let s := if s.boot.active then clearRounds (s.updBoot (fun b => { b with paused := true })) else s
      (runSet s).foldl (fun s r => requestStop s r false 7 false) s) s

def execStartResume (vin : Nat) (s : State) : Host.Outcome State Fault Refusal :=
  vinDo vin (36000 ≤ vin && s.carrier.vbus == .on && s.boot.active && s.boot.paused)
    (fun s => s.updBoot (fun b => { b with paused := false })) s

/-- With VBUS every operation in flight is abandoned, and its source with it (R660): nothing is left to complete. -/
def powerGone (s : State) : State :=
  let s := s.updRoad (fun x => { x with packets := [], holds := [], shares := [] })
  allRegions.foldl (fun s r => if s.sync r = SyncBlk.reset then s
    else s.updSync r (fun b => { b with waiters := [], arrivals := [] })) s

/-- VBUS is switched off: regions still in Run lose their SRAM and dirty lines become spoil (R137, R195); a start in
progress goes back to MAP (R1062). `cause`: that of the POWER records. -/
def vbusDown (cause : Nat) (s : State) : State :=
  let s := powerGone s
  let s := (runSet s).foldl (fun s r => logPower (leaveRun s r true false false) r cause 0 0) s
  let s := { s with wakeQ := [], stopQ := [] }
  let s := allRegions.foldl (fun s r => s.updRegion r (fun x => { x with
    power := .stop, switchOn := false, wakeFails := 0, wakeBackoff := false, stopHeld := none })) s
  let s := s.updCarrier (fun c => { c with vbus := .off, hostPwrOk := false })
  let s := outputsOff s
  tamperGoesOn (if s.boot.active then
    setPhase (clearRounds (s.updBoot (fun b => { b with paused := false, mapRead := false }))) PHASE_MAP
  else s)

def execVbusOff (vin : Nat) (s : State) : Host.Outcome State Fault Refusal :=
  vinDo vin (vin < 32000 && s.carrier.vbus != .off) (vbusDown 7) s

def execVaonLoss (vin : Nat) (s : State) : Host.Outcome State Fault Refusal :=
  vinDo vin (vin < 20000 && s.carrier.vaon != .off)
    (fun s => (if s.carrier.vbus = .off then s else vbusDown 7 s).updCarrier
      (fun c => { c with vaon := .off, crystalOk := false })) s

def execVinOvervoltage (vin : Nat) (s : State) : Host.Outcome State Fault Refusal :=
  vinDo vin (62000 < vin && s.carrier.vbus != .off)
    (fun s => (vbusDown 9 s).updCarrier (fun c => { c with overvolt := true })) s

/-- VBUS below 10.8 V for 1 ms (R1043): every region in Run is stopped with FORCE, by the handshake (R158, R165). -/
def execVbusUndervoltage (s : State) : Host.Outcome State Fault Refusal :=
  guardDo (s.carrier.vbus == .on)
    (fun s => logRec ((runSet s).foldl (fun s r => requestStop s r true 15 false) s) 1 0x7F 0 [0, 0, 0, 0]) s

/-! ## The crystal (R198, R199) -/

/-- The backup oscillator takes over; every region in Run is stopped with FORCE, by the handshake (R158, R165, R198). -/
def execCrystalFail (s : State) : Host.Outcome State Fault Refusal :=
  guardDo (s.carrier.crystalOk && s.carrier.vaon == .up)
    (fun s =>
      let s := s.updCarrier (fun c => { c with crystalOk := false, backup := true })
      let s := (runSet s).foldl (fun s r => raise s (clockPg r) 1) s
      (runSet s).foldl (fun s r => requestStop s r true 13 false) s) s

def execCrystalRestored (s : State) : Host.Outcome State Fault Refusal :=
  guardDo s.carrier.backup (fun s => s.updCarrier (fun c => { c with crystalOk := true, backup := false })) s

/-! ## PERST#, the PCIe link (R33, R82, R817, R826, R828) -/

/-- Host port registers return to reset at PERST# (R828): JOBQ, the counters other than PERST_COUNT, BAR2, and the job
table is empty. -/
def hostReset (s : State) : State :=
  let s := (liveJobs s).foldl dropJob s
  let s := resetPage s jobqPg []
  let s := setF s hostPg HOST_AER_COUNT_CORRECTABLE 0
  let s := setF s hostPg HOST_AER_COUNT_UNCORRECTABLE 0
  let s := setF s hostPg HOST_DMA_ERRORS_COUNT 0
  let s := { s with fields := tclear s.fields (pageLo (bar2Pg 0)) (pageLo (pbaPg + 1)) }
  s.updHost (fun h => { h with
    pend := [], jobs := [], lastQueue := [], doneSubs := [], evSeq := 0, evDropped := 0, srstWait := false })

def execPerstDeassert (s : State) : Host.Outcome State Fault Refusal :=
  guardDo (s.carrier.hostPwrOk && s.carrier.perst)
    (fun s => hostReset (s.updCarrier (fun c => { c with perst := false }))) s

def execPcieLinkUp (speed width : Nat) (s : State) : Host.Outcome State Fault Refusal :=
  guardDo (!s.carrier.perst && inRun s hostRegion && !s.host.linkUp
      && [1, 2, 3].contains speed && [1, 2, 4].contains width)
    (fun s =>
      let s := s.updHost (fun h => { h with linkUp := true })
      let s := setF s hostPg HOST_PCIE_STATUS_LINK_UP 1
      let s := setF s hostPg HOST_PCIE_STATUS_SPEED speed
      let s := setF s hostPg HOST_PCIE_STATUS_WIDTH width
      raise s hostPg 0) s

def execHostLinkDown (perst : Bool) (s : State) : Host.Outcome State Fault Refusal :=
  guardDo (s.host.linkUp || (perst && !s.carrier.perst))
    (fun s =>
      let s := if perst && !s.carrier.perst then
          addF (s.updCarrier (fun c => { c with perst := true })) hostPg HOST_PERST_COUNT_COUNT 1
        else s
      hostDown s) s

end Sys2Proof.Machine
end

