-- ==== Sys2Proof/Machine/RunStop.lean ====
section
/-! DEFINITION. Machine/RunStop.lean: wakes, the stop handshake, throttling, failures of regions and links, and the
forwarding of packets (01_quarry_layout.md, 03_clocks_run_stop.md). -/

namespace Sys2Proof.Machine

open Sys2Proof

/-! ## Wakes (R154 to R157, R197) -/

/-- A region cannot be had after all: stages that waited for its faces lose them (R420), and admissions end. -/
def wakeLost (s : State) (r : Nat) : State :=
  admitLost ((facesOf r).foldl (fun s g => if inActiveStage s g then escFaceLost s g 1 else s) s) r

/-- The head of the wake queue is a wake of this region. -/
def wakeHead (s : State) (r : Nat) : Bool := (s.wakeQ.head?.map (·.region)) == some r

/-- The foreman may wake regions (R135, R137, R199). -/
def mayWake (s : State) : Bool := s.carrier.vbus == .on && !s.carrier.backup && getF s bringupPg BRINGUP_PHASE != PHASE_HALTED

/-- A region already chosen for a wake may still be started: a HOLD that came after leaves the wake in place (R928). -/
def chosenStartable (s : State) (r : Nat) : Bool :=
  startable (s.updRegion r (fun x => { x with hold := false })) r

/-- The wake command of the queue's head reaches the region (R155): WAKING. A region that can no longer be started, or
that is waking or in Run again, leaves the queue. -/
def wakeBegin (s : State) (r : Nat) : State :=
  match s.wakeQ with
  | [] => s
  | w :: ws =>
    let s := { s with wakeQ := ws }
    if (s.region r).power = .stop && chosenStartable s r then
      let s := s.updRegion r (fun x => { x with
        power := .waking, switchOn := true, wakeCause := w.cause, transit := w.transit, background := w.cause == 5,
        wakeFails := 0, wakeBackoff := false, stopHeld := none })
      logPower s r w.cause 0 0
    else if (s.region r).power != .stop then s
    else wakeLost s r

def execWakeCommand (r : Nat) (s : State) : Host.Outcome State Fault Refusal :=
  guardDo (wakeHead s r && mayWake s && (s.region r).hs.isNone) (fun s => wakeBegin s r) s

/-- The wake ends (Table 3-3): the region is in Run; a stop request held is made (R188); components that a startable
path now joins are joined (R168); a region woken for background begins its unpaced pass (R919); promotions (R382) and
admissions (R802) go on. -/
def wakeEnd (s : State) (r lockUs : Nat) : State :=
  let held := (s.region r).stopHeld
  let s := enterRun (s.updRegion r (fun x => { x with stopHeld := none })) r lockUs (s.region r).wakeCause
  let s := if (s.region r).background then s.updBed r (fun b => { b with unpaced := true, scrubPos := 0 }) else s
  let s := match held with
    | some q => requestStop s r q.force q.cause false
    | none => s
  admitAll (escProgress (restoreConnectivity s))

def execWakeComplete (r lockUs : Nat) (s : State) : Host.Outcome State Fault Refusal :=
  guardDo ((s.region r).power == .waking && !(s.region r).wakeBackoff && !s.boot.testing.contains r)
    (fun s => wakeEnd s r lockUs) s

/-- A wake fails (R197): the first failure waits for its retry, the second records FAILED with cause CONTROL. -/
def wakeFail (s : State) (r : Nat) : State :=
  if (s.region r).wakeFails = 0 then s.updRegion r (fun x => { x with wakeFails := 1, wakeBackoff := true })
  else
    let s := s.updRegion r (fun x => { x with stopHeld := none, transit := false, background := false })
    restoreConnectivity (wakeLost (failRegion s r .control 0) r)

def execWakeTimeout (r : Nat) (s : State) : Host.Outcome State Fault Refusal :=
  guardDo ((s.region r).power == .waking && !(s.region r).wakeBackoff && !s.boot.testing.contains r)
    (fun s => wakeFail s r) s

def execWakeRetry (r : Nat) (s : State) : Host.Outcome State Fault Refusal :=
  guardDo ((s.region r).power == .waking && (s.region r).wakeBackoff && mayWake s)
    (fun s => s.updRegion r (fun x => { x with wakeBackoff := false })) s

/-! ## The stop handshake (R158 to R167, R181) -/

/-- The oldest stop request for a region. -/
def stopWait (s : State) (r : Nat) : Option StopWait := s.stopQ.find? (·.region == r)

/-- The stop requested for a region begins. -/
def stopBegin (s : State) (r : Nat) (eccs : List (Nat × SramEcc)) : State :=
  match stopWait s r with
  | none => s
  | some q => beginStop { s with stopQ := s.stopQ.filter (·.region != r) } q eccs

def execStopHandshake (r : Nat) (eccs : List (Nat × SramEcc)) (s : State) : Host.Outcome State Fault Refusal :=
  guardDo ((stopWait s r).isSome && (s.region r).hs.isNone) (fun s => stopBegin s r eccs) s

/-- The face is still writing back: dirty lines, transfers, its queued OUT marks, a pending log write (R620, R538). -/
def faceFlushing (s : State) (g : Nat) : Bool :=
  let f := s.faceAt g
  !f.dirtyLines.isEmpty || faceHoist s g || (s.bed (faceRegion g)).outQueue.any (·.face == g) || f.num.writeDue

/-- The answer of a face (Table 3-4, R500, R620, R1016); one that writes back and holds a lock gives DIRTY_FLUSH (DESIGN
CHOICE, log entry 84). -/
def faceAnswer (s : State) (g : Nat) : HsAnswer :=
  if (s.faceAt g).dead then .accept
  else if (s.faceAt g).owner ≠ .none || inCut s g then .refuse
  else if faceFlushing s g then .delay 0
  else if holdsLock s g then .delay 1
  else .accept

/-- The answer of the function block of a region (Table 3-4). -/
def blockAnswer (s : State) (r : Nat) : HsAnswer :=
  if r = hostRegion then (if s.host.linkUp then .refuse else .accept)
  else if aditRegions.contains r then
    (if aditUsed s (instOf r) then .refuse else if aditBusy s (instOf r) then .delay 2 else .accept)
  else if r = fieldRegion then (if outputsEnabled s then .refuse else .accept)
  else .accept

/-- The answer of an agent of Table 3-4. -/
def agentAnswer (s : State) (r agent : Nat) : HsAnswer :=
  if agent < 0x10 then faceAnswer s (faceNo r agent)
  else if agent = 0x20 then
    (if (s.bed r).queue.isEmpty && (s.bed r).outQueue.isEmpty then .accept else .delay 0)
  else if agent = 0x21 then
    (if (s.sync r).objs.any (fun o => o.2.job.isSome) then .refuse
     else if (s.sync r).objs.any (fun o => o.2.kind == .lock && o.2.held) then .delay 1 else .accept)
  else if agent = 0x22 then
    (if s.road.packets.any (fun p => p.src == r && p.loc == r) then .delay 2 else .accept)
  else blockAnswer s r

/-- An agent answers (R159, R162). -/
def agentAnswers (s : State) (r agent : Nat) : State :=
  match (s.region r).hs with
  | none => s
  | some h =>
    match agentAnswer s r agent with
    | .accept =>
      let flushed := agent < 0x10 && tget .accept h.last agent == .delay 0
      let s := s.updRegion r (fun x => { x with hs := some { h with accepted := h.accepted ++ [agent], tEnd := s.time } })
      if flushed then raise s (hoistPg (faceNo r agent)) 2 else s
    | .refuse =>
      if h.force then s.updRegion r (fun x => { x with hs := some { h with last := tput h.last agent .refuse } })
      else endWithoutStop s r 4 .refuse agent
    | a => s.updRegion r (fun x => { x with hs := some { h with last := tput h.last agent a } })

/-- An agent of a region is still to accept. -/
def agentOpen (s : State) (r agent : Nat) : Bool :=
  match (s.region r).hs with
  | some h => (agents s r).contains agent && !h.accepted.contains agent
  | none => false

def execHandshakeAnswer (r agent : Nat) (s : State) : Host.Outcome State Fault Refusal :=
  guardDo (agentOpen s r agent) (fun s => agentAnswers s r agent) s

/-- An agent that has been silent for 2 ms counts with NONE (R160). -/
def answerNone (s : State) (r agent : Nat) : State :=
  s.updRegion r (fun x => { x with hs := x.hs.map (fun h => { h with last := tput h.last agent .none }) })

def execAnswerTimeout (r agent : Nat) (s : State) : Host.Outcome State Fault Refusal :=
  guardDo (agentOpen s r agent) (fun s => answerNone s r agent) s

/-- The deadline passes (R163, R165). A forced stop raises STOPPED beside FORCED (DESIGN CHOICE, log entry 84). -/
def deadline (s : State) (r : Nat) : State :=
  match (s.region r).hs with
  | none => s
  | some h =>
    let d := firstOpen s r h
    let a := tget .none h.last d
    if h.force then
      let s := putResult s r 2 a d (usOf (s.time - h.t0))
      let s := addF s (powerPg r) POWER_HS_COUNT_STOPS 1
      let s := raise s (powerPg r) 3
      let s := raise s (powerPg r) 0
      let s := leaveRun s r true true false
      let s := logPower s r h.cause (hsResult s r) 0
      tamperGoesOn (releaseTransit (restoreConnectivity s))
    else endWithoutStop s r 3 a d

/-- The region has a handshake in which not every agent has accepted. -/
def handshakeOpen (s : State) (r : Nat) : Bool :=
  match (s.region r).hs with
  | some h => !allAccepted s r h
  | none => false

def execHandshakeDeadline (r : Nat) (s : State) : Host.Outcome State Fault Refusal :=
  guardDo (handshakeOpen s r) (fun s => deadline s r) s

/-- The converters are disabled after the last ACCEPT (R161, R181): outcome STOPPED, or IDLE_STOPPED. -/
def stopDone (s : State) (r : Nat) : State :=
  match (s.region r).hs with
  | none => s
  | some h =>
    let d := (h.accepted.getLast?).getD 0xFF
    let s := putResult s r (if h.idle && !h.force then 7 else 1) (tget .accept h.last d) d (usOf (h.tEnd - h.t0))
    let s := addF s (powerPg r) POWER_HS_COUNT_STOPS 1
    let s := raise s (powerPg r) 0
    let s := leaveRun s r false false false
    let s := logPower s r h.cause (hsResult s r) 0
    tamperGoesOn (releaseTransit (if h.force then restoreConnectivity s else s))

/-- Every agent of a handshake has accepted. -/
def handshakeDone (s : State) (r : Nat) : Bool :=
  match (s.region r).hs with
  | some h => allAccepted s r h
  | none => false

/-- What had come to the region's crossbar before its routes read DEAD has completed (R52). -/
def drained (s : State) (r : Nat) : Bool := !s.road.packets.any (·.loc == r) && (s.sync r).arrivals.isEmpty

def execRegionStopped (r : Nat) (s : State) : Host.Outcome State Fault Refusal :=
  guardDo (handshakeDone s r && drained s r) (fun s => stopDone s r) s

/-- The region is idle (R170). -/
def regionIdle (s : State) (r : Nat) : Bool :=
  (facesOf r).all (fun g => (s.faceAt g).opq == 0 && (s.faceAt g).owner == .none && !inCut s g && !faceHoist s g)
  && !s.road.packets.any (fun p => p.dst == r && p.loc == r) && (s.sync r).arrivals.isEmpty

def execIdleTimeout (r : Nat) (s : State) : Host.Outcome State Fault Refusal :=
  guardDo (inRun s r && regionIdle s r && getF s (powerPg r) POWER_IDLE_CFG_TIMEOUT != 0 && !(s.region r).transit
      && (s.region r).hs.isNone)
    (fun s => requestStop s r false 6 true) s

/-! ## Temperature (R174 to R178, R200, R201) -/

/-- A reading inside −40 °C to 150 °C, in 1/16 °C (R200). -/
def sensorValid (t : Int) : Bool := -640 ≤ t && t ≤ 2400

/-- Threshold of a level in 1/16 °C (Table 3-5). -/
def levelAt (s : State) (r k : Nat) : Int :=
  (16 * (getF s (powerPg r) POWER_THERM_CFG_WARN + (k - 1) * getF s (powerPg r) POWER_THERM_CFG_STEP) : Nat)

/-- The level after an evaluation: entered when the temperature reaches its threshold, left HYST below it. -/
def nextLevel (s : State) (r level : Nat) (tj : Int) : Nat :=
  let hyst : Int := (16 * getF s (powerPg r) POWER_THERM_CFG_HYST : Nat)
  let up := ([3, 2, 1].find? (fun k => levelAt s r k ≤ tj)).getD 0
  let keep := ([3, 2, 1].find? (fun k => k ≤ level && levelAt s r k - hyst ≤ tj)).getD 0
  max up keep

/-- The thermal stop (R177): at once with FORCE; no wake within the lockout of R178. -/
def thermStop (s : State) (r : Nat) : State :=
  let s := raise s (powerPg r) 5
  let s := s.updRegion r (fun x => { x with lockout := true })
  forceStopNow s r 8

/-- No sensor is valid (R201): a stop with FORCE at once of a region that counts as failed with cause FIELD already, so that
neither a reconnection (R168) nor a start takes it for a path. -/
def noSensor (s : State) (r : Nat) : State :=
  let was := anchorSet s
  let s := bootDrop (s.updEntry r (fun e => { e with state := .failed, cause := .field })) r
  strand was (failRegion (forceStopNow s r 8) r .field 0)

/-- The 1 ms evaluation of a region in Run: an armed commit applies outside a handshake (R179), the sensors are judged
(R200, R201) and the level is set (R174). -/
def throttle (s : State) (r : Nat) (ts : List Int) : State :=
  let p := powerPg r
  let s := if flagF s p COMMIT_ARMED && (s.region r).hs.isNone then commitPage s p else s
  let ts := ts.take 4
  let ok := ((List.range ts.length).filter (fun i => sensorValid (ts.getD i 0))).foldl (fun m i => m + 2 ^ i) 0
  let s := setF s p POWER_THERM_SENSOR_OK ok
  let s := if ok = 15 then s else raise s p 6
  match ts.filter sensorValid with
  | [] => noSensor s r
  | t :: more =>
    let tj := more.foldl max t
    let s := setF s p POWER_THERM_TJ (ofSigned 16 tj)
    if 1840 ≤ tj then thermStop s r
    else
      let old := getF s p POWER_PWR_STATE_LEVEL
      let new := nextLevel s r old tj
      if new = old then s else raise (setF s p POWER_PWR_STATE_LEVEL new) p 4

def execThrottleEvaluation (r : Nat) (sensors : List Int) (s : State) : Host.Outcome State Fault Refusal :=
  guardDo (present r && inRun s r) (fun s => throttle s r sensors) s

/-- The cold plate reads below WARN − 20 °C (R178, R1051). -/
def coldEnough (s : State) (r : Nat) : Bool :=
  s.carrier.coldPlateOk && s.carrier.coldPlate < 16 * (getF s (powerPg r) POWER_THERM_CFG_WARN : Int) - 320

/-- The lockout of R178 ends; components that a startable path now joins are joined (R168). -/
def execThermalLockoutEnd (r : Nat) (s : State) : Host.Outcome State Fault Refusal :=
  guardDo ((s.region r).lockout && coldEnough s r)
    (fun s => restoreConnectivity (s.updRegion r (fun x => { x with lockout := false }))) s

/-! ## Failures (R57 to R61, R196) -/

def execLockLost (r : Nat) (s : State) : Host.Outcome State Fault Refusal :=
  guardDo (present r && inRun s r)
    (fun s =>
      let s := addF s (clockPg r) CLOCK_LOCK_COUNT_LOSSES 1
      let s := raise s (clockPg r) 0
      failRegion s r .field 0) s

def execRegionFail (r : Nat) (cause : QCause) (s : State) : Host.Outcome State Fault Refusal :=
  guardDo (present r && inRun s r) (fun s => failRegion s r cause 0) s

def execRerouteRelease (src dst : Nat) (s : State) : Host.Outcome State Fault Refusal :=
  guardDo (s.road.holds.contains (src, dst)
      && !s.road.packets.any (fun p => p.src == src && p.dst == dst && p.loc != src))
    (fun s => s.updRoad (fun x => { x with holds := x.holds.filter (· != (src, dst)) })) s

/-- A link that fails in Run during a start is not forgotten when the start begins again. -/
def noteLink (s : State) (l : LinkName) : State :=
  s.updBoot (fun b => if b.active then { b with runLinks := b.runLinks ++ [l] } else b)

def execMeshLinkFail (link : LinkName) (s : State) : Host.Outcome State Fault Refusal :=
  guardDo (present link.region && (neighbour link.region (if link.east then 2 else 3)).isSome
      && !linkFaulty s link.region (if link.east then 2 else 3))
    (fun s => restoreConnectivity (strand (anchorSet s) (failLink (noteLink s link) link))) s

def execStrandedStopRetry (r : Nat) (s : State) : Host.Outcome State Fault Refusal :=
  guardDo (inRun s r && (s.entry r).state == .stranded && (s.region r).hs.isNone)
    (fun s => requestStop s r false 9 false) s

/-! ## Packets (R29, R39, R50 to R53, R387 to R390) -/

/-- Router `r` sends its oldest packet of a class (R29), if its output takes that class next (R387, R388): to the next
region, or out of the crossbar of its destination. It stalls without room there (R50), and completes a packet whose
route reads DEAD with DEAD_TARGET (R52, R53). -/
def forward (s : State) (r cls : Nat) : State :=
  match headOf s r cls with
  | (none, _) => s
  | (some p, rest) =>
    let without := s.updRoad (fun x => { x with packets := rest })
    if p.dst ≠ r ∧ (nextRegion s r p).isNone then losePacket without 3 p
    else
      let out := outPort s r p
      let a := arbitrate s r out
      if a.1 ≠ some cls then s
      else
        let turn (t : State) : State := t.updRoad (fun x => { x with shares := tset Share.reset x.shares (r * 128 + out) a.2 })
        match nextRegion s r p with
        | some n => turn (s.updRoad (fun x => { x with packets := movePacket p n x.packets }))
        | none => landPacket (turn without) p

def execHaulRoadPacket (r cls : Nat) (s : State) : Host.Outcome State Fault Refusal :=
  guardDo (present r && cls < 4) (fun s => forward s r cls) s

end Sys2Proof.Machine
end

