-- ==== Sys2Proof/Machine/Escalation.lean ====
section
/-! DEFINITION. Machine/Escalation.lean: the escalation controller (07_escalation.md): listener messages, verdicts,
promotion and demotion, validation of chains, the chain store. -/

namespace Sys2Proof.Machine

open Sys2Proof

/-! ## Configuration (R363, R364, R411, R412) -/

def escOn (s : State) : Bool := s.carrier.vaon == .up && flagF s escPg STATUS_ENABLED

def chainLen (s : State) (c : Nat) : Nat := chCfg s c ESC_CH_CFG_LEN

/-- Stage descriptor `n` obeys the rules of its SNUM (R363, Table 7-6). -/
def descOk (s : State) (n : Nat) : Bool :=
  let f (x : Fld) : Nat := getF s escPg (x.ix n)
  let snum := f ESC_ST_CFG_SNUM
  let regs := descRegions s n
  regs.all (fun r => present r) && snum ≤ 6 && 1 ≤ f ESC_ST_TIME_P_COUNT &&
  (if snum < 2 then
    f ESC_ST_CFG_PORT ≤ 5 && f ESC_ST_CFG_PORT_REGION = 0 && f ESC_ST_CFG_REQUIRE_ALL = 0 && f ESC_ST_CFG_FACE_MASK = 0
      && f ESC_ST_MODEL_MODEL = 0 && f ESC_ST_MODEL_ARRIVE_SYNC = 0 && f ESC_ST_TH_PROMOTE_TH = 0
      && f ESC_ST_TH_KEEP_TH = 0 && f ESC_ST_TIME_DEMOTE_MS = 0 && regs.isEmpty
  else
    f ESC_ST_CFG_PORT = 0 && f ESC_ST_CFG_LSLOT = 0 && regs.all (fun r => depthOf r == snum - 2)
      && (snum = 2 || f ESC_ST_CFG_PORT_REGION = 0) && (3 ≤ snum || f ESC_ST_MODEL_ARRIVE_SYNC = 0)
      && (if f ESC_ST_CFG_PORT_REGION = 1 then regs.isEmpty else !regs.isEmpty)
      && toSigned 16 (f ESC_ST_TH_KEEP_TH) ≤ toSigned 16 (f ESC_ST_TH_PROMOTE_TH) && 1 ≤ f ESC_ST_TIME_DEMOTE_MS)

/-- The descriptors of a chain. -/
def chainDescs (s : State) (c : Nat) : List Nat :=
  (List.range (chainLen s c)).map (· + chCfg s c ESC_CH_CFG_FIRST)

/-- A chain's configuration is valid (R363). -/
def chainValid (s : State) (c : Nat) : Bool :=
  let len := chainLen s c
  let st (pos : Nat) (f : Fld) : Nat := stCfg s c pos f
  2 ≤ len && len ≤ 8 && chCfg s c ESC_CH_CFG_FIRST + len ≤ 64 && (chainDescs s c).all (descOk s)
    && st 0 ESC_ST_CFG_SNUM = 0 && st 1 ESC_ST_CFG_SNUM = 1
    && st 0 ESC_ST_CFG_PORT = st 1 ESC_ST_CFG_PORT && st 0 ESC_ST_CFG_LSLOT = st 1 ESC_ST_CFG_LSLOT
    && (List.range len).all (fun pos => pos < 2 ||
      (2 ≤ st pos ESC_ST_CFG_SNUM && (pos = 2 || st pos ESC_ST_CFG_SNUM = st (pos - 1) ESC_ST_CFG_SNUM
        || st pos ESC_ST_CFG_SNUM = st (pos - 1) ESC_ST_CFG_SNUM + 1)
        && (pos != 2 || st 2 ESC_ST_CFG_SNUM = 2)))
    && (List.range 16).all (fun d => d = c || chCfg s d ESC_CH_CFG_EN = 0
      || (chainDescs s c).all (fun n => !(chainDescs s d).contains n))

/-- An enabled chain with a valid configuration. -/
def chainOk (s : State) (c : Nat) : Bool := escOn s && chCfg s c ESC_CH_CFG_EN = 1 && !(s.chain c).config

/-- Demote every stage at position 2 or deeper and leave the chain at depth 0. -/
def chainOff (s : State) (c : Nat) : State := (demoteTo s c 2 8).updChain c (fun x => { x with depth := 0, count := 0 })

/-- A commit or load has changed the configuration: enabled chains are judged (R364). -/
def judgeChain (s : State) (c : Nat) : State :=
  if chCfg s c ESC_CH_CFG_EN = 0 then
    let s := if (s.chain c).depth = 0 then s else chainOff s c
    s.updChain c (fun x => { x with config := false })
  else if chainValid s c then s.updChain c (fun x => { x with config := false })
  else
    let s := if (s.chain c).depth = 0 then s else chainOff s c
    let s := s.updChain c (fun x => { x with config := true })
    raise (recordErr s escPg 0x40 .block 5 c) escPg 4

def judgeChains (s : State) : State := (List.range 16).foldl judgeChain s

/-- The commit changes EN, LEN or FIRST of a chain in a way that ends its stages (R412). -/
def chainMoves (s : State) (c : Nat) : Bool :=
  getShadow s escPg (ESC_CH_CFG_EN.ix c) == 0 ||
    [ESC_CH_CFG_LEN, ESC_CH_CFG_FIRST].any (fun f => getShadow s escPg (f.ix c) != getF s escPg (f.ix c))

/-- A commit of the controller's page. -/
def escCommit (s : State) : State :=
  let s := (List.range 16).foldl (fun s c => if chainMoves s c then demoteTo s c 2 8 else s) s
  judgeChains (commitPage s escPg)

/-! ## Promotion (R382, R410, R415 to R419) -/

/-- A region is available to a promotion (R415). -/
def regionAvailable (s : State) (r : Nat) : Bool :=
  let e := (s.entry r).state
  present r && e == .healthy && !(s.region r).hold && !(s.region r).lockout &&
    ((s.region r).power == .run || (s.region r).power == .waking ||
      (mayWake s && startable s r && (joinPath s r).isSome))

/-- A face is available to a promotion (R416). -/
def faceAvailable (s : State) (g : Nat) : Bool :=
  regionAvailable s (faceRegion g) && backed s g && !(s.faceAt g).dead && !inCut s g && !inActiveStage s g

/-- Promote a chain to a position, with the zero event of its latency: the available face set is determined and the regions are started, or the promotion is
blocked (R382 steps 1 and 2, R418, R419). -/
def promoteTo (s : State) (c pos flags score source zeroAt : Nat) : State :=
  let all := stageFaces s c pos
  let ok := all.filter (faceAvailable s)
  if ok.isEmpty || (stCfg s c pos ESC_ST_CFG_REQUIRE_ALL = 1 && ok.length < all.length) then
    raise (s.updChain c (fun x => { x with blocked := true, count := 0 })) escPg 2
  else
    let short := ok.length < all.length
    let run : StageRun := {
      faces := ok, regions := stageRegions s c pos, snum := stSnum s c pos
      model := stCfg s c pos ESC_ST_MODEL_MODEL, grant := stCfg s c pos ESC_ST_MODEL_GRANT_SYNC
      arrive := stCfg s c pos ESC_ST_MODEL_ARRIVE_SYNC, left := [] }
    let p : Promo := {
      pos := pos, woken := [], acked := [], flags := flags + (if short then 8 else 0), score := score, source := source
      number := (getF s escPg (ESC_CH_STATUS_PROMOTIONS.ix c) + 1) % 65536, at_ := s.time, zero := zeroAt }
    let s := s.updChain c (fun x => { x with
      depth := pos, count := 0, blocked := false, sets := tput x.sets pos run
      degraded := if short then setIns pos x.degraded else setDel pos x.degraded
      promos := x.promos ++ [p] })
    let s := addF s escPg (ESC_CH_STATUS_PROMOTIONS.ix c) 1
    let s := raise s escPg 0
    let s := if short then raise s escPg 3 else s
    let s := startTimer s c
    let s := ((ok.map faceRegion).eraseDups).foldl (fun s r =>
      let x := startRegion s r 1 true
      if x.2 then x.1 else wakeLost x.1 r) s
    progressChain s c

/-! ## Listener messages (R366 to R369, R406, R423) -/

/-- The chain slot that position 1 names is the message's. -/
def namesSlot (s : State) (m : ListenerMsg) : Bool :=
  stCfg s m.chain 1 ESC_ST_CFG_PORT == m.port && stCfg s m.chain 1 ESC_ST_CFG_LSLOT == m.lslot

/-- The message changes no chain (R369). -/
def staleMsg (s : State) (m : ListenerMsg) : Bool :=
  !chainOk s m.chain || ((s.chain m.chain).depth ≤ 1 && !namesSlot s m)

/-- A stale message counts; a TRIGGER or REFRESH is answered with DEMOTED. -/
def staleAnswer (s : State) (m : ListenerMsg) : State :=
  let s := if m.kind == .trigger || m.kind == .refresh then post s (.demoted m.port m.lslot) else s
  raise (addF s escPg ESC_VERDICT_COUNT_STALE 1) escPg 5

/-- R368: the message restarts the timer of position 2, and its chain slot is told of the demotion to come (R406). -/
def refreshChain (s : State) (m : ListenerMsg) : State :=
  let c := m.chain
  let s := if (s.chain c).depth = 2 then startTimer s c else s
  if namesSlot s m then s
  else s.updChain c (fun x => { x with others := setIns (m.port * 4 + m.lslot) x.others })

/-- Promote to position 2 for a TRIGGER. -/
def triggerChain (s : State) (m : ListenerMsg) (restart : Bool) : State :=
  let c := m.chain
  let s := s.updChain c (fun x => { x with
    port := m.port, portValid := true, trig := ⟨m.port, m.lslot, m.frame, m.fired⟩ })
  let s := promoteTo s c 2 (m.manual.toNat + m.fallback.toNat * 2 + restart.toNat * 4) (ofSigned 16 (toSigned 8 m.score))
    0xFFFF m.sent
  if (s.chain c).depth < 2 then s.updChain c (fun x => { x with portValid := false }) else s

/-- Handle a listener message. -/
def takeListener (s : State) (m : ListenerMsg) : State :=
  let s := post s (.ack m)
  let x := s.chain m.chain
  if staleMsg s m then staleAnswer s m
  else match m.kind with
    | .aFire => if x.depth = 0 then s.updChain m.chain (fun x => { x with depth := 1 }) else s
    | .demoted => if x.depth = 1 then s.updChain m.chain (fun x => { x with depth := 0 }) else s
    | .refresh => if 2 ≤ x.depth then refreshChain s m else s
    | .trigger =>
      if 2 ≤ x.depth then refreshChain s m
      else if phase s = PHASE_READY then triggerChain s m false
      else
        let s := s.updChain m.chain (fun x => { x with pendingFlag := true })
        raise (s.updEsc (fun e => { e with pend := e.pend ++ [⟨m.chain, m, false⟩] })) escPg 9

/-- The oldest message of a kind from a listener chain slot. -/
def listenerMsg (k : MsgKind) (p lslot : Nat) (m : RingMsg) : Bool :=
  match m with
  | .listener m => m.kind == k && m.port == p && m.lslot == lslot
  | _ => false

/-- Take a listener message off the ring and handle it. -/
def recvListener (k : MsgKind) (p lslot : Nat) (s : State) : Host.Outcome State Fault Refusal :=
  let x := takeMsg (listenerMsg k p lslot) s.ring
  match x.1 with
  | some (.listener m) => guardDo (s.carrier.vaon == .up) (fun s => takeListener { s with ring := x.2 } m) s
  | _ => done s

def execAFire (p lslot : Nat) (s : State) : Host.Outcome State Fault Refusal := recvListener .aFire p lslot s
def execTrigger (p lslot : Nat) (s : State) : Host.Outcome State Fault Refusal := recvListener .trigger p lslot s
def execRefresh (p lslot : Nat) (s : State) : Host.Outcome State Fault Refusal := recvListener .refresh p lslot s
def execDemoted (p lslot : Nat) (s : State) : Host.Outcome State Fault Refusal := recvListener .demoted p lslot s

/-- At READY the pending promotions are acted on in order of arrival (R423, R424). -/
def actOnPending (s : State) : State :=
  let ps := s.esc.pend
  let s := s.updEsc (fun e => { e with pend := [] })
  ps.foldl (fun s p =>
    let s := s.updChain p.chain (fun x => { x with pendingFlag := false })
    if staleMsg s p.msg then staleAnswer s p.msg
    else if 2 ≤ (s.chain p.chain).depth then refreshChain s p.msg
    else triggerChain s p.msg p.restart) s

/-- At a warm start every chain at depth 2 or more goes to depth 1 with PENDING (R424). -/
def warmChains (s : State) : State :=
  (List.range 16).foldl (fun s c =>
    let x := s.chain c
    if x.depth < 2 then s
    else
      let t := x.trig
      let m : ListenerMsg := ⟨.trigger, t.port, t.lslot, c, false, false, t.frame, t.fired, 0, 2, s.time⟩
      let s := s.updChain c (fun x => { x with
        depth := 1, count := 0, sets := [], degraded := [], blocked := false, promos := [], timer := none
        pendingFlag := true })
      s.updEsc (fun e => { e with pend := e.pend ++ [⟨c, m, true⟩] })) s

/-! ## Verdicts (R370 to R376, R381, R408) -/

/-- An alarm goes to the field outputs: ALARM (bit 6) (R381, R394). -/
def sendAlarm (s : State) (c no score : Nat) : State := post (raise s escPg 6) (.alarm no c score)

/-- An accepted verdict takes effect. -/
def acceptVerdict (s : State) (g c pos v : Nat) : State :=
  let score := bits v 0 16
  let sc := toSigned 16 score
  let x := s.chain c
  let s := addF s escPg ESC_VERDICT_COUNT_ACCEPTED 1
  let s := setF s escPg (ESC_CH_LAST_SCORE.ix c) score
  let s := if pos = x.depth && toSigned 16 (stCfg s c pos ESC_ST_TH_KEEP_TH) ≤ sc then startTimer s c else s
  -- The previous deepest stage while the promotion out of it is in progress: the timer only (R408).
  if pos + 1 = x.depth && (promoAt s c x.depth).isSome then s
  else
    let s :=
      if pos != x.depth then s
      else
        let count := if toSigned 16 (stCfg s c pos ESC_ST_TH_PROMOTE_TH) ≤ sc then x.count + 1 else 0
        let s := s.updChain c (fun x => { x with count := min count 15 })
        if stCfg s c pos ESC_ST_TIME_P_COUNT ≤ count && pos + 1 < chainLen s c then promoteTo s c (pos + 1) 0 score g s.time
        else s
    let s := if bit v 27 then demoteTo s c pos 8 else s
    if bit v 23 then sendAlarm s c (bits v 24 3) score else s

/-- A verdict arrives (R371). -/
def takeVerdict (s : State) (g v : Nat) : State :=
  let c := bits v 16 4
  let pos := bits v 20 3
  if 2 ≤ pos && pos ≤ (s.chain c).depth && (activeSet s c pos).contains g then acceptVerdict s g c pos v
  else raise (addF s escPg ESC_VERDICT_COUNT_STALE 1) escPg 5

def execVerdict (g : Nat) (s : State) : Host.Outcome State Fault Refusal :=
  let x := takeMsg (fun m => match m with | .verdict h _ => h == g | _ => false) s.ring
  match x.1 with
  | some (.verdict _ v) => guardDo (s.carrier.vaon == .up) (fun s => takeVerdict { s with ring := x.2 } g v) s
  | _ => done s

/-- The demotion timer, as last restarted, has run out (R377, R407). -/
def timerOver (s : State) (c : Nat) : Bool :=
  match (s.chain c).timer with
  | some t => t.1 + t.2 * 24576 ≤ s.time
  | none => false

def execDemotionTimerExpiry (c : Nat) (s : State) : Host.Outcome State Fault Refusal :=
  guardDo (c < 16 && 2 ≤ (s.chain c).depth && timerOver s c) (fun s => demote s c) s

/-- A face acknowledges its wake message (R382 step 5). -/
def takeAck (s : State) (g c pos : Nat) : State :=
  let s := s.updChain c (fun x => { x with promos := x.promos.map (fun p =>
    if p.pos = pos && !p.acked.contains g then { p with acked := p.acked ++ [g] } else p) })
  progressChain s c

def execWakeAck (g : Nat) (s : State) : Host.Outcome State Fault Refusal :=
  let x := takeMsg (fun m => match m with | .wakeAck h _ _ => h == g | _ => false) s.ring
  match x.1 with
  | some (.wakeAck _ c pos) => guardDo (s.carrier.vaon == .up && ringFree s) (fun s => takeAck { s with ring := x.2 } g c pos) s
  | _ => done s

/-! ## Commands (R402) -/

/-- A PROMOTE_CMD is out of range. -/
def promoteRefused (s : State) (c : Nat) : Bool := !chainOk s c || (s.chain c).depth < 2 || chainLen s c ≤ (s.chain c).depth + 1
def demoteRefused (s : State) (c : Nat) : Bool := (s.chain c).depth < 2

/-- PROMOTE: as if a verdict qualified, with MANUAL set. -/
def promoteCmd (s : State) (c : Nat) : State := promoteTo s c ((s.chain c).depth + 1) 1 0 0xFFFF s.time

/-! ## The chain store (R398, R421, R422) -/

def chFlds : List Fld := [ESC_CH_CFG_EN, ESC_CH_CFG_LEN, ESC_CH_CFG_FIRST]

/-- Fields of the eight words of a stage descriptor. -/
def stFlds : List (List Fld) :=
  [[ESC_ST_CFG_SNUM, ESC_ST_CFG_PORT_REGION, ESC_ST_CFG_REQUIRE_ALL, ESC_ST_CFG_PORT, ESC_ST_CFG_LSLOT,
      ESC_ST_CFG_FACE_MASK],
   [ESC_ST_MODEL_MODEL, ESC_ST_MODEL_GRANT_SYNC, ESC_ST_MODEL_ARRIVE_SYNC],
   [ESC_ST_TH_PROMOTE_TH, ESC_ST_TH_KEEP_TH],
   [ESC_ST_TIME_DEMOTE_MS, ESC_ST_TIME_P_COUNT, ESC_ST_TIME_BUDGET],
   [ESC_ST_REGION_0], [ESC_ST_REGION_1], [ESC_ST_REGION_2], [ESC_ST_REGION_3]]

/-- The word a list of fields makes. -/
def wordOf (s : State) (ref i : Nat) (fs : List Fld) : Nat :=
  (fs.map (fun f => getF s ref (f.ix i) * 2 ^ f.lo)).foldl (· + ·) 0

/-- Load a word into fields. -/
def loadWord (s : State) (ref i : Nat) (fs : List Fld) (v : Nat) : State :=
  fs.foldl (fun s f => setF s ref (f.ix i) (bits v f.lo f.w)) s

/-- Bytes 0x000 to 0x863 of a record (Table 7-7). -/
def ChainRec.body (r : ChainRec) : List Nat :=
  leBytes 4 0x45534354 ++ leBytes 2 1 ++ leBytes 2 32 ++ leBytes 8 r.seq ++ leBytes 4 2116 ++ List.replicate 12 0
    ++ leBytes 4 r.en.toNat ++ (List.range 16).flatMap (fun c => leBytes 4 (r.cfg.getD c 0))
    ++ (List.range 512).flatMap (fun i => leBytes 4 (r.stages.getD i 0))

/-- COMMIT: the complement of the low word of SEQUENCE. -/
def ChainRec.commitWord (r : ChainRec) : Nat := 2 ^ 32 - 1 - r.seq % 2 ^ 32

/-- A copy is valid (R107, R398). -/
def ChainStore.valid (c : ChainStore) : Bool :=
  c.magic == 0x45534354 && c.format == 1 && c.headerLen == 32 && c.bodyLen == 2116 && c.crc == crc32 c.record.body
    && c.commit == c.record.commitWord

/-- A copy written whole (R109). -/
def ChainStore.written (r : ChainRec) : ChainStore := ⟨0x45534354, 1, 32, 2116, r, crc32 r.body, r.commitWord⟩

/-- A copy whose writing has begun: COMMIT is zero, and it is not valid until it is written whole (R109). -/
def ChainStore.torn (c : ChainStore) : ChainStore := { c with magic := 0, commit := 0 }

/-- The valid copy with the higher SEQUENCE, copy A on a tie, and whether it is copy B (R422). -/
def selectStore (e : EscSt) : Option (ChainRec × Bool) :=
  let a := e.storeA
  let b := e.storeB
  if a.valid && !(b.valid && a.record.seq < b.record.seq) then some (a.record, false)
  else if b.valid then some (b.record, true) else none

/-- STORE_CMD.SAVE: the active configuration is to be written into the other copy. -/
def storeSave (s : State) : State :=
  if s.esc.saving.isSome then s
  else
    let seq := match selectStore s.esc with
      | some x => x.1.seq + 1
      | none => 1
    let r : ChainRec := {
      seq := seq, en := flagF s escPg CTRL_EN
      cfg := (List.range 16).map (fun c => wordOf s escPg c chFlds)
      stages := (List.range 64).flatMap (fun n => stFlds.map (wordOf s escPg n)) }
    let toB := match selectStore s.esc with
      | some x => !x.2
      | none => false
    let s := setF s escPg ESC_STORE_CMD_BUSY 1
    s.updEsc (fun e =>
      if toB then { e with saving := some (r, 1), storeSelB := true, storeB := e.storeB.torn }
      else { e with saving := some (r, 1), storeSelB := false, storeA := e.storeA.torn })

/-- A write of the chain store and its readback end. -/
def storeEnds (s : State) (r : ChainRec) (n : Nat) (ok : Bool) : State :=
  if ok then
    let s := s.updEsc (fun e =>
      if e.storeSelB then { e with saving := none, storeB := .written r }
      else { e with saving := none, storeA := .written r })
    let s := setF s escPg ESC_STORE_CMD_BUSY 0
    let s := setF s escPg ESC_STORE_CMD_STORE_FAULT 0
    raise (setF s escPg ESC_STORE_SEQ_SEQ r.seq) escPg 8
  else if n < 2 then s.updEsc (fun e => { e with saving := some (r, n + 1) })
  else
    let s := s.updEsc (fun e => { e with saving := none })
    let s := setF s escPg ESC_STORE_CMD_BUSY 0
    recordErr (setF s escPg ESC_STORE_CMD_STORE_FAULT 1) escPg 0x41 .block 15 0

def execStoreDone (readbackOk : Bool) (s : State) : Host.Outcome State Fault Refusal :=
  match s.esc.saving with
  | some (r, n) => guardDo (s.carrier.vaon == .up) (fun s => storeEnds s r n readbackOk) s
  | none => done s

/-- CHAIN_STORE_LOAD (R422). -/
def chainStoreLoad (s : State) : State :=
  match selectStore s.esc with
  | none => s
  | some (r, _) =>
    let s := (List.range 16).foldl (fun s c => loadWord s escPg c chFlds (r.cfg.getD c 0)) s
    let s := (List.range 64).foldl (fun s n =>
      (stFlds.zipIdx).foldl (fun s x => loadWord s escPg n x.1 (r.stages.getD (8 * n + x.2) 0)) s) s
    let s := putFlag (putFlag s escPg CTRL_EN r.en) escPg STATUS_ENABLED r.en
    let s := setF s escPg ESC_STORE_CMD_LOADED 1
    judgeChains (setF s escPg ESC_STORE_SEQ_SEQ r.seq)

/-- A soft reset (R425): stages demoted, listeners told, the chains forgotten (the page itself is reset by R212). -/
def escReset (s : State) : State :=
  let s := (List.range 16).foldl (fun s c => demoteTo s c 2 8) s
  s.updEsc (fun e => { e with chains := [], pend := [] })

end Sys2Proof.Machine
end

