-- ==== Sys2Proof/Machine/Jobs.lean ====
section
/-! DEFINITION. Machine/Jobs.lean: the life of a job (14_host_port_jobs.md): submission (R792 to R796), the descriptor
(R797 to R799), admission and its images (R800 to R803), retirement (R807 to R810), respawn (R1004 to R1006), and JOBQ's
commands (R806, R811, R821, R830). -/

namespace Sys2Proof.Machine

open Sys2Proof

/-! ## BAR2 registers of a queue (Table 14-3) -/

def SUBMIT_LO : Fld := ⟨0, 0, 32, 0, 0⟩
def SUBMIT_RESULT : Fld := ⟨8, 0, 3, 0, 0⟩
def SUBMIT_SEQ : Fld := ⟨8, 16, 16, 0, 0⟩
def CQ_HEAD : Fld := ⟨0x10, 0, 16, 0, 0⟩
def CQ_TAIL : Fld := ⟨0x14, 0, 16, 0, 0⟩

/-- A field of QCFG of a queue. -/
def qCfg (s : State) (q : Nat) (f : Fld) : Nat := getF s jobqPg (f.ix q)

/-- Submissions accepted and not fetched. -/
def pendOf (s : State) (q : Nat) : List Nat := tget [] s.host.pend q
def setPend (s : State) (q : Nat) (l : List Nat) : State := s.updHost (fun h => { h with pend := tset [] h.pend q l })

/-- A queue's jobs in the table. -/
def queueLive (s : State) (q : Nat) : Nat := ((liveJobs s).filter (fun j => (s.job j).queue == q)).length

/-! ## Submission (R792, R793) -/

/-- RESULT of a submission: 1 ACCEPTED, 2 QUEUE_FULL, 3 QUEUE_DISABLED, 4 ADDRESS_INVALID. -/
def submitResult (s : State) (q a : Nat) : Nat :=
  if qCfg s q JOBQ_QCFG_EN = 0 then 3
  else if a % 64 ≠ 0 then 4
  else if (pendOf s q).length = qCfg s q JOBQ_QCFG_DEPTH then 2
  else 1

/-- A write of SUBMIT_HI. -/
def submit (s : State) (q hi : Nat) : State :=
  let a := getF s (bar2Pg q) SUBMIT_LO + hi % 2 ^ 32 * 2 ^ 32
  let res := submitResult s q a
  let s := addF (setF s (bar2Pg q) SUBMIT_RESULT res) (bar2Pg q) SUBMIT_SEQ 1
  if res = 1 then setPend s q (pendOf s q ++ [a]) else if res = 2 then raise s jobqPg 0 else s

/-! ## The descriptor (R797, R798) -/

/-- The offset of the first check that fails. -/
def firstFault : List (Nat × Bool) → Option Nat
  | [] => none
  | (o, ok) :: l => if ok then firstFault l else some o

/-- The checks of Table 14-4, by offset. -/
def descChecks (d : List Nat) : List (Nat × Bool) :=
  let n (off len : Nat) : Nat := hnum d off len
  let flags := n 6 2
  let cab := bit flags 2
  let resp := bit flags 0
  let listAddr (off count : Nat) : Bool := n off 8 % 64 == 0 && (count != 0 || n off 8 == 0)
  [(0x00, d.length == 128 && n 0 4 == 0x4A4F4244), (0x04, n 4 2 == 1), (0x06, flags < 16),
   (0x14, cab == (n 0x14 2 != 0)), (0x16, n 0x16 1 < 16 && (cab || n 0x16 1 == 0)),
   (0x18, n 0x18 8 % 64 == 0), (0x20, 1 ≤ n 0x20 2 && n 0x20 2 ≤ 1152), (0x22, n 0x22 2 ≤ 256),
   (0x24, n 0x24 2 ≤ 256), (0x26, n 0x26 2 ≤ 64), (0x28, 1 ≤ n 0x28 2 && n 0x28 2 ≤ 256), (0x2A, n 0x2A 6 == 0),
   (0x30, listAddr 0x30 (n 0x22 2)), (0x38, listAddr 0x38 (n 0x24 2)), (0x40, listAddr 0x40 (n 0x26 2)),
   (0x48, listAddr 0x48 (n 0x28 2)), (0x50, n 0x50 8 % 64 == 0), (0x58, !resp || present (n 0x58 1)),
   (0x59, n 0x59 3 == 0), (0x5C, n 0x5C 4 % 8192 == 0 && (resp || n 0x5C 4 == 0)), (0x60, n 0x60 28 == 0),
   (0x7C, n 0x7C 4 == crc32 (d.take 0x7C))]

def parseCut (bs : List Nat) (i : Nat) : CutEnt := ⟨hnum bs (8 * i) 2 % 4096, hnum bs (8 * i + 2) 2, hnum bs (8 * i + 4) 4⟩

/-- An image (`size` 64) or output (`size` 16) entry. -/
def parseRange (bs : List Nat) (size i : Nat) : RangeEnt :=
  let o := size * i
  let w := hnum bs (o + 8) 4
  ⟨hnum bs o 8, w % 128, bit w 7, w / 256 * 64, hnum bs (o + 0xC) 4, if size = 64 then hnum bs (o + 0x10) 48 else 0⟩

def parseSync (bs : List Nat) (i : Nat) : SyncEnt :=
  let w := hnum bs (8 * i) 4
  ⟨w % 128, bits w 8 8, bits w 16 9, bits w 25 3, hnum bs (8 * i + 4) 2⟩

def parseClaim (bs : List Nat) (i : Nat) : ClaimEnt := ⟨(List.range 8).map (fun k => hnum bs (32 * i + 4 * k) 4)⟩

/-- The checks of a cut entry. -/
def cutChecks (bs : List Nat) (cut : List CutEnt) (i : Nat) : List (Nat × Bool) :=
  let c := cut.getD i ⟨0, 0, 0⟩
  [(8 * i, hnum bs (8 * i) 2 < 4096 && !(cut.take i).any (·.face == c.face)), (8 * i + 4, c.ctx % 512 == 0)]

/-- The checks of an image or output entry. -/
def rangeChecks (size : Nat) (ms : List RangeEnt) (i : Nat) : List (Nat × Bool) :=
  let m := ms.getD i ⟨0, 0, false, 0, 0, 0⟩
  let o := size * i
  [(o, m.hostAddr % 4 == 0),
   (o + 8, present m.region && (size == 64 || !m.check) && m.bedAddr + m.len ≤ bedCapacity m.region),
   (o + 0xC, m.len % 4 == 0 && 4 ≤ m.len && m.len ≤ 0x10000000)]

/-- The checks of a sync entry. -/
def syncChecks (bs : List Nat) (es : List SyncEnt) (i : Nat) : List (Nat × Bool) :=
  let e := es.getD i ⟨0, 0, 0, 0, 0⟩
  let meets (d : SyncEnt) : Bool := d.region == e.region && e.first < d.first + d.count && d.first < e.first + e.count
  [(8 * i, present e.region && !bit (hnum bs (8 * i) 4) 7 && !(es.take i).any meets),
   (8 * i + 2, 1 ≤ e.count && e.count ≤ 256 && e.first + e.count ≤ 256),
   (8 * i + 3, 1 ≤ e.kind && e.kind ≤ 4 && hnum bs (8 * i) 4 < 2 ^ 28),
   (8 * i + 4, (e.kind == 4) == (e.parties != 0)), (8 * i + 6, hnum bs (8 * i + 6) 2 == 0)]

/-- The job a descriptor and its lists describe. -/
def parseJob (r : DescRead) (queue addr order now : Nat) : JobSt :=
  let d := r.desc
  let n (off len : Nat) : Nat := hnum d off len
  let list (i : Nat) : List Nat := r.lists.getD i []
  { JobSt.reset with
    state := .waiting, queue := queue, desc := addr, user := n 8 8, flags := n 6 2, waitMs := n 0x10 4, tag := n 0x14 2
    rank := n 0x16 1, maxRespawns := n 0x17 1
    cut := (List.range (n 0x20 2)).map (parseCut (list 0)), images := (List.range (n 0x22 2)).map (parseRange (list 1) 64)
    outs := (List.range (n 0x24 2)).map (parseRange (list 2) 16), syncs := (List.range (n 0x26 2)).map (parseSync (list 3))
    claims := (List.range (n 0x28 2)).map (parseClaim (list 4)), keyAddr := n 0x50 8, keyBlock := r.key.map (· % 256)
    ckptRegion := n 0x58 1, ckptBase := n 0x5C 4, waitSince := now, order := order }

/-- The first fault of the descriptor and its lists, in their order (R798). -/
def jobFault (r : DescRead) (x : JobSt) : Option Nat :=
  let list (i : Nat) : List Nat := r.lists.getD i []
  let all (n : Nat) (f : Nat → List (Nat × Bool)) : Option Nat := firstFault ((List.range n).flatMap f)
  match firstFault (descChecks r.desc) with
  | some o => some o
  | none =>
    (all x.cut.length (cutChecks (list 0) x.cut)).orElse fun _ =>
    (all x.images.length (rangeChecks 64 x.images)).orElse fun _ =>
    (all x.outs.length (rangeChecks 16 x.outs)).orElse fun _ => all x.syncs.length (syncChecks (list 3) x.syncs)

/-! ## Fetch (R796, R799, R825) -/

/-- A read of host memory failed (R825): HOST_DMA, DMA_ERR (bit 2). -/
def hostDma (s : State) (a : Nat) : State :=
  raise (recordErr (addF s hostPg HOST_DMA_ERRORS_COUNT 1) hostPg 0x40 .block 5 a) hostPg 2

/-- The queue to fetch from: the highest PRIO with entries pending, queues of equal PRIO in turn. -/
def fetchQueue (s : State) : Option Nat :=
  [3, 2, 1, 0].findSome? (fun p =>
    let last := match tfind s.host.lastQueue p with
      | some q => q + 1
      | none => 0
    ((List.range 64).map (fun i => (last + i) % 64)).find? (fun q =>
      !(pendOf s q).isEmpty && qCfg s q JOBQ_QCFG_PRIO == p))

/-- The lowest free job number. -/
def freeJob (s : State) : Option Nat := (List.range 1024).find? (fun j => (s.job j).state == .free)

/-- Fetch and admission take place (R796, R829). -/
def jobsOn (s : State) : Bool :=
  flagF s jobqPg CTRL_EN && s.host.linkUp && getF s bringupPg BRINGUP_PHASE == PHASE_READY && !s.host.srstWait

/-- The first cut face that R799 names. -/
def cutInvalid (s : State) (x : JobSt) : Option Nat :=
  (x.cut.find? (fun c =>
    let e := (s.entry (faceRegion c.face)).state
    !faceAssigned c.face || e == .failed || e == .isolated || e == .stranded || !backed s c.face)).map (·.face)

/-- A job enters the table. -/
def putJob (s : State) (j : Nat) (x : JobSt) : State :=
  s.updHost (fun h => { h with jobs := tset JobSt.reset h.jobs j x, nextOrder := h.nextOrder + 1 })

/-- The host address of a read of the fetch. -/
def fetchAddr (d : List Nat) (addr i : Nat) : Nat :=
  match i with
  | 0 => addr
  | 1 => hnum d 0x18 8
  | 2 => hnum d 0x30 8
  | 3 => hnum d 0x38 8
  | 4 => hnum d 0x40 8
  | 5 => hnum d 0x48 8
  | _ => hnum d 0x50 8

/-- A descriptor has been read: the job waits, or ends at once. Without a descriptor its USER is unknown. -/
def fetched (s : State) (q addr j : Nat) (d : DescRead) : State :=
  let x := parseJob d q addr s.host.nextOrder s.time
  match d.fail with
  | some 0 =>
    let y := s.fresh
    let s := putJob y.1 j { JobSt.reset with state := .waiting, queue := q, desc := addr, user := y.2 % 2 ^ 64, order := x.order }
    jobStop (hostDma s addr) j 0x07 (Config.dmaDetail 0 % 65536) 0xFFFF
  | some i =>
    jobStop (hostDma (putJob s j x) (fetchAddr d.desc addr i)) j 0x07 (Config.dmaDetail i % 65536) 0xFFFF
  | none =>
    match jobFault d x with
    | some o => jobStop (putJob s j { x with cut := [] }) j 0x01 (o % 65536) 0xFFFF
    | none =>
      match cutInvalid s x with
      | some g => jobStop (putJob s j x) j 0x02 0 g
      | none => putJob s j x

def execDescriptorFetch (d : DescRead) (s : State) : Host.Outcome State Fault Refusal :=
  match fetchQueue s, freeJob s with
  | some q, some j => guardDo (jobsOn s) (fun s =>
      let l := pendOf s q
      let s := setPend s q (l.drop 1)
      let s := s.updHost (fun h => { h with lastQueue := tput h.lastQueue (qCfg s q JOBQ_QCFG_PRIO) q })
      fetched s q (l.headD 0) j d) s
  | _, _ => done s

/-! ## Admission (R800 to R803) -/

/-- Every cut face is IDLE, without owner and available (R416). -/
def cutFree (s : State) (x : JobSt) : Bool :=
  x.cut.all (fun c => (s.faceAt c.face).run == .idle && (s.faceAt c.face).owner == .none && faceAvailable s c.face)

/-- An earlier waiting job's cut shares a face. -/
def cutBehind (s : State) (j : Nat) : Bool :=
  (liveJobs s).any (fun i => (s.job i).state == .waiting && (s.job i).order < (s.job j).order
    && (s.job i).cut.any (fun c => (s.job j).cut.any (·.face == c.face)))

/-- An erase resumed at this start ends before any admission (R885, R886). -/
def eraseHolds (s : State) : Bool := match s.wb.erase with | some e => e.resumed && !e.cleared | none => false

def execAdmission (j : Nat) (s : State) : Host.Outcome State Fault Refusal :=
  guardDo ((s.job j).state == .waiting && jobsOn s) (fun s =>
    match cutInvalid s (s.job j) with
    | some g => jobStop s j 0x02 0 g
    | none => if cutFree s (s.job j) && !cutBehind s j && !eraseHolds s then admitBegin s j else s) s

def execAdmitTimeout (j : Nat) (s : State) : Host.Outcome State Fault Refusal :=
  guardDo ((s.job j).state == .waiting && (s.job j).waitMs != 0)
    (fun s => jobStop (raise s jobqPg 3) j 0x03 0 0xFFFF) s

/-- The copy of an image ends: bytes into the bed store, its digest, the next step (R802, R803, R825). -/
def imageCopied (s : State) (j : Nat) (m : RangeEnt) (data : List Nat) : State :=
  let bs := (List.range m.len).map (fun i => data.getD i 0 % 256)
  if !inRun s m.region then admitFail s j 0x09 (s.job j).item
  else
    let s := bedWrite s m.region .imageCopy m.bedAddr bs false true
    let digest := Config.sha384 bs
    if m.check && digest != m.digest then admitFail s j 0x06 (s.job j).item
    else admitGo (s.updJob j (fun x => { x with item := x.item + 1, imgDigests := x.imgDigests ++ [digest] })) j

def execImageCopy (j : Nat) (data : List Nat) (dmaFail : Bool) (s : State) : Host.Outcome State Fault Refusal :=
  match (s.job j).images[(s.job j).item]? with
  | some m => guardDo (admitAt s j 4) (fun s =>
      if dmaFail then admitFail (hostDma s m.hostAddr) j 0x07 (s.job j).item else imageCopied s j m data) s
  | none => done s

/-! ## Commands of the JOBQ page (R806, R821, R830) -/

/-- JOB_CMD. -/
def jobCmd (s : State) (v : Nat) : State := if bit v 12 then jobStop s (bits v 0 10) 0x16 0 0xFFFF else s

/-- USERs for `n` descriptors: those read, and free values where the command does not say what host memory holds. -/
def usersFor (s : State) : Nat → List Nat → State × List Nat
  | 0, _ => (s, [])
  | n + 1, [] => let f := s.fresh; let r := usersFor f.1 n []; (r.1, f.2 :: r.2)
  | n + 1, u :: us => let r := usersFor s n us; (r.1, u :: r.2)

/-- QUEUE_CMD: the pending submissions are completed with CANCELLED, their USERs read from their descriptors. -/
def queueCmd (s : State) (v : Nat) (users : List Nat) : State :=
  let q := bits v 0 6
  if !bit v 8 then s
  else
    let us := usersFor s (pendOf s q).length users
    let subs := us.2.map (fun u => (q, u % 2 ^ 64, 0x08, 0, 0xFFFF))
    (setPend us.1 q []).updHost (fun h => { h with doneSubs := h.doneSubs ++ subs })

/-- The job table is empty: a soft reset that waited ends, and PENDING reads 0 (R830). -/
def jobqResetEnds (s : State) : State :=
  if s.host.srstWait && (liveJobs s).isEmpty then
    (resetPage s jobqPg [EVT_EN .jobq, EVT_ROUTE]).updHost (fun h => { h with srstWait := false, pend := [] })
  else s

/-- A soft reset of JOBQ begins: every job receives HOST_STOP. -/
def jobqReset (s : State) : State :=
  let s := (liveJobs s).foldl (fun s j => jobStop s j 0x16 0 0xFFFF) (s.updHost (fun h => { h with srstWait := true }))
  jobqResetEnds s

/-! ## Head indices (R811) -/

/-- A head index written from `old` to `new` does not pass the tail. -/
def headFits (old new tail : Nat) : Bool := (new + 65536 - old) % 65536 ≤ (tail + 65536 - old) % 65536

/-- A write of a head index of a ring: ignored and recorded when it would pass the tail. -/
def headWrite (s : State) (ref off : Nat) (head tail : Fld) (v : Nat) : State :=
  if headFits (getF s ref head) (v % 65536) (getF s ref tail) then setF s ref head v
  else portErr s .bar2 0x11 ((ref - bar2Pg 0) * 0x1000 + off)

/-! ## Retirement (R774, R807, R808) -/

def execLinkJobEntryRemove (k j : Nat) (s : State) : Host.Outcome State Fault Refusal :=
  match (s.link k).tagOf j with
  | some tag => guardDo (k < 4 && (s.job j).state == .retiring && (s.job j).step == 4 && !linkHasFrames s k tag)
      (fun s => retireOn (linkDropJob s k j) j) s
  | none => done s

/-- One output range is copied; the Bool tells that it could be read, the second that it carried spoil. -/
def copyOut (s : State) (m : RangeEnt) : State × Bool × Bool :=
  if !inRun s m.region then (s, false, false)
  else
    let x := bedRead s m.region m.bedAddr m.len
    (hostWrite x.1 m.hostAddr x.2.1, true, x.2.2)

/-- The output ranges from number `i` on are copied. -/
def copyOuts (j : Nat) (dmaFail : Option Nat) : List RangeEnt → Nat → State → State
  | [], _, s => s
  | m :: ms, i, s =>
    let x := if dmaFail = some i then (hostDma s m.hostAddr, false, false) else copyOut s m
    copyOuts j dmaFail ms (i + 1) (x.1.updJob j (fun y => { y with
      partialOut := y.partialOut || !x.2.1, spoil := y.spoil || x.2.2 }))

def execOutputCopy (j : Nat) (errs : List (Nat × Nat × Nat)) (dmaFail : Option Nat) (s : State) :
    Host.Outcome State Fault Refusal :=
  guardDo ((s.job j).state == .retiring && (s.job j).step == 2 && s.host.linkUp) (fun s =>
    let s := errs.foldl (fun s e => ageLines s e.1 [(e.2.1, e.2.2)]) s
    let s := copyOuts j dmaFail (s.job j).outs 0 s
    retireOn (s.updJob j (fun x => { x with step := 3 })) j) s

/-- No access checked under an epoch older than EPOCH remains (R852). -/
def fenceClear (s : State) : Bool :=
  s.wb.fence.all (fun e => e.2 == 0) && s.road.packets.all (fun p => match p.body with
      | .sync _ => true
      | _ => p.epoch == getF s wbPg WB_EPOCH)
    && [0, 1, 2, 3].all (fun k =>
    let old (t : TxFrame) : Bool := t.frame.epoch != getF s wbPg WB_EPOCH % 65536
    !(s.link k).sent.any old && !(s.link k).tx.any old)

/-- The keys of a job whose link entries are gone are erased; its frame counters go with them (R843). -/
def eraseKeys (s : State) (j : Nat) : State :=
  let x := s.job j
  let s := x.claimLinks.foldl (fun s k => s.updLink k (fun l => { l with ctr := tdel l.ctr x.tag })) s
  s.updJob j (fun x => { x with step := 6 })

/-- The fence reads DRAINED: the retirements that wait for it go on (R807 step 5). -/
def fenceFrees (s : State) : State :=
  (liveJobs s).foldl (fun s j => if (s.job j).state = .retiring && (s.job j).step = 5 then eraseKeys s j else s) s

def execClaimFenceDrained (s : State) : Host.Outcome State Fault Refusal :=
  guardDo (!flagF s wbPg WB_CLAIM_FENCE_DRAINED && fenceClear s) (fun s =>
    let s := setF s wbPg WB_CLAIM_FENCE_DRAINED 1
    let s := setF s wbPg WB_CLAIM_FENCE_OLDEST (getF s wbPg WB_EPOCH)
    let s := setF s wbPg WB_FENCE_US_US (min (usOf (s.time - s.wb.changeAt)) 65535)
    fenceFrees (raise s wbPg 2)) s

/-- A completion record is written, CQ_TAIL advances and the vector is sent (R809). -/
def writeCompletion (s : State) (q : Nat) (bytes : Nat → List Nat) : State :=
  let tail := getF s (bar2Pg q) CQ_TAIL
  let size := qCfg s q JOBQ_QCFG_CQ_SIZE
  let s := hostWrite s (getF s jobqPg (JOBQ_CQ_BASE.ix q) + tail % 2 ^ size * 32) (bytes (ringPhase tail size))
  sendMsix (setF s (bar2Pg q) CQ_TAIL (tail + 1)) (qCfg s q JOBQ_QCFG_CQ_VECTOR)

/-- The completion ring is full (R810). -/
def ringFull (s : State) (q : Nat) : Bool :=
  2 ^ qCfg s q JOBQ_QCFG_CQ_SIZE ≤ (getF s (bar2Pg q) CQ_TAIL + 65536 - getF s (bar2Pg q) CQ_HEAD) % 65536

/-- The record of Table 14-6. -/
def completionBytes (s : State) (user j q flags status detail face respawns runUs : Nat) (phase : Nat) : List Nat :=
  leBytes 8 user ++ leBytes 2 j ++ [q, phase + flags] ++ leBytes 2 status ++ leBytes 2 detail ++ leBytes 2 face
    ++ [respawns, 0] ++ leBytes 4 runUs ++ leBytes 8 s.time

/-- The record of a job that retires. -/
def jobRecord (s : State) (j : Nat) : Nat → List Nat :=
  let x := s.job j
  let st := x.stop.getD ⟨0, 0, if x.respawned then x.lastLost else 0xFFFF⟩
  let flags := x.spoil.toNat * 2 + x.partialOut.toNat * 4 + x.respawned.toNat * 8
  let us := if x.ran then min (usOf (s.time - x.runSince)) (2 ^ 32 - 1) else 0
  completionBytes s x.user j x.queue flags st.status st.detail st.face x.respawns us

/-- The job's entry is freed (R807 step 7). -/
def freeEntry (s : State) (j : Nat) : State :=
  jobqResetEnds (heldStops (s.updHost (fun h => { h with jobs := tdel h.jobs j })) (s.job j).needs)

/-- The completion of a job in step 6, or (`j` beyond the table) of the oldest flushed submission of the queue. -/
def execCompletionWrite (q j : Nat) (s : State) : Host.Outcome State Fault Refusal :=
  if j < 1024 then
    guardDo ((s.job j).state == .retiring && (s.job j).step == 6 && (s.job j).queue == q) (fun s =>
      if (s.job j).silent then freeEntry s j
      else if ringFull s q then raise s jobqPg 1
      else freeEntry (writeCompletion s q (jobRecord s j)) j) s
  else
    match s.host.doneSubs.find? (fun d => d.1 == q) with
    | none => done s
    | some d => guardDo s.host.linkUp (fun s =>
        if ringFull s q then raise s jobqPg 1
        else
          let s := s.updHost (fun h => { h with doneSubs := dropFirst (· == d) h.doneSubs })
          writeCompletion s q (completionBytes s d.2.1 0xFFFF q 0 d.2.2.1 d.2.2.2.1 d.2.2.2.2 0 0)) s

/-! ## Respawn (R1004 to R1006, R1014) -/

/-- The job's sync objects return to their kinds and PARTIES with zero state, and the snapshots a checkpoint names are
restored; the Bool tells that every RESTORE was OK. -/
def respawnSyncs (s : State) (j slot : Nat) : State × Bool :=
  let m := (s.bed (s.job j).ckptRegion).bytes
  let es := (List.range (mnum m (slot + 6) 2)).map (fun e => slot + 0x20 + 16 * e)
  es.foldl (fun x e =>
    if bit (mbyte m (e + 1)) 0 then
      let r := mbyte m e
      let base := mnum m (e + 8) 4
      let y := snapRestoreFrom x.1 r j base
      (snapEnd y.2.2 r ⟨false, y.1, y.2.1, base⟩, x.2 && y.1 == 1)
    else x) (ownSyncs s j, true)

/-- The context of a cut face (R1001). -/
def ckptContext (s : State) (j slot g : Nat) : Nat :=
  let m := (s.bed (s.job j).ckptRegion).bytes
  match ((List.range (mnum m (slot + 6) 2)).map (fun e => slot + 0x20 + 16 * e)).find? (fun e =>
      mbyte m e == faceRegion g) with
  | some e => mnum m (e + 4) 4 + 512 * faceSlot g
  | none => 0

/-- Steps 2 to 5 of R1005. -/
def respawnJob (s : State) (j slot : Nat) : State :=
  let x := respawnSyncs s j slot
  if !x.2 then retireJob x.1 j
  else
    let s := (x.1.job j).sorted.foldl (fun s c =>
      post s (.start c.face j c.model (some (ckptContext s j slot c.face)))) x.1
    s.updJob j (fun x => { x with respawns := x.respawns + 1, respawned := true, stop := none, state := .running })

def execRespawn (j : Nat) (s : State) : Host.Outcome State Fault Refusal :=
  guardDo ((s.job j).state == .respawning && !(s.job j).cut.any (fun c => (s.faceAt c.face).scanning)) (fun s =>
    match respawns s j, ckptSelect s j with
    | true, some slot => respawnJob s j slot
    | _, _ => retireJob s j) s

end Sys2Proof.Machine
end

