-- ==== Sys2Proof/Machine/Faults.lean ====
section
/-! DEFINITION. Machine/Faults.lean: lost faces (R990 to R998, R1012 to R1018). -/

namespace Sys2Proof.Machine

open Sys2Proof

/-- Jobs that have reserved the face and have not retired. -/
def cutJobs (s : State) (g : Nat) : List Nat :=
  (liveJobs s).filter (fun j => (s.job j).state != .waiting && (s.job j).cut.any (·.face == g))

/-- A face is lost (R991, R992, R995): its slot is unbacked, its locks are ABANDONED, its waits leave, its owner learns
of it; the tag scan begins. -/
def loseFace (s : State) (g : Nat) : State :=
  let r := faceRegion g
  let s := s.updRegion r (fun x => { x with slots := x.slots.set (faceSlot g) (slotByte s g % 128) })
  let s := abandonLocks (dropWaits s g) g
  let s := s.updFace g (fun f => { f with
    dead := true, scanning := true, missed := 0, run := .idle, queue := [], loops := [], issued := [], start := none
    endPending := false })
  (cutJobs s g).foldl (fun s j => jobStop (s.updJob j (fun x => { x with lastLost := g })) j 0x11 0 g) (escFaceLost s g 3)

/-- A face that may be lost. -/
def faceLives (s : State) (g : Nat) : Bool := inRun s (faceRegion g) && backed s g && !(s.faceAt g).dead

/-- A poll of one face: the second missed in a row makes it lost. -/
def pollFace (silent : List Nat) (s : State) (g : Nat) : State :=
  if !faceLives s g then s
  else if silent.contains (faceSlot g) then
    if 1 ≤ (s.faceAt g).missed then loseFace s g else s.updFace g (fun f => { f with missed := f.missed + 1 })
  else s.updFace g (fun f => { f with missed := 0 })

def execLivenessPoll (r : Nat) (silent : List Nat) (s : State) : Host.Outcome State Fault Refusal :=
  guardDo (present r && inRun s r) (fun s => (facesOf r).foldl (pollFace silent) s) s

def execFaceLost (g : Nat) (s : State) : Host.Outcome State Fault Refusal :=
  guardDo (faceLives s g) (fun s => loseFace s g) s

/-- The HOME of a dirty line of a lost face: its OUT mark is cleared, its SPOIL bit set (R993). -/
def spoilHome (r line : Nat) (b : BedSt) : BedSt :=
  wearLine r line { b with marks := tset 0 b.marks line 0, spoil := tset false b.spoil line true }

/-- The face's queued OUT marks are written, and the HOMEs of its dirty lines spoiled. -/
def scanTags (g : Nat) (f : FaceSt) (b : BedSt) : BedSt :=
  let r := faceRegion g
  let b := { (b.outQueue.filter (·.face == g)).foldl (fun b o => writeMark r o b) b with
    outQueue := b.outQueue.filter (·.face != g) }
  f.dirtyLines.foldl (fun b l => spoilHome r (f.tag l).home b) b

/-- The slot presents its reset state; a spare that backs it takes the job of the lost face (R996, R997). -/
def replaceFace (s : State) (g : Nat) : State :=
  let phys := slotByte s g % 32
  let owner := match (s.faceAt g).owner with
    | .job j => if [JobState.retiring, .free].contains (s.job j).state then Owner.none else .job j
    | _ => .none
  let s := [facePg g, fctxPg g, hoistPg g, numPg g].foldl (fun s p => resetPage s p []) s
  let s := s.updFace g (fun f => { FaceSt.reset with nextId := f.nextId })
  let s := markBad s (faceRegion g) (2 ^ phys)
  if backed s g && owner != .none then
    let conf := match owner with
      | .job j => (s.job j).confidential
      | _ => false
    s.updFace g (fun f => { f with owner := owner, confidential := conf, ended := true })
  else s

/-- The tag scan ends (R993, R996 to R998). -/
def scanDone (s : State) (g : Nat) : State :=
  let f := s.faceAt g
  let s := s.updBed (faceRegion g) (scanTags g f)
  let s := replaceFace s g
  (liveJobs s).foldl jobCheckEnd s

/-- The scan of a lower slot of the region has not ended: spares are substituted in ascending slot order (R103, R1013). -/
def scanBehind (s : State) (g : Nat) : Bool := (facesOf (faceRegion g)).any (fun h => h < g && (s.faceAt h).scanning)

def execTagScanDone (g : Nat) (ok : Bool) (s : State) : Host.Outcome State Fault Refusal :=
  guardDo ((s.faceAt g).scanning && inRun s (faceRegion g) && !scanBehind s g)
    (fun s => if ok then scanDone s g else failRegion s (faceRegion g) .field 0) s

end Sys2Proof.Machine
end

