-- ==== Sys2Proof/Machine/Weigh.lean ====
section
/-! DEFINITION. Machine/Weigh.lean: the weighbridge (15_weighbridge.md): weigh tickets byte for byte (R858 to R861), the
mailbox (R870, R871, R878, R880, R883), the debug access port and the erase of Table 15-10 (R862 to R869, R881, R885). -/

namespace Sys2Proof.Machine

open Sys2Proof

/-! ## Tickets (R858 to R860) -/

/-- The digest number as its 48 bytes. -/
def digestBytes (n : Nat) : List Nat := leBytes 48 n

/-- Pad with zeros to a multiple of 16. -/
def pad16 (bs : List Nat) : List Nat := bs ++ List.replicate ((16 - bs.length % 16) % 16) 0

/-- A certificate of the present enrolment. -/
def certOf (s : State) (which : Nat) : List Nat := (Config.certificate which s.wb.enrolCount).map (· % 256)

/-- A signature with the nonce drawn as the `i`-th free value from now. -/
def signed (s : State) (key i : Nat) (bs : List Nat) : List Nat :=
  let sig := Config.signature key s.wb.enrolCount (Config.sha384 bs) (Config.free (s.freeCount + i))
  (List.range 96).map (fun k => sig.getD k 0 % 256)

/-- Firmware section. -/
def fwSection : List Nat :=
  (List.range 8).flatMap (fun i => [i, 0] ++ leBytes 2 (Config.fwVersion i) ++ leBytes 4 (Config.fwSvn i)
    ++ List.replicate 8 0 ++ digestBytes (Config.fwDigest i))

/-- Regions that hold a cut face, ascending. -/
def JobSt.cutRegions (x : JobSt) : List Nat := (x.cut.map (fun c => faceRegion c.face)).foldl (fun l r => setIns r l) []

/-- Models that the cut names in a region, ascending. -/
def JobSt.modelsIn (x : JobSt) (r : Nat) : List Nat :=
  ((x.cut.filter (fun c => faceRegion c.face == r)).map (·.model)).foldl (fun l m => setIns m l) []

/-- A model entry of the ticket; a model that the directory does not name has no extent, and its digest is open. -/
def modelSection (s : State) (r model : Nat) : List Nat :=
  let b := s.bed r
  match modelEntry b model with
  | none => [r, 0] ++ leBytes 2 model ++ List.replicate 12 0 ++ digestBytes (Config.free (s.freeCount + 1000))
  | some a =>
    let base := mnum b.bytes (a + 0xC) 4
    let len := mnum b.bytes (a + 0x10) 4
    let spoiled := (linesOf base len).any (fun l => lineSpoil b l || lineUE b l)
    [r, (modelConfidential b model).toNat + spoiled.toNat * 2] ++ leBytes 2 model ++ leBytes 4 base ++ leBytes 4 len
      ++ leBytes 4 0 ++ digestBytes (Config.sha384 (mbytes b.bytes a 64 ++ mbytes b.bytes base len))

/-- A cut entry of the ticket. -/
def cutSection (s : State) (c : CutEnt) : List Nat :=
  leBytes 2 c.face ++ leBytes 2 c.model ++ [faceRegion c.face, slotByte s c.face % 32, (c.ctx != 0).toNat, 0]
    ++ leBytes 4 c.ctx ++ leBytes 4 0

/-- Image section. -/
def imageSection (x : JobSt) : List Nat :=
  (List.range x.images.length).flatMap (fun i =>
    let m := x.images.getD i ⟨0, 0, false, 0, 0, 0⟩
    [m.region, m.check.toNat, 0, 0] ++ leBytes 4 m.bedAddr ++ leBytes 4 m.len ++ leBytes 4 0
      ++ digestBytes (x.imgDigests.getD i 0))

/-- Link section. -/
def linkSection (s : State) (x : JobSt) : List Nat :=
  x.claimLinks.flatMap (fun k => [k] ++ List.replicate 7 0 ++ leBytes 8 (getF s (aditPg k) ADIT_PEER_ID))

/-- The region entries: certificate offset and length from `off` on, and the seal. -/
def regionSection (s : State) (signedOver : Nat → List Nat) : List Nat → Nat → Nat → List Nat
  | [], _, _ => []
  | r :: rs, i, off =>
    let c := (certOf s (0x100 + r)).length
    [r, 0, 0, 0] ++ leBytes 4 off ++ leBytes 4 c ++ leBytes 4 0 ++ signed s (0x100 + r) i (signedOver r)
      ++ regionSection s signedOver rs (i + 1) (off + c)

/-- What of a ticket depends on its kind: KIND and FLAGS, RANK, JOB and TAG, EPOCH. -/
structure TicketHead where
  kind : Nat
  flags : Nat
  rank : Nat
  job : Nat
  tag : Nat
  epoch : Nat
  deriving DecidableEq, Repr

/-- The ticket of a job (or, with an empty job, of the module), with its nonce. -/
def ticketBytes (s : State) (h : TicketHead) (x : JobSt) (nonce : List Nat) : List Nat :=
  let regions := x.cutRegions
  let models (r : Nat) : List Nat := (x.modelsIn r).flatMap (modelSection s r)
  let cuts (r : Nat) : List Nat := (x.sorted.filter (fun c => faceRegion c.face == r)).flatMap (cutSection s)
  let model := regions.flatMap models
  let cut := x.sorted.flatMap (cutSection s)
  let image := imageSection x
  let link := linkSection s x
  let cert := pad16 (certOf s 0 ++ certOf s 1 ++ regions.flatMap (fun r => certOf s (0x100 + r)))
  let fwOff := 0x100
  let regionOff := fwOff + 512
  let modelOff := regionOff + 112 * regions.length
  let cutOff := modelOff + model.length
  let imageOff := cutOff + cut.length
  let linkOff := imageOff + image.length
  let certOff := linkOff + link.length
  let sigOff := certOff + cert.length
  let header := leBytes 4 0x57544B54 ++ leBytes 2 1 ++ [h.kind, h.flags] ++ leBytes 4 (sigOff + 96) ++ leBytes 4 sigOff
    ++ leBytes 8 (Config.waferSerial % 2 ^ 56) ++ leBytes 4 s.map.committed.bootCount
    ++ [s.map.committed.orderCode % 256, h.rank] ++ leBytes 2 h.job
    ++ leBytes 2 h.tag ++ leBytes 2 8 ++ leBytes 2 regions.length ++ leBytes 2 (model.length / 64)
    ++ leBytes 2 x.cut.length ++ leBytes 2 x.images.length ++ leBytes 2 x.claimLinks.length ++ leBytes 2 0
    ++ leBytes 4 fwOff ++ leBytes 4 regionOff ++ leBytes 4 modelOff ++ leBytes 4 cutOff
    ++ leBytes 4 imageOff ++ leBytes 4 linkOff ++ leBytes 4 certOff ++ leBytes 4 cert.length
    ++ leBytes 8 s.time ++ leBytes 8 s.map.committed.seq ++ (List.range 32).map (fun i => nonce.getD i 0)
    ++ digestBytes (Config.sha384 s.map.committed.bytes) ++ leBytes 4 h.epoch ++ leBytes 4 s.wb.enrolCount
    ++ List.replicate 72 0
  let region := regionSection s (fun r => header ++ models r ++ cuts r) regions 1 (certOff + (certOf s 0 ++ certOf s 1).length)
  let body := header ++ fwSection ++ region ++ model ++ cut ++ image ++ link ++ cert
  body ++ signed s 1 0 body

/-- A job ticket and a module ticket. -/
def jobTicketBytes (s : State) (j : Nat) (nonce : List Nat) : List Nat :=
  let x := s.job j
  ticketBytes s ⟨1, x.confidential.toNat + x.cabinet.toNat * 2 + x.respawned.toNat * 4, x.rank, j, x.tag, x.epoch⟩ x nonce

def moduleTicketBytes (s : State) (nonce : List Nat) : List Nat :=
  ticketBytes s ⟨2, 0, 0, 0xFFFF, 0, 0⟩ JobSt.reset nonce

/-- The nonces that a ticket's signatures took are used up. -/
def useNonces (s : State) : State := { s with freeCount := s.freeCount + 1001 }

/-! ## Model digests (R859, R860, R879, R884) -/

/-- Regions and models whose digests a job's ticket needs. -/
def digestNeeds (s : State) (x : JobSt) : List (Nat × Nat) :=
  x.cutRegions.flatMap (fun r => ((x.modelsIn r).filter (fun m => (modelEntry (s.bed r) m).isSome)).map (fun m => (r, m)))

/-- The cache holds the digest of a model. -/
def digestCached (s : State) (r model : Nat) : Bool := (s.bed r).digests.any (·.1 == model)

/-- Every digest that a job's ticket needs is cached. -/
def digestsReady (s : State) (x : JobSt) : Bool := (digestNeeds s x).all (fun n => digestCached s n.1 n.2)

/-- Jobs whose admission waits for a ticket. -/
def ticketJobs (s : State) : List Nat := (liveJobs s).filter (fun j => admitAt s j 7)

/-- The job of a JOB_TICKET in progress without an outcome yet. -/
def mbTicketJob (s : State) : Option Nat :=
  match s.wb.mb with
  | some m => if m.op = 3 ∧ m.result = 0 then some (m.args.getD 0 0 % 1024) else none
  | none => none

/-- The outcome of the mailbox command in progress is found. -/
def mbOutcome (s : State) (result reason : Nat) : State :=
  s.updWb (fun w => { w with mb := w.mb.map (fun m => { m with result := result, reason := reason }) })

/-- A region's digest unit ends: the digest is cached; or the unit failed, and the tickets that need it are refused. -/
def digestDone (s : State) (r model : Nat) (ok : Bool) : State :=
  let asks (j : Nat) : Bool := (digestNeeds s (s.job j)).contains (r, model)
  if ok then
    match modelEntry (s.bed r) model with
    | some a => s.updBed r (fun b => { b with
        digests := b.digests.filter (·.1 != model) ++ [(model, mnum b.bytes (a + 0xC) 4, mnum b.bytes (a + 0x10) 4)] })
    | none => s
  else
    let mb := match mbTicketJob s with | some j => asks j | none => false
    let s := ((ticketJobs s).filter asks).foldl (fun s j => admitFail s j 0x05 10) s
    if mb then mbOutcome s 2 10 else s

def execModelDigestDone (r model : Nat) (ok : Bool) (s : State) : Host.Outcome State Fault Refusal :=
  let asks (j : Nat) : Bool := (digestNeeds s (s.job j)).contains (r, model)
  guardDo (inRun s r && !digestCached s r model && ((ticketJobs s).any asks || (mbTicketJob s).any asks))
    (fun s => digestDone s r model ok) s

/-! ## Tickets end (R861, R867, R880, R883) -/

/-- Why the module produces no ticket now; 0 when it does. -/
def ticketRefusal (s : State) : Nat :=
  if wbState s = 2 then 4 else if wbState s = 3 then 5 else if !s.wb.provisioned then 3 else 0

/-- Bytes into MB_DATA from an offset of the window on. -/
def putMbData (s : State) (bs : List Nat) : State :=
  let words := (List.range ((bs.length + 3) / 4)).map (fun i => leNum ((bs.drop (4 * i)).take 4))
  (List.range words.length).foldl (fun s i => setF s wbPg (WB_MB_DATA.ix i) (words.getD i 0)) s

/-- A job ticket of an admission. -/
def admitTicketDone (s : State) (j : Nat) : State :=
  let x := s.job j
  match ticketRefusal s with
  | 0 =>
    let t := jobTicketBytes s j x.ticketNonce
    let s := useNonces s
    if x.ticketLen < t.length then admitFail s j 0x05 6
    else admitGo (admitNext (raise (hostWrite s x.ticketAddr t) wbPg 1) j 8) j
  | why => admitFail s j 0x05 why

/-- A ticket of a mailbox command. -/
def mbTicketDone (s : State) (m : MbCmd) : State :=
  let j := m.args.getD 0 0 % 1024
  let t := if m.op = 2 then moduleTicketBytes s m.nonce else jobTicketBytes s j m.nonce
  let inHost := m.op == 3 || m.addr != 0
  match ticketRefusal s with
  | 0 =>
    if m.op = 3 && (s.job j).state != .running then mbOutcome s 2 8
    else if (if inHost then m.args.getD 2 0 < t.length else 3840 < t.length) then mbOutcome (useNonces s) 2 6
    else
      let s := useNonces s
      let s := if inHost then hostWrite s m.addr t else setF (putMbData s t) wbPg WB_MB_STATUS_LEN t.length
      mbOutcome (raise s wbPg 1) 1 0
  | why => mbOutcome s 2 why

def execTicketDone (job : Option Nat) (s : State) : Host.Outcome State Fault Refusal :=
  match job, s.wb.mb with
  | some j, _ => guardDo (admitAt s j 7 && digestsReady s (s.job j)) (fun s => admitTicketDone s j) s
  | none, some m =>
    guardDo ((m.op == 2 || m.op == 3) && m.result == 0
        && (m.op == 2 || digestsReady s (s.job (m.args.getD 0 0 % 1024)))) (fun s => mbTicketDone s m) s
  | none, none => done s

/-! ## The erase of Table 15-10 -/

/-- Jobs ADMITTING through RETIRING (R847). -/
def anyLive (s : State) : Bool := (liveJobs s).any (fun j => (s.job j).state != .waiting)

/-- OPEN (R863, R864). -/
def openPort (s : State) : State :=
  if anyLive s || s.wb.erase.isSome || s.wb.dapOpen then
    raise (setF s dapPg DAP_DAP_STATE_REFUSED_LAST 1) dapPg 0
  else eraseBegin s true false

/-- The boundary-scan port takes an instruction (R862). -/
def setTap (s : State) (i : TapInstr) : State := s.updWb (fun w => { w with tap := { w.tap with instr := i } })

def execOpenDap (s : State) : Host.Outcome State Fault Refusal :=
  guardDo (s.carrier.vaon == .up) (fun s => openPort (setTap s .opening)) s

/-- The regions to be zeroed are in Run, or cannot be had. -/
def zeroReady (s : State) (e : EraseSt) : Bool :=
  !e.cleared && !e.zeroing.any (coming s) && (e.zeroing.isEmpty || s.carrier.vbus == .on) && (!e.resumed || getF s bringupPg BRINGUP_PHASE == PHASE_READY)

/-- Every partition line within reach is zero, the others are owed; the partition table is cleared. -/
def zeroParts (s : State) (e : EraseSt) : State :=
  let ps := s.wb.parts.map (·.2)
  let s := ps.foldl (fun s p => if inRun s p.region then zeroRange s p.region p.base p.len else owePart s p) s
  let s := setF s dapPg DAP_ERASE_DONE ((e.zeroing.filter (inRun s)).length)
  let s := s.updWb (fun w => { w with parts := [], erase := some { e with zeroing := [], cleared := true } })
  if ps.isEmpty then s else raise s wbPg 7

def execPartitionZeroDone (s : State) : Host.Outcome State Fault Refusal :=
  match s.wb.erase with
  | some e => guardDo (zeroReady s e) (fun s => zeroParts s e) s
  | none => done s

/-- The private keys are gone: unprovisioned, the port OPEN or CLOSED; ZEROISED (bit 4), OPENED (bit 2). -/
def eraseEnd (s : State) (e : EraseSt) : State :=
  let s := s.updWb (fun w => { w with
    erase := none, erasePending := false, pendingOpens := false, provisioned := false, dapOpen := e.opens
    opens := if e.opens then w.opens + 1 else w.opens })
  let s := setF s dapPg DAP_DAP_STATE_STATE (if e.opens then 2 else 0)
  let s := setF s dapPg DAP_DAP_STATE_OPENS s.wb.opens
  let s := raise s wbPg 4
  if e.opens then raise s dapPg 2 else s

def execEraseComplete (s : State) : Host.Outcome State Fault Refusal :=
  match s.wb.erase with
  | some e => guardDo e.cleared (fun s => eraseEnd s e) s
  | none => done s

/-- The tamper response (R869, Table 15-11): TAMPER (bit 5), every region in Run asked to stop with FORCE; then the
erase. -/
def tamperAct (s : State) : State :=
  let s := raise s wbPg 5
  let s := (runSet s).foldl (fun s r => requestStop s r true 14 false) s
  tamperGoesOn (s.updWb (fun w => { w with tamper := true }))

def execTamper (s : State) : Host.Outcome State Fault Refusal :=
  guardDo (s.carrier.vaon == .up) tamperAct s

/-- The start checks (R883, R885, R886). -/
def wbStart (s : State) (chk : StartCheck) : State :=
  let s := setF s wbPg WB_SELFTEST_FAILED chk.failedTests
  let s := s.updWb (fun w => { w with error := chk.failedTests % 65536 != 0 || !chk.storeOk, erase := none, mb := none, tamper := false })
  let s := setF s dapPg DAP_DAP_STATE_STATE (if s.wb.dapOpen then 2 else 0)
  let s := showOwed (setF s dapPg DAP_DAP_STATE_OPENS s.wb.opens)
  let s := if chk.failedTests % 65536 = 0 then s else raise (recordErr s wbPg 0x42 .island 5 (chk.failedTests % 65536)) wbPg 3
  let s := if chk.storeOk then s else raise (recordErr s wbPg 0x41 .island 15 0) wbPg 8
  let s := if s.wb.erasePending then eraseBegin s s.wb.pendingOpens true else s
  if chk.meshOk then s else tamperAct s

/-! ## The mailbox (Tables 15-12, 15-13) -/

def mbArg (s : State) (i : Nat) : Nat := getF s wbPg (WB_MB_ARG.ix i)

/-- `n` bytes of MB_DATA, from an offset in the page. -/
def mbData (s : State) (off n : Nat) : List Nat :=
  (List.range n).map (fun i =>
    getF s wbPg (WB_MB_DATA.ix ((off - 0x100 + i) / 4)) / 256 ^ ((off - 0x100 + i) % 4) % 256)

/-- Why a write of MB_CMD with GO is refused (R871, R878): busy, reserved OP, authority, confirmation. -/
def mbCodes (s : State) (op : Nat) (host : Bool) : List Nat :=
  (if getF s wbPg WB_MB_STATUS_BUSY = 1 then [0x40] else []) ++ (if op = 0 || 7 < op then [0x11] else [])
    ++ (if (op = 5 || op = 6) && host then [0x12] else [])
    ++ (if (op = 5 && mbArg s 1 ≠ 0x50415254) || (op = 6 && mbArg s 0 ≠ 0x5A45524F) then [0x11] else [])

/-- The partition a PART_DELETE names is claimed by a live job, whether its claims are installed yet or not (R847, R880). -/
def partClaimed (s : State) (p : Part) : Bool :=
  (liveJobs s).any (fun j => (s.job j).state != .waiting && (s.job j).claims.any (fun c => c.part && p.isRange c))

/-- RESULT and REASON that can be told when a command begins; RESULT 0 when it must do its work first. -/
def mbJudge (s : State) (op : Nat) (host : Bool) : Nat × Nat :=
  let a0 := mbArg s 0
  match op with
  | 1 => if a0 ≤ 1 || (0x100 ≤ a0 && present (a0 - 0x100)) then (0, 0) else (3, 0)
  | 2 =>
    if !host && (a0 != 0 || mbArg s 1 != 0) then (3, 0) else if ticketRefusal s != 0 then (2, ticketRefusal s) else (0, 0)
  | 3 =>
    if !host || 1024 ≤ a0 || mbArg s 1 != 0 || leNum (mbData s 0x120 8) % 64 != 0 then (3, 0)
    else if ticketRefusal s != 0 then (2, ticketRefusal s)
    else if (s.job a0).state != .running then (2, 8) else (0, 0)
  | 4 => if a0 < 64 then (0, 0) else (3, 0)
  | 5 =>
    match tfind s.wb.parts a0 with
    | none => (3, 0)
    | some p => if partClaimed s p then (2, 9) else (0, 0)
  | 6 => if anyLive s then (2, 9) else (0, 0)
  | _ => (0, 0)

/-- The work a command begins with. -/
def mbStart (s : State) (op : Nat) : State :=
  match op with
  | 5 =>
    match tfind s.wb.parts (mbArg s 0) with
    | some p => if outOfReach s p.region then s else (startRegion s p.region 14 false).1
    | none => s
  | 6 => eraseAsk s false false
  | _ => s

/-- A command is taken: BUSY. -/
def mbBegin (s : State) (op : Nat) (host : Bool) : State :=
  let y := mbJudge s op host
  let addr := if op = 3 then leNum (mbData s 0x120 8) else mbArg s 0 + mbArg s 1 * 2 ^ 32
  let cmd : MbCmd := ⟨op, host, [mbArg s 0, mbArg s 1, mbArg s 2], mbData s 0x100 32, addr, y.1, y.2⟩
  let s := s.updWb (fun w => { w with mb := some cmd })
  let s := setF s wbPg WB_MB_STATUS_BUSY 1
  let s := setF (setF (setF s wbPg WB_MB_STATUS_RESULT 0) wbPg WB_MB_STATUS_REASON 0) wbPg WB_MB_STATUS_LEN 0
  if y.1 = 0 then mbStart s op else s

/-- Known-answer tests have run (R883). -/
def selfTestDone (s : State) (failed : Nat) : State :=
  let s := setF s wbPg WB_SELFTEST_FAILED failed
  if failed % 65536 = 0 then mbOutcome s 1 0
  else
    let s := raise (recordErr s wbPg 0x42 .island 5 (failed % 65536)) wbPg 3
    mbOutcome (s.updWb (fun w => { w with error := true })) 2 4

/-- A deleted partition: its lines zero, or owed; its entry gone; PART_ERASED (bit 7). -/
def deletePart (s : State) (i : Nat) (p : Part) : State :=
  let s := s.updWb (fun w => { w with parts := tdel w.parts i })
  if inRun s p.region then raise (zeroRange s p.region p.base p.len) wbPg 7 else owePart s p

/-- The work of a command ends: data, LEN and outcome. -/
def mbWork (s : State) (m : MbCmd) (failed : Nat) : State :=
  let a0 := m.args.getD 0 0
  let give (bs : List Nat) : State :=
    let bs := (bs.map (· % 256)).take 3840
    mbOutcome (setF (putMbData s bs) wbPg WB_MB_STATUS_LEN bs.length) 1 0
  match m.op with
  | 1 => give (certOf s a0)
  | 4 =>
    match tfind s.wb.parts a0 with
    | some p => give (Config.partEntry p.region p.base p.len (p.digest % 2 ^ 128))
    | none => give []
  | 5 =>
    match tfind s.wb.parts a0 with
    | some p => mbOutcome (deletePart s a0 p) 1 0
    | none => mbOutcome s 3 0
  | 6 => mbOutcome s 1 0
  | 7 => selfTestDone s failed
  | _ => s

/-- The command may end: its outcome is known, or its work can be done. -/
def mbReady (s : State) (m : MbCmd) : Bool :=
  m.result != 0 ||
    (match m.op with
      | 2 => false
      | 3 => false
      | 5 => (match tfind s.wb.parts (m.args.getD 0 0) with | some p => !coming s p.region | none => true)
      | 6 => s.wb.erase.isNone
      | _ => true)

/-- BUSY clears, RESULT and REASON are set, MB_DONE (bit 0). -/
def mbEnd (s : State) (m : MbCmd) (failed : Nat) : State :=
  let s := if m.result = 0 then mbWork s m failed else s
  let m := s.wb.mb.getD m
  let s := setF (setF s wbPg WB_MB_STATUS_RESULT m.result) wbPg WB_MB_STATUS_REASON m.reason
  let s := setF s wbPg WB_MB_STATUS_BUSY 0
  raise (s.updWb (fun w => { w with mb := none })) wbPg 0

def execMbDone (failed : Nat) (s : State) : Host.Outcome State Fault Refusal :=
  match s.wb.mb with
  | some m => guardDo (mbReady s m) (fun s => mbEnd s m failed) s
  | none => done s

/-- A soft reset of the page abandons the command in progress (R888); CLAIM_FENCE then reads DRAINED (R212), for which
retirements wait (R807). -/
def wbReset (s : State) : State :=
  let s := s.updWb (fun w => { w with mb := none, fence := [] })
  let s := setF (setF s wbPg WB_MB_STATUS_BUSY 0) wbPg WB_MB_STATUS_RESULT 0
  fenceFrees s

end Sys2Proof.Machine
end

