-- ==== Sys2Proof/Machine/Outs.lean ====
section
/-! DEFINITION. Machine/Outs.lean: the field outputs (17_field_outputs.md): regulation and compliance of the loops (R941 to
R950, R974 to R977), alarms (R951, R952, R969), PWM and diagnosis of the lamps (R956 to R962, R977, R978). -/

namespace Sys2Proof.Machine

open Sys2Proof

/-! ## Loops -/

/-- The target in force at a tick: the fallback level in FAULT_LOW outside a retry (R949, R970), else that of R942. -/
def tickTarget (s : State) (n : Nat) : Nat × Bool :=
  if (s.loop n).faultLow && !(s.loop n).retrying then (3600, false) else loopTarget s n

/-- The judgement of a tick of a channel that drives its loop: measured µA and mV, target, and whether it is a compliance
tick (R946, R975). -/
def judgeTick (i v target : Nat) (comp clamped : Bool) (x : LoopSt) : LoopSt :=
  { x with
    comp := x.comp || comp, clamped := clamped, clean := if comp then 0 else x.clean + 1
    opened := x.opened && i < 200
    openRun := if i < 200 && v < 1000 && 3600 ≤ target then x.openRun + 1 else 0 }

/-- A regulation tick of an active channel (R944, R946, R947, R976); at a tick of an open output the regulator is not at
its full-on limit. -/
def loopTick (s : State) (n i v : Nat) (fullOn : Bool) : State :=
  let s := setCh (setCh s n FIELD_LOOP_MEAS_I_UA (min i 65535)) n FIELD_LOOP_MEAS_VT_MV (min v 65535)
  let s := s.updLoop n (fun x => { x with overvolt := x.overvolt && 38000 ≤ v })
  let x := s.loop n
  if x.overvolt || x.internal then
    showLoop (setCh (s.updLoop n (judgeTick i v 0 false x.clamped)) n FIELD_LOOP_TARGET_UA 0) n
  else
    let t := tickTarget s n
    let comp := fullOn && i + 50 < t.1
    let s := s.updLoop n (judgeTick i v t.1 comp t.2)
    let s := setCh s n FIELD_LOOP_TARGET_UA t.1
    let s := if comp && !x.comp then setCh s n FIELD_LOOP_COUNT_COMPLIANCES (chF s n FIELD_LOOP_COUNT_COMPLIANCES + 1) else s
    let s := showLoop s n
    if comp then raise s fieldPg 1 else s

def execRegulationTick (ch iUa vtMv : Nat) (fullOn : Bool) (s : State) : Host.Outcome State Fault Refusal :=
  guardDo (ch < 4 && fieldOn s) (fun s =>
    let s := lookLoop (channelBoundary s ch) ch
    if (s.loop ch).on then loopTick s ch iUa vtMv fullOn else s) s

def execComplianceClear (ch : Nat) (s : State) : Host.Outcome State Fault Refusal :=
  guardDo ((s.loop ch).comp && 10 ≤ (s.loop ch).clean && !(s.loop ch).faultLow)
    (fun s => showLoop (s.updLoop ch (fun x => { x with comp := false })) ch) s

/-- R949: FAULT_LOW, LOOP_FAULT (bit 2). -/
def execLoopFallback (ch : Nat) (s : State) : Host.Outcome State Fault Refusal :=
  guardDo ((s.loop ch).on && chF s ch FIELD_LOOP_CFG_NE43 == 1 && (s.loop ch).comp && !(s.loop ch).faultLow) (fun s =>
    let s := s.updLoop ch (fun x => { x with faultLow := true })
    let s := setCh s ch FIELD_LOOP_TARGET_UA 3600
    let s := setCh s ch FIELD_LOOP_COUNT_FALLBACKS (chF s ch FIELD_LOOP_COUNT_FALLBACKS + 1)
    raise (showLoop s ch) fieldPg 2) s

/-- A retry begins (R950). -/
def execLoopRetry (ch : Nat) (s : State) : Host.Outcome State Fault Refusal :=
  guardDo ((s.loop ch).faultLow && !(s.loop ch).retrying && chF s ch FIELD_LOOP_CFG_RETRY_EN == 1) (fun s =>
    let s := s.updLoop ch (fun x => { x with retrying := true, clean := 0 })
    showLoop (setCh s ch FIELD_LOOP_TARGET_UA (loopTarget s ch).1) ch) s

/-- The retry ends: well when none of its last 50 ticks was a compliance tick. -/
def execLoopRetryEnd (ch : Nat) (s : State) : Host.Outcome State Fault Refusal :=
  guardDo (s.loop ch).retrying (fun s =>
    if 50 ≤ (s.loop ch).clean then
      showLoop (s.updLoop ch (fun x => { x with comp := false, retrying := false, faultLow := false })) ch
    else
      showLoop (setCh (s.updLoop ch (fun x => { x with retrying := false })) ch FIELD_LOOP_TARGET_UA 3600) ch) s

/-- Ten ticks without current or voltage (R975): OPEN, LOOP_OPEN (bit 3). -/
def execLoopOpen (ch : Nat) (s : State) : Host.Outcome State Fault Refusal :=
  guardDo ((s.loop ch).on && 10 ≤ (s.loop ch).openRun && !(s.loop ch).opened)
    (fun s => raise (showLoop (s.updLoop ch (fun x => { x with opened := true })) ch) fieldPg 3) s

/-- More than 40.0 V (R976): OVERVOLT, LOOP_OVERVOLT (bit 4). -/
def execLoopOvervolt (ch vtMv : Nat) (s : State) : Host.Outcome State Fault Refusal :=
  guardDo ((s.loop ch).on && 40000 < vtMv && !(s.loop ch).overvolt) (fun s =>
    let s := setCh (s.updLoop ch (fun x => { x with overvolt := true })) ch FIELD_LOOP_TARGET_UA 0
    raise (showLoop s ch) fieldPg 4) s

/-- R977: channel 0 to 3 a loop, 4 to 7 a lamp; code CHANNEL_FAULT, bit 10. -/
def execChannelFault (ch : Nat) (s : State) : Host.Outcome State Fault Refusal :=
  if ch < 4 then
    guardDo ((s.loop ch).on && !(s.loop ch).internal) (fun s =>
      let s := setCh (s.updLoop ch (fun x => { x with internal := true })) ch FIELD_LOOP_TARGET_UA 0
      raise (recordErr (showLoop s ch) fieldPg 0x40 .block 5 ch) fieldPg 10) s
  else
    guardDo (ch < 8 && (s.lamp (ch - 4)).on && !(s.lamp (ch - 4)).internal) (fun s =>
      let s := showLamp (s.updLamp (ch - 4) (fun x => { x with internal := true })) (ch - 4)
      raise (recordErr s fieldPg 0x40 .block 5 ch) fieldPg 10) s

/-! ## Alarms -/

/-- An alarm input is latched (R951, R952): ALARM (bit 0). -/
def latchAlarm (s : State) (no : Nat) (manual : Bool) : State :=
  let s := setF s fieldPg FIELD_ALARM_STAT_IN (getF s fieldPg FIELD_ALARM_STAT_IN ||| 2 ^ (no % 8))
  let s := setF s fieldPg FIELD_ALARM_INFO_LAST_NO no
  let s := putFlag s fieldPg FIELD_ALARM_INFO_LAST_MANUAL manual
  let s := addF s fieldPg FIELD_ALARM_INFO_COUNT 1
  let s := setF s fieldPg FIELD_ALARM_TIME s.time
  raise (lookOuts s) fieldPg 0

/-- The alarm completes at (5,0), or with DEAD_TARGET: its ALARM record tells which (R381, R394, Table 16-8). -/
def alarmEnds (s : State) (no c score result : Nat) : State := logRec s 6 fieldRegion no [c, score, result, 0]

def execAlarm (s : State) : Host.Outcome State Fault Refusal :=
  let x := takeMsg (fun m => match m with | .alarm _ _ _ => true | _ => false) s.ring
  match x.1 with
  | some (.alarm no c score) =>
    done (let s := { s with ring := x.2 }
      if inRun s fieldRegion then latchAlarm (alarmEnds s no c score 0) no false else alarmEnds s no c score 1)
  | _ => done s

/-- ALARM_CMD.SET. -/
def alarmCmd (s : State) (v : Nat) : State :=
  ((List.range 8).filter (bit v)).foldl (fun s no => latchAlarm s no true) s

/-! ## Lamps -/

/-- A PWM period ends: a commit and changed settings apply (R953, R973); a retry period that ran through ends the
overcurrent (R978). -/
def periodEnds (s : State) (n : Nat) : State :=
  let s := channelBoundary s (4 + n)
  let s := s.updLamp n (fun x => { x with overcurrent := x.overcurrent && !x.retry, retry := false })
  let s := lookLamp s n
  if !(s.lamp n).on then s
  else
    let s := beginPeriod s n
    let x := s.lamp n
    let own := x.ma != 0 && 25 ≤ onUs x.duty x.hz
    let s := if own || chF s n FIELD_LAMP_CFG_PROOF_EN = 0 then s.updLamp n (fun x => { x with proofing := false }) else s
    showLamp s n

/-- A period of an active channel ends, driven or not (R958): a channel that a fault has turned off keeps its boundary. -/
def execPwmPeriodEnd (ch : Nat) (s : State) : Host.Outcome State Fault Refusal :=
  guardDo (ch < 4 && (s.lamp ch).on) (fun s => periodEnds s ch) s

/-- The class of a pulse (R959): 3 OPEN, 4 SHORT, 1 OK. -/
def pulseClass (setMa shortV ma cv : Nat) (regulated : Bool) : Nat :=
  if 4200 ≤ cv && ma * 10 < setMa then 3 else if shortV != 0 && regulated && cv < shortV * 100 then 4 else 1

/-- A diagnosable pulse has been measured (R959, R960): LAMP_OPEN (5), LAMP_SHORT (6) or DIAG_CLEAR (9) at a change. -/
def pulseEnds (s : State) (n ma cv : Nat) (regulated : Bool) : State :=
  let x := s.lamp n
  let c := pulseClass x.ma (chF s n FIELD_LAMP_CFG_SHORT_V) ma cv regulated
  let s := setCh (setCh s n FIELD_LAMP_MEAS_MA (min ma 2047)) n FIELD_LAMP_MEAS_STRING_CV (min cv 8191)
  let s := s.updLamp n (fun x => { x with cls := c, run := if x.cls = c then x.run + 1 else 1, fresh := true })
  let old := chF s n FIELD_LAMP_STATUS_LAST_DIAG
  if 3 ≤ (s.lamp n).run && old != c then
    let s := showLamp (setCh s n FIELD_LAMP_STATUS_LAST_DIAG c) n
    raise s fieldPg (if c = 3 then 5 else if c = 4 then 6 else 9)
  else showLamp s n

def execDiagnosablePulseEnd (ch ma cv : Nat) (regulated : Bool) (s : State) : Host.Outcome State Fault Refusal :=
  guardDo (ch < 4 && (s.lamp ch).on && !(s.lamp ch).internal && (!(s.lamp ch).overcurrent || (s.lamp ch).retry)
      && diagnosable (s.lamp ch)) (fun s => pulseEnds s ch ma cv regulated) s

/-- The next period is extended to a proof pulse (R961). -/
def execProofPulse (ch : Nat) (s : State) : Host.Outcome State Fault Refusal :=
  guardDo (ch < 4 && (s.lamp ch).on && chF s ch FIELD_LAMP_CFG_PROOF_EN == 1 && !(s.lamp ch).proofDue
      && onUs (s.lamp ch).duty (s.lamp ch).hz < 25) (fun s =>
    let s := s.updLamp ch (fun x => { x with proofDue := true, proofing := true })
    showLamp (setCh s ch FIELD_LAMP_COUNT_PROOFS (chF s ch FIELD_LAMP_COUNT_PROOFS + 1)) ch) s

/-- No diagnosable pulse is recent (R962). -/
def execUnverified (ch : Nat) (s : State) : Host.Outcome State Fault Refusal :=
  guardDo (ch < 4 && (s.lamp ch).on && (s.lamp ch).fresh)
    (fun s => showLamp (s.updLamp ch (fun x => { x with fresh := false })) ch) s

/-- More than 2.0 A (R978): OVERCURRENT, LAMP_OVERCURRENT (bit 7), FAULTS. -/
def execLampOvercurrent (ch : Nat) (s : State) : Host.Outcome State Fault Refusal :=
  guardDo (ch < 4 && (s.lamp ch).on && !(s.lamp ch).internal && (!(s.lamp ch).overcurrent || (s.lamp ch).retry)) (fun s =>
    let s := s.updLamp ch (fun x => { x with overcurrent := true, retry := false, cls := 0, run := 0 })
    let s := setCh s ch FIELD_LAMP_STATUS_LAST_DIAG 5
    let s := setCh s ch FIELD_LAMP_COUNT_FAULTS (chF s ch FIELD_LAMP_COUNT_FAULTS + 1)
    raise (showLamp s ch) fieldPg 7) s

/-- The retry of one period each second (R978). -/
def execLampRetry (ch : Nat) (s : State) : Host.Outcome State Fault Refusal :=
  guardDo (ch < 4 && (s.lamp ch).on && (s.lamp ch).overcurrent && !(s.lamp ch).retry)
    (fun s => beginPeriod (s.updLamp ch (fun x => { x with retry := true })) ch) s

end Sys2Proof.Machine
end

