-- ==== Sys2Proof/Machine/PageView.lean ====
section
/-! DEFINITION. Machine/PageView.lean: what the registers of every page read as: the common header (Table 4-1), the
fields that show a part of the state beside the pages, shadow copies (R220), snapshots (R236) and reserved bits (R233,
R234). -/

namespace Sys2Proof.Machine

open Sys2Proof

/-- Flags as a number, bit 0 first. -/
def flagBits : List Bool → Nat
  | [] => 0
  | b :: bs => b.toNat + 2 * flagBits bs

/-- Numbers packed into fields of `w` bits, the first lowest. -/
def packed (w : Nat) : List Nat → Nat
  | [] => 0
  | v :: vs => v % 2 ^ w + 2 ^ w * packed w vs

/-! ## Pages of a region (Tables 1-5, 3-6, 3-7, R873, R924, 11-8, 12-5, 12-6) -/

/-- Healthy spares that back no slot, of the loaded slot map. -/
def sparesShown (s : State) (r : Nat) : Nat :=
  let slots := (s.region r).slots
  if slots.isEmpty then 0
  else ((List.range (physicalSlots r)).filter (fun p => logicalSlots r ≤ p && !bit (s.entry r).physBad p
    && !(slots.any (fun b => bit b 7 && b % 32 == p)))).length

/-- NEIGHBOUR: one byte for N, E, S, W. -/
def neighbourWord (r : Nat) : Nat :=
  packed 8 ([1, 2, 3, 4].map (fun d => match neighbour r d with | some n => 0x80 + n | none => 0x7F))

def viewRegion (s : State) (r : Nat) (f : Fld) (i : Nat) : Option Nat :=
  if f = REGION_REGION_INFO_INDEX then some r
  else if f = REGION_REGION_INFO_X then some (colOf r)
  else if f = REGION_REGION_INFO_Y then some (rowOf r)
  else if f = REGION_REGION_INFO_DEPTH then some (depthOf r)
  else if f = REGION_REGION_INFO_ISLAND then some (hasIsland r).toNat
  else if f = REGION_REGION_INFO_FUNC then some (funcOf r)
  else if f = REGION_REGION_INFO_INST then some (instOf r)
  else if f = REGION_FACE_COUNT_LOGICAL then some (logicalSlots r)
  else if f = REGION_FACE_COUNT_PHYSICAL then some (physicalSlots r)
  else if f = REGION_FACE_COUNT_BACKED then some (backedSlots (s.region r).slots)
  else if f = REGION_FACE_COUNT_SPARES_FREE then some (sparesShown s r)
  else if f = REGION_SLOT_MAP then some (packed 8 (((s.region r).slots.drop (4 * i)).take 4))
  else if f = REGION_NEIGHBOUR then some (neighbourWord r)
  else if f = REGION_ROAD_RUN then some (inRun s r).toNat
  else if f = REGION_ROAD_TRANSIT then some (s.region r).transit.toNat
  else if f = REGION_ROAD_LINK_UP then some (flagBits ([1, 2, 3, 4].map (linkUp s r)))
  else if f = REGION_ROUTE_NEXT_HOP then some (route s r i)
  else none

/-- RUN_US: the time of ended stays in Run, and of the present one. -/
def runUs (s : State) (r : Nat) : Nat :=
  getF s (powerPg r) POWER_RUN_US + (if inRun s r then usOf (s.time - (s.region r).runSince) else 0)

def viewPower (s : State) (r : Nat) (f : Fld) : Option Nat :=
  if f = POWER_PWR_STATE_RUN then some (inRun s r).toNat
  else if f = POWER_PWR_STATE_HS_ACTIVE then some (s.region r).hs.isSome.toNat
  else if f = POWER_RUN_US then some (runUs s r)
  else none

/-- The face's engine clock is gated (R149): its region in Run, its op queue empty and no hoist transfer of it in flight. -/
def gated (s : State) (g : Nat) : Bool := inRun s (faceRegion g) && (s.faceAt g).opq == 0 && !faceHoist s g

def viewClock (s : State) (r : Nat) (f : Fld) : Option Nat :=
  if f = CLOCK_CLK_STATUS_BACKUP_REF then some s.carrier.backup.toNat
  else if f = CLOCK_GATE_STAT_GATED then some (flagBits ((facesOf r).map (gated s)))
  else if f = CLOCK_TIME then some s.time
  else none

/-- ROUTE_DIGEST: CRC-32 over ROUTE_0 to ROUTE_99, as words. -/
def routeDigest (s : State) (r : Nat) : Nat := crc32 ((List.range 100).flatMap (fun d => leBytes 4 (route s r d)))

def viewBed (s : State) (r : Nat) (f : Fld) : Option Nat :=
  let b := s.bed r
  if f = BED_CAPACITY_MIB then some (bedCapacity r / 0x100000)
  else if f = BED_CAPACITY_SPARE_BLOCKS then some (spareBlocks r)
  else if f = BED_DIR_STATUS_COPY then some (b.dirSel == 2).toNat
  else if f = BED_DIR_STATUS_A_VALID then some b.dirA.toNat
  else if f = BED_DIR_STATUS_B_VALID then some b.dirB.toNat
  else if f = BED_DIR_STATUS_COUNT then some b.dirCount
  else if f = BED_DIR_STATUS_SEQ then some b.dirSeq
  else if f = BED_SCRUB_POS_LINE then some (b.scrubPos % bedLines r)
  else if f = BED_SCRUB_POS_PASSES then some b.scrubPasses
  else if f = BED_WEAR_STAT_SPARES_FREE then some (sparesFree r b)
  else if f = BED_WEAR_STAT_RETIRED then some b.retired.length
  else if f = BED_WEAR_MAX_WRITES then some (wearMax b)
  else if f = BED_WEAR_MEAN_WRITES then some (wearMean r b)
  else if f = BED_RELOC_COUNT then some b.relocCount
  else if f = BED_QUEUE_WB_PENDING then some (min b.queue.length 1023)
  else if f = BED_QUEUE_OUT_PENDING then some b.outQueue.length
  else if f = BED_RUN_EPOCH_EPOCH then some b.epoch
  else none

/-- The object is owned by a confidential job (R703). -/
def objSecret (s : State) (r o : Nat) : Bool :=
  match ((s.sync r).obj o).job with
  | some j => (s.job j).confidential
  | none => false

def viewSync (s : State) (r : Nat) (f : Fld) (i : Nat) : Option Nat :=
  let b := s.sync r
  let x := b.obj i
  if f = SYNC_SYNC_STATUS_WAITERS then some b.waiters.length
  else if f = SYNC_OBJ_CFG_KIND then some x.kind.code
  else if f = SYNC_OBJ_CFG_JOB_OWNED then some x.job.isSome.toNat
  else if f = SYNC_OBJ_CFG_JOB then some (x.job.getD 0)
  else if f = SYNC_OBJ_CFG_CORRUPT then some x.corrupt.toNat
  else if f = SYNC_OBJ_CFG_PARTIES then some x.parties
  else if f = SYNC_OBJ_STATE_STATE then some (if objSecret s r i then 0 else x.word (b.waited i))
  else none

/-- The entries of a region's claim table (R849, R873), by job, each with JOB in its fifth word. -/
def claimTable (s : State) (r : Nat) : List (List Nat) :=
  ((liveClaims s).filter (fun x => x.2.home == r)).map (fun x => x.2.words.take 4 ++ [x.1, 0, 0, 0])

def viewClaim (s : State) (r : Nat) (f : Fld) (i : Nat) : Option Nat :=
  if f = CLAIM_CLAIM_STATUS_ENTRIES then some (claimTable s r).length
  else if f = CLAIM_CLAIM_ENTRY then some (((claimTable s r).getD (i / 8) []).getD (i % 8) 0)
  else none

/-! ## Function blocks (Tables 5-4, 6-4, 7-5, 13-7, 15-12, 16-11, 14-9, R874) -/

def viewSensor (s : State) (p : Nat) (f : Fld) (i : Nat) : Option Nat :=
  if f = SENSOR_PORT_STATUS_DELIVERING then some (inRun s (sensorRegion p)).toNat
  else if f = SENSOR_HIST_USED_KIB then some (histUsed s p)
  else if f = SENSOR_PORT_FRAME then some (s.time / 24576)
  else if f = SENSOR_S_STATUS_CALIBRATING then some (calibrating s p i).toNat
  else none

def viewListener (s : State) (p : Nat) (f : Fld) : Option Nat :=
  if f = LISTENER_CHAIN_STATE_STATE then some (chainState s p) else none

/-- Milliseconds left of a demotion timer, rounded up. -/
def remainMs (s : State) (c : Nat) : Nat :=
  match (s.chain c).timer with
  | some t => (t.1 + t.2 * 24576 - s.time + 24575) / 24576
  | none => 0

def viewEsc (s : State) (f : Fld) (i : Nat) : Option Nat :=
  let x := s.chain i
  if f = ESC_CHAIN_DEPTH then some (packed 4 ((List.range 8).map (fun k => (s.chain (8 * i + k)).depth)))
  else if f = ESC_CH_STATUS_FLAGS then
    some (x.depth + 8 * flagBits [x.pendingFlag, x.blocked, !x.degraded.isEmpty, x.config] + 256 * x.port
      + 2048 * x.portValid.toNat)
  else if f = ESC_CH_TIMER_REMAIN_MS then some (remainMs s i)
  else none

/-- A region's scrub age has reached PERIOD_H (R919). -/
def scrubDue (s : State) (r : Nat) : Bool := getF s mgmtPg MGMT_BG_CFG_PERIOD_H ≤ (s.region r).age

/-- The region woken for background. -/
def bgRegion (s : State) : Option Nat := allRegions.find? (fun r => (s.region r).background)

def viewMgmt (s : State) (f : Fld) (i : Nat) : Option Nat :=
  let x := s.region i
  if f = MGMT_MGMT_STATUS_SESSIONS then some s.mgmt.sessions.length
  else if f = MGMT_BG_STATUS_REGION then some ((bgRegion s).getD 0x7F)
  else if f = MGMT_BG_STATUS_DUE then
    some (if phase s = PHASE_READY then (allRegions.filter (scrubDue s)).length else 0)
  else if f = MGMT_REGION_VIEW_VIEW then
    some (mgmtState s i + 16 * flagBits [x.transit, x.background, x.hold] + 256 * x.age)
  else none

def viewAdit (s : State) (k : Nat) (f : Fld) (i : Nat) : Option Nat :=
  if f = ADIT_LINK_STATE_TIME_SRC then some (s.cab.src == some k).toNat
  else if f = ADIT_LINK_STATE_HOLDOVER then some (holdover s).toNat
  else if f = ADIT_LINK_ID then some (linkId k)
  else if f = ADIT_OFFSET then some (offsetNow s k)
  else if f = ADIT_CAB_TIME then some (cabTime s / 256)
  else if f = ADIT_JOB_ENTRY then
    some (match tfind (s.link k).jobs i with | some e => e.1 + e.2 * 0x10000 + 0x80000000 | none => 0)
  else none

def viewWb (s : State) (f : Fld) : Option Nat :=
  if f = WB_WB_STATE_STATE then some (wbState s)
  else if f = WB_WB_STATE_PROVISIONED then some s.wb.provisioned.toNat
  else if f = WB_WB_STATE_ERASE_PENDING then some s.wb.erasePending.toNat
  else if f = WB_WB_STATE_PARTITIONS then some s.wb.parts.length
  else if f = WB_WB_STATE_ENROL_COUNT then some s.wb.enrolCount
  else if f = WB_CLAIM_FENCE_OLDEST then
    some (if flagF s wbPg WB_CLAIM_FENCE_DRAINED then getF s wbPg WB_EPOCH else getF s wbPg WB_CLAIM_FENCE_OLDEST)
  else if f = WB_SERIAL then some (Config.waferSerial % 2 ^ 56)
  else none

def JobState.code : JobState → Nat
  | .free => 0 | .waiting => 1 | .admitting => 2 | .running => 3 | .stopping => 4 | .respawning => 5 | .retiring => 6

def viewJobq (s : State) (f : Fld) (i : Nat) : Option Nat :=
  let x := s.job (getF s jobqPg JOBQ_JOB_SEL_JOB)
  if f = JOBQ_JOBQ_STATUS_LIVE then some (liveJobs s).length
  else if f = JOBQ_JOBQ_STATUS_WAITING then some ((liveJobs s).filter (fun j => (s.job j).state == .waiting)).length
  else if f = JOBQ_JOB_INFO_STATE then some x.state.code
  else if f = JOBQ_JOB_INFO_QUEUE then some x.queue
  else if f = JOBQ_JOB_INFO_STOP_STATUS then some (match x.stop with | some t => t.status | none => 0)
  else if f = JOBQ_JOB_INFO_RESPAWNS then some x.respawns
  else if f = JOBQ_JOB_USER then some x.user
  else if f = JOBQ_QSTAT_PENDING then some (pendOf s i).length
  else if f = JOBQ_QSTAT_LIVE then some (queueLive s i)
  else none

/-! ## Face pages (Tables 8-13, 9-7, 11-9, R486) -/

def FaceRun.code : FaceRun → Nat
  | .idle => 0 | .switching => 1 | .running => 2 | .stopped => 3

/-- The owner is a confidential job (R487, R545, R651). -/
def FaceSt.secret (f : FaceSt) : Bool := f.confidential && (match f.owner with | .job _ => true | _ => false)

/-- PC: the oldest record not yet issued. -/
def FaceSt.pcShown (f : FaceSt) : Nat :=
  match f.queue with
  | o :: _ => o.addr
  | [] => f.pc

def viewFace (s : State) (g : Nat) (fl : Fld) (i : Nat) : Option Nat :=
  let f := s.faceAt g
  let t := tget FTable.reset f.tables i
  if fl = FACE_FACE_STATE_STATE then some f.run.code
  else if fl = FACE_FACE_STATE_OWNER_KIND then some (match f.owner with | .none => 0 | .job _ => 1 | .stage _ _ => 2)
  else if fl = FACE_FACE_STATE_CONFIDENTIAL then some f.secret.toNat
  else if fl = FACE_OWNER_JOB then some (match f.owner with | .job j => j | _ => 0)
  else if fl = FACE_OWNER_CHAIN then some (match f.owner with | .stage c _ => c | _ => 0)
  else if fl = FACE_OWNER_STAGE then some (match f.owner with | .stage _ p => p | _ => 0)
  else if fl = FACE_PC then some f.pcShown
  else if fl = FACE_OCCUPANCY_OPQ then some f.opq
  else if fl = FACE_OCCUPANCY_HOIST then some f.transfers
  else if fl = FACE_OCCUPANCY_SIGNALS then some (f.signals g)
  else if fl = FACE_FT_X0_X0 then some t.x0
  else if fl = FACE_FT_W_W then some t.w
  else if fl = FACE_FT_W_LOADED then some t.loaded.toNat
  else if fl = FACE_EP_LEN_WORDS then some f.epLen
  else if f.secret && [FACE_RETIRED, FACE_MAT_CYC, FACE_ELT_CYC].contains fl then some 0
  else none

/-- Loop level `l`, level 0 the outermost. -/
def FaceSt.level (f : FaceSt) (l : Nat) : Option Loop := f.loops.reverse[l]?

def viewFctx (s : State) (g : Nat) (fl : Fld) (i : Nat) : Option Nat :=
  let f := s.faceAt g
  if f.secret then some 0
  else if fl = FCTX_A then some (f.a i)
  else if fl = FCTX_PRED_TOKENS_PRED then some f.preds
  else if fl = FCTX_PRED_TOKENS_TOKENS then some f.tokens
  else if fl = FCTX_LOOPS then some f.loops.length
  else if fl = FCTX_LOOP then
    some (match f.level (i / 4) with
      | some l => [l.start, l.stop, l.remain, l.step].getD (i % 4) 0
      | none => 0)
  else if fl = FCTX_LOOP_AREG_AREG then
    some (packed 4 ((List.range 4).map (fun l => match f.level l with | some x => x.areg | none => 0)))
  else none

/-- The line that TAG_ADDR names. -/
def tagLine (s : State) (g : Nat) : Nat := getF s (hoistPg g) HOIST_TAG_ADDR_LINE

def viewHoist (s : State) (g : Nat) (fl : Fld) : Option Nat :=
  let f := s.faceAt g
  let t := f.tag (tagLine s g)
  if fl = HOIST_HOIST_STATE_INFLIGHT then some f.transfers
  else if fl = HOIST_VALID_LINES_LINES then some (f.tags.filter (·.2.valid)).length
  else if fl = HOIST_DIRTY_LINES_LINES then some f.dirtyLines.length
  else if fl = HOIST_TAG_DATA_HOME then some (if f.secret then 0 else t.home)
  else if fl = HOIST_TAG_DATA_FLAGS then
    some (if f.secret then 0 else flagBits [tget false f.spoil (tagLine s g), t.dirty, t.valid])
  else if f.secret && [HOIST_HITS, HOIST_IN, HOIST_OUT].contains fl then some 0
  else none

def viewNum (s : State) (g : Nat) (fl : Fld) : Option Nat :=
  if (s.faceAt g).secret && 0x4C ≤ fl.off then some 0 else none

/-! ## A field, a word -/

/-- What copy `i` of a field shows when it is not a stored register field. -/
def viewOf (s : State) (ref : Nat) (k : PageKind) (f : Fld) (i : Nat) : Option Nat :=
  let r := refRegion ref
  match k with
  | .region => viewRegion s r f i
  | .power => viewPower s r f
  | .clock => viewClock s r f
  | .banksman => if f = BANKSMAN_ROUTE_DIGEST_CRC then some (routeDigest s r) else none
  | .bed => viewBed s r f
  | .sync => viewSync s r f i
  | .claim => viewClaim s r f i
  | .sensor => viewSensor s (instOf r) f i
  | .listener => viewListener s (instOf r) f
  | .esc => viewEsc s f i
  | .mgmt => viewMgmt s f i
  | .adit => viewAdit s (instOf r) f i
  | .host => none
  | .field => none
  | .wb => viewWb s f
  | .dap =>
    if f = DAP_DAP_STATE_STATE then some (if s.wb.erase.isSome then 1 else if s.wb.dapOpen then 2 else 0)
    else if f = DAP_DAP_STATE_OPENS then some s.wb.opens else none
  | .face => viewFace s (refFace ref) f i
  | .fctx => viewFctx s (refFace ref) f i
  | .hoist => viewHoist s (refFace ref) f
  | .num => viewNum s (refFace ref) f
  | .bringup => none
  | .jobq => viewJobq s f i

/-- What copy `i` of a field of a row reads as: 0 for WO, the shadow copy of a Shadowed field (R220). -/
def readField (s : State) (ref : Nat) (k : PageKind) (row : RegRow) (i : Nat) : Nat :=
  if row.acc = .wo then 0
  else match viewOf s ref k row.fld i with
    | some v => v % 2 ^ row.fld.w
    | none => if row.cls = .h then getShadow s ref (row.fld.ix i) else getF s ref (row.fld.ix i)

/-- The copy of a row's field that the word at `off` holds, and whether it is the high word of 64 bits. -/
def RegRow.at? (row : RegRow) (off : Nat) : Option (Nat × Bool) :=
  let f := row.fld
  if off < f.off then none
  else
    let d := off - f.off
    let i := if f.stride = 0 then 0 else d / f.stride
    let e := d - i * f.stride
    if row.count ≤ i then none
    else if e = 0 then some (i, false)
    else if e = 4 && f.w = 64 then some (i, true)
    else none

/-- The fields of the word at an offset: row, copy, high word. -/
def fieldsAt (k : PageKind) (off : Nat) : List (RegRow × Nat × Bool) :=
  (rowsOf k).filterMap (fun row => (row.at? off).map (fun x => (row, x.1, x.2)))

/-- The snapshot of a counter's high word (R236, R237). -/
def snapOf (s : State) (sp : Space) (key : Nat) : Nat :=
  if sp = .banksman then tget 0 s.snapBk key else tget 0 s.snapHost key

def putSnap (s : State) (sp : Space) (key v : Nat) : State :=
  if sp = .banksman then { s with snapBk := tset 0 s.snapBk key v } else { s with snapHost := tset 0 s.snapHost key v }

/-- What one field adds to a word read. -/
def fieldBits (s : State) (sp : Space) (ref : Nat) (k : PageKind) (x : RegRow × Nat × Bool) : Nat :=
  let f := x.1.fld
  if f.w = 64 then
    if x.2.2 then
      if x.1.acc = .ctr then snapOf s sp (fieldKey ref (f.ix x.2.1)) else readField s ref k x.1 x.2.1 / 2 ^ 32
    else readField s ref k x.1 x.2.1 % 2 ^ 32
  else readField s ref k x.1 x.2.1 * 2 ^ f.lo

/-- BLOCK_TYPE, INSTANCE, REGION and ISLAND (R206). -/
def idWord (ref : Nat) : Nat :=
  if 0x64000 ≤ ref then 0x80 + (ref - bringupPg) + 0x7F * 0x10000
  else
    let p := refPage ref
    let r := refRegion ref
    let kind := if p < 0x100 then p + 1 else 0x40 + (p - 0x100) % 16
    let inst := if 0x100 ≤ p then (p - 0x100) / 16 else if [0x10, 0x11, 0x14].contains p then instOf r else 0
    kind + inst * 0x100 + r * 0x10000 + (islandPage ref).toNat * 0x800000

/-- STATUS.ENABLED. -/
def enabledBit (s : State) (ref : Nat) (k : PageKind) : Bool :=
  match ctrlOf k with
  | .none => true
  | .reset => true
  | .enable => flagF s ref STATUS_ENABLED

/-- Pages whose COMMIT holds no fields (R48, R117, R183). -/
def noCommit (k : PageKind) : Bool := [PageKind.region, .clock, .bringup].contains k

/-- The common header's share of a word. -/
def headerWord (s : State) (ref : Nat) (k : PageKind) (off : Nat) : Nat :=
  match off with
  | 0x00 => idWord ref
  | 0x04 => 0x100
  | 0x08 => if ctrlOf k = .enable then getF s ref CTRL_EN else 0
  | 0x0C => flagBits [enabledBit s ref k, flagF s ref STATUS_SRST_BUSY, flagF s ref STATUS_WERR, bit (getF s ref ERRINFO) 8]
  | 0x10 => getF s ref EVT_RAW
  | 0x14 => getF s ref (EVT_EN k)
  | 0x18 => evtStat s ref
  | 0x1C => if noCommit k then 0 else 2 * getF s ref COMMIT_ARMED + 0x10000 * getF s ref COMMIT_APPLIED
  | 0x20 => getF s ref ERRINFO
  | 0x24 => getF s ref ERRADDR % 2 ^ 32
  | 0x28 => getF s ref ERRADDR / 2 ^ 32
  | 0x2C => getF s ref EVT_ROUTE
  | _ => 0

/-- The word at an offset of a page, as an address space reads it. -/
def pageWord (s : State) (sp : Space) (ref : Nat) (k : PageKind) (off : Nat) : Nat :=
  (headerWord s ref k off + ((fieldsAt k off).map (fieldBits s sp ref k)).foldl (· + ·) 0) % 2 ^ 32

end Sys2Proof.Machine
end

