-- ==== Sys2Proof/Machine/Access.lean ====
section
/-! DEFINITION. Machine/Access.lean: accesses to registers and apertures (04_register_pages.md): how an access is judged
(R1058), what refuses a write (R219 to R232, R1056), what a write does, and the commands that are such accesses. -/

namespace Sys2Proof.Machine

open Sys2Proof

/-! ## Judging an access (R1058) -/

/-- The master can issue accesses: VAON is up, and for the host its link. -/
def canAccess (s : State) (sp : Space) : Bool := s.carrier.vaon == .up && (sp == .banksman || s.host.linkUp)

/-- A host access reaches a region (R47, R52, R53, R83). -/
def hostReach (s : State) (r : Nat) : Bool :=
  inRun s hostRegion && (r == hostRegion || (phase s == PHASE_READY && reachable s hostRegion r))

/-- How an access travels: its size, its byte enables, and what becomes of its packets. -/
structure Travel where
  size : Nat
  be : Nat
  fate : Fate

/-- A whole word that arrives. -/
def Travel.word : Travel := ⟨4, 15, .arrives⟩

/-- Every byte enable of an access of this size is set. -/
def Travel.whole (t : Travel) : Bool := t.be % 2 ^ t.size == 2 ^ t.size - 1

/-- A page that is mapped can be reached: island pages in the Banksman space at any time, others while the region is in
Run; the pages of an unbacked slot never (R47, R55). -/
def pageReach (s : State) (sp : Space) (ref : Nat) : Bool :=
  if 0x64000 ≤ ref then true
  else
    let r := refRegion ref
    (if sp = .banksman then islandPage ref || inRun s r else hostReach s r)
      && (refPage ref < 0x100 || backed s (refFace ref))

/-- The status of an access whose target can be reached: a host access to another region than that of the host port is a
packet, which is lost with a region that fails while it is inside (R58). -/
def lostOr (sp : Space) (r : Nat) (t : Travel) : BusStatus :=
  if sp != .banksman && r != hostRegion && t.fate != .arrives then .routeLost else .ok

/-- The status an access ends with. -/
def judge (s : State) (sp : Space) (a : Nat) (t : Travel) : BusStatus :=
  let size := t.size
  match target sp a with
  | .none => .unmapped
  | .mirror _ => .ok
  | .bar2 ref _ =>
    if t.whole && ((size == 4 && a % 4 == 0) || (size == 8 && a % 8 == 0 && (ref == msixPg || ref == pbaPg))) then .ok
    else .width
  | .aperture r off =>
    if size = 0 || 64 < off % 64 + size then .width else if hostReach s r then lostOr sp r t else .deadTarget
  | .page ref _ =>
    if a % 4 ≠ 0 || size ≠ 4 || !t.whole then .width
    else if !pageReach s sp ref then .deadTarget
    else if 0x64000 ≤ ref then .ok else lostOr sp (refRegion ref) t

def BusStatus.code : BusStatus → Nat
  | .ok => 0 | .unmapped => 1 | .deadTarget => 2 | .routeLost => 3 | .width => 4

/-- The access ends: what its master sees; codes 0x01 to 0x04 are recorded in the port page (R246). -/
def endAccess (s : State) (sp : Space) (a v : Nat) (st : BusStatus) : State :=
  let s := if st = .ok then s else portErr s sp st.code a
  { s with bus := some ⟨sp, a, v, st⟩ }

/-! ## What refuses a register write (R219, R223, R230 to R232, R1056) -/

/-- The value a write would give a field, and the value it has now. -/
def newField (s : State) (ref : Nat) (x : RegRow × Nat × Bool) (v : Nat) : Nat :=
  let f := x.1.fld
  if f.w = 64 then
    let k := fieldKey ref (f.ix x.2.1)
    v % 2 ^ 32 * 2 ^ 32 + (tfind s.staged k).getD (getF s ref (f.ix x.2.1) % 2 ^ 32)
  else bits v f.lo f.w

def changes (s : State) (ref : Nat) (k : PageKind) (v : Nat) (x : RegRow × Nat × Bool) : Bool :=
  let new := newField s ref x v
  let cur := readField s ref k x.1 x.2.1
  match x.1.acc with
  | .rw => new != cur
  | .rws => new != cur
  | .wo => new != 0
  | .w1c => (cur &&& new) != 0
  | .pair => x.2.2 && new != cur
  | _ => false

/-- Out of the range a field accepts. -/
def outOfRange (s : State) (ref : Nat) (v : Nat) (x : RegRow × Nat × Bool) : Bool :=
  [Acc.rw, .rws, .wo].contains x.1.acc && !x.1.ok.isEmpty
    && !(x.1.ok.any (fun r => r.1 ≤ newField s ref x v && newField s ref x v ≤ r.2))

/-- Codes the rules of every page give a write. -/
def commonCodes (s : State) (sp : Space) (ref : Nat) (k : PageKind) (off v : Nat) : List Nat :=
  let fs := fieldsAt k off
  (if flagF s ref STATUS_SRST_BUSY && off != 8 then [0x14] else [])
    ++ (if sp != .banksman && fs.any (fun x => x.1.bk && changes s ref k v x) then [0x12] else [])
    ++ (if enabledBit s ref k && fs.any (fun x => x.1.acc == .rws && changes s ref k v x) then [0x10] else [])
    ++ (if fs.any (outOfRange s ref v) then [0x11] else [])
    ++ (if flagF s ref COMMIT_ARMED && fs.any (fun x => x.1.cls == .h && changes s ref k v x) then [0x13] else [])

def oneIf (c : Bool) (n : Nat) : List Nat := if c then [n] else []

/-- CTRL: authority over SRST (R484, R701, R762, R870), HIST_SPACE (R293), LINK_IN_USE (R765). -/
def ctrlCodes (s : State) (sp : Space) (ref : Nat) (k : PageKind) (v : Nat) : List Nat :=
  let host := sp != .banksman
  let en := flagF s ref CTRL_EN
  match k with
  | .face => oneIf (host && bit v 1) 0x12
  | .sync => oneIf (host && bit v 1) 0x12
  | .wb => oneIf (host && bit v 1) 0x12
  | .adit => oneIf (host && (bit v 1 || bit v 0 != en)) 0x12
      ++ oneIf (getF s ref ADIT_JOBS_IN_USE != 0 && (bit v 1 || (en && !bit v 0))) 0x40
  | .sensor => oneIf (bit v 0 && !bit v 1 && !en && histOver s (instOf (refRegion ref))) 0x40
  | _ => []

/-- JOBQ: ranges of an enabled queue or ring, alignment, QUEUE_BUSY (R814, R815). -/
def jobqCodes (s : State) (off v : Nat) : List Nat :=
  let q := (off - 0x100) / 16
  let set := fun (f : Fld) => bits v f.lo f.w
  let differs := fun (f : Fld) => set f != qCfg s q f
  let base := fun (f : Fld) (i : Nat) =>
    v % 2 ^ 32 * 2 ^ 32 + (tfind s.staged (fieldKey jobqPg (f.ix i))).getD (getF s jobqPg (f.ix i) % 2 ^ 32)
  if off = 0x5C then
    oneIf (!(4 ≤ set JOBQ_EVQ_CFG_SIZE && set JOBQ_EVQ_CFG_SIZE ≤ 12)) 0x11
      ++ oneIf (flagF s jobqPg JOBQ_EVQ_CFG_EN && set JOBQ_EVQ_CFG_SIZE != getF s jobqPg JOBQ_EVQ_CFG_SIZE) 0x40
  else if off = 0x64 then
    oneIf (base JOBQ_EVQ_BASE 0 % 4096 != 0) 0x11
      ++ oneIf (flagF s jobqPg JOBQ_EVQ_CFG_EN && base JOBQ_EVQ_BASE 0 != getF s jobqPg JOBQ_EVQ_BASE) 0x40
  else if off < 0x100 || 0x500 ≤ off then []
  else if off % 16 = 0 then
    oneIf (!(4 ≤ set JOBQ_QCFG_CQ_SIZE && set JOBQ_QCFG_CQ_SIZE ≤ 12) || (bit v 0 && set JOBQ_QCFG_DEPTH == 0)) 0x11
      ++ oneIf (qCfg s q JOBQ_QCFG_EN == 1 && ([JOBQ_QCFG_DEPTH, JOBQ_QCFG_CQ_VECTOR, JOBQ_QCFG_CQ_SIZE].any differs
        || (!bit v 0 && (!(pendOf s q).isEmpty || queueLive s q != 0)))) 0x40
  else if off % 16 = 8 then
    oneIf (base JOBQ_CQ_BASE q % 4096 != 0) 0x11
      ++ oneIf (qCfg s q JOBQ_QCFG_EN == 1 && base JOBQ_CQ_BASE q != getF s jobqPg (JOBQ_CQ_BASE.ix q)) 0x40
  else []

/-- Encodings of a stream entry that its slot reserves (R230, R266, R280, R289). -/
def streamCodes (off v : Nat) : List Nat :=
  let k := (off - 0x100) / 0x40
  let dt := bits v 16 6
  if off < 0x100 || 0x500 ≤ off then []
  else if off % 0x40 = 0 then
    oneIf ((bits v 4 3 != 0 && (k < 8 || 11 < k)) || (11 < k && bit v 7) || (k < 12 && dt != 0)
      || (11 < k && !([0x2A, 0x2B, 0x2C, 0x1E].contains dt)) || (11 < k && bits v 1 3 == 1 && [0x2A, 0x1E].contains dt)) 0x11
  else if off % 0x40 = 0x10 then oneIf (11 < k && bits v 0 10 != 0) 0x11
  else []

/-- Encodings of D_CFG that Table 6-5 reserves (R230, R338). -/
def detCodes (off v : Nat) : List Nat :=
  oneIf (0x100 ≤ off && off < 0x300 && off % 32 == 0
    && ((bit v 0 && (bits v 5 3 == 0 || bits v 8 8 == 0)) || (bit v 6 && bits v 16 8 == 0))) 0x11

/-- A host write to the common header of a page whose every writable field is Banksman only (R231, R762, R922). -/
def bkHeader (s : State) (ref : Nat) (k : PageKind) (off v : Nat) : Bool :=
  (k == .adit || k == .mgmt) && match off with
    | 0x0C => bit v 2 && flagF s ref STATUS_WERR
    | 0x14 => v &&& eventsOf k != getF s ref (EVT_EN k)
    | 0x18 => getF s ref EVT_RAW &&& v != 0
    | 0x1C => bit v 0
    | 0x20 => bit v 8 && bit (getF s ref ERRINFO) 8
    | 0x2C => bits v 0 8 != getF s ref EVT_ROUTE
    | _ => false

/-- Codes of the block's own rules. -/
def blockCodes (s : State) (sp : Space) (ref : Nat) (k : PageKind) (off v : Nat) : List Nat :=
  let r := refRegion ref
  let host := sp != .banksman
  if off = 0x08 then ctrlCodes s sp ref k v
  else if host && bkHeader s ref k off v then [0x12]
  else if off = 0x2C then oneIf (host && bit v 7 != bit (getF s ref EVT_ROUTE) 7) 0x12
  else match k, off with
    | .bed, 0x44 => oneIf (isRim r && 15 < bits v 0 5) 0x11
    | .listener, 0x90 => oneIf (bit v 2 && chnF s (instOf r) (bits v 0 2) LISTENER_CHAIN_CFG_EN != 1) 0x11
    | .listener, 0xB4 => oneIf (lisF s (instOf r) LISTENER_CTRL_B_EN == 1) 0x40
    | .esc, 0x40 => oneIf ((bit v 4 && promoteRefused s (bits v 0 4)) || (bit v 5 && demoteRefused s (bits v 0 4))) 0x11
    | .esc, 0x60 => [0x12]
    | .sync, 0x60 => oneIf ((s.sync r).snap.isSome && (bit v 12 || bit v 13)) 0x44
    | .adit, 0x5C => oneIf (bit v 0 && linkState s (instOf r) != 2) 0x41
    | .wb, 0x40 => oneIf (bits v 0 8 == 0) 0x11 ++ (if bit v 8 then mbCodes s (bits v 0 8) host else [])
    | .face, 0xC0 => oneIf ((bits v 0 2 == 1 && 0x1FFC < 4 * bits v 2 22) || (bits v 0 2 == 2 && 0x3FFC < 4 * bits v 2 22)) 0x11
    | .face, 0xC4 =>
      oneIf (getF s ref FACE_PEEK_ADDR_SPACE != 0) 0x11 ++ oneIf (s.faceAt (refFace ref)).secret 0x21
    | .jobq, off => jobqCodes s off v
    | .sensor, off => streamCodes off v
    | .listener, off => detCodes off v
    | .sync, off =>
      if 0x800 ≤ off && off % 8 = 0 then
        let c := objCfgRefusal s r ((off - 0x800) / 8) v
        oneIf (c != 0) c
      else []
    | .esc, off =>
      oneIf (0x100 ≤ off && off < 0x200 && off % 16 == 0 && bit v 0 && !(2 ≤ bits v 4 4 && bits v 4 4 ≤ 8)) 0x11
        ++ oneIf (0x800 ≤ off && off % 32 == 0xC && bits v 0 16 == 0
          && 2 ≤ getShadow s escPg (ESC_ST_CFG_SNUM.ix ((off - 0x800) / 32))) 0x11
    | _, _ => []

/-- The least of a list. -/
def leastOf : List Nat → Nat
  | [] => 0
  | a :: l => l.foldl min a

/-- The code that a refused write records, in the order of R1056; none when the write is taken. -/
def refusal (codes : List Nat) : Option Nat :=
  if codes.isEmpty then none
  else match [0x14, 0x12, 0x10, 0x11, 0x13].find? codes.contains with
    | some c => some c
    | none => some (leastOf codes)

/-- SPACE and ADDRESS of ERRADDR for a refused write (R246 and the blocks' tables). -/
def errWhere (s : State) (sp : Space) (ref : Nat) (k : PageKind) (off code : Nat) : Nat × Nat :=
  let r := refRegion ref
  if code < 0x40 then (Space.errSpace sp, ref * 0x1000 + off)
  else match k with
    | .listener => (5, 4 * lisF s (instOf r) LISTENER_B_ADDR_ADDR)
    | .sync => (5, r * 256 + (if off < 0x800 then 0 else (off - 0x800) / 8))
    | .jobq => if off < 0x100 then (Space.errSpace sp, ref * 0x1000 + off) else (5, (off - 0x100) / 16)
    | _ => (15, 0)

/-! ## Block start, stop and soft reset (R210 to R212, R252, R253) -/

/-- The block starts: shadows to active fields, an armed commit disarmed. -/
def startBlock (s : State) (ref : Nat) (k : PageKind) : State :=
  let p := instOf (refRegion ref)
  let t := putFlag (putFlag s ref CTRL_EN true) ref STATUS_ENABLED true
  let t := setF (copyShadows t (pageRows ref) ref) ref COMMIT_ARMED 0
  match k with
  | .sensor => sensorStarts t p
  | .listener => listenerStarts s t p
  | .esc => judgeChains t
  | .adit => reselectTime t
  | .field => lookOuts { t with outs := { t.outs with arming := [], stopping := none } }
  | _ => t

/-- The management port link: amplitude as forced by MGMT_CFG.AMP, or as negotiated. -/
def linkChange (s : State) (up ampHigh : Bool) : State :=
  let amp := getF s mgmtPg MGMT_MGMT_CFG_AMP
  let s := putFlag s mgmtPg MGMT_MGMT_STATUS_LINK_UP up
  let s := putFlag s mgmtPg MGMT_MGMT_STATUS_AMP_HIGH (up && (if amp = 0 then ampHigh else amp == 2))
  let s := putFlag s mgmtPg MGMT_MGMT_STATUS_AN_DONE (up && amp == 0)
  raise s mgmtPg (if up then 0 else 1)

/-- An armed commit of a page takes effect at its boundary; one that changes AMP retrains the management link (R1046). -/
def applyCommit (s : State) (ref : Nat) (k : PageKind) : State :=
  let p := instOf (refRegion ref)
  match k with
  | .sensor => sensorCommit s p
  | .listener => listenerCommit s p
  | .esc => escCommit s
  | .adit => reselectTime (commitPage s ref)
  | .field => (List.range 8).foldl applyChannel s
  | .mgmt =>
    let t := commitPage s ref
    if getF t mgmtPg MGMT_MGMT_CFG_AMP != getF s mgmtPg MGMT_MGMT_CFG_AMP && flagF s mgmtPg MGMT_MGMT_STATUS_LINK_UP then
      linkChange t false false
    else t
  | _ => commitPage s ref

/-- CTRL.EN is cleared: sensor ports, listeners, Adit links and the field outputs run on to their next boundary, which is an
event of its own; for the others it is here (R211, R252, Table 4-3). -/
def stopBlock (s : State) (ref : Nat) (k : PageKind) : State :=
  let s := putFlag s ref CTRL_EN false
  if k = .sensor || k = .listener || k = .adit then s
  else if k = .field then fieldStops s
  else
    let s := if flagF s ref COMMIT_ARMED then applyCommit s ref k else s
    let s := putFlag s ref STATUS_ENABLED false
    match k with
    | .esc => (List.range 16).foldl chainOff s
    | _ => s

/-- A soft reset of a face (R507, R508). -/
def faceReset (s : State) (g : Nat) : State :=
  let o := (s.faceAt g).owner
  let s := dropTransfers (abandonLocks (dropWaits s g) g) g
  let s := s.updFace g (fun f => { FaceSt.reset with
    sram := f.sram, spoil := f.spoil, tags := f.tags, prog := f.prog, epLen := f.epLen, tables := f.tables, nextId := f.nextId
    dead := f.dead, missed := f.missed, scanning := f.scanning, ended := true })
  match o with
  | .job j => jobCheckEnd (jobStop s j 0x11 0 g) j
  | .stage _ _ => escFaceLost s g 3
  | .none => s

/-- The operations a soft reset abandons. -/
def abandon (s : State) (ref : Nat) (k : PageKind) : State :=
  let p := instOf (refRegion ref)
  match k with
  | .sensor => sensorReset s p
  | .listener => listenerReset s p
  | .esc => escReset s
  | .adit => linkDown s p 0
  | .field => dropOuts s
  | .sync => syncReset s (refRegion ref)
  | .face => faceReset s (refFace ref)
  | .wb => wbReset s
  | .jobq => jobqReset s
  | _ => s

/-- SRST is written 1. -/
def beginReset (s : State) (ref : Nat) (k : PageKind) : State :=
  let s := putFlag (putFlag s ref CTRL_EN false) ref STATUS_ENABLED false
  abandon (setF (setF s ref COMMIT_ARMED 0) ref STATUS_SRST_BUSY 1) ref k

/-- Fields a soft reset leaves: EVT_EN and EVT_ROUTE (R212). -/
def resetKeeps (k : PageKind) : List Fld :=
  [EVT_EN k, EVT_ROUTE]

/-- The soft reset completes. -/
def endReset (s : State) (ref : Nat) (k : PageKind) : State :=
  if k = .jobq then jobqResetEnds s else resetPage s ref (resetKeeps k)

/-- A write of CTRL. -/
def writeCtrl (s : State) (ref : Nat) (k : PageKind) (v : Nat) : State :=
  if ctrlOf k = .none || flagF s ref STATUS_SRST_BUSY then s
  else if bit v 1 then beginReset s ref k
  else if ctrlOf k = .reset then s
  else
    let en := flagF s ref CTRL_EN
    let s := if bit v 0 && !en then startBlock s ref k else if en && !bit v 0 then stopBlock s ref k else s
    let p := instOf (refRegion ref)
    if k = .listener && (bit v 2 || lisF s p LISTENER_CTRL_B_EN == 1) then bEnChanged s p (bit v 2) else s

/-! ## Header registers (R221, R239, R241, R242, R244) -/

/-- Send VECTOR when EVT_STAT is not zero and HOST_EN is set. -/
def resend (s : State) (ref : Nat) : State :=
  if evtStat s ref != 0 && ROUTE_HOST (getF s ref EVT_ROUTE) then sendMsix s (ROUTE_VECTOR (getF s ref EVT_ROUTE)) else s

/-- A write of EVT_EN: bits of EVT_STAT that rise are delivered, a record each and one message after the last (R242). -/
def writeEvtEn (s : State) (ref : Nat) (k : PageKind) (v : Nat) : State :=
  let old := evtStat s ref
  let s := setF s ref (EVT_EN k) (v &&& eventsOf k)
  let rise := (List.range 32).filter (fun b => bit (evtStat s ref) b && !bit old b)
  if rise.isEmpty then resend s ref else rise.foldl (fun s b => deliver s ref b (some b == rise.getLast?)) s

/-- A write of COMMIT.ARM. -/
def armCommit (s : State) (ref : Nat) (k : PageKind) (v : Nat) : State :=
  if noCommit k || !bit v 0 || flagF s ref COMMIT_ARMED then s
  else
    let s := setF s ref COMMIT_ARMED 1
    if k = .field then armFields s else s

/-- A write of a header register. -/
def writeHeader (s : State) (ref : Nat) (k : PageKind) (off v : Nat) : State :=
  match off with
  | 0x08 => writeCtrl s ref k v
  | 0x0C => if bit v 2 then setF s ref STATUS_WERR 0 else s
  | 0x14 => writeEvtEn s ref k v
  | 0x18 =>
    let raw := getF s ref EVT_RAW
    resend (setF s ref EVT_RAW (raw - (raw &&& v))) ref
  | 0x1C => armCommit s ref k v
  | 0x20 => if bit v 8 then setF (setF s ref ERRINFO 0) ref ERRADDR 0 else s
  | 0x2C => setF s ref EVT_ROUTE v
  | _ => s

/-! ## Registers of a block -/

/-- Bits of ST_REGION_k that name no region (Table 7-6). -/
def regionMask (n : Nat) : Nat := flagBits ((List.range 32).map (fun i => present (32 * n + i)))

/-- One field of the written word. -/
def writeField (s : State) (ref : Nat) (k : PageKind) (v : Nat) (x : RegRow × Nat × Bool) : State :=
  let f := x.1.fld.ix x.2.1
  let new := newField s ref x v
  let new := if k = .esc && 0x810 ≤ x.1.fld.off then new &&& regionMask ((x.1.fld.off - 0x810) / 4) else new
  match x.1.acc with
  | .rw => if (viewOf s ref k x.1.fld x.2.1).isSome then s else if x.1.cls = .h then setShadow s ref f new else setF s ref f new
  | .rws => setF s ref f new
  | .w1c => setF s ref f (getF s ref f - (getF s ref f &&& new))
  | .pair =>
    if x.2.2 then { setF s ref f new with staged := tdel s.staged (fieldKey ref f) }
    else { s with staged := tput s.staged (fieldKey ref f) (v % 2 ^ 32) }
  | _ => s

/-- A PEEK_DATA write (R485, R614): face SRAM, and PEEK_ADDR advances. -/
def peekPut (s : State) (g v : Nat) : State :=
  let a := 4 * getF s (facePg g) FACE_PEEK_ADDR_ADDR
  let s := if a + 4 ≤ sramSize then sramWrite s g a (leBytes 4 v) false else s
  addF s (facePg g) FACE_PEEK_ADDR_ADDR 1

def sigSub (n : Nat) : SyncSub := if n = 0 then .add else if n = 2 then .set else .clear

/-- What a taken write of a block's register does beside its fields. -/
def afterWrite (s : State) (sp : Space) (ref : Nat) (k : PageKind) (off v : Nat) (users : List Nat) : State :=
  let r := refRegion ref
  let p := instOf r
  match k, off with
  | .power, 0x44 => if bit v 0 then requestStop s r (bit v 1) 10 false else s
  | .sensor, 0x48 => headFollows s p
  | .sensor, 0x70 => if bit v 12 then cciBegin s p else s
  | .listener, 0x90 => if bit v 2 then s.updLslot p (bits v 0 2) (fun x => { x with manual := true }) else s
  | .listener, 0xB4 => bDataPut s p v
  | .listener, off =>
    if 0x100 ≤ off && off < 0x300 && off % 32 = 0x14 && bit v 0 then s.updDet p ((off - 0x100) / 32) (fun x => { x with setFloor := true })
    else s
  | .esc, 0x40 =>
    let s := if bit v 4 then promoteCmd s (bits v 0 4) else s
    if bit v 5 then demote s (bits v 0 4) else s
  | .esc, 0x44 => if bit v 0 then storeSave s else s
  | .sync, 0x58 =>
    if bit v 12 then sigApply s r (if sp = .banksman then .banksman else .host) (sigSub (bits v 8 4)) (bits v 0 8) else s
  | .sync, 0x60 => if bit v 12 then snapSave s r (bits v 0 10) else if bit v 13 then snapRestore s r (bits v 0 10) else s
  | .sync, off => if 0x800 ≤ off && off % 8 = 0 then objCfgSet s r ((off - 0x800) / 8) v else s
  | .adit, 0x5C => if bit v 0 then requestSwap s p else s
  | .field, 0x40 => lookOuts s
  | .field, 0x44 => alarmCmd s v
  | .wb, 0x40 => if bit v 8 then mbBegin s (bits v 0 8) (sp != .banksman) else s
  | .jobq, 0x54 => jobCmd s v
  | .jobq, 0x58 => queueCmd s v users
  | .face, 0xC4 => peekPut s (refFace ref) v
  | _, _ => s

/-- A write of a word of a page: refused, or taken. -/
def writePage (s : State) (sp : Space) (ref : Nat) (k : PageKind) (off v : Nat) (users : List Nat) : State :=
  match refusal (commonCodes s sp ref k off v ++ blockCodes s sp ref k off v) with
  | some code =>
    let w := errWhere s sp ref k off code
    recordErr (setF s ref STATUS_WERR 1) ref code (Space.src sp) w.1 w.2
  | none =>
    if off < 0x40 then writeHeader s ref k off v
    else afterWrite ((fieldsAt k off).foldl (fun s x => writeField s ref k v x) s) sp ref k off v users

/-! ## BAR2 (R791, R792, R811) -/

/-- A word of the MSI-X table; vector control keeps its mask bit alone. -/
def msixFld (off : Nat) : Fld := ⟨off, 0, 32, 0, if off % 16 = 12 then 1 else 0⟩

/-- A vector that is no longer masked sends its pending message, as PCIe defines. -/
def unmasked (s : State) (v : Nat) : State :=
  let f := PBA_WORD.ix (v / 32)
  let w := getF s pbaPg f
  if bit (getF s msixPg (MSIX_CTL.ix v)) 0 || !bit w (v % 32) then s
  else sendMsix (setF s pbaPg f (w - 2 ^ (v % 32))) v

/-- A write of a BAR2 word. -/
def writeBar2 (s : State) (ref off v : Nat) : State :=
  if ref = msixPg then
    let v := if off % 16 = 12 then v % 2 else if off % 16 = 0 then v / 4 * 4 else v
    unmasked (setF s msixPg (msixFld off) v) (off / 16)
  else if ref = evqPg then (if off = 0 then headWrite s evqPg 0 EVQ_HEAD EVQ_TAIL v else s)
  else if ref = pbaPg then s
  else match off with
    | 0x00 => setF s ref SUBMIT_LO v
    | 0x04 => submit s (ref - bar2Pg 0) v
    | 0x10 => headWrite s ref 0x10 CQ_HEAD CQ_TAIL v
    | _ => s

/-- A BAR2 word. -/
def readBar2 (s : State) (ref off : Nat) : Nat :=
  if ref = msixPg then getF s msixPg (msixFld off)
  else if ref = pbaPg then getF s pbaPg (PBA_WORD.ix (off / 4))
  else if ref = evqPg then [getF s evqPg EVQ_HEAD, getF s evqPg EVQ_TAIL, getF s evqPg EVQ_LOST].getD (off / 4) 0
  else match off with
    | 0x08 => getF s ref SUBMIT_RESULT + 0x10000 * getF s ref SUBMIT_SEQ
    | 0x0C => (pendOf s (ref - bar2Pg 0)).length
    | 0x10 => getF s ref CQ_HEAD
    | 0x14 => getF s ref CQ_TAIL
    | _ => 0

/-! ## The aperture (R642 to R644, R847) -/

/-- Bed-store address of an aperture offset. -/
def apertureAddr (s : State) (r off : Nat) : Nat := getF s (bedPg r) BED_APERTURE_BASE * 0x800000 + off

/-- An aperture read: the bytes; refused bytes read 0; a line with spoil is recorded (APERTURE_SPOIL, bit 8). -/
def apertureGet (s : State) (r off n errs : Nat) : State × List Nat :=
  let a := apertureAddr s r off
  if !hostMay s r a n 3 then (denyBed s r a n .host, List.replicate n 0)
  else
    let s := ageLines s r [(a / 64, errs)]
    let spoiled := lineSpoil (s.bed r) (a / 64)
    let x := bedRead s r a n
    (if spoiled then raise (recordErr x.1 (bedPg r) 0x42 .host 3 (a / 64 * 64)) (bedPg r) 8 else x.1, x.2.1)

/-- An aperture write. -/
def aperturePut (s : State) (r off : Nat) (bs : List Nat) : State :=
  let a := apertureAddr s r off
  if !hostMay s r a bs.length 4 then denyBed s r a bs.length .host
  else bedWrite s r .aperture a (bs.map (· % 256)) false true

/-! ## Reads -/

/-- What the outside supplies to a read: SRAM check bits, bit errors of a bed line, an uncorrectable image word. -/
structure ReadHint where
  ecc : SramEcc
  errs : Nat
  bad : Bool

def ReadHint.clean : ReadHint := ⟨⟨0, none⟩, 0, false⟩

/-- A word of an element program or of the function tables. -/
def FaceSt.peekWord (f : FaceSt) (space a : Nat) : Nat :=
  if space = 1 then tget 0 f.prog (a / 8) / 2 ^ (32 * (a / 4 % 2)) % 2 ^ 32
  else tget 0 (tget FTable.reset f.tables (a / 0x1000)).segs (a % 0x1000 / 4)

/-- A PEEK_DATA read of an owner that is not confidential (R428, R484, R504). -/
def peekGet (s : State) (g : Nat) (ecc : SramEcc) : State × Nat :=
  let pg := facePg g
  let f := s.faceAt g
  let a := 4 * getF s pg FACE_PEEK_ADDR_ADDR
  let space := getF s pg FACE_PEEK_ADDR_SPACE
  let s := addF s pg FACE_PEEK_ADDR_ADDR 1
  if space ≠ 0 then (s, f.peekWord space a)
  else if sramSize < a + 4 then (s, 0)
  else
    let s := if ecc.corrected = 0 then s else raise (addF s pg FACE_SRAM_ECC_CORRECTED ecc.corrected) pg 5
    match ecc.bad with
    | none => (s, mnum f.sram a 4)
    | some _ =>
      let x := s.fresh
      (faceStop x.1 g noRecord 0x43 6 a, x.2 % 2 ^ 32)

/-- A read of confidential data is refused: 0, and CONFIDENTIAL in the page. -/
def refuseRead (s : State) (sp : Space) (ref off : Nat) : State × Nat :=
  (recordErr s ref 0x21 (Space.src sp) (Space.errSpace sp) (ref * 0x1000 + off), 0)

/-- The low word of a counter takes its snapshot (R236). -/
def takeSnaps (s : State) (sp : Space) (ref : Nat) (k : PageKind) (off : Nat) : State :=
  (fieldsAt k off).foldl (fun t x =>
    if x.1.fld.w = 64 && !x.2.2 && x.1.acc == .ctr then
      putSnap t sp (fieldKey ref (x.1.fld.ix x.2.1)) (readField s ref k x.1 x.2.1 / 2 ^ 32)
    else t) s

/-- A read of a word of a page. -/
def readPage (s : State) (sp : Space) (ref : Nat) (k : PageKind) (off : Nat) (h : ReadHint) : State × Nat :=
  let g := refFace ref
  match k with
  | .face =>
    if off = 0xC4 then (if (s.faceAt g).secret then refuseRead s sp ref off else peekGet s g h.ecc)
    else (takeSnaps s sp ref k off, pageWord s sp ref k off)
  | .fctx => if 0x40 ≤ off && (s.faceAt g).secret then refuseRead s sp ref off else (s, pageWord s sp ref k off)
  | .hoist =>
    if off = 0x74 && (s.faceAt g).secret then refuseRead s sp ref off
    else (takeSnaps s sp ref k off, pageWord s sp ref k off)
  | .sync =>
    if 0x800 ≤ off && off % 8 = 4 && objSecret s (refRegion ref) ((off - 0x800) / 8) then refuseRead s sp ref off
    else (takeSnaps s sp ref k off, pageWord s sp ref k off)
  | .listener =>
    if off = 0xB4 then bDataGet s (instOf (refRegion ref)) h.ecc.corrected h.bad else (s, pageWord s sp ref k off)
  | k => (takeSnaps s sp ref k off, pageWord s sp ref k off)

/-- The quarry map mirror: the committed record's bytes, then 0 (R115). -/
def mirrorBytes (s : State) : List Nat :=
  match s.map.mirror with
  | some q => q.bytes
  | none => []

/-- What a read does at its target, and the value there. -/
def targetRead (s : State) (sp : Space) (a size : Nat) (h : ReadHint) : State × Nat :=
  match target sp a with
  | .page ref off =>
    (match pageKind ref with
      | some k => readPage s sp ref k off h
      | none => (s, 0))
  | .aperture r off =>
    let y := apertureGet s r off size h.errs
    (y.1, leNum y.2)
  | .mirror off => (s, hnum (mirrorBytes s) off size)
  | .bar2 ref off =>
    (s, if size = 8 then readBar2 s ref off + 2 ^ 32 * readBar2 s ref (off + 4) else readBar2 s ref off)
  | .none => (s, 0)

/-- What a write of `size` bytes, given as a little-endian number, does at its target. -/
def targetWrite (s : State) (sp : Space) (a size v : Nat) (users : List Nat) : State :=
  match target sp a with
  | .page ref off =>
    (match pageKind ref with
      | some k => writePage s sp ref k off (v % 2 ^ 32) users
      | none => s)
  | .aperture r off => aperturePut s r off (leBytes size v)
  | .bar2 ref off =>
    if size = 8 then writeBar2 (writeBar2 s ref off (v % 2 ^ 32)) ref (off + 4) (v / 2 ^ 32 % 2 ^ 32)
    else writeBar2 s ref off (v % 2 ^ 32)
  | _ => s

/-- The access took effect at its target: it completed, or only its answer was lost. -/
def took (st : BusStatus) (t : Travel) : Bool := st == .ok || (st == .routeLost && t.fate == .answerLost)

/-- A bus read: the state after it and the value. -/
def busRead (s : State) (sp : Space) (a : Nat) (t : Travel) (h : ReadHint) : State × Nat :=
  let st := judge s sp a t
  let x := if took st t then targetRead s sp a t.size h else (s, 0)
  let v := if st = .ok then x.2 else 0
  (endAccess x.1 sp a v st, v)

/-- A bus write. -/
def busWrite (s : State) (sp : Space) (a : Nat) (t : Travel) (v : Nat) (users : List Nat) : State :=
  let st := judge s sp a t
  endAccess (if took st t then targetWrite s sp a t.size v users else s) sp a 0 st

/-- The written value, less the W1C bits of EVT_STAT, STATUS, ERRINFO and ALARM_STAT that hardware sets in the same cycle:
they stay set (R249, R969). -/
def lessSet (a v setNow : Nat) : Nat :=
  if [0x0C, 0x18, 0x20].contains (a % 0x1000) || a == fieldPg * 0x1000 + 0x40 then v - (v &&& setNow) else v

/-! ## Commands that are accesses -/

/-- A command that writes one word; `c` tells that the word is that command's. -/
def wordWrite (sp : Space) (a v : Nat) (c : Bool) (s : State) : Host.Outcome State Fault Refusal :=
  guardDo (canAccess s sp && c) (fun s => busWrite s sp a .word v []) s

/-- A command that reads. -/
def wordRead (sp : Space) (a : Nat) (h : ReadHint) (c : Bool) (s : State) : Host.Outcome State Fault Refusal :=
  guardDo (canAccess s sp && c) (fun s => (busRead s sp a .word h).1) s

def execRegisterWrite (sp : Space) (addr size be value setNow : Nat) (fate : Fate) (s : State) :
    Host.Outcome State Fault Refusal :=
  guardDo (canAccess s sp) (fun s => busWrite s sp addr ⟨size, be, fate⟩ (lessSet addr value setNow) []) s
def execBlockEnable (sp : Space) (ref : Nat) (value : Word) (s : State) : Host.Outcome State Fault Refusal :=
  wordWrite sp (ref * 0x1000 + 0x08) value.toNat (bit value.toNat 0 && !bit value.toNat 1) s
def execBlockDisable (sp : Space) (ref : Nat) (value : Word) (s : State) : Host.Outcome State Fault Refusal :=
  wordWrite sp (ref * 0x1000 + 0x08) value.toNat (!bit value.toNat 0 && !bit value.toNat 1) s
def execSoftReset (sp : Space) (ref : Nat) (value : Word) (s : State) : Host.Outcome State Fault Refusal :=
  wordWrite sp (ref * 0x1000 + 0x08) value.toNat (bit value.toNat 1) s
def execSoftResetDone (ref : Nat) (s : State) : Host.Outcome State Fault Refusal :=
  match pageKind ref with
  | some k => guardDo (flagF s ref STATUS_SRST_BUSY) (fun s => endReset s ref k) s
  | none => done s
def execCommitArm (sp : Space) (ref : Nat) (s : State) : Host.Outcome State Fault Refusal :=
  wordWrite sp (ref * 0x1000 + 0x1C) 1 true s

def facePage (k : PageKind) : Bool := [PageKind.face, .fctx, .hoist, .num].contains k

/-- The boundary of a page that COMMIT_APPLY stands for: not that of a page whose boundary is a command of its own (the
power controller's evaluation, a port frame, hop, link frame, tick or PWM period of an enabled block: R225), and not
while the page's operation is in progress: a mailbox command, or an op record of a face (Table 4-3). -/
def boundaryHere (s : State) (ref : Nat) (k : PageKind) : Bool :=
  match k with
  | .power => false
  | .field => false
  | .sensor => !enabledBit s ref k
  | .listener => !enabledBit s ref k
  | .adit => !enabledBit s ref k
  | .wb => s.wb.mb.isNone
  | .dap => s.wb.mb.isNone
  | k => !facePage k || (s.faceAt (refFace ref)).issued.all (·.st.ended)

def execCommitApply (ref : Nat) (s : State) : Host.Outcome State Fault Refusal :=
  match pageKind ref with
  | some k => guardDo (flagF s ref COMMIT_ARMED && boundaryHere s ref k) (fun s => applyCommit s ref k) s
  | none => done s

def execEvtStatClear (sp : Space) (ref : Nat) (value : Word) (setNow : Nat) (s : State) : Host.Outcome State Fault Refusal :=
  wordWrite sp (ref * 0x1000 + 0x18) (lessSet 0x18 value.toNat setNow) true s
def execEvtEnWrite (sp : Space) (ref : Nat) (value : Word) (s : State) : Host.Outcome State Fault Refusal :=
  wordWrite sp (ref * 0x1000 + 0x14) value.toNat true s
def execErrinfoClear (sp : Space) (ref : Nat) (value : Word) (setNow : Nat) (s : State) : Host.Outcome State Fault Refusal :=
  wordWrite sp (ref * 0x1000 + 0x20) (lessSet 0x20 value.toNat setNow) true s
def execLoWordWrite (sp : Space) (addr : Nat) (value : Word) (s : State) : Host.Outcome State Fault Refusal :=
  wordWrite sp addr value.toNat true s
def execHiWordWrite (sp : Space) (addr : Nat) (value : Word) (s : State) : Host.Outcome State Fault Refusal :=
  wordWrite sp addr value.toNat true s
def execCounterLowRead (sp : Space) (addr size be : Nat) (fate : Fate) (s : State) : Host.Outcome State Fault Refusal :=
  guardDo (canAccess s sp) (fun s => (busRead s sp addr ⟨size, be, fate⟩ .clean).1) s

/-! Power controller, sensor port and listener registers. -/

def execStopCmd (sp : Space) (r : Nat) (value : Word) (s : State) : Host.Outcome State Fault Refusal :=
  wordWrite sp (powerPg r * 0x1000 + 0x44) value.toNat (present r) s
def execIdleCfgWrite (sp : Space) (r : Nat) (value : Word) (s : State) : Host.Outcome State Fault Refusal :=
  wordWrite sp (powerPg r * 0x1000 + 0x4C) value.toNat (present r) s
def execHeadCtrlWrite (sp : Space) (p : Nat) (value : Word) (s : State) : Host.Outcome State Fault Refusal :=
  wordWrite sp (sensorPg p * 0x1000 + 0x48) value.toNat (p < 6) s
def execCciGo (sp : Space) (p : Nat) (value : Word) (s : State) : Host.Outcome State Fault Refusal :=
  wordWrite sp (sensorPg p * 0x1000 + 0x70) value.toNat (p < 6 && bit value.toNat 12) s
def execBEnWrite (sp : Space) (p : Nat) (value : Word) (s : State) : Host.Outcome State Fault Refusal :=
  wordWrite sp (listenerPg p * 0x1000 + 0x08) value.toNat (p < 6) s
def execBDataWrite (sp : Space) (p : Nat) (value : Word) (s : State) : Host.Outcome State Fault Refusal :=
  wordWrite sp (listenerPg p * 0x1000 + 0xB4) value.toNat (p < 6) s
def execBDataRead (sp : Space) (p corrected : Nat) (badWord : Bool) (s : State) : Host.Outcome State Fault Refusal :=
  wordRead sp (listenerPg p * 0x1000 + 0xB4) ⟨⟨corrected, none⟩, 0, badWord⟩ (p < 6) s
def execTrigCmd (sp : Space) (p : Nat) (value : Word) (s : State) : Host.Outcome State Fault Refusal :=
  wordWrite sp (listenerPg p * 0x1000 + 0x90) value.toNat (p < 6 && bit value.toNat 2) s
def execFloorReset (sp : Space) (p d : Nat) (value : Word) (s : State) : Host.Outcome State Fault Refusal :=
  wordWrite sp (listenerPg p * 0x1000 + 0x114 + 32 * d) value.toNat (p < 6 && d < 16) s

/-! Escalation controller, sync block and Adit link registers. -/

def execPromote (sp : Space) (value : Word) (s : State) : Host.Outcome State Fault Refusal :=
  wordWrite sp (escPg * 0x1000 + 0x40) value.toNat (bit value.toNat 4) s
def execDemote (sp : Space) (value : Word) (s : State) : Host.Outcome State Fault Refusal :=
  wordWrite sp (escPg * 0x1000 + 0x40) value.toNat (bit value.toNat 5) s
def execChainStoreSave (sp : Space) (value : Word) (s : State) : Host.Outcome State Fault Refusal :=
  wordWrite sp (escPg * 0x1000 + 0x44) value.toNat (bit value.toNat 0) s

/-- A write of SIG_CMD with GO and the SUBOP of the command. -/
def sigCmd (sp : Space) (r v sub : Nat) (s : State) : Host.Outcome State Fault Refusal :=
  wordWrite sp (syncPg r * 0x1000 + 0x58) v (present r && bit v 12 && bits v 8 4 == sub) s

def execSigCmdAdd (sp : Space) (r : Nat) (value : Word) (s : State) : Host.Outcome State Fault Refusal :=
  sigCmd sp r value.toNat 0 s
def execSigCmdSet (sp : Space) (r : Nat) (value : Word) (s : State) : Host.Outcome State Fault Refusal :=
  sigCmd sp r value.toNat 2 s
def execSigCmdClear (sp : Space) (r : Nat) (value : Word) (s : State) : Host.Outcome State Fault Refusal :=
  sigCmd sp r value.toNat 3 s
def execSnapSave (sp : Space) (r : Nat) (value : Word) (s : State) : Host.Outcome State Fault Refusal :=
  wordWrite sp (syncPg r * 0x1000 + 0x60) value.toNat (present r && bit value.toNat 12) s
def execSnapRestore (sp : Space) (r : Nat) (value : Word) (s : State) : Host.Outcome State Fault Refusal :=
  wordWrite sp (syncPg r * 0x1000 + 0x60) value.toNat (present r && bit value.toNat 13) s
def execObjCfgWrite (sp : Space) (r obj : Nat) (value : Word) (s : State) : Host.Outcome State Fault Refusal :=
  wordWrite sp (syncPg r * 0x1000 + 0x800 + 8 * obj) value.toNat (present r && obj < 256) s
def execObjStateRead (sp : Space) (r obj : Nat) (s : State) : Host.Outcome State Fault Refusal :=
  wordRead sp (syncPg r * 0x1000 + 0x804 + 8 * obj) .clean (present r && obj < 256) s
def execRoleSwap (sp : Space) (k : Nat) (value : Word) (s : State) : Host.Outcome State Fault Refusal :=
  wordWrite sp (aditPg k * 0x1000 + 0x5C) value.toNat (k < 4 && bit value.toNat 0) s

/-! Face and aperture. -/

def execPeekDataRead (sp : Space) (g : Nat) (ecc : SramEcc) (s : State) : Host.Outcome State Fault Refusal :=
  wordRead sp (facePg g * 0x1000 + 0xC4) { ReadHint.clean with ecc := ecc } (faceAssigned g) s
def execPeekDataWrite (sp : Space) (g : Nat) (value : Word) (s : State) : Host.Outcome State Fault Refusal :=
  wordWrite sp (facePg g * 0x1000 + 0xC4) value.toNat (faceAssigned g) s
def execApertureRead (sp : Space) (addr size errs : Nat) (fate : Fate) (s : State) : Host.Outcome State Fault Refusal :=
  guardDo (canAccess s sp && 0x800 ≤ addr / 0x1000 % 0x1000)
    (fun s => (busRead s sp addr ⟨size, 2 ^ size - 1, fate⟩ { ReadHint.clean with errs := errs }).1) s
def execApertureWrite (sp : Space) (addr size : Nat) (data : List Nat) (fate : Fate) (s : State) :
    Host.Outcome State Fault Refusal :=
  guardDo (canAccess s sp && 0x800 ≤ addr / 0x1000 % 0x1000) (fun s =>
    busWrite s sp addr ⟨size, 2 ^ size - 1, fate⟩ (leNum ((List.range size).map (fun i => data.getD i 0 % 256))) []) s

/-! Host port and weighbridge. -/

def execSubmitLo (q : Nat) (value : Word) (s : State) : Host.Outcome State Fault Refusal :=
  wordWrite .bar2 (q * 0x1000) value.toNat (q < 64) s
def execSubmitHi (q : Nat) (value : Word) (s : State) : Host.Outcome State Fault Refusal :=
  wordWrite .bar2 (q * 0x1000 + 4) value.toNat (q < 64) s
def execCqHeadWrite (q : Nat) (value : Word) (s : State) : Host.Outcome State Fault Refusal :=
  wordWrite .bar2 (q * 0x1000 + 0x10) value.toNat (q < 64) s
def execEvqHeadWrite (value : Word) (s : State) : Host.Outcome State Fault Refusal :=
  wordWrite .bar2 0x40000 value.toNat true s
def execJobStop (sp : Space) (value : Word) (s : State) : Host.Outcome State Fault Refusal :=
  wordWrite sp (jobqPg * 0x1000 + 0x54) value.toNat (bit value.toNat 12) s
def execQueueFlush (sp : Space) (value : Word) (users : List Nat) (s : State) : Host.Outcome State Fault Refusal :=
  guardDo (canAccess s sp && bit value.toNat 8) (fun s => busWrite s sp (jobqPg * 0x1000 + 0x58) .word value.toNat users) s

/-- A write of MB_CMD with GO. -/
def mailbox (sp : Space) (op : Nat) (s : State) : Host.Outcome State Fault Refusal :=
  wordWrite sp (wbPg * 0x1000 + 0x40) (0x100 + op) true s

def execGetCert (sp : Space) (s : State) : Host.Outcome State Fault Refusal := mailbox sp 1 s
def execModuleTicket (sp : Space) (s : State) : Host.Outcome State Fault Refusal := mailbox sp 2 s
def execJobTicket (sp : Space) (s : State) : Host.Outcome State Fault Refusal := mailbox sp 3 s
def execPartList (sp : Space) (s : State) : Host.Outcome State Fault Refusal := mailbox sp 4 s
def execPartDelete (sp : Space) (s : State) : Host.Outcome State Fault Refusal := mailbox sp 5 s
def execZeroise (sp : Space) (s : State) : Host.Outcome State Fault Refusal := mailbox sp 6 s
def execSelfTest (sp : Space) (s : State) : Host.Outcome State Fault Refusal := mailbox sp 7 s

/-- A JTAG access, bridged with Banksman authority while the port is OPEN (R866). -/
def bridgeAccess (s : State) (write : Bool) (addr size value : Nat) : State :=
  let t : Travel := ⟨size, 2 ^ size - 1, .arrives⟩
  if !s.wb.dapOpen || s.wb.erase.isSome then s
  else if write then busWrite s .banksman addr t value [] else (busRead s .banksman addr t .clean).1

/-- The boundary-scan port at work: the mandatory instructions of IEEE 1149.1 at every time (R862), and accesses. -/
def tapDo (s : State) : TapOp → State
  | .bypass tdi => (setTap s .bypass).updWb (fun w => { w with tap := { w.tap with bypassBit := tdi } })
  | .sample pins => (setTap s .sample).updWb (fun w => { w with tap := { w.tap with cells := pins } })
  | .preload cells => (setTap s .preload).updWb (fun w => { w with tap := { w.tap with cells := cells } })
  | .extest => setTap s .extest
  | .access write addr size value => bridgeAccess (setTap s .bridge) write addr size value

def execDapAccess (op : TapOp) (s : State) : Host.Outcome State Fault Refusal :=
  guardDo (s.carrier.vaon == .up) (fun s => tapDo s op) s

/-! Field outputs. -/

def execAlarmCmd (sp : Space) (value : Word) (s : State) : Host.Outcome State Fault Refusal :=
  wordWrite sp (fieldPg * 0x1000 + 0x44) value.toNat true s
def execAlarmStatClear (sp : Space) (value : Word) (setNow : Nat) (s : State) : Host.Outcome State Fault Refusal :=
  wordWrite sp (fieldPg * 0x1000 + 0x40) (lessSet (fieldPg * 0x1000 + 0x40) value.toNat setNow) true s

end Sys2Proof.Machine
end

