-- ==== Sys2Proof/Machine/Mat.lean ====
section
/-! DEFINITION. Machine/Mat.lean: access patterns (R439, R440) and MAT, the tensor contraction of the matrix engine (R442
to R445, R511 to R516, R523). -/

namespace Sys2Proof.Machine

open Sys2Proof

/-! ## Patterns -/

/-- A pattern as a record names it: first address with A[REG] added (in 32 bits), zero point and strides. -/
structure Pat where
  start : Nat
  zp : Int
  strides : List Int
  deriving DecidableEq, Repr

/-- Read the pattern a reference names. -/
def FaceSt.pat (f : FaceSt) (w : Nat) : Pat :=
  let a := refAddr w
  ⟨(bits (mnum f.sram a 4) 0 22 + f.a (refReg w)) % 2 ^ 32, toSigned 8 (mbyte f.sram (a + 4)),
    dims6.map (fun i => toSigned 32 (mnum f.sram (a + 8 + 4 * i) 4))⟩

/-- A reserved bit of BASE or ZPW is set (R471). -/
def FaceSt.patReserved (f : FaceSt) (w : Nat) : Bool :=
  2 ^ 22 ≤ mnum f.sram (refAddr w) 4 || 2 ^ 8 ≤ mnum f.sram (refAddr w + 4) 4

def Pat.stride (p : Pat) (i : Nat) : Int := p.strides.getD i 0

/-- The byte address of an element at an offset in elements; size 0 stands for int4, two elements to a byte (R440). -/
def elemAddr (size start : Nat) (off : Int) : Nat :=
  if size = 0 then ((start : Int) + off / 2).toNat else ((start : Int) + off * (size : Int)).toNat

/-- The bytes of an operand leave face SRAM (R492): `dims` gives size and stride of each dimension. Addresses are taken
in 32 bits, so that one below 0 lies beyond it. -/
def patRange (size start : Nat) (dims : List (Nat × Int)) : Option StopAt :=
  let ends := dims.map (fun d => d.2 * ((d.1 : Int) - 1))
  let lo := ends.foldl (fun a x => a + min 0 x) 0
  let hi := ends.foldl (fun a x => a + max 0 x) 0
  let first : Int := if size = 0 then (start : Int) + lo / 2 else (start : Int) + lo * (size : Int)
  let last : Int := if size = 0 then (start : Int) + hi / 2 else (start : Int) + hi * (size : Int) + (size : Int) - 1
  if first < 0 then some (.face SRAM_RANGE 6 (first % (2 ^ 32 : Nat)).toNat)
  else if (sramSize : Int) ≤ last then some (.face SRAM_RANGE 6 (max first (sramSize : Int)).toNat)
  else none

/-- One dimension more: `size` copies of the offsets so far, each further by the strides. -/
def nestStep (acc : List (List Int)) (d : Nat × List Int) : List (List Int) :=
  (List.range d.1).flatMap (fun (p : Nat) => acc.map (fun o => List.zipWith (fun x y => x + (p : Int) * y) o d.2))

/-- The offsets of every point of an index space, dimension 0 innermost (R444); a point holds one offset per operand. -/
def nest (width : Nat) (dims : List (Nat × List Int)) : List (List Int) :=
  dims.foldl nestStep [List.replicate width 0]

/-! ## Elements -/

/-- A signed element: size 1 int8, size 0 int4. -/
def FaceSt.intElem (f : FaceSt) (size start : Nat) (off : Int) : Int :=
  let b := mbyte f.sram (elemAddr size start off)
  if size = 0 then toSigned 4 (if off % 2 = 0 then b % 16 else b / 16) else toSigned 8 b

/-- Cut a list into groups. -/
def groupsOf {α : Type} (n : Nat) : Nat → List α → List (List α)
  | 0, _ => []
  | k + 1, l => if l.isEmpty then [] else l.take n :: groupsOf n k (l.drop n)

/-- R515, R516: the exact sum of up to 16 products, an exact zero being +0, rounded once to fp32. -/
def groupSum (ps : List (Fp × Fp)) : Nat :=
  let x := (ps.map (fun p => Fp.mul p.1 p.2)).foldl Fp.add (.fin false 0 0)
  fp32.round (if x.isZero then .fin false 0 0 else x)

/-- An accumulation in fp32: the runs of the innermost K dimension in groups of 16 points, in order. -/
def floatAcc (acc : Nat) (runs : List (List (Fp × Fp))) : Nat :=
  (runs.flatMap (fun r => groupsOf 16 (r.length + 1) r)).foldl (fun a grp => fadd a (groupSum grp)) acc

def accMax : Int := 2 ^ 47 - 1
def accMin : Int := -2 ^ 47

/-- R513: the exact sum in a 48-bit accumulator, with the number of saturations. -/
def intAcc (acc : Int) (ps : List (Int × Int)) : Int × Nat :=
  ps.foldl (fun x p =>
    let v := x.1 + p.1 * p.2
    (clampTo accMin accMax v, x.2 + (if clampTo accMin accMax v = v then 0 else 1))) (acc, 0)

/-! ## MAT (Table 8-4) -/

def matAcc (o : OpRec) : Bool := bit (o.word 4) 12
def matMode (o : OpRec) : Nat := bits (o.word 4) 13 2
def matEpi (o : OpRec) : Bool := bit (o.word 4) 15
def matQd (o : OpRec) : Nat := bits (o.word 4) 16 16 * 64

/-- Element size of A and B: int8 1, int4 0, fp16 and bf16 2. -/
def matSize (o : OpRec) : Nat :=
  match matMode o with
  | 0 => 1
  | 1 => 0
  | _ => 2

/-- Element size of C (R445). -/
def matOut (o : OpRec) : Nat := if matEpi o then 1 else 4

/-- Dimensions of a role (1 M, 2 N, 3 K), ascending. -/
def dimsOf (o : OpRec) (role : Nat) : List Nat := dims6.filter (fun i => o.role i == role)

/-- Used dimensions. -/
def usedDims (o : OpRec) : List Nat := dims6.filter (fun i => o.role i != 0)

/-- The number of points of the N dimensions. -/
def matChannels (o : OpRec) : Nat := ((dimsOf o 2).map o.size).foldl (· * ·) 1

/-- The channel stride of a dimension (R519): N dimensions count, the lowest-numbered fastest. -/
def chanStride (o : OpRec) (i : Nat) : Int :=
  if o.role i = 2 then (((dimsOf o 2).filter (· < i)).map o.size).foldl (fun (a : Int) (n : Nat) => a * (n : Int)) 1 else 0

/-- The checks before anything is written (R471, R492, R512, R524, R988). -/
def matCheck (f : FaceSt) (o : OpRec) : Option StopAt :=
  let refs := [o.word 1, o.word 2, o.word 3]
  let mode := matMode o
  let ab := [f.pat (o.word 1), f.pat (o.word 2)]
  let c := f.pat (o.word 3)
  let zpBad := ab.any (fun p => (mode = 1 && !(-8 ≤ p.zp && p.zp ≤ 7)) || (2 ≤ mode && p.zp != 0))
  let dims (p : Pat) := (usedDims o).map (fun i => (o.size i, p.stride i))
  let qa := matQd o
  firstStop (refs.map (fun w => f.spoilStop (refAddr w) 32)
    ++ [if refs.any f.patReserved || zpBad || (dimsOf o 3).any (fun i => c.stride i != 0) then some (illegalAt o) else none]
    ++ ab.map (fun p => patRange (matSize o) p.start (dims p)) ++ [patRange (matOut o) c.start (dims c)]
    ++ (if matEpi o then
      [f.spoilStop qa 64, if sramSize < qa + qdBytes f.sram qa (matChannels o) then some (.face SRAM_RANGE 6 sramSize) else none,
        f.spoilStop qa (qdBytes f.sram qa (matChannels o)),
        (qdBad f.sram qa (2 ≤ mode) (matChannels o)).map (fun off => .qd (qa + off))]
      else []))

/-- The offsets [A, B, C, channel] of the points over M and N. -/
def matOuter (o : OpRec) (a b c : Pat) : List (List Int) :=
  nest 4 (((usedDims o).filter (fun i => o.role i != 3)).map (fun i =>
    (o.size i, [a.stride i, b.stride i, c.stride i, chanStride o i])))

/-- The offsets [A, B] of the runs of the innermost K dimension, and within a run; without K a single point. -/
def matRuns (o : OpRec) (a b : Pat) : List (List (List Int)) :=
  let run (i : Nat) : Nat × List Int := (o.size i, [a.stride i, b.stride i])
  match dimsOf o 3 with
  | [] => [[[0, 0]]]
  | k :: ks =>
    (nest 2 (ks.map run)).map (fun p => (nest 2 [run k]).map (fun q => List.zipWith (· + ·) p q))

/-- What a MAT computes for one point of C: its address and bytes, saturations of the accumulator, and the requantised
output. -/
structure MatOut where
  addr : Nat
  bytes : List Nat
  satAcc : Nat
  q : Option YOut
  deriving DecidableEq, Repr

/-- One C element. -/
def matPoint (f : FaceSt) (o : OpRec) (p : List Int) : MatOut :=
  let a := f.pat (o.word 1)
  let b := f.pat (o.word 2)
  let c := f.pat (o.word 3)
  let oa := p.getD 0 0
  let ob := p.getD 1 0
  let ch := (p.getD 3 0).toNat
  let ca := elemAddr (matOut o) c.start (p.getD 2 0)
  let runs := matRuns o a b
  let sz := matSize o
  let old := mnum f.sram ca 4
  if matMode o < 2 then
    let ps := runs.flatten.map (fun k => (f.intElem sz a.start (oa + k.getD 0 0) - a.zp,
      f.intElem sz b.start (ob + k.getD 1 0) - b.zp))
    let x := intAcc (if matAcc o then toSigned 32 old else 0) ps
    if matEpi o then
      let y := requantInt f.sram (matQd o) ch x.1
      ⟨ca, [y.y], x.2, some y⟩
    else
      let v := clampTo (-2 ^ 31) (2 ^ 31 - 1) x.1
      ⟨ca, leBytes 4 (ofSigned 32 v), x.2 + (if v = x.1 then 0 else 1), none⟩
  else
    let fmt := if matMode o = 2 then fp16 else bf16
    let get (start : Nat) (off : Int) : Fp := fmt.read (mnum f.sram (elemAddr 2 start off) 2)
    let acc := floatAcc (if matAcc o then old else 0) (runs.map (fun r => r.map (fun k =>
      (get a.start (oa + k.getD 0 0), get b.start (ob + k.getD 1 0)))))
    if matEpi o then
      let y := requantFloat f.sram (matQd o) ch acc
      ⟨ca, [y.y], 0, some y⟩
    else ⟨ca, leBytes 4 acc, 0, none⟩

/-- A line that a MAT reads as operand data carries spoil (R987). -/
def matSpoil (f : FaceSt) (o : OpRec) : Bool :=
  let a := f.pat (o.word 1)
  let b := f.pat (o.word 2)
  let c := f.pat (o.word 3)
  let sz := matSize o
  let runs := (matRuns o a b).flatten
  (matOuter o a b c).any (fun p =>
    runs.any (fun k => f.rangeSpoil (elemAddr sz a.start (p.getD 0 0 + k.getD 0 0)) (max 1 sz)
      || f.rangeSpoil (elemAddr sz b.start (p.getD 1 0 + k.getD 1 0)) (max 1 sz))
    || (matAcc o && f.rangeSpoil (elemAddr 4 c.start (p.getD 2 0)) 4))

/-- An engine's busy cycles are given as typical figures only: the counter advances by a free value (R487). -/
def countCycles (s : State) (g : Nat) (fld : Fld) : State :=
  if (s.faceAt g).confidential then s
  else let x := s.fresh; addF x.1 (facePg g) fld x.2

/-- The uses of a QD by a list of outputs. -/
def qdUse (qa : Nat) (ys : List YOut) : QdUse :=
  ⟨qa, (ys.filter (·.sat)).length, ys.all (·.small)⟩

/-- MAT executes: every C element is computed from face SRAM as it stands, then written; with EPI the step ends. -/
def matExec (g : Nat) (o : OpRec) (s : State) : State :=
  let f := s.faceAt g
  match matCheck f o with
  | some x => stopAt s g o x
  | none =>
    let outs := (matOuter o (f.pat (o.word 1)) (f.pat (o.word 2)) (f.pat (o.word 3))).map (matPoint f o)
    let spoil := matSpoil f o
    let s := countCycles (startIssue s g o .done) g FACE_MAT_CYC
    let s := outs.foldl (fun s x => sramWrite s g x.addr x.bytes spoil) s
    let s := addF s (numPg g) NUM_SAT_ACC_COUNT ((outs.map (·.satAcc)).foldl (· + ·) 0)
    if matEpi o then endStep s g [qdUse (matQd o) (outs.filterMap (·.q))] else s

def execMat (g : Nat) (ecc : SramEcc) (s : State) : Host.Outcome State Fault Refusal :=
  recordCmd g 0 0 (fun o s => withEcc s g o ecc (matExec g o)) s

end Sys2Proof.Machine
end

