-- ==== Sys2Proof/Machine/Recur.lean ====
section
/-! DEFINITION. Machine/Recur.lean: REC: the descriptor, masks, step arithmetic and tiles of GRU and LSTM (R561 to R577,
R591, R592, R599). -/

namespace Sys2Proof.Machine

open Sys2Proof

/-! ## Areas of face SRAM -/

/-- Byte ranges: address and length. -/
abbrev Area := List (Nat × Nat)

/-- `n` rows of `len` bytes at a pitch. -/
def rowsArea (base pitch len n : Nat) : Area := (List.range n).map (fun r => (base + r * pitch, len))

def areasMeet (x y : Area) : Bool :=
  x.any (fun a => y.any (fun b => a.1 < b.1 + b.2 && b.1 < a.1 + a.2))

/-- The area leaves face SRAM (R492). -/
def areaRange (x : Area) : Option StopAt :=
  (x.find? (fun a => sramSize < a.1 + a.2)).map (fun a => .face SRAM_RANGE 6 (max a.1 sramSize))

def areaSpoil (f : FaceSt) (x : Area) : Bool := x.any (fun a => f.rangeSpoil a.1 a.2)

/-- The index of the row of an area that holds an address. -/
def areaRow (x : Area) (a : Nat) : Option Nat :=
  (List.range x.length).find? (fun i => let r := x.getD i (0, 0); r.1 ≤ a && a < r.1 + r.2)

/-- The address of a REC or ATT descriptor (R561). -/
def FaceSt.seqDesc (f : FaceSt) (o : OpRec) : Nat := (bits (o.word 1) 0 16 * 64 + f.a (refReg (o.word 1))) % 2 ^ 32

/-- Misaligned, beyond face SRAM, or spoiled (R561, R988). -/
def descStop (f : FaceSt) (d : Nat) : Option StopAt :=
  if d % 64 != 0 || sramSize < d + 128 then some (.face SRAM_RANGE 6 d) else f.spoilStop d 128

def maskEn (o : OpRec) : Bool := bit (o.word 3) 28

/-- The descriptor bytes a record reads, without its status field. -/
def descArea (d status n : Nat) : Area := [(d, status), (d + status + n, 128 - status - n)]

/-! ## The REC descriptor (Table 10-2) -/

structure RecD where
  lstm : Bool
  rows : Nat
  d : Nat
  h : Nat
  xn : Nat
  yEn : Bool
  sig : Nat
  tanh : Nat
  zx : Int
  xBase : Nat
  xPitch : Nat
  wBase : Nat
  uBase : Nat
  gtBase : Nat
  hIn : Nat
  hOut : Nat
  hPitch : Nat
  cIn : Nat
  cOut : Nat
  cPitch : Nat
  yBase : Nat
  yPitch : Nat
  qa : Nat
  deriving DecidableEq, Repr

/-- Gates: GRU r, u, n; LSTM i, f, g, o (R563). -/
def RecD.gates (x : RecD) : Nat := if x.lstm then 4 else 3

def FaceSt.recDesc (f : FaceSt) (o : OpRec) : RecD :=
  let d := f.seqDesc o
  let n (off len : Nat) : Nat := mnum f.sram (d + off) len
  ⟨o.subop == 1, bits (o.word 2) 0 16, d, n 0 2, n 2 2, bit (n 4 1) 0, bits (n 5 1) 0 2, bits (n 5 1) 2 2,
    toSigned 8 (n 6 1), n 8 4, n 0xC 4, n 0x10 4, n 0x14 4, n 0x18 4, n 0x1C 4, n 0x20 4, n 0x24 4, n 0x28 4, n 0x2C 4,
    n 0x30 4, n 0x34 4, n 0x38 4, n 0x3C 2 * 64⟩

def addrField (a : Nat) : Bool := a < 2 ^ 22

/-- The descriptor breaks Table 10-2. -/
def recBad (m : Tab Byte) (x : RecD) : Bool :=
  let zero (lo hi : Nat) : Bool := (firstNonZero m x.d lo hi).isNone
  !(1 ≤ x.h && x.h ≤ 1024 && 1 ≤ x.xn && x.xn ≤ 4096 && mbyte m (x.d + 4) < 2 && mbyte m (x.d + 5) < 16 && zero 7 8
    && [x.xBase, x.wBase, x.uBase, x.gtBase, x.hIn, x.hOut, x.cIn, x.cOut, x.yBase].all addrField
    && x.xn ≤ x.xPitch && x.gtBase % 16 == 0 && x.hIn % 2 == 0 && x.hOut % 2 == 0 && x.hPitch % 2 == 0 && 2 * x.h ≤ x.hPitch
    && (if x.lstm then x.cIn % 4 == 0 && x.cOut % 4 == 0 && x.cPitch % 4 == 0 && 4 * x.h ≤ x.cPitch
        else x.cIn == 0 && x.cOut == 0 && x.cPitch == 0)
    && (if x.yEn then x.h ≤ x.yPitch else x.yBase == 0 && x.yPitch == 0 && x.qa == 0)
    && zero 0x3E 0x40 && zero 0x44 0x80)

/-- Lines of each mask bitmap (R573). -/
def maskBytes (rows : Nat) : Nat := (rows + 511) / 512 * 64

def RecD.xRows (x : RecD) : Area := rowsArea x.xBase x.xPitch x.xn x.rows
def RecD.weights (x : RecD) : Area :=
  [(x.wBase, x.gates * x.h * x.xn), (x.uBase, x.gates * x.h * x.h), (x.gtBase, x.gates * x.h * 16)]
def RecD.hRows (x : RecD) (base : Nat) : Area := rowsArea base x.hPitch (2 * x.h) x.rows
def RecD.cRows (x : RecD) (base : Nat) : Area := if x.lstm then rowsArea base x.cPitch (4 * x.h) x.rows else []
def RecD.yRows (x : RecD) : Area := if x.yEn then rowsArea x.yBase x.yPitch x.h x.rows else []
def RecD.status (x : RecD) : Area := [(x.d + 0x40, 4)]

/-- Every area a REC reads. -/
def RecD.readAreas (x : RecD) (f : FaceSt) (o : OpRec) : Area :=
  x.xRows ++ x.weights ++ x.hRows x.hIn ++ x.cRows x.cIn ++ descArea x.d 0x40 4
    ++ (if maskEn o then [(f.addrOperand (o.word 3), 2 * maskBytes x.rows)] else [])
    ++ (if x.yEn then [(x.qa, qdBytes f.sram x.qa x.h)] else [])

/-- A forbidden overlap (R591). -/
def recOverlap (f : FaceSt) (o : OpRec) (x : RecD) : Bool :=
  let reads := x.readAreas f o
  let h := x.hRows x.hOut
  let c := x.cRows x.cOut
  (x.hOut != x.hIn && areasMeet h reads) || (x.lstm && x.cOut != x.cIn && areasMeet c reads)
    || areasMeet x.yRows (reads ++ h ++ c ++ x.status) || areasMeet x.status (reads ++ h ++ c)

/-- The QD of a REC or ATT (R524, R572). -/
def seqQdStops (f : FaceSt) (qa n : Nat) : List (Option StopAt) :=
  [f.spoilStop qa 64, areaRange [(qa, qdBytes f.sram qa n)], f.spoilStop qa (qdBytes f.sram qa n),
    (qdBad f.sram qa true n).map (fun off => .qd (qa + off))]

def tableLoaded (f : FaceSt) (k : Nat) : Bool := (tget FTable.reset f.tables k).loaded

/-- The checks before a REC writes anything (R591, R592). -/
def recCheck (f : FaceSt) (o : OpRec) : Option StopAt :=
  let x := f.recDesc o
  let mask := f.addrOperand (o.word 3)
  let n := 2 * maskBytes x.rows
  firstStop ([descStop f x.d,
      if recBad f.sram x || !tableLoaded f x.sig || !tableLoaded f x.tanh then some (illegalAt o) else none]
    ++ (if maskEn o then [if mask % 64 != 0 || sramSize < mask + n then some (.face SRAM_RANGE 6 mask) else none,
        f.spoilStop mask n] else [])
    ++ [areaRange (x.xRows ++ x.weights ++ x.hRows x.hIn ++ x.hRows x.hOut ++ x.cRows x.cIn ++ x.cRows x.cOut ++ x.yRows)]
    ++ (if x.yEn then seqQdStops f x.qa x.h else [])
    ++ [if recOverlap f o x then some (illegalAt o) else none])

/-! ## Step arithmetic -/

/-- i / 2^k as fp32, rounded to nearest even. -/
def scaledFp (i : Int) (k : Nat) : Nat := fp32.round (.fin (i < 0) i.natAbs (-(k : Int)))

/-- An exact sum of products of weights from an address on. -/
def dotAt (m : Tab Byte) (a : Nat) : List Int → Int
  | [] => 0
  | x :: xs => toSigned 8 (mbyte m a) * x + dotAt m (a + 1) xs

/-- a and b of R565 for gate `gt` and unit `j`: the scaled and biased input and recurrent sums. -/
def gateSums (m : Tab Byte) (x : RecD) (xs hs : List Int) (gt j : Nat) : Nat × Nat :=
  let u := gt * x.h + j
  let e := x.gtBase + 16 * u
  (fadd (fmul (ofInt32 (dotAt m (x.wBase + u * x.xn) xs)) (mnum m e 4)) (mnum m (e + 8) 4),
    fadd (fmul (ofInt32 (dotAt m (x.uBase + u * x.h) hs)) (mnum m (e + 4) 4)) (mnum m (e + 12) 4))

/-- sat16(rhe(v · 2^12)); the Bool tells a saturated or NaN value (R569). -/
def toState (v : Nat) : Int × Bool :=
  match (fp32.read v).toRange 12 (-2 ^ 40) (2 ^ 40) with
  | none => (0, true)
  | some i => (clampTo (-32768) 32767 i, clampTo (-32768) 32767 i != i)

/-- A unit's new state: h, c and the number of saturated or NaN values. -/
structure UnitOut where
  h : Int
  c : Int
  sats : Nat
  deriving DecidableEq, Repr

/-- R567. -/
def gruUnit (f : FaceSt) (x : RecD) (xs hs : List Int) (j : Nat) : UnitOut :=
  let sig := (tget FTable.reset f.tables x.sig).eval
  let tanh := (tget FTable.reset f.tables x.tanh).eval
  let gr := gateSums f.sram x xs hs 0 j
  let gu := gateSums f.sram x xs hs 1 j
  let gn := gateSums f.sram x xs hs 2 j
  let r := sig (fadd gr.1 gr.2)
  let u := sig (fadd gu.1 gu.2)
  let n := tanh (ffma r gn.2 gn.1)
  let y := toState (ffma u (fsub (scaledFp (hs.getD j 0) 12) n) n)
  ⟨y.1, 0, y.2.toNat⟩

/-- A gate as an integer in 2^-16, saturated, with a NaN taken as 0 (R568). -/
def gateInt (v : Nat) : Int := ((fp32.read v).toRange 16 (-65536) 65536).getD 0

/-- R568. -/
def lstmUnit (f : FaceSt) (x : RecD) (xs hs cs : List Int) (j : Nat) : UnitOut :=
  let sig := (tget FTable.reset f.tables x.sig).eval
  let tanh := (tget FTable.reset f.tables x.tanh).eval
  let z (gt : Nat) : Nat := let p := gateSums f.sram x xs hs gt j; fadd p.1 p.2
  let v := rheDiv (gateInt (sig (z 1)) * cs.getD j 0) (2 ^ 16) + rheDiv (gateInt (sig (z 0)) * gateInt (tanh (z 2))) (2 ^ 8)
  let c := clampTo (-2 ^ 31) (2 ^ 31 - 1) v
  let y := toState (fmul (sig (z 3)) (tanh (scaledFp c 24)))
  ⟨y.1, c, y.2.toNat + (if c = v then 0 else 1)⟩

/-! ## Rows and tiles -/

/-- Bit `r` of a bitmap. -/
def maskBit (m : Tab Byte) (base r : Nat) : Bool := bit (mbyte m (base + r / 8)) (r % 8)

def rowReset (f : FaceSt) (o : OpRec) (r : Nat) : Bool := maskEn o && maskBit f.sram (f.addrOperand (o.word 3)) r
def rowHold (f : FaceSt) (o : OpRec) (x : RecD) (r : Nat) : Bool :=
  maskEn o && maskBit f.sram (f.addrOperand (o.word 3) + maskBytes x.rows) r

/-- Signed integers of `w` bytes. -/
def readInts (m : Tab Byte) (a w n : Nat) : List Int := (List.range n).map (fun i => toSigned (8 * w) (mnum m (a + w * i) w))

/-- What a row writes: address and bytes, saturated states, and requantised outputs. -/
structure RowOut where
  writes : List (Nat × List Nat)
  sats : Nat
  ys : List YOut
  deriving DecidableEq, Repr

/-- One row (R564 to R575). -/
def recRow (f : FaceSt) (o : OpRec) (x : RecD) (r : Nat) : RowOut :=
  let zero := rowReset f o r
  let hs := if zero then List.replicate x.h 0 else readInts f.sram (x.hIn + r * x.hPitch) 2 x.h
  let cs := if !x.lstm then [] else if zero then List.replicate x.h 0
    else readInts f.sram (x.cIn + r * x.cPitch) 4 x.h
  let xs := (readInts f.sram (x.xBase + r * x.xPitch) 1 x.xn).map (· - x.zx)
  let us : List UnitOut := if rowHold f o x r then
      (List.range x.h).map (fun j => ⟨hs.getD j 0, cs.getD j 0, 0⟩)
    else (List.range x.h).map (fun j => if x.lstm then lstmUnit f x xs hs cs j else gruUnit f x xs hs j)
  let ys := if x.yEn then (List.range x.h).map (fun j =>
      requantFloat f.sram x.qa j (scaledFp (us.getD j ⟨0, 0, 0⟩).h 12)) else []
  ⟨[(x.hOut + r * x.hPitch, us.flatMap (fun u => leBytes 2 (ofSigned 16 u.h)))]
      ++ (if x.lstm then [(x.cOut + r * x.cPitch, us.flatMap (fun u => leBytes 4 (ofSigned 32 u.c)))] else [])
      ++ (if x.yEn then [(x.yBase + r * x.yPitch, ys.map (·.y))] else []),
    (us.map (·.sats)).foldl (· + ·) 0, ys⟩

/-- Write a list of byte runs with one spoil tag. -/
def sramPuts (s : State) (g : Nat) (ws : List (Nat × List Nat)) (spoil : Bool) : State :=
  ws.foldl (fun s w => sramWrite s g w.1 w.2 spoil) s

/-- The module with the saturations and outputs gathered so far. -/
structure RecSt where
  s : State
  sats : Nat
  ys : List YOut
  deriving DecidableEq, Repr

/-- One tile of 16 rows: every row is computed before any is written (R577). -/
def recTile (g : Nat) (o : OpRec) (x : RecD) (spoil : Bool) (t : RecSt) (k : Nat) : RecSt :=
  let f := t.s.faceAt g
  let outs := ((List.range 16).map (· + 16 * k) |>.filter (· < x.rows)).map (recRow f o x)
  ⟨sramPuts t.s g (outs.flatMap (·.writes)) spoil, t.sats + (outs.map (·.sats)).foldl (· + ·) 0, t.ys ++ outs.flatMap (·.ys)⟩

/-- Operand data that the REC reads carries spoil (R987): weights and inputs of the rows it steps, states it starts from. -/
def recSpoil (f : FaceSt) (o : OpRec) (x : RecD) : Bool :=
  let rows := List.range x.rows
  let pick (a : Area) (p : Nat → Bool) : Area := (rows.filter p).filterMap (fun r => a[r]?)
  let stepped := rows.filter (fun r => !rowHold f o x r)
  (!stepped.isEmpty && areaSpoil f x.weights) || areaSpoil f (pick x.xRows (fun r => !rowHold f o x r))
    || areaSpoil f (pick (x.hRows x.hIn ) (fun r => !rowReset f o r)) || areaSpoil f (pick (x.cRows x.cIn) (fun r => !rowReset f o r))

/-- The tile that first reads a word (R599). -/
def tileOf (areas : List Area) (a : Nat) : Nat :=
  match areas.filterMap (fun x => areaRow x a) with
  | [] => 0
  | r :: rs => (rs.foldl min r) / 16

/-- REC executes. An uncorrectable word at `bad` stops the face when its tile is reached: earlier tiles hold their new
rows, and nothing else is written (R599). -/
def recExec (g : Nat) (bad : Option Nat) (o : OpRec) (s : State) : State :=
  let f := s.faceAt g
  match recCheck f o with
  | some x => stopAt s g o x
  | none =>
    let x := f.recDesc o
    let spoil := recSpoil f o x
    let tiles := (x.rows + 15) / 16
    match bad with
    | some a =>
      let k := tileOf [x.xRows, x.hRows x.hIn, x.cRows x.cIn] a
      let t := (List.range (min k tiles)).foldl (recTile g o x spoil) ⟨s, 0, []⟩
      stopAt t.s g o (.face 0x43 6 (a % sramSize))
    | none =>
      let s := countCycles (countCycles (startIssue s g o .done) g FACE_MAT_CYC) g FACE_ELT_CYC
      let t := (List.range tiles).foldl (recTile g o x spoil) ⟨s, 0, []⟩
      let s := sramWrite t.s g (x.d + 0x40) (leBytes 4 t.sats) false
      endStep s g (if x.yEn then [qdUse x.qa t.ys] else [])

/-- A sequence operator with its check bits: an uncorrectable word takes effect where the operator reads it. -/
def seqCmd (g fam sub : Nat) (ecc : SramEcc) (exec : Nat → Option Nat → OpRec → State → State) (s : State) :
    Host.Outcome State Fault Refusal :=
  recordCmd g fam sub (fun o s => withEcc s g o ⟨ecc.corrected, none⟩ (exec g ecc.bad o)) s

def execGru (g : Nat) (ecc : SramEcc) (s : State) : Host.Outcome State Fault Refusal := seqCmd g 5 0 ecc recExec s

def execLstm (g : Nat) (ecc : SramEcc) (s : State) : Host.Outcome State Fault Refusal := seqCmd g 5 1 ecc recExec s

end Sys2Proof.Machine
end

