-- ==== Sys2Proof/Machine/Attend.lean ====
section
/-! DEFINITION. Machine/Attend.lean: ATT BLOCK and ATT FINISH (R578 to R587, R591, R592). -/

namespace Sys2Proof.Machine

open Sys2Proof

/-! ## The ATT descriptor (Table 10-5) -/

structure AttD where
  qrows : Nat
  kvrows : Nat
  block : Nat
  d : Nat
  dim : Nat
  blkRows : Nat
  ring : Nat
  causal : Bool
  exp : Nat
  zq : Int
  zk : Int
  zv : Int
  qpos0 : Nat
  qBase : Nat
  qPitch : Nat
  kBase : Nat
  kPitch : Nat
  kSlot : Nat
  vBase : Nat
  vPitch : Nat
  vSlot : Nat
  tagBase : Nat
  stBase : Nat
  stPitch : Nat
  scale : Nat
  oBase : Nat
  oPitch : Nat
  qa : Nat
  mpitch : Nat
  deriving DecidableEq, Repr

def FaceSt.attDesc (f : FaceSt) (o : OpRec) : AttD :=
  let d := f.seqDesc o
  let n (off len : Nat) : Nat := mnum f.sram (d + off) len
  ⟨bits (o.word 2) 0 16, bits (o.word 2) 16 16, bits (o.word 4) 0 16, d, n 0 2, n 2 2, n 4 2, bit (n 6 1) 0, bits (n 7 1) 0 2,
    toSigned 8 (n 8 1), toSigned 8 (n 9 1), toSigned 8 (n 0xA 1), n 0xC 4, n 0x10 4, n 0x14 4, n 0x18 4, n 0x1C 4, n 0x20 4,
    n 0x24 4, n 0x28 4, n 0x2C 4, n 0x30 4, n 0x34 4, n 0x38 4, n 0x3C 4, n 0x40 4, n 0x44 4, n 0x48 2 * 64, n 0x4A 2⟩

/-- SCALE is positive, finite and at most 2^64. -/
def scaleOk (v : Nat) : Bool :=
  let x := fp32.read v
  x.isFinite && !x.isZero && v < 2 ^ 31 && !Fp.lt (.fin false 1 64) x

/-- The descriptor breaks Table 10-5. -/
def attBad (m : Tab Byte) (x : AttD) : Bool :=
  let zero (lo hi : Nat) : Bool := (firstNonZero m x.d lo hi).isNone
  !(1 ≤ x.dim && x.dim ≤ 512 && 1 ≤ x.blkRows && x.blkRows ≤ 4096 && 1 ≤ x.ring && x.ring ≤ 4096
    && mbyte m (x.d + 6) < 2 && mbyte m (x.d + 7) < 4 && zero 0xB 0xC
    && [x.qBase, x.kBase, x.vBase, x.tagBase, x.stBase, x.oBase].all addrField && x.tagBase % 4 == 0
    && x.stBase % 16 == 0 && x.stPitch % 16 == 0 && 16 + 4 * x.dim ≤ x.stPitch && scaleOk x.scale && x.mpitch % 8 == 0
    && zero 0x50 0x80)

def AttD.slot (x : AttD) : Nat := x.block % x.ring
def AttD.qRows (x : AttD) : Area := rowsArea x.qBase x.qPitch x.dim x.qrows
def AttD.kRows (x : AttD) : Area := rowsArea (x.kBase + x.slot * x.kSlot) x.kPitch x.dim x.kvrows
def AttD.vRows (x : AttD) : Area := rowsArea (x.vBase + x.slot * x.vSlot) x.vPitch x.dim x.kvrows
def AttD.stRows (x : AttD) : Area := rowsArea x.stBase x.stPitch (16 + 4 * x.dim) x.qrows
def AttD.oRows (x : AttD) : Area := rowsArea x.oBase x.oPitch x.dim x.qrows
def AttD.tag (x : AttD) : Nat := x.tagBase + 4 * x.slot
def AttD.maskRows (x : AttD) (f : FaceSt) (o : OpRec) : Area :=
  if maskEn o then rowsArea (f.addrOperand (o.word 3)) x.mpitch ((x.kvrows + 7) / 8) x.qrows else []

/-- The first spoiled control line of an area (R988). -/
def areaSpoilStop (f : FaceSt) (x : Area) : Option StopAt := x.findSome? (fun a => f.spoilStop a.1 a.2)

/-- The checks before a BLOCK writes anything. -/
def blockCheck (f : FaceSt) (o : OpRec) : Option StopAt :=
  let x := f.attDesc o
  let masks := x.maskRows f o
  let reads := x.qRows ++ x.kRows ++ x.vRows ++ [(x.tag, 4)] ++ masks ++ descArea x.d 0x4E 2
  let status : Area := [(x.d + 0x4E, 2)]
  firstStop [descStop f x.d,
    if attBad f.sram x || !tableLoaded f x.exp || x.blkRows < x.kvrows then some (illegalAt o) else none,
    areaRange (x.qRows ++ x.kRows ++ x.vRows ++ x.stRows ++ [(x.tag, 4)] ++ masks),
    f.spoilStop x.tag 4, areaSpoilStop f masks,
    if areasMeet x.stRows (reads ++ status) || areasMeet status reads then some (illegalAt o) else none]

/-- The checks before a FINISH writes anything. -/
def finishCheck (f : FaceSt) (o : OpRec) : Option StopAt :=
  let x := f.attDesc o
  let reads := [(x.qa, qdBytes f.sram x.qa x.dim)] ++ descArea x.d 0x4C 2
  let status : Area := [(x.d + 0x4C, 2)]
  firstStop ([descStop f x.d, if attBad f.sram x || !tableLoaded f x.exp then some (illegalAt o) else none,
      areaRange (x.stRows ++ x.oRows)]
    ++ seqQdStops f x.qa x.dim
    ++ [if areasMeet x.stRows (reads ++ status ++ x.oRows) || areasMeet x.oRows (reads ++ status) || areasMeet status reads
        then some (illegalAt o) else none])

/-! ## A BLOCK (R580 to R584) -/

/-- Key `k` is allowed for query `q` (R581). -/
def allowed (f : FaceSt) (o : OpRec) (x : AttD) (q k : Nat) : Bool :=
  (!maskEn o || bit (mbyte f.sram (f.addrOperand (o.word 3) + q * x.mpitch + k / 8)) (k % 8))
    && (!x.causal || x.block * x.blkRows + k ≤ x.qpos0 + q)

/-- The score of a pair (R583). -/
def attScore (f : FaceSt) (x : AttD) (q k : Nat) : Nat :=
  let qs := (readInts f.sram (x.qBase + q * x.qPitch) 1 x.dim).map (· - x.zq)
  let ks := (readInts f.sram (x.kBase + x.slot * x.kSlot + k * x.kPitch) 1 x.dim).map (· - x.zk)
  fmul (ofInt32 ((List.zipWith (· * ·) qs ks).foldl (· + ·) 0)) x.scale

/-- e(x) of R584. -/
def attExp (f : FaceSt) (x : AttD) (v : Nat) : Nat :=
  if (fp32.read v).isZero then 0x3F800000 else (tget FTable.reset f.tables x.exp).eval v

/-- The statistics row of a query row (R579): M, L, NBLK and O. -/
structure StRow where
  m : Nat
  l : Nat
  nblk : Nat
  o : List Nat
  deriving DecidableEq, Repr

def statRow (f : FaceSt) (x : AttD) (q : Nat) : StRow :=
  let a := x.stBase + q * x.stPitch
  ⟨mnum f.sram a 4, mnum f.sram (a + 4) 4, mnum f.sram (a + 8) 4, (List.range x.dim).map (fun j => mnum f.sram (a + 16 + 4 * j) 4)⟩

def StRow.bytes (t : StRow) : List Nat :=
  leBytes 4 t.m ++ leBytes 4 t.l ++ leBytes 4 t.nblk ++ leBytes 4 0 ++ t.o.flatMap (leBytes 4)

/-- The new statistics of a query row, or `none` when no key is allowed (R584). -/
def attRow (f : FaceSt) (o : OpRec) (x : AttD) (q : Nat) : Option StRow :=
  let ks := List.range x.kvrows
  let scores := ks.map (fun k => if allowed f o x q k then some (attScore f x q k) else none)
  match scores.filterMap id with
  | [] => none
  | s0 :: ss =>
    let t := statRow f x q
    let bm := ss.foldl (fpick true) s0
    let m := if t.nblk = 0 then bm else fpick true t.m bm
    let alpha := attExp f x (fsub t.m m)
    let ps := scores.map (fun v => match v with
      | some v => attExp f x (fsub v m)
      | none => 0)
    let l0 := if t.nblk = 0 then 0 else fmul t.l alpha
    let l := (List.range ps.length).foldl (fun a k =>
      if (scores.getD k none).isSome then fadd a (ps.getD k 0) else a) l0
    let vAt (k j : Nat) : Int := toSigned 8 (mbyte f.sram (x.vBase + x.slot * x.vSlot + k * x.vPitch + j)) - x.zv
    let pv (j : Nat) : Nat := floatAcc 0 [ks.map (fun k =>
      (fp16.read (fp16.round (fp32.read (ps.getD k 0))), Fp.ofInt (vAt k j)))]
    some ⟨m, l, (t.nblk + 1) % 2 ^ 32, (List.range x.dim).map (fun j =>
      if t.nblk = 0 then pv j else fadd (fmul (t.o.getD j 0) alpha) (pv j))⟩

/-- The query rows before the tile of 16 that reads an uncorrectable word, or all of them. -/
def rowsBefore (x : AttD) (bad : Option Nat) (areas : List Area) : List Nat :=
  match bad with
  | some a => List.range (min x.qrows (16 * tileOf areas a))
  | none => List.range x.qrows

/-- ATT BLOCK: a tag that does not read BLOCK + 1 leaves the statistics and sets STALE (R582). -/
def blockExec (g : Nat) (bad : Option Nat) (o : OpRec) (s : State) : State :=
  let f := s.faceAt g
  match blockCheck f o with
  | some x => stopAt s g o x
  | none =>
    let x := f.attDesc o
    let stale := mnum f.sram x.tag 4 != x.block + 1
    let rows := if stale then [] else rowsBefore x bad [x.qRows, x.stRows, x.maskRows f o]
    let spoil := areaSpoil f (x.qRows ++ x.kRows ++ x.vRows ++ x.stRows)
    let ws := rows.filterMap (fun q => (attRow f o x q).map (fun t => (x.stBase + q * x.stPitch, t.bytes)))
    match bad with
    | some a => stopAt (sramPuts s g ws spoil) g o (.face 0x43 6 (a % sramSize))
    | none =>
      let s := countCycles (countCycles (startIssue s g o .done) g FACE_MAT_CYC) g FACE_ELT_CYC
      let s := sramPuts s g ws spoil
      endStep (sramWrite s g (x.d + 0x4E) (leBytes 2 stale.toNat) false) g []

def execBlock (g : Nat) (ecc : SramEcc) (s : State) : Host.Outcome State Fault Refusal := seqCmd g 6 0 ecc blockExec s

/-! ## A FINISH (R585) -/

/-- The outputs of a query row: requantised O_j / L, or ZP_OUT of each channel for an empty row. -/
def finishRow (f : FaceSt) (x : AttD) (q : Nat) : List Nat × List YOut :=
  let t := statRow f x q
  if t.nblk = 0 then
    ((List.range x.dim).map (fun j => mbyte f.sram (x.qa + qdEntry f.sram x.qa j + 9)), [])
  else
    let ys := (List.range x.dim).map (fun j => requantFloat f.sram x.qa j (fdiv32 (t.o.getD j 0) t.l))
    (ys.map (·.y), ys)

/-- ATT FINISH writes every output row, counts the empty rows, and clears the statistics. -/
def finishExec (g : Nat) (bad : Option Nat) (o : OpRec) (s : State) : State :=
  let f := s.faceAt g
  match finishCheck f o with
  | some x => stopAt s g o x
  | none =>
    let x := f.attDesc o
    let rows := rowsBefore x bad [x.stRows]
    let outs := rows.map (fun q => (q, finishRow f x q))
    let spoil := areaSpoil f x.stRows
    let ws := outs.flatMap (fun p => [(x.oBase + p.1 * x.oPitch, p.2.1),
      (x.stBase + p.1 * x.stPitch, List.replicate (16 + 4 * x.dim) 0)])
    match bad with
    | some a => stopAt (sramPuts s g ws spoil) g o (.face 0x43 6 (a % sramSize))
    | none =>
      let s := countCycles (countCycles (startIssue s g o .done) g FACE_MAT_CYC) g FACE_ELT_CYC
      let s := sramPuts s g ws spoil
      let empty := (rows.filter (fun q => (statRow f x q).nblk == 0)).length
      endStep (sramWrite s g (x.d + 0x4C) (leBytes 2 empty) false) g [qdUse x.qa (outs.flatMap (·.2.2))]

def execFinish (g : Nat) (ecc : SramEcc) (s : State) : Host.Outcome State Fault Refusal := seqCmd g 6 1 ecc finishExec s

end Sys2Proof.Machine
end

