-- ==== Sys2Proof/Machine/Elt.lean ====
section
/-! DEFINITION. Machine/Elt.lean: ELT and the element instructions (R446 to R453, R525). -/

namespace Sys2Proof.Machine

open Sys2Proof

/-! ## Streams -/

/-- A stream word (R446): pattern, FMT, EN. Streams 0 to 2 are inputs, 3 and 4 outputs. -/
structure Stream where
  pat : Pat
  fmt : Nat
  en : Bool
  deriving DecidableEq, Repr

def streamWord (o : OpRec) (k : Nat) : Nat := o.word (3 + k)
def streamEn (o : OpRec) (k : Nat) : Bool := k < 5 && bit (streamWord o k) 24

def FaceSt.stream (f : FaceSt) (o : OpRec) (k : Nat) : Stream :=
  ⟨f.pat (streamWord o k), bits (streamWord o k) 17 3, streamEn o k⟩

/-- Bytes per element of a FMT; 0 stands for int4. -/
def fmtSize : Nat → Nat
  | 0 => 1 | 1 => 1 | 2 => 2 | 3 => 4 | 4 => 2 | 5 => 2 | 6 => 4 | _ => 0

/-- LD: an element as 32 bits (Table 9-4). -/
def loadElem (m : Tab Byte) (fmt a : Nat) (odd : Bool) : Nat :=
  match fmt with
  | 0 => ofSigned 32 (toSigned 8 (mbyte m a))
  | 1 => mbyte m a
  | 2 => ofSigned 32 (toSigned 16 (mnum m a 2))
  | 3 => mnum m a 4
  | 4 => fp32.round (fp16.read (mnum m a 2))
  | 5 => fp32.round (bf16.read (mnum m a 2))
  | 6 => mnum m a 4
  | _ => ofSigned 32 (toSigned 4 (if odd then mbyte m a / 16 else mbyte m a % 16))

/-- A value saturated to an interval, and whether it was. -/
def satTo (lo hi : Int) (w v : Nat) : Nat × Bool :=
  let x := toSigned 32 v
  (ofSigned w (clampTo lo hi x), clampTo lo hi x != x)

/-- ST to a float format: the pattern, and whether it became infinite from a finite value. -/
def toFloat (f : Fmt) (v : Nat) : Nat × Bool :=
  let x := fp32.read v
  let y := f.round x
  (y, x.isFinite && !(f.read y).isFinite)

/-- ST: the bytes stored for a value, and whether it was saturated (Table 9-4). -/
def storeElem (m : Tab Byte) (fmt a : Nat) (odd : Bool) (v : Nat) : List Nat × Bool :=
  match fmt with
  | 0 => let x := satTo (-128) 127 8 v; ([x.1], x.2)
  | 1 => let x := satTo 0 255 8 v; ([x.1], x.2)
  | 2 => let x := satTo (-32768) 32767 16 v; (leBytes 2 x.1, x.2)
  | 3 => (leBytes 4 v, false)
  | 4 => let x := toFloat fp16 v; (leBytes 2 x.1, x.2)
  | 5 => let x := toFloat bf16 v; (leBytes 2 x.1, x.2)
  | 6 => (leBytes 4 v, false)
  | _ =>
    let x := satTo (-8) 7 4 v
    ([if odd then mbyte m a % 16 + 16 * x.1 else mbyte m a / 16 * 16 + x.1], x.2)

/-! ## Element instructions (R449, Table 8-6) -/

def eIMM (w : Nat) : Nat := bits w 0 32
def eBIMM (w : Nat) : Bool := bit w 37
def eMNEG (w : Nat) : Bool := bit w 38
def eMP (w : Nat) : Nat := bits w 39 3
def eC (w : Nat) : Nat := bits w 42 4
def eB (w : Nat) : Nat := bits w 46 4
def eA (w : Nat) : Nat := bits w 50 4
def eD (w : Nat) : Nat := bits w 54 4
def eOPC (w : Nat) : Nat := bits w 58 6

/-- An OPC of Table 8-6. -/
def opcKnown (c : Nat) : Bool :=
  c ≤ 5 || (8 ≤ c && c ≤ 0x14) || (0x18 ≤ c && c ≤ 0x22) || (0x28 ≤ c && c ≤ 0x2A) || c == 0x30 || c == 0x38

/-- A reserved OPC or MP (R472). -/
def eReserved (w : Nat) : Bool := !opcKnown (eOPC w) || 5 ≤ eMP w

/-- ICMP and FCMP conditions (Table 8-6). -/
def icmp (c a b : Nat) : Bool := if c ≤ 5 then cmp c else Config.compare 0x20 c a b
  where cmp : Nat → Bool
    | 0 => a == b
    | 1 => a != b
    | 2 => toSigned 32 a < toSigned 32 b
    | 3 => toSigned 32 b ≤ toSigned 32 a
    | 4 => a < b
    | _ => b ≤ a

def fcmp (c a b : Nat) : Bool :=
  let x := fp32.read a
  let y := fp32.read b
  let un := x.isNan || y.isNan
  let eq := !un && !Fp.lt x y && !Fp.lt y x
  match c with
  | 0 => eq
  | 1 => !eq
  | 2 => Fp.lt x y
  | 3 => !un && !Fp.lt x y
  | 4 => un
  | _ => Config.compare 0x21 c a b

/-- The value an instruction puts into its destination lane, from operands A, B and C, and whether it counts in SAT_ELT
(Table 9-4); `mask` is M[C[1:0]] of the lane and `idx` the lane's index along dimension 0. -/
def laneOp (f : FaceSt) (w a b c idx : Nat) (mask : Bool) : Nat × Bool :=
  let sa := toSigned 32 a
  let sb := toSigned 32 b
  match eOPC w with
  | 0x03 => (eIMM w, false)
  | 0x04 => (a, false)
  | 0x05 => (idx % 2 ^ 32, false)
  | 0x08 => ((a + b) % 2 ^ 32, false)
  | 0x09 => (ofSigned 32 (sa - sb), false)
  | 0x0A => (a * b % 2 ^ 32, false)
  | 0x0B => (ofSigned 32 ((sa * sb).fdiv (2 ^ 32)), false)
  | 0x0C => (if sa ≤ sb then a else b, false)
  | 0x0D => (if sa ≤ sb then b else a, false)
  | 0x0E => (a * 2 ^ (b % 32) % 2 ^ 32, false)
  | 0x0F => (ofSigned 32 (sa.fdiv (2 ^ (b % 32))), false)
  | 0x10 => (a / 2 ^ (b % 32), false)
  | 0x11 => (a &&& b, false)
  | 0x12 => (a ||| b, false)
  | 0x13 => (a ^^^ b, false)
  | 0x14 => (if a = 2 ^ 31 then (2 ^ 31 - 1, true) else (sa.natAbs, false))
  | 0x18 => (fadd a b, false)
  | 0x19 => (fsub a b, false)
  | 0x1A => (fmul a b, false)
  | 0x1B => (ffma a b c, false)
  | 0x1C => (fpick false a b, false)
  | 0x1D => (fpick true a b, false)
  | 0x1E => (fabs32 a, false)
  | 0x1F => (fneg32 a, false)
  | 0x22 => (if mask then a else b, false)
  | 0x28 => (ofInt32 sa, false)
  | 0x29 =>
    (match (fp32.read a).toRange 0 (-2 ^ 40) (2 ^ 40) with
      | none => (0, true)
      | some v => (ofSigned 32 (clampTo (-2 ^ 31) (2 ^ 31 - 1) v), clampTo (-2 ^ 31) (2 ^ 31 - 1) v != v))
  | 0x2A =>
    let v := rheDiv (sa * sb) (2 ^ (31 + c % 32))
    (ofSigned 32 (clampTo (-2 ^ 31) (2 ^ 31 - 1) v), clampTo (-2 ^ 31) (2 ^ 31 - 1) v != v)
  | 0x30 => ((tget FTable.reset f.tables (eIMM w % 4)).eval a, false)
  | _ => (a, false)

/-- A NaN that the engine produces reads 0x7FC0_0000 (R451). -/
def fcanon (v : Nat) : Nat := if 0x7F800000 < v % 2 ^ 31 then 0x7FC00000 else v

/-- LRED over the active lanes' values (Table 8-6), in lane order. -/
def reduceLanes (kind : Nat) (vs : List Nat) : Nat :=
  match vs with
  | [] => 0
  | v :: vs =>
    match kind with
    | 0 => vs.foldl (fun a b => (a + b) % 2 ^ 32) v
    | 1 => vs.foldl (fun a b => if toSigned 32 a ≤ toSigned 32 b then b else a) v
    | 2 => fcanon (vs.foldl (fpick true) v)
    | _ => fcanon (vs.foldl fadd v)

/-! ## Running a program -/

/-- The engine as it runs one ELT: the module, vector registers (64 · register + lane), masks as 64-bit numbers, lanes
that saturated, and whether a line with spoil was read. -/
structure EltSt where
  s : State
  v : Tab Nat
  m : Tab Nat
  sats : Nat
  spoil : Bool
  deriving DecidableEq, Repr

def allLanes : Nat := 2 ^ 64 - 1

def EltSt.vr (x : EltSt) (r lane : Nat) : Nat := tget 0 x.v (64 * r + lane)
def EltSt.mask (x : EltSt) (k lane : Nat) : Bool := bit (tget allLanes x.m k) lane

/-- A group: the number of active lanes and the point of lane 0. -/
structure Group where
  count : Nat
  p0 : Nat
  p1 : Nat
  p2 : Nat
  deriving DecidableEq, Repr

/-- The element offset of a lane's point in a stream. -/
def Stream.off (t : Stream) (gr : Group) (lane : Nat) : Int :=
  t.pat.stride 0 * ((gr.p0 + lane : Nat) : Int) + t.pat.stride 1 * (gr.p1 : Int) + t.pat.stride 2 * (gr.p2 : Int)

def Stream.addr (t : Stream) (gr : Group) (lane : Nat) : Nat := elemAddr (fmtSize t.fmt) t.pat.start (t.off gr lane)

/-- The lane takes part: its mask, inverted when MNEG is 1, reads 1 (R450). -/
def EltSt.takes (x : EltSt) (w lane : Nat) : Bool :=
  eMP w = 0 || x.mask (eMP w - 1) lane != eMNEG w

/-- One lane of an LD: an inactive lane reads 0 (R452). -/
def loadLane (g w : Nat) (t : Stream) (gr : Group) (x : EltSt) (lane : Nat) : EltSt :=
  if !x.takes w lane then x
  else if lane < gr.count then
    let f := x.s.faceAt g
    let a := t.addr gr lane
    { x with
      v := tset 0 x.v (64 * eD w + lane) (loadElem f.sram t.fmt a (t.off gr lane % 2 != 0))
      spoil := x.spoil || f.rangeSpoil a (max 1 (fmtSize t.fmt)) }
  else { x with v := tset 0 x.v (64 * eD w + lane) 0 }

/-- One lane of an ST. -/
def storeLane (g w : Nat) (spoil : Bool) (t : Stream) (gr : Group) (x : EltSt) (lane : Nat) : EltSt :=
  if !x.takes w lane || gr.count ≤ lane then x
  else
    let a := t.addr gr lane
    let y := storeElem (x.s.faceAt g).sram t.fmt a (t.off gr lane % 2 != 0) (x.vr (eA w) lane)
    { x with s := sramWrite x.s g a y.1 spoil, sats := x.sats + y.2.toNat }

/-- Operand B: a register or IMM. -/
def EltSt.opB (x : EltSt) (w lane : Nat) : Nat := if eBIMM w then eIMM w else x.vr (eB w) lane

/-- One active lane of a compare. -/
def compareLane (w : Nat) (gr : Group) (x : EltSt) (lane : Nat) : EltSt :=
  if !x.takes w lane || gr.count ≤ lane then x
  else
    let a := x.vr (eA w) lane
    let b := x.opB w lane
    let r := if eOPC w = 0x20 then icmp (eC w) a b else fcmp (eC w) a b
    { x with m := tset allLanes x.m (eD w % 4) (putBit (tget allLanes x.m (eD w % 4)) lane r) }

/-- One active lane of every other instruction with a destination register. -/
def valueLane (f : FaceSt) (w : Nat) (gr : Group) (x : EltSt) (lane : Nat) : EltSt :=
  if !x.takes w lane || gr.count ≤ lane then x
  else
    let y := laneOp f w (x.vr (eA w) lane) (x.opB w lane) (x.vr (eC w) lane) (gr.p0 + lane) (x.mask (eC w % 4) lane)
    { x with v := tset 0 x.v (64 * eD w + lane) y.1, sats := x.sats + y.2.toNat }

/-- One instruction over the 64 lanes; operands are read before a destination is written only within a lane, and LRED
reads every lane first. -/
def eltInstr (g : Nat) (o : OpRec) (spoil : Bool) (gr : Group) (x : EltSt) (w : Nat) : EltSt :=
  let f := x.s.faceAt g
  let lanes := List.range 64
  match eOPC w with
  | 0x00 => x
  | 0x01 => lanes.foldl (loadLane g w (f.stream o (eIMM w % 4)) gr) x
  | 0x02 => lanes.foldl (storeLane g w spoil (f.stream o (3 + eIMM w % 2)) gr) x
  | 0x20 => lanes.foldl (compareLane w gr) x
  | 0x21 => lanes.foldl (compareLane w gr) x
  | 0x38 =>
    let r := reduceLanes (eIMM w % 4) ((List.range gr.count).map (fun l => x.vr (eA w) l))
    lanes.foldl (fun x lane => if x.takes w lane then { x with v := tset 0 x.v (64 * eD w + lane) r } else x) x
  | _ => lanes.foldl (valueLane f w gr) x

/-- The program of an ELT: instruction index and word. -/
def eltProgram (f : FaceSt) (o : OpRec) : List (Nat × Nat) :=
  (List.range (bits (o.word 1) 10 6 + 1)).map (fun k =>
    (bits (o.word 1) 0 10 + k, tget 0 f.prog (bits (o.word 1) 0 10 + k)))

def eltS0 (o : OpRec) : Nat := bits (o.word 2) 0 16
def eltS1 (o : OpRec) : Nat := bits (o.word 2) 16 16
def eltS2 (o : OpRec) : Nat := bits (o.word 1) 16 16

/-- The groups in order: along dimension 0, then 1, then 2 (R447). -/
def eltGroups (o : OpRec) : List Group :=
  (List.range (eltS2 o)).flatMap (fun p2 => (List.range (eltS1 o)).flatMap (fun p1 =>
    (List.range ((eltS0 o + 63) / 64)).map (fun k => ⟨min 64 (eltS0 o - 64 * k), 64 * k, p1, p2⟩)))

/-- Run the program over every group. -/
def eltRun (s : State) (g : Nat) (o : OpRec) (spoil : Bool) : EltSt :=
  let prog := (eltProgram (s.faceAt g) o).map (·.2)
  (eltGroups o).foldl (fun x gr => prog.foldl (eltInstr g o spoil gr) x) ⟨s, [], [], 0, false⟩

/-- The stream an LD or ST names. -/
def eltNamed (w : Nat) : Option Nat :=
  if eOPC w = 1 then some (if eIMM w % 4 = 3 then 5 else eIMM w % 4) else if eOPC w = 2 then some (3 + eIMM w % 2) else none

/-- The checks before the record executes (R471, R472, R492, R988). -/
def eltCheck (f : FaceSt) (o : OpRec) : Option StopAt :=
  let prog := eltProgram f o
  let named := prog.filterMap (fun p => eltNamed p.2)
  let used := (List.range 5).filter (fun k => named.contains k)
  let refs := used.map (streamWord o)
  firstStop ([if named.any (fun k => !streamEn o k) then some (illegalAt o) else none]
    ++ refs.map (fun w => f.spoilStop (refAddr w) 32)
    ++ [if ((List.range 5).filter (streamEn o)).any (fun k => f.patReserved (streamWord o k)) then some (illegalAt o) else none,
        (prog.find? (fun p => eReserved p.2)).map (fun p => .face ILLEGAL_OP 5 p.1)]
    ++ used.map (fun k =>
      let t := f.stream o k
      patRange (fmtSize t.fmt) t.pat.start [(eltS0 o, t.pat.stride 0), (eltS1 o, t.pat.stride 1), (eltS2 o, t.pat.stride 2)]))

/-- ELT executes. When a line that it reads carries spoil, every line it writes does (R987). -/
def eltExec (g : Nat) (o : OpRec) (s : State) : State :=
  match eltCheck (s.faceAt g) o with
  | some x => stopAt s g o x
  | none =>
    let s := countCycles (startIssue s g o .done) g FACE_ELT_CYC
    let x := eltRun s g o false
    let x := if x.spoil then eltRun s g o true else x
    addF x.s (numPg g) NUM_SAT_ELT_COUNT x.sats

def execElt (g : Nat) (ecc : SramEcc) (s : State) : Host.Outcome State Fault Refusal :=
  recordCmd g 1 0 (fun o s => withEcc s g o ecc (eltExec g o)) s

end Sys2Proof.Machine
end

