-- ==== Sys2Proof/Machine/Mgmt.lean ====
section
/-! DEFINITION. Machine/Mgmt.lean: the management plane (16_banksman_management.md): sessions, the Banksman protocol,
region commands, the authority audit, the ring, telemetry, background activities. -/

namespace Sys2Proof.Machine

open Sys2Proof

/-! ## Sessions (R893, R926, R935) -/

/-- The management port serves requests (R890, R935, R936). -/
def mgmtUp (s : State) : Bool := s.carrier.vaon == .up && flagF s mgmtPg MGMT_MGMT_STATUS_LINK_UP

def State.session (s : State) (id : Nat) : Option Session := s.mgmt.sessions.find? (·.id == id)

def State.updSession (s : State) (id : Nat) (f : Session → Session) : State :=
  s.updMgmt (fun m => { m with sessions := m.sessions.map (fun x => if x.id = id then f x else x) })

/-- A SESSION record (Table 16-8): peer address low words, role. -/
def logSession (s : State) (code peer role : Nat) : State :=
  logRec s 7 0x7F code [peer % 2 ^ 32, peer / 2 ^ 32 % 2 ^ 32, role, 0]

/-- A session opens with its anchor's role: SESSION_OPEN (bit 2). -/
def openSession (s : State) (peer : Nat) (operator : Bool) : State :=
  let s := s.updMgmt (fun m => { m with
    sessions := m.sessions ++ [⟨m.nextSession, operator, peer, false, false, []⟩], nextSession := m.nextSession + 1 })
  logSession (raise s mgmtPg 2) 1 peer (Config.roleCode operator)

/-- A handshake fails: SESSION_FAIL (bit 3). No role is known, so the record's role is a free value. -/
def failSession (s : State) (peer : Nat) : State :=
  let x := s.fresh
  logSession (raise x.1 mgmtPg 3) 3 peer x.2

/-- A handshake: a fifth session is discarded (R926). -/
def handshake (s : State) (peer slot : Nat) (valid : Bool) : State :=
  if 4 ≤ s.mgmt.sessions.length then s
  else match (if valid then tfind s.mgmt.trust slot else none) with
    | some a => openSession s peer a.operator
    | none => failSession s peer

def execSessionHandshake (peer anchor : Nat) (valid : Bool) (s : State) : Host.Outcome State Fault Refusal :=
  guardDo (mgmtUp s) (fun s => handshake s peer anchor valid) s

/-- A session closes with what it has not completed. -/
def closeSession (s : State) (x : Session) : State :=
  let s := s.updMgmt (fun m => { m with
    sessions := m.sessions.filter (·.id != x.id), partials := m.partials.filter (·.session != x.id) })
  logSession s 2 x.peer (Config.roleCode x.operator)

def execSessionIdleTimeout (session : Nat) (s : State) : Host.Outcome State Fault Refusal :=
  match s.session session with
  | some x => guardDo (s.carrier.vaon == .up) (fun s => closeSession s x) s
  | none => done s

/-! ## Requests (R896, R897) -/

def Partial.isOf (session reqId : Nat) (p : Partial) : Bool := p.session == session && p.reqId == reqId

def dropPartial (s : State) (session reqId : Nat) : State :=
  s.updMgmt (fun m => { m with partials := m.partials.filter (fun p => !p.isOf session reqId) })

def execFragmentTimeout (session reqId : Nat) (s : State) : Host.Outcome State Fault Refusal :=
  guardDo (s.mgmt.partials.any (Partial.isOf session reqId)) (fun s => dropPartial s session reqId) s

/-- The header obeys Table 16-2. -/
def Datagram.headerOk (m : Datagram) : Bool :=
  m.version == 1 && m.type == 0 && m.status == 0 && m.len ≤ 4080 && 1 ≤ m.count && m.count ≤ 4 && m.frag < m.count
    && m.zero == 0

/-- What a datagram makes of its request: malformed, not all there yet, or the whole payload. -/
inductive Gathered where
  | bad
  | wait (s : State)
  | whole (payload : List Nat) (s : State)

/-- The request a further fragment belongs to. -/
def partialOf (s : State) (op : Nat) (m : Datagram) : Partial :=
  (s.mgmt.partials.find? (Partial.isOf m.session m.reqId)).getD ⟨m.session, m.reqId, op, m.count, m.len, []⟩

/-- Reassemble by REQ_ID and FRAG. -/
def gather (s : State) (op : Nat) (m : Datagram) : Gathered :=
  if !Datagram.headerOk m then .bad
  else if m.count = 1 then (if m.bytes.length = m.len then .whole m.bytes s else .bad)
  else
    let p := partialOf s op m
    if p.op ≠ op ∨ p.count ≠ m.count ∨ p.len ≠ m.len then .bad
    else
      let p := { p with frags := tput p.frags m.frag m.bytes }
      let s := dropPartial s m.session m.reqId
      if p.frags.length < p.count then .wait (s.updMgmt (fun g => { g with partials := g.partials ++ [p] }))
      else
        let bytes := p.frags.flatMap (·.2)
        if bytes.length = p.len then .whole bytes s else .bad

/-- A message goes to the station. -/
def sendMgmt (s : State) (x : MgmtMsg) : State := s.updMgmt (fun m => { m with sent := m.sent ++ [x] })

/-- A response, kept for its REQ_ID. -/
def reply (s : State) (session op reqId status : Nat) (payload : List Nat) : State :=
  let s := s.updSession session (fun x => { x with kept := ((reqId, status, op :: payload) :: x.kept).take 16 })
  sendMgmt s ⟨session, op, reqId, status, payload⟩

/-- The kept response is sent again. -/
def replyAgain (s : State) (session : Nat) (k : Nat × Nat × List Nat) : State :=
  sendMgmt s ⟨session, k.2.2.headD 0, k.1, k.2.1, k.2.2.drop 1⟩

/-- A COMMAND record (Table 16-8), of the operations that the role OPERATOR may ask for. -/
def logCommand (s : State) (op region reqId status : Nat) (payload : List Nat) : State :=
  logRec s 8 region op [reqId, leNum (payload.take 4), status, 0]

/-- What the rules of an operation say of a payload: whether it needs OPERATOR, whether the payload is the command's, whether it
is malformed, whether it is answered BUSY, and its effect with STATUS and response payload. -/
structure ReqRule where
  op : Nat
  oper : Bool
  region : List Nat → Nat
  mine : List Nat → Bool
  bad : List Nat → Bool
  busy : State → Bool
  eff : Session → List Nat → State → State × Nat × List Nat

/-- Execute a whole request and answer it. -/
def runReq (k : ReqRule) (x : Session) (reqId : Nat) (ps : List Nat) (s : State) : State :=
  let code := if k.oper && !x.operator then 3 else if k.bad ps then 1 else if k.busy s then 5 else 0
  let r := if code = 0 then k.eff x ps s else (s, code, [])
  let s := if k.oper then logCommand r.1 k.op (k.region ps) reqId r.2.1 ps else r.1
  reply s x.id k.op reqId r.2.1 r.2.2

/-- A datagram of a request arrives on an open session. -/
def takeReq (k : ReqRule) (m : Datagram) (x : Session) (s : State) : State :=
  match x.kept.find? (·.1 == m.reqId) with
  | some r => if m.frag = 0 then replyAgain s x.id r else s
  | none =>
    match gather s k.op m with
    | .bad =>
      let s := dropPartial s m.session m.reqId
      reply (if k.oper then logCommand s k.op 0x7F m.reqId 1 m.bytes else s) x.id k.op m.reqId 1 []
    | .wait s' => s'
    | .whole ps s' => if k.mine ps then runReq k x m.reqId ps s' else s

def serve (k : ReqRule) (m : Datagram) (s : State) : Host.Outcome State Fault Refusal :=
  match s.session m.session with
  | some x => guardDo (mgmtUp s) (takeReq k m x) s
  | none => done s

/-- The rules of an operation that any role may ask for and that is never BUSY. -/
def ReqRule.open (op : Nat) (bad : List Nat → Bool) (eff : Session → List Nat → State → State × Nat × List Nat) : ReqRule :=
  ⟨op, false, fun _ => 0x7F, fun _ => true, bad, fun _ => false, eff⟩

/-- The rules of an operation of the role OPERATOR. -/
def ReqRule.operator (op : Nat) (bad : List Nat → Bool) (busy : State → Bool)
    (eff : Session → List Nat → State → State × Nat × List Nat) : ReqRule :=
  ⟨op, true, fun _ => 0x7F, fun _ => true, bad, busy, eff⟩

/-! ## Reading and writing (Table 16-3, R898) -/

/-- A number in a payload. -/
def pnum (ps : List Nat) (off n : Nat) : Nat := leNum ((ps.drop off).take n)

def pingRule : ReqRule := ReqRule.open 1 (fun ps => !ps.isEmpty) (fun _ _ s => (s, 0, leBytes 8 s.time))

def execPing (m : Datagram) (s : State) : Host.Outcome State Fault Refusal := serve pingRule m s

/-- The last access completed. -/
def lastOk (s : State) : Bool := (s.bus.map (·.status)) == some .ok

/-- Word reads in ascending address up to the first that fails. -/
def readRun : Nat → Nat → State → State × List Nat
  | 0, _, s => (s, [])
  | n + 1, a, s =>
    let x := busRead s .banksman a .word ReadHint.clean
    if lastOk x.1 then
      let y := readRun n (a + 4) x.1
      (y.1, x.2 :: y.2)
    else (x.1, [])

/-- Word writes in ascending address up to the first that fails: how many completed. -/
def writeRun : List Nat → Nat → State → State × Nat
  | [], _, s => (s, 0)
  | v :: vs, a, s =>
    let t := busWrite s .banksman a .word v []
    if lastOk t then
      let y := writeRun vs (a + 4) t
      (y.1, y.2 + 1)
    else (t, 0)

/-- Word count, 0, and the management port page's ERRINFO. -/
def runHead (s : State) (n : Nat) : List Nat := leBytes 2 n ++ leBytes 2 0 ++ leBytes 4 (getF s mgmtPg ERRINFO)

/-- The head of a READ or WRITE payload is malformed. -/
def badRun (ps : List Nat) : Bool := ps.length < 8 || pnum ps 4 2 == 0 || 256 < pnum ps 4 2 || pnum ps 6 2 != 0

/-- STATUS of a run of which `n` of `count` words completed. -/
def runStatus (count n : Nat) : Nat := if n < count then 6 else 0

def readEff (ps : List Nat) (s : State) : State × Nat × List Nat :=
  let n := pnum ps 4 2
  let x := readRun n (pnum ps 0 4) s
  (x.1, runStatus n x.2.length, runHead x.1 x.2.length ++ x.2.flatMap (leBytes 4))

def readRule : ReqRule := ReqRule.open 2 (fun ps => badRun ps || ps.length != 8) (fun _ => readEff)

def execRead (m : Datagram) (s : State) : Host.Outcome State Fault Refusal := serve readRule m s

def writeEff (ps : List Nat) (s : State) : State × Nat × List Nat :=
  let n := pnum ps 4 2
  let x := writeRun ((List.range n).map (fun i => pnum ps (8 + 4 * i) 4)) (pnum ps 0 4) s
  (x.1, runStatus n x.2, runHead x.1 x.2)

def writeRule : ReqRule :=
  ReqRule.operator 3 (fun ps => badRun ps || ps.length != 8 + 4 * pnum ps 4 2) (fun _ => false) (fun _ => writeEff)

def execWrite (m : Datagram) (s : State) : Host.Outcome State Fault Refusal := serve writeRule m s

def qmapReadRule : ReqRule :=
  ReqRule.open 4 (fun ps => !ps.isEmpty) (fun _ _ s => (s, 0, s.map.committed.bytes))

def execQmapRead (m : Datagram) (s : State) : Host.Outcome State Fault Refusal := serve qmapReadRule m s

/-- The words of Table 2-6 as they are (R119): that of QMAP_SEQ_HI is the high word itself, for the message takes no snapshot of
an address space. -/
def bringupReadRule : ReqRule :=
  ReqRule.open 5 (fun ps => !ps.isEmpty) (fun _ _ s =>
    (s, 0, (List.range 8).flatMap (fun i => leBytes 4 (if i = 5 then getF s bringupPg BRINGUP_QMAP_SEQ / 2 ^ 32
      else pageWord s .banksman bringupPg .bringup (0x40 + 4 * i)))))

def execBringupRead (m : Datagram) (s : State) : Host.Outcome State Fault Refusal := serve bringupReadRule m s

/-- Records of `count` SEQs from `first` that are still in the ring. -/
def logFrom (s : State) (first count : Nat) : List LogRec :=
  s.mgmt.log.filter (fun x => (x.seq + 2 ^ 32 - first) % 2 ^ 32 < count)

def logReadRule : ReqRule :=
  ReqRule.open 6 (fun ps => ps.length != 8 || pnum ps 4 4 == 0 || 120 < pnum ps 4 4) (fun _ ps s =>
    (s, 0, (logFrom s (pnum ps 0 4) (pnum ps 4 4)).flatMap LogRec.bytes))

def execLogRead (m : Datagram) (s : State) : Host.Outcome State Fault Refusal := serve logReadRule m s

def subscribeRule : ReqRule :=
  ReqRule.open 7 (fun ps => ps.length != 4 || 4 ≤ pnum ps 0 4) (fun x ps s =>
    (s.updSession x.id (fun y => { y with subLog := bit (pnum ps 0 4) 0, subTel := bit (pnum ps 0 4) 1 }), 0, []))

def execSubscribe (m : Datagram) (s : State) : Host.Outcome State Fault Refusal := serve subscribeRule m s

/-! ## REGION_CMD (R904 to R906, R936) -/

/-- Before READY (R936). -/
def beforeReady (s : State) : Bool := phase s < PHASE_READY

/-- The rules of command `n`: a malformed payload, a reserved command or region is BAD_MESSAGE. -/
def regionCmd (n : Nat) (busy : State → Bool) (eff : Nat → State → State × Nat × List Nat) : ReqRule where
  op := 0x10
  oper := true
  region := fun ps => if ps.length = 4 then ps.headD 0x7F else 0x7F
  mine := fun ps => ps.length != 4 || ps.getD 1 0 == n || ps.getD 1 0 == 0 || 8 < ps.getD 1 0
  bad := fun ps => ps.length != 4 || ps.getD 1 0 != n || pnum ps 2 2 != 0 || !present (ps.headD 0x7F)
  busy := busy
  eff := fun _ ps s => eff (ps.headD 0x7F) s

/-- A region that is not FAILED, ISOLATED or STRANDED. -/
def sound (s : State) (r : Nat) : Bool := (s.entry r).state == .healthy

def wakeCmd (r : Nat) (s : State) : State × Nat × List Nat :=
  if !sound s r || (s.region r).hold || (s.region r).lockout || s.carrier.backup || phase s = PHASE_HALTED then (s, 4, [])
  else
    let x := startRegion s r 3 false
    if x.2 then (x.1, 0, []) else (s, 4, [])

def wakeRule : ReqRule := regionCmd 1 beforeReady wakeCmd

def execWake (m : Datagram) (s : State) : Host.Outcome State Fault Refusal := serve wakeRule m s

def stopRule : ReqRule := regionCmd 2 beforeReady (fun r s => (requestStop s r false 3 false, 0, []))

def execStop (m : Datagram) (s : State) : Host.Outcome State Fault Refusal := serve stopRule m s

def stopForceRule : ReqRule := regionCmd 3 beforeReady (fun r s => (requestStop s r true 3 false, 0, []))

def execStopForce (m : Datagram) (s : State) : Host.Outcome State Fault Refusal := serve stopForceRule m s

/-- HOLD takes effect: at once in Stop, else by a stop; a user that came before stays (R928). -/
def holdRegion (s : State) (r : Nat) (force : Bool) : State :=
  let x := s.region r
  let s := s.updRegion r (fun x => { x with hold := true, holdForce := force || (x.hold && x.holdForce) })
  if regionUsed s r then (if x.power = .stop && !x.hold then logPower s r 12 0 0 else s)
  else if x.power = .stop then
    let s := { s with wakeQ := s.wakeQ.filter (fun w => !(w.region == r && !w.transit)) }
    if x.hold then s else logPower s r 12 0 0
  else requestStop s r force 12 false

def holdCmd (force : Bool) (r : Nat) (s : State) : State × Nat × List Nat :=
  if !sound s r || (r == hostRegion && s.host.linkUp) then (s, 4, []) else (holdRegion s r force, 0, [])

def holdRule : ReqRule := regionCmd 4 beforeReady (holdCmd false)

def execHold (m : Datagram) (s : State) : Host.Outcome State Fault Refusal := serve holdRule m s

def holdForceRule : ReqRule := regionCmd 5 beforeReady (holdCmd true)

def execHoldForce (m : Datagram) (s : State) : Host.Outcome State Fault Refusal := serve holdForceRule m s

/-- RELEASE: the region reads STOP if it stopped; components that a startable path now joins are joined (R168). -/
def releaseCmd (r : Nat) (s : State) : State × Nat × List Nat :=
  if !sound s r then (s, 4, [])
  else
    let x := s.region r
    let s := s.updRegion r (fun x => { x with hold := false, holdForce := false })
    let s := if x.hold && x.power == .stop then logPower s r 12 0 0 else s
    (restoreConnectivity s, 0, [])

def releaseRule : ReqRule := regionCmd 6 beforeReady releaseCmd

def execRelease (m : Datagram) (s : State) : Host.Outcome State Fault Refusal := serve releaseRule m s

/-- RETEST of an entry that is FAILED and not FACTORY (R111). During a start the request waits for the record that is
committed at READY, or enters the one being written (R126). -/
def retestCmd (on : Bool) (r : Nat) (s : State) : State × Nat × List Nat :=
  let e := s.entry r
  if e.state = .failed && !e.factory then
    if s.boot.active && s.map.writing.isNone then
      (s.updBoot (fun b => { b with retestReq := b.retestReq ++ [(r, on)] }), 0, [])
    else
      let put (q : QRec) : QRec := if s.boot.active then q.setEntry r { q.entry r with retest := on } else q
      let s := s.updMap (fun m => { m with writing := m.writing.map (fun w => (put w.1, w.2)) })
      (s.updEntry r (fun e => { e with retest := on }), 0, [])
  else (s, 4, [])

def retestSetRule : ReqRule := regionCmd 7 (fun _ => false) (retestCmd true)

def execRetestSet (m : Datagram) (s : State) : Host.Outcome State Fault Refusal := serve retestSetRule m s

def retestClearRule : ReqRule := regionCmd 8 (fun _ => false) (retestCmd false)

def execRetestClear (m : Datagram) (s : State) : Host.Outcome State Fault Refusal := serve retestClearRule m s

/-- The repeated stop of a held region (R904), which waits for users that came before the hold (R928). -/
def execHoldStopRetry (r : Nat) (s : State) : Host.Outcome State Fault Refusal :=
  guardDo ((s.region r).hold && inRun s r && (s.region r).hs.isNone && !s.stopQ.any (·.region == r) && !regionUsed s r)
    (fun s => requestStop s r (s.region r).holdForce 12 false) s

/-! ## MODULE_RESET, TRUST, NET -/

def resetMagic : Nat := 0x52455345

def moduleResetRule : ReqRule :=
  ReqRule.operator 0x11 (fun ps => ps.length != 4 || pnum ps 0 4 != resetMagic) beforeReady (fun _ _ s =>
    (if s.carrier.vbus = .off then s else vbusDown 3 s, 0, []))

def execModuleReset (m : Datagram) (s : State) : Host.Outcome State Fault Refusal := serve moduleResetRule m s

/-- The role a byte names. -/
def roleOf (b : Nat) : Option Bool :=
  if b = Config.roleCode true then some true else if b = Config.roleCode false then some false else none

def badTrust (ps : List Nat) : Bool :=
  ps.length < 4 || 3 < ps.getD 1 0 || ps.getD 3 0 != 0 ||
    (if ps.headD 0 = 1 then ps.length == 4 || (roleOf (ps.getD 2 0)).isNone else ps.headD 0 != 2 || ps.length != 4)

def trustEff (ps : List Nat) (s : State) : State × Nat × List Nat :=
  let slot := ps.getD 1 0
  let anchor : Anchor := ⟨leNum (ps.drop 4), (roleOf (ps.getD 2 0)).getD false⟩
  (s.updMgmt (fun m => { m with
    trust := if ps.headD 0 = 1 then tput m.trust slot anchor else tdel m.trust slot }), 0, [])

def trustRule : ReqRule := ReqRule.operator 0x12 badTrust (fun _ => false) (fun _ => trustEff)

def execTrust (m : Datagram) (s : State) : Host.Outcome State Fault Refusal := serve trustRule m s

def netRule : ReqRule :=
  ReqRule.operator 0x13 (fun ps => ps.length != 16) (fun _ => false) (fun _ ps s =>
    (s.updMgmt (fun m => { m with staticAddr := leNum ps }), 0, []))

def execNet (m : Datagram) (s : State) : Host.Outcome State Fault Refusal := serve netRule m s

/-! ## The authority audit (R900, R907 to R911) -/

/-- A router entry differs from what the foreman last sent. -/
def pokeRoute (s : State) (r : Nat) (x : Nat × Nat) : State :=
  s.updRoad (fun y => { y with routes := tset (if r = x.1 then 0 else HOP_DEAD) y.routes (r * 100 + x.1) x.2 })

/-- Converters off at once (R909 step 2), switch open for ISOLATED and FAILED. -/
def convertersOff (s : State) (d st : Nat) : State :=
  let s := match (s.region d).power with
    | .run => tamperGoesOn (releaseTransit (restoreConnectivity (logPower (leaveRun s d true true false) d 9 0 0)))
    | .waking => wakeLost (s.updRegion d (fun x => { x with power := .stop, stopHeld := none })) d
    | .stop => s
  if st = 6 || st = 7 then s.updRegion d (fun x => { x with switchOn := false }) else s

/-- The host event record of a disagreement (R910). -/
def disagreeHost (s : State) : State :=
  if s.host.linkUp && flagF s jobqPg JOBQ_EVQ_CFG_EN then
    let x := hostEventRaw s (mgmtPg * 0x1000) 4 (evtStat s mgmtPg) (getF s mgmtPg ERRINFO)
    followUp (sendMsix x.1 (ROUTE_VECTOR (getF s mgmtPg EVT_ROUTE))) x.2 false
  else s

/-- LAST_DIS. -/
def putLastDis (s : State) (d st view router action : Nat) : State :=
  let s := setF s mgmtPg MGMT_LAST_DIS_REGION d
  let s := setF s mgmtPg MGMT_LAST_DIS_MGMT_STATE st
  let s := setF s mgmtPg MGMT_LAST_DIS_DATA_VIEW view
  let s := setF s mgmtPg MGMT_LAST_DIS_ACTION action
  setF s mgmtPg MGMT_LAST_DIS_ROUTER router

/-- Some router holds a live route to the region. -/
def routeLive (s : State) (d : Nat) : Bool := allRegions.any (fun r => r != d && route s r d != HOP_DEAD)

/-- A disagreement over region `d` (R909): DATA_VIEW, the router or 0x7F, and whether its converters were found on. -/
def disagree (s : State) (d view router : Nat) (powered : Bool) : State :=
  let st := mgmtState s d
  let on := powered || (s.region d).power != .stop
  let sw := on && (st == 6 || st == 7)
  let action := (routeLive s d).toNat + on.toNat * 2 + sw.toNat * 4
  let s := routesDead s d
  let s := if on then convertersOff s d st else s
  let s := logRec s 2 d 0 [st, view, router, action]
  let s := putLastDis s d st view router action
  let s := addF s mgmtPg MGMT_LOG_LOST_DISAGREES 1
  let s := recordErr s mgmtPg 0x40 .foreman 5 d
  disagreeHost (raise s mgmtPg 4)

/-- A differing entry of router `r` for a region: a disagreement, or repaired for a region in RUN (R911). -/
def judgeRoute (r : Nat) (s : State) (x : Nat × Nat × Nat) : State :=
  if mgmtState s x.1 = 3 then
    let s := setRoute s r x.1 x.2.2
    logRec s 2 x.1 0 [3, 4, r, 8]
  else if x.2.1 = HOP_DEAD then setRoute s r x.1 x.2.2
  else disagree s x.1 1 r false

/-- The entries of router `r` that differ, of those reported: destination, next hop found, next hop intended. -/
def routeDiffs (s : State) (r : Nat) (routes : List (Nat × Nat)) : List (Nat × Nat × Nat) :=
  if !inRun s r then []
  else (routes.filter (fun x => present x.1 && x.1 != r && x.2 ≤ 5 && route s r x.1 != x.2
      && !s.road.holds.contains (r, x.1))).map (fun x => (x.1, x.2, route s r x.1))

/-- The banksman compares and reports (R900, R907): `routes` are entries found in its router, `powered` tells whether its
converters are found enabled. -/
def report (s : State) (r : Nat) (routes : List (Nat × Nat)) (powered : Bool) : State :=
  let diffs := routeDiffs s r routes
  let on := (s.region r).power != .stop
  let s := diffs.foldl (fun s x => pokeRoute s r (x.1, x.2.1)) s
  let s := if inRun s r then
      let s := putFlag s (banksmanPg r) BANKSMAN_BK_STATUS_ROUTE_MATCH diffs.isEmpty
      let s := putFlag s (banksmanPg r) BANKSMAN_BK_STATUS_POWER_MATCH (powered == on)
      if diffs.isEmpty && (powered == on) then s else raise s (banksmanPg r) 0
    else s
  let s := diffs.foldl (judgeRoute r) s
  if powered && !on && [1, 5, 6, 7, 8].contains (mgmtState s r) then disagree s r 2 0x7F true else s

def execBanksmanReport (r : Nat) (routes : List (Nat × Nat)) (powered : Bool) (s : State) :
    Host.Outcome State Fault Refusal :=
  guardDo (present r && s.carrier.vaon == .up && !(s.region r).unreached) (fun s => report s r routes powered) s

/-! ## The ring (R932 to R935) -/

def ringCw (s : State) : Bool := flagF s mgmtPg MGMT_MGMT_STATUS_RING_CW_OK
def ringCcw (s : State) : Bool := flagF s mgmtPg MGMT_MGMT_STATUS_RING_CCW_OK

def execBanksmanLost (r : Nat) (s : State) : Host.Outcome State Fault Refusal :=
  guardDo (present r && inRun s r && (ringCw s || ringCcw s) && !(s.region r).unreached)
    (fun s => failRegion (raise s mgmtPg 8) r .management 0) s

/-- A banksman that hears nothing disables its region's converters. -/
def silence (s : State) (r : Nat) : State :=
  if inRun s r then
    tamperGoesOn (admitLost (releaseTransit (restoreConnectivity (logPower (leaveRun s r true true true) r 9 0 0))) r)
  else wakeLost (s.updRegion r (fun x => { x with power := .stop, stopHeld := none })) r

def execForemanSilence (r : Nat) (s : State) : Host.Outcome State Fault Refusal :=
  guardDo ((s.region r).unreached && (s.region r).power != .stop) (fun s => silence s r) s

/-- A region the foreman no longer reaches (R934). -/
def unreach (s : State) (r : Nat) : State :=
  let s := s.updRegion r (fun x => { x with unreached := true })
  let s := { s with wakeQ := s.wakeQ.filter (·.region != r), stopQ := s.stopQ.filter (·.region != r) }
  if (s.entry r).state == .healthy || (s.entry r).state == .stranded then
    s.updEntry r (fun e => { e with state := .stranded, cause := .management })
  else s

/-- RING_ERRORS of a banksman: the spec does not say what it counts, so it advances by a free value. -/
def ringError (s : State) (r : Nat) : State :=
  let x := s.fresh
  addF x.1 (banksmanPg r) BANKSMAN_RING_ERRORS_COUNT x.2

/-- One direction of the ring breaks (bit 7); with both broken, the regions of `unreached` are cut off. -/
def ringBreak (s : State) (cw : Bool) (unreached : List Nat) : State :=
  let s := setF s mgmtPg (if cw then MGMT_MGMT_STATUS_RING_CW_OK else MGMT_MGMT_STATUS_RING_CCW_OK) 0
  let s := (runSet s).foldl ringError (raise s mgmtPg 7)
  if ringCw s || ringCcw s then s
  else
    let gone := allRegions.filter (unreached.contains ·)
    let s := gone.foldl (fun s r => if inRun s r then setF s (banksmanPg r) BANKSMAN_BK_STATUS_RING_OK 0 else s) s
    gone.foldl unreach s

def execRingFault (cw : Bool) (unreached : List Nat) (s : State) : Host.Outcome State Fault Refusal :=
  guardDo (s.carrier.vaon == .up && (if cw then ringCw s else ringCcw s)) (fun s => ringBreak s cw unreached) s

def execMgmtLinkChange (up ampHigh : Bool) (s : State) : Host.Outcome State Fault Refusal :=
  guardDo (s.carrier.vaon == .up && flagF s mgmtPg MGMT_MGMT_STATUS_LINK_UP != up) (fun s => linkChange s up ampHigh) s

/-! ## Telemetry (R914 to R917) -/

/-- Items whose values are measured in the period, and whether a region must be in Run. -/
def measured (s : State) (items : List (Nat × Nat × Nat)) (id : Nat) (regs : List Nat) : List (Nat × Nat × Nat) :=
  regs.filterMap (fun r => items.find? (fun x => x.1 == id && x.2.1 == r && (id < 0x11 || 0x20 ≤ id || inRun s r)))

def item (id : Nat) (regs : List Nat) (f : Nat → Nat) : List (Nat × Nat × Nat) := regs.map (fun r => (id, r, f r))

def portRegions : List Nat := allRegions.filter (sensorRegions.contains ·)

/-- Faulted streams of a port, a bit for each slot. -/
def faultedStreams (s : State) (p : Nat) : Nat :=
  flagBits ((List.range 16).map (fun k => strF s p k SENSOR_S_STATUS_FAULT != 0))

/-- Item 0x05 (R1051). -/
def coldPlateItem (s : State) : Nat := if s.carrier.coldPlateOk then ofSigned 32 s.carrier.coldPlate else 0x80000000

/-- Item 0x14: how busy the matrix engines of a region's backed faces were, from the share of each (0.1 %); a face of a
confidential job counts as idle (R915). -/
def engineBusy (s : State) (busy : List (Nat × Nat)) (r : Nat) : Nat :=
  let faces := (facesOf r).filter (backed s)
  ((faces.filter (fun g => !(s.faceAt g).secret)).map (fun g => min (tget 0 busy g) 1000)).foldl (· + ·) 0 / max 1 faces.length

/-- The items of a period, by ID and then by region. -/
def telItems (s : State) (ms : List (Nat × Nat × Nat)) (busy : List (Nat × Nat)) : List (Nat × Nat × Nat) :=
  let view (r : Nat) : Nat :=
    mgmtState s r + 16 * flagBits [(s.region r).hold, (s.region r).background]
  let depths (i : Nat) : Nat := packed 4 ((List.range 8).map (fun k => (s.chain (8 * i + k)).depth))
  [1, 2, 3, 4].flatMap (fun id => measured s ms id [0x7F])
    ++ item 5 [0x7F] (fun _ => coldPlateItem s)
    ++ item 0x10 allRegions view
    ++ [0x11, 0x12, 0x13].flatMap (fun id => measured s ms id allRegions)
    ++ item 0x14 (runSet s) (engineBusy s busy)
    ++ [0x15, 0x16].flatMap (fun id => measured s ms id allRegions)
    ++ item 0x17 (runSet s) (fun r => wearMax (s.bed r))
    ++ item 0x18 (runSet s) (fun r => sparesFree r (s.bed r))
    ++ item 0x19 allRegions (fun r => (s.region r).age)
    ++ measured s ms 0x20 portRegions
    ++ item 0x21 portRegions (fun r => chainState s (instOf r))
    ++ item 0x22 portRegions (fun r => faultedStreams s (instOf r))
    ++ item 0x30 [0x7F] (fun _ => depths 0)
    ++ item 0x31 [0x7F] (fun _ => depths 1)

/-- Cut a list into pieces. -/
def pieces {α : Type} (n : Nat) : Nat → List α → List (List α)
  | 0, _ => []
  | k + 1, l => if l.isEmpty then [] else l.take n :: pieces n k (l.drop n)

/-- The payload of one NOTIFY_TEL. -/
def telBytes (time : Nat) (xs : List (Nat × Nat × Nat)) : List Nat :=
  leBytes 8 time ++ xs.flatMap (fun x => leBytes 4 (x.1 + x.2.1 * 65536) ++ leBytes 4 x.2.2)

/-- NOTIFY_TEL to each subscribed session; a message holds 509 items (R896). -/
def sendTelemetry (s : State) (ms : List (Nat × Nat × Nat)) (busy : List (Nat × Nat)) : State :=
  let xs := telItems s ms busy
  let msgs := (pieces 509 xs.length xs).map (telBytes s.time)
  (s.mgmt.sessions.filter (·.subTel)).foldl (fun s x =>
    msgs.foldl (fun s b => sendMgmt s ⟨x.id, 0x21, 0, 0, b⟩) s) s

def execTelemetryPeriod (items : List (Nat × Nat × Nat)) (busy : List (Nat × Nat)) (s : State) : Host.Outcome State Fault Refusal :=
  guardDo (s.carrier.vaon == .up) (fun s => sendTelemetry s items busy) s

/-! ## Background activities (R919 to R921) -/

/-- A promotion or an admission waits for a region start. -/
def startsWaiting (s : State) : Bool :=
  let user (c : Nat) : Bool := c == 1 || c == 2
  s.wakeQ.any (fun w => user w.cause) || allRegions.any (fun r => (s.region r).power == .waking && user (s.region r).wakeCause)

/-- The conditions of R919 that concern the module; `vinLow` is the lowest VIN of the last 10 s, in mV. -/
def mayBackground (s : State) (vinLow : Nat) : Bool :=
  flagF s mgmtPg MGMT_BG_CFG_BG_EN && 1000 * getF s mgmtPg MGMT_BG_CFG_VMIN_V ≤ min vinLow s.carrier.vin
    && phase s == PHASE_READY && s.carrier.crystalOk && (bgRegion s).isNone && !s.wakeQ.any (·.cause == 5)
    && !startsWaiting s

/-- The region to be woken for background: due, in Stop, not held and not unavailable. -/
def bgCandidate (s : State) : Option Nat :=
  allRegions.find? (fun r => scrubDue s r && (s.region r).power == .stop && !s.wakeQ.any (·.region == r) && regionAvailable s r)

def execBackgroundWake (vinLow : Nat) (s : State) : Host.Outcome State Fault Refusal :=
  match bgCandidate s with
  | some r => guardDo (mayBackground s vinLow) (fun s => addF (startRegion s r 5 false).1 mgmtPg MGMT_BG_STATUS_WAKES 1) s
  | none => done s

/-- A pass has read every line (R633, R920): SCRUB_PASS (bit 7), age 0; a region woken for background is stopped. -/
def passEnd (s : State) (r : Nat) : State :=
  let bg := (s.region r).background
  let s := s.updBed r (fun b => { b with scrubPos := 0, scrubPasses := (b.scrubPasses + 1) % 256, unpaced := false })
  let s := raise (s.updRegion r (fun x => { x with age := 0 })) (bedPg r) 7
  if bg then requestStop s r false 5 false else s

def execScrubPassEnd (r : Nat) (s : State) : Host.Outcome State Fault Refusal :=
  guardDo (inRun s r && bedLines r ≤ (s.bed r).scrubPos) (fun s => passEnd s r) s

/-- BG_OVERDUE (bit 6) and an EVENT record, which the event's own delivery may already have appended. -/
def overdue (s : State) : State :=
  let n := getF s mgmtPg MGMT_LOG_SEQ_SEQ
  let s := raise s mgmtPg 6
  if getF s mgmtPg MGMT_LOG_SEQ_SEQ != n then s
  else logRec s 1 mgmtRegion 6 [mgmtPg * 0x1000, evtStat s mgmtPg, getF s mgmtPg ERRINFO, 0]

/-- An hour has passed since the region's last hour of scrub age. -/
def ageHour (s : State) (r : Nat) : State :=
  let old := (s.region r).age
  let new := min (old + 1) 255
  let limit := min (2 * getF s mgmtPg MGMT_BG_CFG_PERIOD_H) 255
  let s := s.updRegion r (fun x => { x with age := new })
  if old < limit && limit ≤ new then overdue s else s

def execScrubAgeHour (r : Nat) (s : State) : Host.Outcome State Fault Refusal :=
  guardDo (present r && s.carrier.vaon == .up) (fun s => ageHour s r) s

/-! ## The cold-plate sensor (R178, R1051) -/

/-- A reading in 1/16 °C; an EVENT record when the sensor becomes invalid (R1051). -/
def coldPlate (s : State) (t : Int) : State :=
  let was := s.carrier.coldPlateOk
  let s := s.updCarrier (fun c => { c with coldPlateOk := sensorValid t, coldPlate := t })
  if was && !sensorValid t then logRec s 1 0x7F 0 [0, 0, 0, 0] else s

def execColdPlateSensorFault (reading : Int) (s : State) : Host.Outcome State Fault Refusal :=
  guardDo (s.carrier.vaon == .up) (fun s => coldPlate s reading) s

end Sys2Proof.Machine
end

