-- ==== Sys2Proof/Machine/PowerUp.lean ====
section
/-! DEFINITION. Machine/PowerUp.lean: cold start and warm start as a whole (R76, R140, R258, R937), the end of test rounds
(R93, R99, R100), quarry map commits (R108 to R110, R135, R142), READY (R84 to R86, R424, R964) and HALTED (R135). -/

namespace Sys2Proof.Machine

open Sys2Proof

/-! ## Cold start -/

/-- What of the key store survives the loss of VAON (R865, R885). -/
def WbSt.kept (w : WbSt) : WbSt :=
  { WbSt.reset with
    parts := w.parts, owed := w.owed, provisioned := w.provisioned, enrolCount := w.enrolCount
    erasePending := w.erasePending, pendingOpens := w.pendingOpens, dapOpen := w.dapOpen, opens := w.opens }

/-- The state at the zero event of a cold start (R258): everything at reset but the non-volatile memories, the fuses, what
the outside has sent and been sent, and the count of free values. -/
def coldReset (s : State) : State :=
  { State.reset with
    pending := s.pending, freeCount := s.freeCount
    carrier := { Carrier.reset with
      vin := s.carrier.vin, perst := s.carrier.perst, fusesOpen := s.carrier.fusesOpen
      coldPlateOk := s.carrier.coldPlateOk, coldPlate := s.carrier.coldPlate }
    map := { MapSt.reset with
      copyA := s.map.copyA, copyB := s.map.copyB, selB := s.map.selB, committed := s.map.committed
      working := s.map.committed, identityCode := s.map.identityCode }
    beds := s.beds.map (fun b => (b.1, { b.2 with digests := [], unpaced := false }))
    host := { HostSt.reset with mem := s.host.mem, msix := s.host.msix }
    mgmt := { MgmtSt.reset with
      trust := s.mgmt.trust, staticAddr := s.mgmt.staticAddr, sent := s.mgmt.sent, nextSession := s.mgmt.nextSession }
    esc := { EscSt.reset with storeA := s.esc.storeA, storeB := s.esc.storeB, storeSelB := s.esc.storeSelB }
    listeners := s.listeners.map (fun l => (l.1, { ListenerSt.reset with image := l.2.image }))
    wb := WbSt.kept s.wb
    links := s.links.map (fun l => (l.1, { LinkSt.reset with out := l.2.out })) }

/-- VAON soft-start begins; the zero event lies 6 ms before wafer time 0 (Table 2-2). -/
def coldStart (s : State) : State :=
  let s := (coldReset s).updCarrier (fun c => { c with vaon := .rising })
  (setPhase s PHASE_POWER).updBoot (fun b => { b with active := true, zeroUs := 6000 })

def execColdStart (vin : Nat) (s : State) : Host.Outcome State Fault Refusal :=
  vinDo vin (22000 ≤ vin && s.carrier.vaon == .off) coldStart s

/-- A START record (R937, R938). -/
def logStart (s : State) (code : Nat) : State := logRec s 9 0x7F code [getF s bringupPg BRINGUP_BOOT_COUNT, 0, 0, 0]

/-- The islands leave reset: wafer time 0, the log's first record, the ring, the chain store, the weighbridge's checks. -/
def crystalUp (s : State) (chk : StartCheck) : State :=
  let s := { s.updCarrier (fun c => { c with vaon := .up, crystalOk := true, backup := false }) with time := 0 }
  let s := setPhase s PHASE_ISLANDS
  let s := setF s mgmtPg MGMT_MGMT_STATUS_RING_CW_OK 1
  let s := setF s mgmtPg MGMT_MGMT_STATUS_RING_CCW_OK 1
  let s := logStart s 0
  wbStart (chainStoreLoad s) chk

def execCrystalStable (chk : StartCheck) (s : State) : Host.Outcome State Fault Refusal :=
  guardDo (s.carrier.vaon == .crystalStarting) (fun s => crystalUp s chk) s

/-! ## READY (R84 to R86, R424, R886, R964) -/

/-- BRINGUP.ELAPSED (Table 2-6). -/
def putElapsed (s : State) : State := setF s bringupPg BRINGUP_ELAPSED_US (s.boot.zeroUs + usOf (s.time - s.boot.zeroTick))

/-- The anchor region is determined from a record's entries (R1059). -/
def setAnchor (s : State) (q : QRec) : State :=
  let a := anchorOf s (fun r => present r && (q.entry r).state == .healthy)
  s.updMap (fun m => { m with anchor := a })

/-- READY: event bit 0, the regions but (0,3) are asked to stop, erases, pending promotions and outputs begin. -/
def ready (s : State) : State :=
  let s := putElapsed (setPhase s PHASE_READY)
  let s := s.updBoot (fun b => { b with active := false, retestReq := [], barred := [], runLinks := [] })
  let s := setAnchor s s.map.working
  let s := raise s bringupPg 0
  let s := (runSet s).foldl (fun s r => if r = hostRegion then s else requestStop s r false 11 false) s
  let s := actOnPending (wakeZeroing s)
  if flagF s fieldPg CTRL_EN && outputsEnabled s then (startRegion s fieldRegion 11 true).1 else s

/-! ## Quarry map writes -/

/-- The copy to be written (R108, R134) is no longer valid; the record written is the working one with the next
SEQUENCE. -/
def beginWrite (s : State) (atReady : Bool) : State :=
  let q := { s.map.working with seq := s.map.committed.seq + 1 }
  s.updMap (fun m =>
    if m.selB then { m with copyA := m.copyA.torn, writing := some (q, 1), writingReady := atReady }
    else { m with copyB := m.copyB.torn, writing := some (q, 1), writingReady := atReady })

/-- RETEST requests of the start enter the record committed at its READY (R126), where the entry still reads FAILED without
FACTORY (R111). -/
def applyRetests (s : State) : State :=
  s.boot.retestReq.foldl (fun s x => s.updEntry x.1 (fun e =>
    if e.state = .failed ∧ e.factory = false then { e with retest := x.2 } else e)) s

/-- At the READY of a cold start: RETEST clears where the region was tested (R89), the requests of the start follow, and
BOOT_COUNT rises. -/
def coldRecord (s : State) : State :=
  let tested := s.boot.passedBefore ++ s.boot.passedNow ++ s.boot.failed ++ s.boot.barred
  let s := applyRetests (tested.foldl (fun s r => s.updEntry r (fun e => { e with retest := false })) s)
  s.updMap (fun m => { m with working := { m.working with bootCount := m.committed.bootCount + 1 } })

/-- Regions of which a record is due after record `q` (R110). -/
def changedSince (s : State) (q : QRec) : List Nat := allRegions.filter (fun r => !(s.entry r).same (q.entry r))

/-- Every region whose MGMT_STATE a commit changes has a POWER record (R1060). -/
def logStates (s : State) (old : Nat → Nat) : State :=
  allRegions.foldl (fun s r => if mgmtState s r = old r then s else logPower s r 9 0 0) s

/-- The record is committed: it is selected, shown and mirrored; QMAP_COMMIT (bit 7) and the QMAP log record. -/
def commitMap (s : State) (q : QRec) : State :=
  let before := s.map.committed
  let states := mgmtState s
  let diff := allRegions.filter (fun r => before.entry r != q.entry r)
  let s := s.updMap (fun m =>
    let m := if m.selB then { m with copyA := QCopy.written q, selB := false }
      else { m with copyB := QCopy.written q, selB := true }
    { m with committed := q, writing := none })
  let s := s.updMap (fun m => { m with changed := changedSince s q })
  let s := setAnchor s q
  let s := raise (publish s) bringupPg 7
  let one := match diff with
    | [r] => r
    | _ => 0x7F
  let s := logRec s 4 0x7F 0 [q.seq % 2 ^ 32, one, diff.length, 0]
  logStates s states

/-- A second readback has failed: HALTED (bit 6). Regions but a HEALTHY (0,3) are stopped with FORCE; none wakes. -/
def halt (s : State) : State :=
  let s := s.updMap (fun m => { m with writing := none })
  let s := putElapsed (setPhase s PHASE_HALTED)
  let s := s.updBoot (fun b => { b with active := false, paused := false })
  let s := raise { s with wakeQ := [] } bringupPg 6
  let s := (allRegions.filter (fun r => (s.region r).power == .waking)).foldl (fun s r =>
    s.updRegion r (fun x => { x with power := .stop, stopHeld := none })) s
  (runSet s).foldl (fun s r =>
    if r = hostRegion && (s.entry r).state == .healthy then s else requestStop s r true 9 false) s

/-- A write and its readback end (R109, R135). -/
def writeEnds (s : State) (q : QRec) (n : Nat) (ok : Bool) : State :=
  if ok then
    let s := commitMap s q
    if s.map.writingReady then ready s else restoreConnectivity (strand [] s)
  else if n < 2 then s.updMap (fun m => { m with writing := some (q, n + 1) })
  else halt s

def execQmapWriteDone (ok : Bool) (s : State) : Host.Outcome State Fault Refusal :=
  match s.map.writing with
  | some (q, n) => guardDo (s.carrier.vaon == .up) (fun s => writeEnds s q n ok) s
  | none => done s

/-- The commit of changes in Run (R110, R127). -/
def execQmapCommit (s : State) : Host.Outcome State Fault Refusal :=
  guardDo (s.carrier.vaon == .up && !s.boot.active && phase s == PHASE_READY && s.map.writing.isNone
      && !s.map.changed.isEmpty) (fun s => beginWrite s false) s

/-! ## The end of the rounds (R93, R99, R100, R142) -/

/-- The regions that passed in this start. -/
def passed (s : State) (r : Nat) : Bool := s.boot.passedBefore.contains r || s.boot.passedNow.contains r

/-- A region at the end of the rounds: passed without a path to the anchor (R99), or HEALTHY and not reached (R100). -/
def strandAtEnd (s : State) (r : Nat) : Bool :=
  (passed s r && !anchored s r) || (eligible s r && untested s r && (s.entry r).state == .healthy)

/-- The rounds are over: strandings are recorded, and the record is written where there is something to write. -/
def roundsOver (s : State) : State :=
  let s := (allRegions.filter (strandAtEnd s)).foldl (fun s r =>
    s.updEntry r (fun e => { e with state := .stranded, cause := .noPath })) s
  let s := if s.boot.warm then applyRetests s else coldRecord s
  if s.boot.warm && s.map.changed.isEmpty then ready s else beginWrite (setPhase s PHASE_COMMIT) true

/-- A round completes: the next begins with TEST_ROUND_BEGIN if it has a region to test. -/
def roundEnds (s : State) : State :=
  let s := s.updBoot (fun b => { b with roundOpen := false })
  if (roundSet s).isEmpty then roundsOver s else s

def execRoundComplete (s : State) : Host.Outcome State Fault Refusal := guardDo (roundTested s) roundEnds s

/-! ## Warm start (R140 to R143, R203, R424, R938, R1021) -/

/-- A warm start begins with VBUS soft-start: a copy is selected again, the job table is empty, the chains wait. -/
def warmStart (s : State) : State :=
  let s := s.updCarrier (fun c => { c with vbus := .rising, overvolt := false })
  let s := { s with boot := { Boot.reset with active := true, warm := true, zeroTick := s.time } }
  let s := setF s bringupPg BRINGUP_PHASE_WARM 1
  let s := warmChains (hostReset (mapSelect s))
  logStart s 1

/-- A warm start waits for the commits of R110, which come within 10 ms, while VIN must hold 36.0 V for 10 ms (R140), below
61.0 V after an overvoltage (R1049). -/
def execWarmStart (vin : Nat) (s : State) : Host.Outcome State Fault Refusal :=
  vinDo vin (36000 ≤ vin && (!s.carrier.overvolt || vin < 61000) && s.carrier.vaon == .up && s.carrier.vbus == .off && !s.boot.active
      && s.map.writing.isNone && s.map.changed.isEmpty && phase s != PHASE_HALTED) warmStart s

end Sys2Proof.Machine
end

