-- ==== Sys2Proof/Machine/Dispatch.lean ====
section
/-! DEFINITION. Machine/Dispatch.lean: the meaning of every command, one arm per row of the operation table. -/

namespace Sys2Proof.Machine

open Sys2Proof

def exec (i : Instr) (s : State) : Host.Outcome State Fault Refusal :=
  match i with
  | .coldStart vin => Sys2Proof.Machine.execColdStart vin s
  | .vaonInRegulation => Sys2Proof.Machine.execVaonInRegulation s
  | .crystalStable chk => Sys2Proof.Machine.execCrystalStable chk s
  | .quarryMapSelect => Sys2Proof.Machine.execQuarryMapSelect s
  | .vbusSoftStart vin => Sys2Proof.Machine.execVbusSoftStart vin s
  | .vbusInRegulation => Sys2Proof.Machine.execVbusInRegulation s
  | .testRoundBegin => Sys2Proof.Machine.execTestRoundBegin s
  | .regionSwitchClose r => Sys2Proof.Machine.execRegionSwitchClose r s
  | .selfTestBegin r => Sys2Proof.Machine.execSelfTestBegin r s
  | .selfTestDone r res => Sys2Proof.Machine.execSelfTestDone r res s
  | .sameRoundLinkTest failed => Sys2Proof.Machine.execSameRoundLinkTest failed s
  | .roundComplete => Sys2Proof.Machine.execRoundComplete s
  | .qmapWriteDone ok => Sys2Proof.Machine.execQmapWriteDone ok s
  | .qmapCommit => Sys2Proof.Machine.execQmapCommit s
  | .switchTrip r => Sys2Proof.Machine.execSwitchTrip r s
  | .tripRetry r => Sys2Proof.Machine.execTripRetry r s
  | .fuseConfirm r isOpen => Sys2Proof.Machine.execFuseConfirm r isOpen s
  | .fuseSelfOpen r => Sys2Proof.Machine.execFuseSelfOpen r s
  | .brownout vin => Sys2Proof.Machine.execBrownout vin s
  | .startResume vin => Sys2Proof.Machine.execStartResume vin s
  | .vbusOff vin => Sys2Proof.Machine.execVbusOff vin s
  | .vaonLoss vin => Sys2Proof.Machine.execVaonLoss vin s
  | .warmStart vin => Sys2Proof.Machine.execWarmStart vin s
  | .vinOvervoltage vin => Sys2Proof.Machine.execVinOvervoltage vin s
  | .vbusUndervoltage => Sys2Proof.Machine.execVbusUndervoltage s
  | .crystalFail => Sys2Proof.Machine.execCrystalFail s
  | .crystalRestored => Sys2Proof.Machine.execCrystalRestored s
  | .perstDeassert => Sys2Proof.Machine.execPerstDeassert s
  | .pcieLinkUp speed width => Sys2Proof.Machine.execPcieLinkUp speed width s
  | .hostLinkDown perst => Sys2Proof.Machine.execHostLinkDown perst s
  | .tamper => Sys2Proof.Machine.execTamper s
  | .wakeCommand r => Sys2Proof.Machine.execWakeCommand r s
  | .wakeComplete r lockUs => Sys2Proof.Machine.execWakeComplete r lockUs s
  | .wakeTimeout r => Sys2Proof.Machine.execWakeTimeout r s
  | .wakeRetry r => Sys2Proof.Machine.execWakeRetry r s
  | .stopHandshake r eccs => Sys2Proof.Machine.execStopHandshake r eccs s
  | .handshakeAnswer r agent => Sys2Proof.Machine.execHandshakeAnswer r agent s
  | .answerTimeout r agent => Sys2Proof.Machine.execAnswerTimeout r agent s
  | .handshakeDeadline r => Sys2Proof.Machine.execHandshakeDeadline r s
  | .regionStopped r => Sys2Proof.Machine.execRegionStopped r s
  | .stopCmd sp r value => Sys2Proof.Machine.execStopCmd sp r value s
  | .idleTimeout r => Sys2Proof.Machine.execIdleTimeout r s
  | .idleCfgWrite sp r value => Sys2Proof.Machine.execIdleCfgWrite sp r value s
  | .throttleEvaluation r sensors => Sys2Proof.Machine.execThrottleEvaluation r sensors s
  | .lockLost r => Sys2Proof.Machine.execLockLost r s
  | .regionFail r cause => Sys2Proof.Machine.execRegionFail r cause s
  | .rerouteRelease src dst => Sys2Proof.Machine.execRerouteRelease src dst s
  | .meshLinkFail link => Sys2Proof.Machine.execMeshLinkFail link s
  | .strandedStopRetry r => Sys2Proof.Machine.execStrandedStopRetry r s
  | .haulRoadPacket r cls => Sys2Proof.Machine.execHaulRoadPacket r cls s
  | .registerWrite sp addr size be value setNow fate => Sys2Proof.Machine.execRegisterWrite sp addr size be value setNow fate s
  | .blockEnable sp ref value => Sys2Proof.Machine.execBlockEnable sp ref value s
  | .blockDisable sp ref value => Sys2Proof.Machine.execBlockDisable sp ref value s
  | .softReset sp ref value => Sys2Proof.Machine.execSoftReset sp ref value s
  | .softResetDone ref => Sys2Proof.Machine.execSoftResetDone ref s
  | .commitArm sp ref => Sys2Proof.Machine.execCommitArm sp ref s
  | .commitApply ref => Sys2Proof.Machine.execCommitApply ref s
  | .evtStatClear sp ref value setNow => Sys2Proof.Machine.execEvtStatClear sp ref value setNow s
  | .evtEnWrite sp ref value => Sys2Proof.Machine.execEvtEnWrite sp ref value s
  | .errinfoClear sp ref value setNow => Sys2Proof.Machine.execErrinfoClear sp ref value setNow s
  | .loWordWrite sp addr value => Sys2Proof.Machine.execLoWordWrite sp addr value s
  | .hiWordWrite sp addr value => Sys2Proof.Machine.execHiWordWrite sp addr value s
  | .counterLowRead sp addr size be fate => Sys2Proof.Machine.execCounterLowRead sp addr size be fate s
  | .portFrame p input => Sys2Proof.Machine.execPortFrame p input s
  | .calibrationWindow p => Sys2Proof.Machine.execCalibrationWindow p s
  | .csiLongPacket p vc pkt => Sys2Proof.Machine.execCsiLongPacket p vc pkt s
  | .frameStart p vc => Sys2Proof.Machine.execFrameStart p vc s
  | .frameEnd p vc => Sys2Proof.Machine.execFrameEnd p vc s
  | .cameraFrameWritten p slot => Sys2Proof.Machine.execCameraFrameWritten p slot s
  | .recordWritten p slot => Sys2Proof.Machine.execRecordWritten p slot s
  | .streamFault p slot code => Sys2Proof.Machine.execStreamFault p slot code s
  | .streamClear p slot => Sys2Proof.Machine.execStreamClear p slot s
  | .headTrip p => Sys2Proof.Machine.execHeadTrip p s
  | .headRetry p => Sys2Proof.Machine.execHeadRetry p s
  | .headCtrlWrite sp p value => Sys2Proof.Machine.execHeadCtrlWrite sp p value s
  | .cciGo sp p value => Sys2Proof.Machine.execCciGo sp p value s
  | .cciDone p nack data => Sys2Proof.Machine.execCciDone p nack data s
  | .listenerHop p => Sys2Proof.Machine.execListenerHop p s
  | .evaluationDone p corrected badWord => Sys2Proof.Machine.execEvaluationDone p corrected badWord s
  | .bEnWrite sp p value => Sys2Proof.Machine.execBEnWrite sp p value s
  | .imageCheckDone p corrected badWord => Sys2Proof.Machine.execImageCheckDone p corrected badWord s
  | .bDataWrite sp p value => Sys2Proof.Machine.execBDataWrite sp p value s
  | .bDataRead sp p corrected badWord => Sys2Proof.Machine.execBDataRead sp p corrected badWord s
  | .trigCmd sp p value => Sys2Proof.Machine.execTrigCmd sp p value s
  | .floorReset sp p d value => Sys2Proof.Machine.execFloorReset sp p d value s
  | .messageAck p lslot => Sys2Proof.Machine.execMessageAck p lslot s
  | .ackTimeout p lslot => Sys2Proof.Machine.execAckTimeout p lslot s
  | .demotedReport p lslot => Sys2Proof.Machine.execDemotedReport p lslot s
  | .aFire p lslot => Sys2Proof.Machine.execAFire p lslot s
  | .trigger p lslot => Sys2Proof.Machine.execTrigger p lslot s
  | .refresh p lslot => Sys2Proof.Machine.execRefresh p lslot s
  | .demoted p lslot => Sys2Proof.Machine.execDemoted p lslot s
  | .verdict g => Sys2Proof.Machine.execVerdict g s
  | .demotionTimerExpiry c => Sys2Proof.Machine.execDemotionTimerExpiry c s
  | .wakeAck g => Sys2Proof.Machine.execWakeAck g s
  | .promote sp value => Sys2Proof.Machine.execPromote sp value s
  | .demote sp value => Sys2Proof.Machine.execDemote sp value s
  | .chainStoreSave sp value => Sys2Proof.Machine.execChainStoreSave sp value s
  | .storeDone readbackOk => Sys2Proof.Machine.execStoreDone readbackOk s
  | .startMessage g errs withEnd => Sys2Proof.Machine.execStartMessage g errs withEnd s
  | .restartMessage g errs withEnd => Sys2Proof.Machine.execRestartMessage g errs withEnd s
  | .switchComplete g => Sys2Proof.Machine.execSwitchComplete g s
  | .endMessage g => Sys2Proof.Machine.execEndMessage g s
  | .opRecordFetch g errs => Sys2Proof.Machine.execOpRecordFetch g errs s
  | .recordComplete g n => Sys2Proof.Machine.execRecordComplete g n s
  | .scaleLogWrite g ok => Sys2Proof.Machine.execScaleLogWrite g ok s
  | .mat g ecc => Sys2Proof.Machine.execMat g ecc s
  | .elt g ecc => Sys2Proof.Machine.execElt g ecc s
  | .fetch g ecc errs => Sys2Proof.Machine.execFetch g ecc errs s
  | .writeback g ecc => Sys2Proof.Machine.execWriteback g ecc s
  | .discard g ecc => Sys2Proof.Machine.execDiscard g ecc s
  | .load g ecc errs => Sys2Proof.Machine.execLoad g ecc errs s
  | .store g ecc => Sys2Proof.Machine.execStore g ecc s
  | .copy g ecc => Sys2Proof.Machine.execCopy g ecc s
  | .synAdd g => Sys2Proof.Machine.execSynAdd g s
  | .synWaitGe g => Sys2Proof.Machine.execSynWaitGe g s
  | .synSet g => Sys2Proof.Machine.execSynSet g s
  | .synClear g => Sys2Proof.Machine.execSynClear g s
  | .synWaitSet g => Sys2Proof.Machine.execSynWaitSet g s
  | .synAcquire g => Sys2Proof.Machine.execSynAcquire g s
  | .synRelease g => Sys2Proof.Machine.execSynRelease g s
  | .synArrive g => Sys2Proof.Machine.execSynArrive g s
  | .synArriveWait g => Sys2Proof.Machine.execSynArriveWait g s
  | .synRead g => Sys2Proof.Machine.execSynRead g s
  | .synVerdict g => Sys2Proof.Machine.execSynVerdict g s
  | .endProg g => Sys2Proof.Machine.execEndProg g s
  | .loop g => Sys2Proof.Machine.execLoop g s
  | .branch g => Sys2Proof.Machine.execBranch g s
  | .setp g => Sys2Proof.Machine.execSetp g s
  | .seta g => Sys2Proof.Machine.execSeta g s
  | .adda g => Sys2Proof.Machine.execAdda g s
  | .lda g ecc => Sys2Proof.Machine.execLda g ecc s
  | .sta g ecc => Sys2Proof.Machine.execSta g ecc s
  | .ctlNop g => Sys2Proof.Machine.execCtlNop g s
  | .saveCtx g => Sys2Proof.Machine.execSaveCtx g s
  | .gru g ecc => Sys2Proof.Machine.execGru g ecc s
  | .lstm g ecc => Sys2Proof.Machine.execLstm g ecc s
  | .block g ecc => Sys2Proof.Machine.execBlock g ecc s
  | .finish g ecc => Sys2Proof.Machine.execFinish g ecc s
  | .peekDataRead sp g ecc => Sys2Proof.Machine.execPeekDataRead sp g ecc s
  | .peekDataWrite sp g value => Sys2Proof.Machine.execPeekDataWrite sp g value s
  | .outMarkDurable r => Sys2Proof.Machine.execOutMarkDurable r s
  | .lineWriteDurable r n fails => Sys2Proof.Machine.execLineWriteDurable r n fails s
  | .scrubRead r errs => Sys2Proof.Machine.execScrubRead r errs s
  | .blockRelocation r blk => Sys2Proof.Machine.execBlockRelocation r blk s
  | .relocationCommit r => Sys2Proof.Machine.execRelocationCommit r s
  | .apertureRead sp addr size errs fate => Sys2Proof.Machine.execApertureRead sp addr size errs fate s
  | .apertureWrite sp addr size data fate => Sys2Proof.Machine.execApertureWrite sp addr size data fate s
  | .syncOperationApply r bad => Sys2Proof.Machine.execSyncOperationApply r bad s
  | .waitRetry g n => Sys2Proof.Machine.execWaitRetry g n s
  | .sigCmdAdd sp r value => Sys2Proof.Machine.execSigCmdAdd sp r value s
  | .sigCmdSet sp r value => Sys2Proof.Machine.execSigCmdSet sp r value s
  | .sigCmdClear sp r value => Sys2Proof.Machine.execSigCmdClear sp r value s
  | .snapSave sp r value => Sys2Proof.Machine.execSnapSave sp r value s
  | .snapRestore sp r value => Sys2Proof.Machine.execSnapRestore sp r value s
  | .snapComplete r => Sys2Proof.Machine.execSnapComplete r s
  | .objCfgWrite sp r obj value => Sys2Proof.Machine.execObjCfgWrite sp r obj value s
  | .objStateRead sp r obj => Sys2Proof.Machine.execObjStateRead sp r obj s
  | .lanePllLock k lanes peerTwoLane => Sys2Proof.Machine.execLanePllLock k lanes peerTwoLane s
  | .linkUp k peerId peerFollower => Sys2Proof.Machine.execLinkUp k peerId peerFollower s
  | .trainRetry k => Sys2Proof.Machine.execTrainRetry k s
  | .linkFrameSend k => Sys2Proof.Machine.execLinkFrameSend k s
  | .timeSend k => Sys2Proof.Machine.execTimeSend k s
  | .dataFrame k f ack crcOk authOk => Sys2Proof.Machine.execDataFrame k f ack crcOk authOk s
  | .idleFrame k ack => Sys2Proof.Machine.execIdleFrame k ack s
  | .nak k cls seq ack => Sys2Proof.Machine.execNak k cls seq ack s
  | .swapReq k id ack => Sys2Proof.Machine.execSwapReq k id ack s
  | .swapAck k ack => Sys2Proof.Machine.execSwapAck k ack s
  | .swapDone k ack => Sys2Proof.Machine.execSwapDone k ack s
  | .swapAbort k reason ack => Sys2Proof.Machine.execSwapAbort k reason ack s
  | .reject k tag cls seq reason ack => Sys2Proof.Machine.execReject k tag cls seq reason ack s
  | .time k t ack => Sys2Proof.Machine.execTime k t ack s
  | .probe k stamp => Sys2Proof.Machine.execProbe k stamp s
  | .echo k ns => Sys2Proof.Machine.execEcho k ns s
  | .roleSwap sp k value => Sys2Proof.Machine.execRoleSwap sp k value s
  | .swapDrained k => Sys2Proof.Machine.execSwapDrained k s
  | .swapDrainTimeout k => Sys2Proof.Machine.execSwapDrainTimeout k s
  | .linkHold k auth => Sys2Proof.Machine.execLinkHold k auth s
  | .holdTimeout k => Sys2Proof.Machine.execHoldTimeout k s
  | .linkJobEntryRemove k j => Sys2Proof.Machine.execLinkJobEntryRemove k j s
  | .submitLo q value => Sys2Proof.Machine.execSubmitLo q value s
  | .submitHi q value => Sys2Proof.Machine.execSubmitHi q value s
  | .descriptorFetch d => Sys2Proof.Machine.execDescriptorFetch d s
  | .admission j => Sys2Proof.Machine.execAdmission j s
  | .admitTimeout j => Sys2Proof.Machine.execAdmitTimeout j s
  | .imageCopy j data dmaFail => Sys2Proof.Machine.execImageCopy j data dmaFail s
  | .jobStop sp value => Sys2Proof.Machine.execJobStop sp value s
  | .queueFlush sp value users => Sys2Proof.Machine.execQueueFlush sp value users s
  | .claimFenceDrained => Sys2Proof.Machine.execClaimFenceDrained s
  | .completionWrite q j => Sys2Proof.Machine.execCompletionWrite q j s
  | .cqHeadWrite q value => Sys2Proof.Machine.execCqHeadWrite q value s
  | .evqHeadWrite value => Sys2Proof.Machine.execEvqHeadWrite value s
  | .respawn j => Sys2Proof.Machine.execRespawn j s
  | .getCert sp => Sys2Proof.Machine.execGetCert sp s
  | .moduleTicket sp => Sys2Proof.Machine.execModuleTicket sp s
  | .jobTicket sp => Sys2Proof.Machine.execJobTicket sp s
  | .partList sp => Sys2Proof.Machine.execPartList sp s
  | .partDelete sp => Sys2Proof.Machine.execPartDelete sp s
  | .zeroise sp => Sys2Proof.Machine.execZeroise sp s
  | .selfTest sp => Sys2Proof.Machine.execSelfTest sp s
  | .modelDigestDone r model ok => Sys2Proof.Machine.execModelDigestDone r model ok s
  | .openDap => Sys2Proof.Machine.execOpenDap s
  | .partitionZeroDone => Sys2Proof.Machine.execPartitionZeroDone s
  | .eraseComplete => Sys2Proof.Machine.execEraseComplete s
  | .dapAccess op => Sys2Proof.Machine.execDapAccess op s
  | .sessionHandshake peer anchor valid => Sys2Proof.Machine.execSessionHandshake peer anchor valid s
  | .sessionIdleTimeout session => Sys2Proof.Machine.execSessionIdleTimeout session s
  | .fragmentTimeout session reqId => Sys2Proof.Machine.execFragmentTimeout session reqId s
  | .ping m => Sys2Proof.Machine.execPing m s
  | .read m => Sys2Proof.Machine.execRead m s
  | .write m => Sys2Proof.Machine.execWrite m s
  | .qmapRead m => Sys2Proof.Machine.execQmapRead m s
  | .bringupRead m => Sys2Proof.Machine.execBringupRead m s
  | .logRead m => Sys2Proof.Machine.execLogRead m s
  | .subscribe m => Sys2Proof.Machine.execSubscribe m s
  | .wake m => Sys2Proof.Machine.execWake m s
  | .stop m => Sys2Proof.Machine.execStop m s
  | .stopForce m => Sys2Proof.Machine.execStopForce m s
  | .hold m => Sys2Proof.Machine.execHold m s
  | .holdForce m => Sys2Proof.Machine.execHoldForce m s
  | .release m => Sys2Proof.Machine.execRelease m s
  | .retestSet m => Sys2Proof.Machine.execRetestSet m s
  | .retestClear m => Sys2Proof.Machine.execRetestClear m s
  | .moduleReset m => Sys2Proof.Machine.execModuleReset m s
  | .trust m => Sys2Proof.Machine.execTrust m s
  | .net m => Sys2Proof.Machine.execNet m s
  | .holdStopRetry r => Sys2Proof.Machine.execHoldStopRetry r s
  | .banksmanReport r routes powered => Sys2Proof.Machine.execBanksmanReport r routes powered s
  | .banksmanLost r => Sys2Proof.Machine.execBanksmanLost r s
  | .foremanSilence r => Sys2Proof.Machine.execForemanSilence r s
  | .ringFault cw unreached => Sys2Proof.Machine.execRingFault cw unreached s
  | .mgmtLinkChange up ampHigh => Sys2Proof.Machine.execMgmtLinkChange up ampHigh s
  | .telemetryPeriod items busy => Sys2Proof.Machine.execTelemetryPeriod items busy s
  | .backgroundWake vinLow => Sys2Proof.Machine.execBackgroundWake vinLow s
  | .scrubPassEnd r => Sys2Proof.Machine.execScrubPassEnd r s
  | .scrubAgeHour r => Sys2Proof.Machine.execScrubAgeHour r s
  | .regulationTick ch iUa vtMv fullOn => Sys2Proof.Machine.execRegulationTick ch iUa vtMv fullOn s
  | .complianceClear ch => Sys2Proof.Machine.execComplianceClear ch s
  | .loopFallback ch => Sys2Proof.Machine.execLoopFallback ch s
  | .loopRetry ch => Sys2Proof.Machine.execLoopRetry ch s
  | .loopRetryEnd ch => Sys2Proof.Machine.execLoopRetryEnd ch s
  | .loopOpen ch => Sys2Proof.Machine.execLoopOpen ch s
  | .loopOvervolt ch vtMv => Sys2Proof.Machine.execLoopOvervolt ch vtMv s
  | .channelFault ch => Sys2Proof.Machine.execChannelFault ch s
  | .alarm => Sys2Proof.Machine.execAlarm s
  | .alarmCmd sp value => Sys2Proof.Machine.execAlarmCmd sp value s
  | .alarmStatClear sp value setNow => Sys2Proof.Machine.execAlarmStatClear sp value setNow s
  | .pwmPeriodEnd ch => Sys2Proof.Machine.execPwmPeriodEnd ch s
  | .diagnosablePulseEnd ch ma cv regulated => Sys2Proof.Machine.execDiagnosablePulseEnd ch ma cv regulated s
  | .proofPulse ch => Sys2Proof.Machine.execProofPulse ch s
  | .unverified ch => Sys2Proof.Machine.execUnverified ch s
  | .lampOvercurrent ch => Sys2Proof.Machine.execLampOvercurrent ch s
  | .lampRetry ch => Sys2Proof.Machine.execLampRetry ch s
  | .livenessPoll r silent => Sys2Proof.Machine.execLivenessPoll r silent s
  | .faceLost g => Sys2Proof.Machine.execFaceLost g s
  | .tagScanDone g ok => Sys2Proof.Machine.execTagScanDone g ok s
  | .trainingAttemptFail k => Sys2Proof.Machine.execTrainingAttemptFail k s
  | .thermalLockoutEnd r => Sys2Proof.Machine.execThermalLockoutEnd r s
  | .coldPlateSensorFault reading => Sys2Proof.Machine.execColdPlateSensorFault reading s
  | .ticketDone job => Sys2Proof.Machine.execTicketDone job s
  | .mbDone failed => Sys2Proof.Machine.execMbDone failed s
  | .outputCopy j errs dmaFail => Sys2Proof.Machine.execOutputCopy j errs dmaFail s

end Sys2Proof.Machine
end

