-- ==== Sys2Proof/Machine/Step.lean ====
section
/-! DEFINITION. Machine/Step.lean: one step of the module: the command at the front of the queue, or a root tick. -/

namespace Sys2Proof.Machine

open Sys2Proof

/-- A root clock runs: the crystal, or the backup oscillator of R199. -/
def clockRuns (s : State) : Bool := s.carrier.vaon == .up && (s.carrier.crystalOk || s.carrier.backup)

/-- Nothing is waiting: wafer time counts one root tick (R184) while a clock runs. -/
def idle (s : State) : State := if clockRuns s then { s with time := s.time + 1 } else s

/-- One step: the front command acts on the state with the queue's rest. -/
def step (s : State) : Host.Outcome State Fault Refusal :=
  match s.pending with
  | [] => .next (idle s)
  | c :: rest => exec c { s with pending := rest }

/-- `s` with the command that a word spells at the front of its queue; unchanged where the word spells none. -/
def State.withFetchWord (s : State) (nbits w : Nat) : State :=
  match decodeTableWord nbits w with
  | some c => { s with pending := c :: s.pending }
  | none => s

end Sys2Proof.Machine
end

