-- ==== Sys2Proof/Safety.lean ====
section
/-! DEFINITION. Safety.lean: what the claims about the module mean by a canonical state and by a safe run. -/

namespace Sys2Proof.Machine

open Sys2Proof

/-- The keys of a table rise strictly. -/
def tabRising {α : Type} : List (Nat × α) → Bool
  | [] => true
  | [_] => true
  | (a, _) :: (b, w) :: m => decide (a < b) && tabRising ((b, w) :: m)

/-- The register tables keep one entry a key, in rising order. -/
structure RegistersCanonical (s : State) : Prop where
  fields : tabRising s.fields = true
  shadow : tabRising s.shadow = true
  staged : tabRising s.staged = true
  snapHost : tabRising s.snapHost = true
  snapBk : tabRising s.snapBk = true

/-- Every memory of the module keeps its canonical form: host memory as far as the module wrote it, the bed store of each
region, the SRAM of each face, the image memory of each listener. -/
structure MemoriesCanonical (s : State) : Prop where
  host : Memory.wf s.host.mem = true
  beds : ∀ r, Memory.wf (s.bed r).bytes = true
  faces : ∀ g, Memory.wf (s.faceAt g).sram = true
  listeners : ∀ p, Memory.wf (s.listener p).image = true

/-- Equal contents are equal data. -/
structure Canonical (s : State) : Prop where
  registers : RegistersCanonical s
  memories : MemoriesCanonical s

/-- The parts of the module's state, apart from the queue of waiting commands. `supply`: VIN, VAON, VBUS, PERST#, the
crystal, the fuses and the cold plate; `hostPower`: HOST_PWR_OK; `mapRecord`: the copies of the quarry map, the committed
record and a write in progress; `mapEntries`: the record the foreman works on; `hostMemory`: what the module has written to
host memory and the messages it has sent; `jobs`: the job table and its queues; `log`: the management log and what was sent to
the station; `sessions`: the management sessions and credentials; `outs`: loops and lamps; the others are the fields of
`State`. -/
inductive StatePart where
  | time | freeCount | fields | shadow | staged | snapHost | snapBk | bus
  | supply | hostPower | mapRecord | mapEntries | boot | regions | wakeQ | road
  | syncs | beds | faces | hostMemory | jobs | log | sessions | esc
  | sensors | listeners | wb | links | cab | outs | ring | stopQ
  deriving DecidableEq, Repr

/-- What the host sees of the module beside its registers: bytes and messages written, host event records counted. -/
abbrev HostSt.memory (h : HostSt) : Tab Byte × List Nat × Nat × Nat := (h.mem, h.msix, h.evSeq, h.evDropped)

/-- The job table, its queues and the link. -/
abbrev HostSt.table (h : HostSt) : HostSt := { h with mem := [], msix := [], evSeq := 0, evDropped := 0 }

/-- The carrier's supplies, without HOST_PWR_OK. -/
abbrev Carrier.supply (c : Carrier) : Carrier := { c with hostPwrOk := false }

/-- The quarry map without the record the foreman works on. -/
abbrev MapSt.record (m : MapSt) : MapSt := { m with working := m.committed, changed := [] }

/-- The record the foreman works on. -/
abbrev MapSt.entries (m : MapSt) : QRec × List Nat := (m.working, m.changed)

/-- The log and the messages sent. -/
abbrev MgmtSt.output (g : MgmtSt) : List LogRec × List MgmtMsg := (g.log, g.sent)

/-- Sessions and credentials. -/
abbrev MgmtSt.access (g : MgmtSt) : MgmtSt := { g with log := [], sent := [] }

/-- A part reads the same in two states. -/
def StatePart.same : StatePart → State → State → Prop
  | .time, s, t => t.time = s.time
  | .freeCount, s, t => t.freeCount = s.freeCount
  | .fields, s, t => t.fields = s.fields
  | .shadow, s, t => t.shadow = s.shadow
  | .staged, s, t => t.staged = s.staged
  | .snapHost, s, t => t.snapHost = s.snapHost
  | .snapBk, s, t => t.snapBk = s.snapBk
  | .bus, s, t => t.bus = s.bus
  | .supply, s, t => t.carrier.supply = s.carrier.supply
  | .hostPower, s, t => t.carrier.hostPwrOk = s.carrier.hostPwrOk
  | .mapRecord, s, t => t.map.record = s.map.record
  | .mapEntries, s, t => t.map.entries = s.map.entries
  | .boot, s, t => t.boot = s.boot
  | .regions, s, t => t.regions = s.regions
  | .wakeQ, s, t => t.wakeQ = s.wakeQ
  | .road, s, t => t.road = s.road
  | .syncs, s, t => t.syncs = s.syncs
  | .beds, s, t => t.beds = s.beds
  | .faces, s, t => t.faces = s.faces
  | .hostMemory, s, t => t.host.memory = s.host.memory
  | .jobs, s, t => t.host.table = s.host.table
  | .log, s, t => t.mgmt.output = s.mgmt.output
  | .sessions, s, t => t.mgmt.access = s.mgmt.access
  | .esc, s, t => t.esc = s.esc
  | .sensors, s, t => t.sensors = s.sensors
  | .listeners, s, t => t.listeners = s.listeners
  | .wb, s, t => t.wb = s.wb
  | .links, s, t => t.links = s.links
  | .cab, s, t => t.cab = s.cab
  | .outs, s, t => t.outs = s.outs
  | .ring, s, t => t.ring = s.ring
  | .stopQ, s, t => t.stopQ = s.stopQ

/-- Only the parts of a list differ, and the queue of waiting commands is the same. -/
def Only (ps : List StatePart) (s t : State) : Prop := t.pending = s.pending ∧ ∀ p : StatePart, p ∉ ps → p.same s t

/-- All parts. -/
def StatePart.all : List StatePart :=
  [.time, .freeCount, .fields, .shadow, .staged, .snapHost, .snapBk, .bus, .supply, .hostPower, .mapRecord, .mapEntries,
    .boot, .regions, .wakeQ, .road, .syncs, .beds, .faces, .hostMemory, .jobs, .log, .sessions, .esc, .sensors, .listeners,
    .wb, .links, .cab, .outs, .ring, .stopQ]

/-- All parts but some. -/
def StatePart.allBut (ps : List StatePart) : List StatePart := StatePart.all.filter (fun p => !ps.contains p)

/-- The parts of the state that a command may change; every other part reads the same after it, whatever the state and the
operands. A command that writes a register may change what its page's operation changes, and an event delivered to the host
writes host memory and the management log. -/
def footprint : Instr → List StatePart
  | .coldStart .. =>
    StatePart.allBut [.freeCount]
  | .vaonInRegulation | .vbusSoftStart .. | .crystalRestored =>
    [.supply]
  | .crystalStable .. =>
    StatePart.allBut [.freeCount, .shadow, .staged, .snapHost, .snapBk, .bus, .hostPower, .mapRecord,
      .mapEntries, .boot, .beds, .sessions, .sensors, .listeners, .outs]
  | .quarryMapSelect =>
    [.fields, .mapRecord, .mapEntries, .boot, .regions, .hostMemory, .log]
  | .vbusInRegulation =>
    [.fields, .supply, .boot, .regions, .hostMemory, .log]
  | .testRoundBegin =>
    [.fields, .boot]
  | .regionSwitchClose .. =>
    [.fields, .boot, .regions, .hostMemory, .log]
  | .selfTestBegin .. =>
    [.boot]
  | .selfTestDone .. =>
    StatePart.allBut [.time, .freeCount, .bus, .supply, .mapRecord, .wakeQ, .jobs, .sessions, .esc, .listeners,
      .links, .cab, .ring, .stopQ]
  | .sameRoundLinkTest .. =>
    [.fields, .mapEntries, .road]
  | .roundComplete | .qmapWriteDone .. =>
    StatePart.allBut [.time, .freeCount, .shadow, .staged, .snapHost, .snapBk, .bus, .supply, .hostPower, .beds,
      .sessions, .sensors, .listeners, .cab, .outs]
  | .qmapCommit =>
    [.mapRecord]
  | .switchTrip .. | .wakeTimeout .. | .throttleEvaluation .. | .lockLost .. | .regionFail .. | .banksmanLost ..
  | .tagScanDone .. =>
    StatePart.allBut [.time, .freeCount, .bus, .supply, .mapRecord, .sessions, .listeners]
  | .tripRetry .. =>
    [.boot, .regions]
  | .fuseConfirm .. =>
    [.supply, .mapEntries]
  | .fuseSelfOpen .. =>
    StatePart.allBut [.time, .freeCount, .bus, .mapRecord, .sessions, .listeners]
  | .brownout .. =>
    [.fields, .supply, .mapRecord, .mapEntries, .boot, .regions, .hostMemory, .log, .stopQ]
  | .startResume .. =>
    [.supply, .boot]
  | .vbusOff .. | .vaonLoss .. | .vinOvervoltage .. =>
    StatePart.allBut [.time, .freeCount, .bus, .sessions, .listeners]
  | .warmStart .. =>
    StatePart.allBut [.time, .freeCount, .bus, .hostPower, .wakeQ, .road, .beds, .sessions, .sensors,
      .listeners, .cab, .outs]
  | .vbusUndervoltage =>
    [.fields, .regions, .hostMemory, .log, .stopQ]
  | .crystalFail =>
    [.fields, .supply, .regions, .hostMemory, .log, .stopQ]
  | .perstDeassert =>
    [.fields, .shadow, .staged, .snapHost, .snapBk, .supply, .syncs, .faces, .hostMemory, .jobs, .log, .wb,
      .links, .ring, .stopQ]
  | .pcieLinkUp .. =>
    [.fields, .hostMemory, .jobs, .log]
  | .hostLinkDown .. =>
    [.fields, .shadow, .staged, .snapHost, .snapBk, .supply, .syncs, .faces, .hostMemory, .jobs, .log, .wb,
      .links]
  | .tamper | .openDap =>
    [.fields, .regions, .wakeQ, .road, .syncs, .faces, .hostMemory, .jobs, .log, .esc, .wb, .links, .cab, .ring,
      .stopQ]
  | .wakeCommand .. =>
    [.fields, .regions, .wakeQ, .syncs, .faces, .hostMemory, .jobs, .log, .esc, .wb, .links, .ring, .stopQ]
  | .wakeComplete .. =>
    StatePart.allBut [.time, .freeCount, .bus, .supply, .hostPower, .mapRecord, .mapEntries, .boot, .sessions,
      .listeners, .cab]
  | .wakeRetry .. | .answerTimeout .. =>
    [.regions]
  | .stopHandshake .. =>
    [.fields, .regions, .road, .syncs, .beds, .faces, .hostMemory, .jobs, .log, .esc, .wb, .links, .ring,
      .stopQ]
  | .handshakeAnswer .. =>
    [.fields, .regions, .road, .hostMemory, .log, .stopQ]
  | .handshakeDeadline .. | .regionStopped .. | .banksmanReport .. | .foremanSilence .. =>
    StatePart.allBut [.time, .freeCount, .bus, .supply, .hostPower, .mapRecord, .boot, .sessions, .listeners]
  | .stopCmd .. | .idleCfgWrite .. | .registerWrite .. | .blockEnable .. | .blockDisable .. | .softReset ..
  | .commitArm .. | .evtStatClear .. | .evtEnWrite .. | .errinfoClear .. | .loWordWrite .. | .hiWordWrite ..
  | .headCtrlWrite .. | .cciGo .. | .bEnWrite .. | .bDataWrite .. | .trigCmd .. | .floorReset .. | .promote ..
  | .demote .. | .chainStoreSave .. | .peekDataWrite .. | .apertureWrite .. | .sigCmdAdd .. | .sigCmdSet ..
  | .sigCmdClear .. | .snapSave .. | .snapRestore .. | .objCfgWrite .. | .roleSwap .. | .submitLo .. | .submitHi ..
  | .jobStop .. | .queueFlush .. | .cqHeadWrite .. | .evqHeadWrite .. | .getCert .. | .moduleTicket .. | .jobTicket ..
  | .partList .. | .partDelete .. | .zeroise .. | .selfTest .. | .dapAccess .. | .alarmCmd .. | .alarmStatClear .. =>
    StatePart.allBut [.time, .supply, .hostPower, .mapRecord, .mapEntries, .boot, .sessions]
  | .idleTimeout .. | .strandedStopRetry .. | .holdStopRetry .. =>
    [.regions, .stopQ]
  | .rerouteRelease .. =>
    [.road]
  | .meshLinkFail .. =>
    [.fields, .mapEntries, .boot, .regions, .wakeQ, .road, .stopQ]
  | .haulRoadPacket .. | .dataFrame .. =>
    [.fields, .road, .syncs, .beds, .faces, .hostMemory, .jobs, .log, .esc, .sensors, .wb, .links, .ring,
      .stopQ]
  | .softResetDone .. =>
    [.fields, .shadow, .staged, .snapHost, .snapBk, .jobs]
  | .commitApply .. =>
    [.fields, .shadow, .road, .beds, .faces, .hostMemory, .log, .esc, .sensors, .listeners, .cab, .outs, .ring,
      .stopQ]
  | .counterLowRead .. | .bDataRead .. | .peekDataRead .. | .apertureRead .. | .objStateRead .. =>
    StatePart.allBut [.time, .shadow, .staged, .supply, .hostPower, .mapRecord, .mapEntries, .boot, .regions,
      .wakeQ, .road, .sessions, .sensors, .cab, .outs]
  | .portFrame .. =>
    [.time, .freeCount, .fields, .shadow, .road, .beds, .faces, .hostMemory, .log, .sensors, .listeners]
  | .calibrationWindow .. =>
    [.sensors]
  | .csiLongPacket .. =>
    [.fields, .road, .beds, .faces, .hostMemory, .log, .sensors]
  | .frameStart .. =>
    [.fields, .shadow, .road, .beds, .faces, .hostMemory, .log, .sensors, .listeners]
  | .frameEnd .. =>
    [.fields, .road, .beds, .faces, .sensors]
  | .cameraFrameWritten .. | .recordWritten .. =>
    [.fields, .road, .syncs, .beds, .faces, .hostMemory, .log, .sensors]
  | .streamFault .. | .headTrip .. =>
    [.fields, .hostMemory, .log, .sensors, .listeners]
  | .streamClear .. | .mgmtLinkChange .. =>
    [.fields, .hostMemory, .log]
  | .headRetry .. =>
    [.fields, .sensors]
  | .cciDone .. =>
    [.fields, .hostMemory, .log, .sensors]
  | .listenerHop .. =>
    [.fields, .shadow, .hostMemory, .log, .listeners, .ring]
  | .evaluationDone .. | .imageCheckDone .. | .demotedReport .. =>
    [.fields, .hostMemory, .log, .listeners, .ring]
  | .messageAck .. =>
    [.listeners, .ring]
  | .ackTimeout .. =>
    [.fields, .hostMemory, .log, .listeners]
  | .aFire .. | .trigger .. | .refresh .. | .demoted .. | .verdict .. =>
    [.fields, .regions, .wakeQ, .road, .syncs, .faces, .hostMemory, .jobs, .log, .esc, .wb, .links, .ring,
      .stopQ]
  | .demotionTimerExpiry .. =>
    [.fields, .hostMemory, .log, .esc, .ring, .stopQ]
  | .wakeAck .. =>
    [.fields, .syncs, .hostMemory, .log, .esc, .ring]
  | .storeDone .. =>
    [.fields, .hostMemory, .log, .esc]
  | .startMessage .. | .restartMessage .. | .opRecordFetch .. | .sta .. | .saveCtx .. =>
    [.fields, .syncs, .beds, .faces, .hostMemory, .jobs, .log, .esc, .wb, .links, .ring, .stopQ]
  | .switchComplete .. | .endMessage .. | .respawn .. =>
    [.fields, .syncs, .faces, .hostMemory, .jobs, .log, .wb, .links, .ring]
  | .recordComplete .. | .admitTimeout .. =>
    [.fields, .syncs, .faces, .hostMemory, .jobs, .log, .wb, .links]
  | .scaleLogWrite .. =>
    [.fields, .beds, .faces, .hostMemory, .log]
  | .mat .. | .elt .. | .gru .. | .lstm .. | .block .. | .finish .. =>
    [.freeCount, .fields, .syncs, .beds, .faces, .hostMemory, .jobs, .log, .esc, .wb, .links, .ring, .stopQ]
  | .fetch .. | .writeback .. | .discard .. | .load .. | .store .. | .copy .. =>
    [.fields, .road, .syncs, .beds, .faces, .hostMemory, .jobs, .log, .esc, .wb, .links, .ring, .stopQ]
  | .synAdd .. | .synWaitGe .. | .synSet .. | .synClear .. | .synWaitSet .. | .synAcquire .. | .synRelease ..
  | .synArrive .. | .synArriveWait .. | .synRead .. | .waitRetry .. =>
    [.fields, .road, .syncs, .faces, .hostMemory, .jobs, .log, .esc, .wb, .links, .ring, .stopQ]
  | .synVerdict .. | .endProg .. | .loop .. | .branch .. | .setp .. | .seta .. | .adda .. | .lda .. | .ctlNop ..
  | .syncOperationApply .. | .reject .. =>
    [.fields, .syncs, .faces, .hostMemory, .jobs, .log, .esc, .wb, .links, .ring, .stopQ]
  | .outMarkDurable .. | .blockRelocation .. =>
    [.beds]
  | .lineWriteDurable .. | .modelDigestDone .. =>
    [.fields, .syncs, .beds, .faces, .hostMemory, .jobs, .log, .wb, .links]
  | .scrubRead .. | .relocationCommit .. =>
    [.fields, .beds, .hostMemory, .log]
  | .snapComplete .. =>
    [.fields, .syncs, .hostMemory, .log]
  | .lanePllLock .. | .swapReq .. | .swapAbort .. | .swapDrainTimeout .. =>
    [.fields, .hostMemory, .log, .links]
  | .linkUp .. | .holdTimeout .. =>
    [.fields, .syncs, .faces, .hostMemory, .jobs, .log, .esc, .wb, .links, .cab, .ring, .stopQ]
  | .trainRetry .. | .idleFrame .. | .swapAck .. | .echo .. | .trainingAttemptFail .. =>
    [.fields, .links]
  | .linkFrameSend .. =>
    [.fields, .shadow, .syncs, .faces, .hostMemory, .jobs, .log, .esc, .wb, .links, .cab, .ring, .stopQ]
  | .timeSend .. | .probe .. =>
    [.links]
  | .nak .. | .swapDone .. | .time .. | .swapDrained .. | .linkHold .. =>
    [.fields, .hostMemory, .log, .links, .cab]
  | .linkJobEntryRemove .. =>
    [.fields, .syncs, .hostMemory, .jobs, .log, .wb, .links]
  | .descriptorFetch .. =>
    [.freeCount, .fields, .syncs, .faces, .hostMemory, .jobs, .log, .wb, .links]
  | .admission .. =>
    [.fields, .regions, .wakeQ, .road, .syncs, .faces, .hostMemory, .jobs, .log, .wb, .links, .ring, .stopQ]
  | .imageCopy .. =>
    [.fields, .syncs, .beds, .faces, .hostMemory, .jobs, .log, .wb, .links, .ring]
  | .claimFenceDrained =>
    [.fields, .hostMemory, .jobs, .log, .links]
  | .completionWrite .. =>
    [.fields, .shadow, .staged, .snapHost, .snapBk, .hostMemory, .jobs, .log, .stopQ]
  | .partitionZeroDone | .mbDone .. =>
    [.fields, .beds, .hostMemory, .log, .wb]
  | .eraseComplete =>
    [.fields, .hostMemory, .log, .wb]
  | .sessionHandshake .. =>
    [.freeCount, .fields, .hostMemory, .log, .sessions]
  | .sessionIdleTimeout .. | .ping .. | .qmapRead .. | .bringupRead .. | .logRead .. | .subscribe .. | .trust ..
  | .net .. =>
    [.fields, .hostMemory, .log, .sessions]
  | .fragmentTimeout .. =>
    [.sessions]
  | .read .. =>
    StatePart.allBut [.time, .shadow, .staged, .supply, .hostPower, .mapRecord, .mapEntries, .boot, .regions,
      .wakeQ, .road, .sensors, .cab, .outs]
  | .write .. =>
    StatePart.allBut [.time, .supply, .hostPower, .mapRecord, .mapEntries, .boot]
  | .wake .. =>
    [.fields, .regions, .wakeQ, .road, .hostMemory, .log, .sessions, .stopQ]
  | .stop .. | .stopForce .. =>
    [.fields, .regions, .hostMemory, .log, .sessions, .stopQ]
  | .hold .. | .holdForce .. =>
    [.fields, .regions, .wakeQ, .hostMemory, .log, .sessions, .stopQ]
  | .release .. =>
    [.fields, .regions, .wakeQ, .hostMemory, .log, .sessions]
  | .retestSet .. | .retestClear .. =>
    [.fields, .mapRecord, .mapEntries, .boot, .hostMemory, .log, .sessions]
  | .moduleReset .. =>
    StatePart.allBut [.time, .freeCount, .bus, .listeners]
  | .ringFault .. =>
    [.freeCount, .fields, .mapEntries, .regions, .wakeQ, .hostMemory, .log, .stopQ]
  | .telemetryPeriod .. =>
    [.log]
  | .backgroundWake .. =>
    [.fields, .regions, .wakeQ, .road, .hostMemory, .log, .stopQ]
  | .scrubPassEnd .. =>
    [.fields, .regions, .beds, .hostMemory, .log, .stopQ]
  | .scrubAgeHour .. =>
    [.fields, .regions, .hostMemory, .log]
  | .regulationTick .. | .pwmPeriodEnd .. =>
    [.fields, .shadow, .hostMemory, .log, .outs]
  | .complianceClear .. | .loopRetry .. | .loopRetryEnd .. =>
    [.fields, .outs]
  | .loopFallback .. | .loopOpen .. | .loopOvervolt .. | .channelFault .. | .diagnosablePulseEnd .. | .proofPulse ..
  | .unverified .. | .lampOvercurrent .. =>
    [.fields, .hostMemory, .log, .outs]
  | .alarm =>
    [.fields, .hostMemory, .log, .outs, .ring]
  | .lampRetry .. =>
    [.outs]
  | .livenessPoll .. | .faceLost .. =>
    [.fields, .regions, .syncs, .faces, .hostMemory, .jobs, .log, .esc, .wb, .links, .ring, .stopQ]
  | .thermalLockoutEnd .. =>
    [.regions, .wakeQ]
  | .coldPlateSensorFault .. =>
    [.fields, .supply, .hostMemory, .log]
  | .ticketDone .. =>
    [.freeCount, .fields, .syncs, .faces, .hostMemory, .jobs, .log, .wb, .links, .ring]
  | .outputCopy .. =>
    [.fields, .syncs, .beds, .hostMemory, .jobs, .log, .wb]

/-- An access by a master reaches a register page: the master can issue it, the address decodes to word `off` of page
`ref` of kind `k`, and the access, a whole word that arrives unless said otherwise, is judged OK (R1058). -/
structure Reached (s : State) (sp : Space) (a ref off : Nat) (k : PageKind) (t : Travel := .word) : Prop where
  issued : canAccess s sp = true
  decoded : target sp a = .page ref off
  judged : judge s sp a t = .ok
  kind : pageKind ref = some k

/-- A write that reaches a page and that no rule refuses (R219, R223, R230 to R232, R1056). -/
structure Taken (s : State) (sp : Space) (a v ref off : Nat) (k : PageKind) (t : Travel := .word) : Prop
    extends Reached s sp a ref off k t where
  taken : refusal (commonCodes s sp ref k off v ++ blockCodes s sp ref k off v) = none

/-- What the master of a word write that reached a page sees. -/
def busDone (sp : Space) (a v : Nat) : Option BusResult := some ⟨sp, a, v, .ok⟩

/-- A command answers a next state, of which `P` holds. -/
def Completes (c : Instr) (s : State) (P : State → Prop) : Prop := ∃ t, exec c s = .next t ∧ P t

/-- A region in Run is asked to stop: it is in its stop handshake or its request waits; with `force`, that has FORCE. -/
def StopAsked (t : State) (r : Nat) (force : Bool) : Prop :=
  (∃ h, (t.region r).hs = some h ∧ (force = true → h.force = true)) ∨
    ∃ q, q ∈ t.stopQ ∧ q.region = r ∧ (force = true → q.force = true)

/-- The oldest queued record of a face is a well-formed record of a FAMILY and SUBOP, it issues now and its predicate does
not skip it (R430, R468, R471). -/
structure Issues (s : State) (g fam sub : Nat) (o : OpRec) : Prop where
  ready : headReady s g = some o
  legal : o.illegal = false
  runs : (s.faceAt g).skips o = false
  family : o.family = fam
  subop : o.subop = sub

/-- The record has left the op queue complete (R433): its token, if any, is set, the other tokens and the records already
issued are as before. -/
structure Retired (s t : State) (g : Nat) (o : OpRec) : Prop where
  queue : (t.faceAt g).queue = (s.faceAt g).queue.drop 1
  issued : (t.faceAt g).issued = (s.faceAt g).issued
  token : o.tokenEn = true → bit (t.faceAt g).tokens o.token = true
  tokens : ∀ k, k < 8 → o.tokenEn = false ∨ k ≠ o.token → bit (t.faceAt g).tokens k = bit (s.faceAt g).tokens k

/-- The record has left the op queue for its unit (R433): its token, if any, is clear, the other tokens are as before. -/
structure Dispatched (s t : State) (g : Nat) (o : OpRec) (st : IssueSt) : Prop where
  queue : (t.faceAt g).queue = (s.faceAt g).queue.drop 1
  issued : (t.faceAt g).issued = (s.faceAt g).issued ++ [⟨(s.faceAt g).nextId, o, st⟩]
  token : o.tokenEn = true → bit (t.faceAt g).tokens o.token = false
  tokens : ∀ k, k < 8 → o.tokenEn = false ∨ k ≠ o.token → bit (t.faceAt g).tokens k = bit (s.faceAt g).tokens k

/-- Face, FAMILY and SUBOP of the op record that a command issues, MOV apart (its rows also go by the descriptor). -/
def recordOf : Instr → Option (Nat × Nat × Nat)
  | .mat g _ => some (g, 0, 0)
  | .elt g _ => some (g, 1, 0)
  | .synAdd g => some (g, 3, 0)
  | .synWaitGe g => some (g, 3, 1)
  | .synSet g => some (g, 3, 2)
  | .synClear g => some (g, 3, 3)
  | .synWaitSet g => some (g, 3, 4)
  | .synAcquire g => some (g, 3, 5)
  | .synRelease g => some (g, 3, 6)
  | .synArrive g => some (g, 3, 7)
  | .synArriveWait g => some (g, 3, 8)
  | .synRead g => some (g, 3, 9)
  | .synVerdict g => some (g, 3, 10)
  | .endProg g => some (g, 4, 0)
  | .loop g => some (g, 4, 1)
  | .branch g => some (g, 4, 2)
  | .setp g => some (g, 4, 3)
  | .seta g => some (g, 4, 4)
  | .adda g => some (g, 4, 5)
  | .lda g _ => some (g, 4, 6)
  | .sta g _ => some (g, 4, 7)
  | .ctlNop g => some (g, 4, 8)
  | .saveCtx g => some (g, 4, 9)
  | .gru g _ => some (g, 5, 0)
  | .lstm g _ => some (g, 5, 1)
  | .block g _ => some (g, 6, 0)
  | .finish g _ => some (g, 6, 1)
  | _ => none

/-- Face and operation of the MOV record that a command issues. -/
def moveOf : Instr → Option (Nat × Nat)
  | .fetch g _ _ => some (g, 0)
  | .writeback g _ => some (g, 1)
  | .discard g _ => some (g, 2)
  | .load g _ _ => some (g, 3)
  | .store g _ => some (g, 4)
  | .copy g _ => some (g, 5)
  | _ => none

/-- The command takes the record `o` of a face. -/
def takesRecord (c : Instr) (s : State) (g : Nat) (o : OpRec) : Prop :=
  recordOf c = some (g, o.family, o.subop) ∨
    ∃ n, moveOf c = some (g, n) ∧ o.family = 2 ∧ (movOp s g o = none ∨ movOp s g o = some n)

/-- No effect of an earlier record of its unit that the record could miss is outstanding (R432, R404). -/
def effectsSeen (s : State) (g : Nat) (o : OpRec) : Bool :=
  match o.family with
  | 2 => (movOp s g o).isNone || hoistFree (s.faceAt g) ((s.faceAt g).desc o)
  | 3 => if o.subop = 10 then verdictGoes s g else syncFree s g o
  | _ => true

/-- OP and datagram of the request that a command of the management port takes (Table 16-3). -/
def requestOf : Instr → Option (Nat × Datagram)
  | .ping m => some (1, m)
  | .read m => some (2, m)
  | .write m => some (3, m)
  | .qmapRead m => some (4, m)
  | .bringupRead m => some (5, m)
  | .logRead m => some (6, m)
  | .subscribe m => some (7, m)
  | .wake m => some (0x10, m)
  | .stop m => some (0x10, m)
  | .stopForce m => some (0x10, m)
  | .hold m => some (0x10, m)
  | .holdForce m => some (0x10, m)
  | .release m => some (0x10, m)
  | .retestSet m => some (0x10, m)
  | .retestClear m => some (0x10, m)
  | .moduleReset m => some (0x11, m)
  | .trust m => some (0x12, m)
  | .net m => some (0x13, m)
  | _ => none

/-- A request reaches an open session of a port that is up, and is no repeat (R896, R897). -/
structure Fresh (s : State) (m : Datagram) (x : Session) : Prop where
  session : s.session m.session = some x
  up : mgmtUp s = true
  first : x.kept.find? (·.1 == m.reqId) = none

/-- A fresh request in one fragment that obeys Table 16-2. -/
structure Asked (s : State) (m : Datagram) (x : Session) : Prop extends Fresh s m x where
  header : Datagram.headerOk m = true
  single : m.count = 1
  whole : m.bytes.length = m.len

/-- A run of steps that ends in a state: no fault and no refusal on the way. -/
def safeRun : Nat → State → Option State
  | 0, s => some s
  | n + 1, s =>
    match step s with
    | .next t => safeRun n t
    | _ => none

end Sys2Proof.Machine
end

