-- ==== Sys2Proof/Certificates/Slice0/Obligations.lean ====
section
/-! DEFINITION. Certificates/Slice0/Obligations.lean: the statements for the provers. Every hypothesis of a statement speaks of
the state and the operands alone; `Completes c s P` says that `exec c s` answers a next state, of which `P` holds. -/

open Sys2Proof Sys2Proof.Machine

/-- A step runs the front command on the state with the queue's rest. -/
def Obligations.StepRunsFront : Prop :=
  ∀ (s : State) (c : Instr) (rest : List Instr), s.pending = c :: rest → step s = exec c { s with pending := rest }

/-- On an empty queue a root tick passes; the tick is the model's choice (log entry 2). -/
def Obligations.StepIdle : Prop :=
  ∀ s : State, s.pending = [] →
    (s.carrier.vaon = .up → s.carrier.crystalOk = true ∨ s.carrier.backup = true →
      step s = .next { s with time := s.time + 1 }) ∧
    (s.carrier.vaon ≠ .up ∨ (s.carrier.crystalOk = false ∧ s.carrier.backup = false) → step s = .next s)

/-- The state after reset is canonical, and so is the module as it ships with any record.
Where it rests on the model's readings or choices, these are log entries 3, 5, 6, 7. -/
def Obligations.ResetCanonical : Prop :=
  (State.reset.pending = [] ∧ Canonical State.reset) ∧
  ∀ q : QRec, (State.shipped q).pending = [] ∧ Canonical (State.shipped q) ∧ (State.shipped q).map.committed = q ∧
    (State.shipped q).map.copyA.record = q

/-- The canonical form is an invariant of every step.
Where it rests on the model's readings or choices, this is log entry 3. -/
def Obligations.StepKeepsCanonical : Prop := ∀ s t : State, Canonical s → step s = .next t → Canonical t

/-- exec leaves the queue alone; the count of free values never falls.
Where it rests on the model's readings or choices, this is log entry 1. -/
def Obligations.ExecKeepsQueue : Prop :=
  ∀ (c : Instr) (s t : State), exec c s = .next t → t.pending = s.pending ∧ s.freeCount ≤ t.freeCount

/-- The frame of every command. -/
def Obligations.CommandFootprint : Prop :=
  ∀ (c : Instr) (s t : State), exec c s = .next t → ∀ p : StatePart, p ∉ footprint c → p.same s t

/-- The absolute maximum of VIN.
Where it rests on the model's readings or choices, this is log entry 14. -/
def Obligations.AbsoluteMaximum : Prop :=
  ∀ (s : State) (vin : Nat) (c : Instr),
    c ∈ [Instr.coldStart vin, .vbusSoftStart vin, .brownout vin, .startResume vin, .vbusOff vin, .vaonLoss vin,
      .warmStart vin, .vinOvervoltage vin] →
    (70000 < vin → exec c s = .fault .absoluteMaximum) ∧ (vin ≤ 70000 → Completes c s (fun _ => True))

/-- Only a report of VIN can end a run.
Where it rests on the model's readings or choices, these are log entries 11, 14. -/
def Obligations.NoOtherStop : Prop :=
  ∀ (c : Instr) (s : State), (∃ t, exec c s = .next t) ∨ (exec c s = .fault .absoluteMaximum ∧
    StatePart.supply ∈ footprint c)

/-- A fuse that is open stays open, and its switch is not closed by the sequence of the rounds.
Where it rests on the model's readings or choices, this is log entry 11. -/
def Obligations.FusesStayOpen : Prop :=
  (∀ (c : Instr) (s t : State) (r : Nat), exec c s = .next t → r ∈ s.carrier.fusesOpen → r ∈ t.carrier.fusesOpen) ∧
  (∀ (s : State) (r : Nat), r ∈ s.carrier.fusesOpen → exec (.regionSwitchClose r) s = .next s)

/-- The supplies of a start.
Where it rests on the model's readings or choices, these are log entries 15, 27. -/
def Obligations.StartSupplies : Prop :=
  (∀ (s : State) (vin : Nat), s.carrier.vaon = .off → 22000 ≤ vin → vin ≤ 70000 →
    Completes (.coldStart vin) s (fun t => t.carrier.vaon = .rising ∧ t.carrier.vin = vin ∧ phase t = PHASE_POWER ∧
      t.boot.active = true ∧ t.map.committed = s.map.committed ∧ (∀ r, (t.bed r).bytes = (s.bed r).bytes) ∧
      ∀ g, t.faceAt g = FaceSt.reset)) ∧
  (∀ s : State, s.carrier.vaon = .rising →
    Completes .vaonInRegulation s (fun t => t = { s with carrier := { s.carrier with vaon := .crystalStarting } })) ∧
  (∀ (s : State) (chk : StartCheck), s.carrier.vaon = .crystalStarting →
    Completes (.crystalStable chk) s (fun t => t.carrier.vaon = .up ∧ t.carrier.crystalOk = true ∧
      t.carrier.backup = false ∧ t.time = 0)) ∧
  (∀ (s : State) (vin : Nat), 36000 ≤ vin → vin ≤ 70000 → s.carrier.vbus = .off → s.carrier.vaon ≠ .off →
    s.boot.active = true →
    Completes (.vbusSoftStart vin) s (fun t =>
      t = { s with carrier := { s.carrier with vin := vin, vbus := .rising, overvolt := false } })) ∧
  (∀ s : State, s.carrier.vbus = .rising → s.boot.active = true → s.boot.mapRead = true →
    Completes .vbusInRegulation s (fun t => t.carrier.vbus = .on ∧ t.boot.roundOpen = true ∧
      t.boot.nextRound = s.boot.nextRound + 1 ∧
      (s.boot.nextRound = 0 → eligible s hostRegion = true → (t.region hostRegion).switchOn = true)))

/-- Map selection and test rounds.
Where it rests on the model's readings or choices, these are log entries 5, 31, 32, 83, 90. -/
def Obligations.MapAndRounds : Prop :=
  (∀ s : State, s.boot.active = true → s.boot.mapRead = false → s.carrier.vaon = .up →
    Completes .quarryMapSelect s (fun t => t.boot.mapRead = true ∧ phase t = PHASE_MAP ∧
      t.map.mirror = some t.map.committed ∧
      t.map.committed = (match selectCopy s.map with | some x => x.1 | none => QRec.default s.map.identityCode))) ∧
  (∀ s : State, s.boot.active = true → s.boot.paused = false → s.carrier.vbus = .on → s.boot.mapRead = true →
    s.boot.roundOpen = false → (phase s = PHASE_ROUND ∨ phase s = PHASE_MAP) → roundSet s ≠ [] →
    Completes .testRoundBegin s (fun t => t.boot.roundOpen = true ∧ t.boot.toClose = roundSet s ∧ t.boot.testing = [] ∧
      phase t = PHASE_ROUND ∧ t.regions = s.regions)) ∧
  (∀ (s : State) (r : Nat), s.boot.toClose.head? = some r → r ∉ s.carrier.fusesOpen →
    Completes (.regionSwitchClose r) s (fun t => (t.region r).switchOn = true ∧ (t.region r).power = .waking ∧
      t.boot.testing = setIns r s.boot.testing ∧ r ∉ t.boot.toClose ∧ ∀ q, q ≠ r → t.region q = s.region q)) ∧
  (∀ s : State, roundTested s = true →
    Completes .roundComplete s (fun t => t.boot.roundOpen = false ∧
      (roundSet { s with boot := { s.boot with roundOpen := false } } ≠ [] →
        t = { s with boot := { s.boot with roundOpen := false } }))) ∧
  (∀ (s : State) (failed : List LinkName), roundTested s = true →
    Completes (.sameRoundLinkTest failed) s (fun t =>
      (∀ l ∈ failed, sameRound s l = true → linkFaulty t l.region (if l.east then 2 else 3) = true) ∧
      (failed = [] → t = s)))

/-- The self-test.
Where it rests on the model's readings or choices, these are log entries 31, 84. -/
def Obligations.SelfTestResult : Prop :=
  (∀ (s : State) (r : Nat), r ∈ s.boot.testing → (s.region r).switchOn = true → r ∉ s.boot.running →
    Completes (.selfTestBegin r) s (fun t => t = { s with boot := { s.boot with running := setIns r s.boot.running } })) ∧
  (∀ (s : State) (r : Nat) (res : SelfTest), r ∈ s.boot.running →
    Completes (.selfTestDone r res) s (fun t => t.boot.running = setDel r s.boot.running ∧
      match testCause s.boot.warm res with
      | some c => (t.entry r).state = .failed ∧ (t.entry r).cause = c ∧ (t.region r).power = .stop ∧
          (t.region r).switchOn = false
      | none =>
        if s.boot.nextRound ≤ 1 ∨ ∃ d ∈ passedDirs s r, testLinkFailed res d = false then
          (t.entry r).state = .healthy ∧ (t.entry r).cause = .none ∧ inRun t r = true
        else (t.entry r).state = (s.entry r).state ∧ (t.region r).power = .stop ∧ t.boot.failed = s.boot.failed))

/-- Quarry map writes.
Where it rests on the model's readings or choices, these are log entries 32, 83, 90. -/
def Obligations.QuarryMapWrites : Prop :=
  (∀ s : State, s.carrier.vaon = .up → s.boot.active = false → phase s = PHASE_READY → s.map.writing = none →
    s.map.changed ≠ [] →
    Completes .qmapCommit s (fun t =>
      t.map.writing = some ({ s.map.working with seq := s.map.committed.seq + 1 }, 1) ∧
      t.map.committed = s.map.committed ∧ t.map.copyA = (if s.map.selB then s.map.copyA.torn else s.map.copyA) ∧
      t.map.copyB = (if s.map.selB then s.map.copyB else s.map.copyB.torn) ∧
      (if s.map.selB then t.map.copyA else t.map.copyB).valid = false ∧ Only [.mapRecord] s t)) ∧
  (∀ (s : State) (q : QRec), s.carrier.vaon = .up → s.map.writing = some (q, 1) →
    Completes (.qmapWriteDone false) s (fun t => t = { s with map := { s.map with writing := some (q, 2) } })) ∧
  (∀ (s : State) (q : QRec), s.carrier.vaon = .up → s.map.writing = some (q, 2) →
    Completes (.qmapWriteDone false) s (fun t => t.map.writing = none ∧ phase t = PHASE_HALTED ∧
      t.boot.active = false ∧ t.map.committed = s.map.committed)) ∧
  (∀ (s : State) (q : QRec) (n : Nat), s.carrier.vaon = .up → s.map.writing = some (q, n) →
    Completes (.qmapWriteDone true) s (fun t => t.map.committed = q ∧ t.map.writing = none ∧ t.map.mirror = some q ∧
      t.map.selB = !s.map.selB ∧ (if s.map.selB then t.map.copyA else t.map.copyB) = QCopy.written q ∧
      (QCopy.written q).valid = true))

/-- Trips and fuses.
Where it rests on the model's readings or choices, these are log entries 31, 39, 83. -/
def Obligations.TripsAndFuses : Prop :=
  (∀ (s : State) (r : Nat), present r = true → (s.region r).switchOn = true → r ∈ s.boot.testing →
    tget 0 s.boot.trips r = 0 →
    Completes (.switchTrip r) s (fun t => (t.region r).switchOn = false ∧ r ∈ t.boot.retrying ∧
      tget 0 t.boot.trips r = 1 ∧ ∀ q, t.entry q = s.entry q)) ∧
  (∀ (s : State) (r : Nat), present r = true → (s.region r).switchOn = true → r ∈ s.boot.testing →
    tget 0 s.boot.trips r = 1 →
    Completes (.switchTrip r) s (fun t => (t.entry r).state = .isolated ∧ (t.entry r).cause = .overcurrent ∧
      (t.region r).switchOn = false ∧ (t.region r).power = .stop)) ∧
  (∀ (s : State) (r : Nat), present r = true → (s.region r).switchOn = true → r ∉ s.boot.testing →
    Completes (.switchTrip r) s (fun t => (t.entry r).state = .failed ∧ (t.entry r).cause = .overcurrent ∧
      (t.region r).switchOn = false ∧ (t.region r).power = .stop)) ∧
  (∀ (s : State) (r : Nat), r ∈ s.boot.retrying →
    Completes (.tripRetry r) s (fun t => t = { s with
      boot := { s.boot with retrying := setDel r s.boot.retrying },
      regions := tset RegionSt.reset s.regions r { s.region r with switchOn := true } })) ∧
  (∀ (s : State) (r : Nat) (isOpen : Bool), (s.entry r).state = .isolated → (s.entry r).cause = .overcurrent →
    2 ≤ tget 0 s.boot.trips r →
    Completes (.fuseConfirm r isOpen) s (fun t => (t.entry r).fused = isOpen ∧ (t.entry r).state = .isolated ∧
      (isOpen = true → r ∈ t.carrier.fusesOpen) ∧ (isOpen = false → t.carrier = s.carrier) ∧
      (∀ q, q ≠ r → t.entry q = s.entry q) ∧ Only [.supply, .mapEntries] s t)) ∧
  (∀ (s : State) (r : Nat), present r = true → r ∉ s.carrier.fusesOpen →
    Completes (.fuseSelfOpen r) s (fun t => r ∈ t.carrier.fusesOpen ∧ (t.entry r).state = .isolated ∧
      (t.entry r).fused = true ∧ (t.region r).switchOn = false ∧ (t.region r).power = .stop))

/-- VIN and VBUS.
Where it rests on the model's readings or choices, these are log entries 29, 30, 36, 83. -/
def Obligations.VinAndVbus : Prop :=
  (∀ (s : State) (vin : Nat), vin < 34000 → s.carrier.vbus = .on →
    Completes (.brownout vin) s (fun t => t.carrier = { s.carrier with vin := vin } ∧
      (∀ r ∈ runSet s, r ∉ s.boot.testing → StopAsked t r false) ∧
      (s.boot.active = true → t.boot.paused = true ∧ t.boot.roundOpen = false ∧ t.boot.toClose = [] ∧
        t.boot.passedNow = [] ∧ t.boot.passedBefore = [] ∧ t.boot.nextRound = 0) ∧
      (s.boot.active = false → t.boot = s.boot))) ∧
  (∀ (s : State) (vin : Nat), 36000 ≤ vin → vin ≤ 70000 → s.carrier.vbus = .on → s.boot.active = true →
    s.boot.paused = true →
    Completes (.startResume vin) s (fun t => t =
      { s with carrier := { s.carrier with vin := vin }, boot := { s.boot with paused := false } })) ∧
  (∀ (s : State) (vin : Nat) (c : Instr), s.carrier.vbus ≠ .off →
    (c = .vbusOff vin ∧ vin < 32000) ∨ (c = .vinOvervoltage vin ∧ 62000 < vin ∧ vin ≤ 70000) →
    Completes c s (fun t => t.carrier.vbus = .off ∧ t.carrier.hostPwrOk = false ∧ t.carrier.vin = vin ∧
      t.carrier.vaon = s.carrier.vaon ∧ t.wakeQ = [] ∧ t.stopQ = [] ∧
      ∀ r, present r = true → (t.region r).power = .stop ∧ (t.region r).switchOn = false)) ∧
  (∀ s : State, s.carrier.vbus = .on →
    Completes .vbusUndervoltage s (fun t => t.carrier = s.carrier ∧ t.faces = s.faces ∧ t.beds = s.beds ∧
      ∀ r ∈ runSet s, StopAsked t r true)) ∧
  (∀ (s : State) (vin : Nat), 36000 ≤ vin → vin ≤ 70000 → (s.carrier.overvolt = true → vin < 61000) →
    s.carrier.vaon = .up → s.carrier.vbus = .off → s.boot.active = false → s.map.writing = none → s.map.changed = [] →
    phase s ≠ PHASE_HALTED →
    Completes (.warmStart vin) s (fun t => t.carrier.vbus = .rising ∧ t.boot.active = true ∧ t.boot.warm = true ∧
      t.boot.mapRead = true ∧ t.time = s.time ∧ t.beds = s.beds ∧ t.map.mirror = some t.map.committed))

/-- VIN below 20.0 V: VAON is lost, and the next start is a cold start. -/
def Obligations.VaonLoss : Prop :=
  ∀ (s : State) (vin : Nat), vin < 20000 → s.carrier.vaon ≠ .off →
    Completes (.vaonLoss vin) s (fun t => t.carrier.vaon = .off ∧ t.carrier.crystalOk = false ∧
      (∀ v, v ≤ 70000 → exec (.warmStart v) t = .next t) ∧
      (∀ v, 22000 ≤ v → v ≤ 70000 → Completes (.coldStart v) t (fun u => u.boot.active = true ∧ u.boot.warm = false)))

/-- The crystal, PERST#, the host link, tamper.
Where it rests on the model's readings or choices, these are log entries 20, 67, 72, 80. -/
def Obligations.CrystalHostTamper : Prop :=
  (∀ s : State, s.carrier.crystalOk = true → s.carrier.vaon = .up →
    Completes .crystalFail s (fun t => t.carrier.crystalOk = false ∧ t.carrier.backup = true ∧
      ∀ r ∈ runSet s, StopAsked t r true)) ∧
  (∀ s : State, s.carrier.backup = true →
    Completes .crystalRestored s (fun t => t = { s with carrier := { s.carrier with crystalOk := true, backup := false } })) ∧
  (∀ s : State, s.carrier.hostPwrOk = true → s.carrier.perst = true →
    Completes .perstDeassert s (fun t => t.carrier = { s.carrier with perst := false } ∧ t.host.jobs = [] ∧
      t.host.pend = [] ∧ t.host.doneSubs = [])) ∧
  (∀ (s : State) (speed width : Nat), s.carrier.perst = false → inRun s hostRegion = true → s.host.linkUp = false →
    speed ∈ [1, 2, 3] → width ∈ [1, 2, 4] →
    Completes (.pcieLinkUp speed width) s (fun t => t.host.linkUp = true ∧ getF t hostPg HOST_PCIE_STATUS_LINK_UP = 1 ∧
      getF t hostPg HOST_PCIE_STATUS_SPEED = speed ∧ getF t hostPg HOST_PCIE_STATUS_WIDTH = width)) ∧
  (∀ (s : State) (perst : Bool), s.host.linkUp = true →
    Completes (.hostLinkDown perst) s (fun t => t.host.linkUp = false ∧ t.host.pend = [] ∧
      (perst = true → t.carrier.perst = true) ∧ (perst = false → t.carrier = s.carrier))) ∧
  (∀ s : State, s.carrier.vaon = .up → runSet s ≠ [] →
    Completes .tamper s (fun t => t.wb.tamper = true ∧ t.wb.erase = s.wb.erase ∧ ∀ r ∈ runSet s, StopAsked t r true)) ∧
  (∀ s : State, s.carrier.vaon = .up → runSet s = [] → s.stopQ.any (·.force) = false → (∀ r, (s.region r).hs = none) →
    Completes .tamper s (fun t => ∃ e, t.wb.erase = some e ∧ e.opens = false))

/-- Wakes.
Where it rests on the model's readings or choices, these are log entries 34, 84. -/
def Obligations.Wakes : Prop :=
  (∀ (s : State) (w : WakeReq) (ws : List WakeReq), s.wakeQ = w :: ws → mayWake s = true →
    (s.region w.region).hs = none → (s.region w.region).power = .stop → chosenStartable s w.region = true →
    Completes (.wakeCommand w.region) s (fun t => (t.region w.region).power = .waking ∧
      (t.region w.region).switchOn = true ∧ (t.region w.region).wakeCause = w.cause ∧
      (t.region w.region).transit = w.transit ∧ t.wakeQ = ws ∧ ∀ q, q ≠ w.region → t.region q = s.region q)) ∧
  (∀ (s : State) (r lockUs : Nat), (s.region r).power = .waking → (s.region r).wakeBackoff = false → r ∉ s.boot.testing →
    Completes (.wakeComplete r lockUs) s (fun t => inRun t r = true ∧ (t.region r).wakeFails = 0)) ∧
  (∀ (s : State) (r : Nat), (s.region r).power = .waking → (s.region r).wakeBackoff = false → r ∉ s.boot.testing →
    (s.region r).wakeFails = 0 →
    Completes (.wakeTimeout r) s (fun t => t = s.updRegion r (fun x => { x with wakeFails := 1, wakeBackoff := true }))) ∧
  (∀ (s : State) (r : Nat), (s.region r).power = .waking → (s.region r).wakeBackoff = false → r ∉ s.boot.testing →
    (s.region r).wakeFails ≠ 0 →
    Completes (.wakeTimeout r) s (fun t => (t.entry r).state = .failed ∧ (t.entry r).cause = .control ∧
      (t.region r).power = .stop ∧ (t.region r).switchOn = false)) ∧
  (∀ (s : State) (r : Nat), (s.region r).power = .waking → (s.region r).wakeBackoff = true → mayWake s = true →
    Completes (.wakeRetry r) s (fun t => t = s.updRegion r (fun x => { x with wakeBackoff := false })))

/-- The stop handshake.
Where it rests on the model's readings or choices, these are log entries 35, 36, 38, 84. -/
def Obligations.StopHandshake : Prop :=
  (∀ (s : State) (r : Nat) (q : StopWait) (eccs : List (Nat × SramEcc)), present r = true → stopWait s r = some q →
    (s.region r).hs = none → inRun s r = true → stopSplits s q = false →
    Completes (.stopHandshake r eccs) s (fun t => (∃ h, (t.region r).hs = some h ∧ h.force = q.force ∧ h.cause = q.cause ∧
        h.accepted = [] ∧ h.last = [] ∧ h.t0 = s.time) ∧
      (∀ p, present p = true → p ≠ r → route t p r = HOP_DEAD) ∧ stopWait t r = none)) ∧
  (∀ (s : State) (r agent : Nat) (h : Handshake), (s.region r).hs = some h → agentOpen s r agent = true →
    (agentAnswer s r agent = .accept → Completes (.handshakeAnswer r agent) s (fun t =>
      (t.region r).hs = some { h with accepted := h.accepted ++ [agent], tEnd := s.time })) ∧
    (∀ n, agentAnswer s r agent = .delay n → Completes (.handshakeAnswer r agent) s (fun t =>
      (t.region r).hs = some { h with last := tput h.last agent (.delay n) }))) ∧
  (∀ (s : State) (r agent : Nat) (h : Handshake), (s.region r).hs = some h → agentOpen s r agent = true →
    Completes (.answerTimeout r agent) s (fun t =>
      (t.region r).hs = some { h with last := tput h.last agent .none } ∧ Only [.regions] s t ∧
      ∀ q, q ≠ r → t.region q = s.region q)) ∧
  (∀ (s : State) (r : Nat) (h : Handshake), (s.region r).hs = some h → h.force = true → allAccepted s r h = false →
    Completes (.handshakeDeadline r) s (fun t => (t.region r).power = .stop ∧ (t.region r).hs = none)) ∧
  (∀ (s : State) (r : Nat) (h : Handshake), (s.region r).hs = some h → allAccepted s r h = true → drained s r = true →
    Completes (.regionStopped r) s (fun t => (t.region r).power = .stop ∧ (t.region r).hs = none)) ∧
  (∀ (s : State) (r : Nat), inRun s r = true → regionIdle s r = true →
    getF s (powerPg r) POWER_IDLE_CFG_TIMEOUT ≠ 0 → (s.region r).transit = false → (s.region r).hs = none →
    stopWait s r = none →
    Completes (.idleTimeout r) s (fun t => t = { s with stopQ := s.stopQ ++ [⟨r, false, 6, true⟩] })) ∧
  (∀ (s : State) (r : Nat), inRun s r = true → (s.entry r).state = .stranded → (s.region r).hs = none →
    stopWait s r = none →
    Completes (.strandedStopRetry r) s (fun t => t = { s with stopQ := s.stopQ ++ [⟨r, false, 9, false⟩] })) ∧
  (∀ (s : State) (sp : Space) (r : Nat) (v : Word), present r = true →
    Taken s sp (powerPg r * 0x1000 + 0x44) v.toNat (powerPg r) 0x44 .power →
    Completes (.stopCmd sp r v) s (fun t => Only [.fields, .regions, .stopQ, .bus] s t ∧
      (bit v.toNat 0 = true → inRun s r = true → (s.region r).hs = none → stopWait s r = none →
        t.stopQ = s.stopQ ++ [⟨r, bit v.toNat 1, 10, false⟩]) ∧
      (bit v.toNat 0 = false → t.stopQ = s.stopQ ∧ t.regions = s.regions))) ∧
  (∀ (s : State) (sp : Space) (r : Nat) (v : Word), present r = true →
    Taken s sp (powerPg r * 0x1000 + 0x4C) v.toNat (powerPg r) 0x4C .power →
    Completes (.idleCfgWrite sp r v) s (fun t => getF t (powerPg r) POWER_IDLE_CFG_TIMEOUT = v.toNat % 65536 ∧
      Only [.fields, .bus] s t))

/-- R162 and R163: the two ways a handshake without FORCE is abandoned. -/
def Obligations.HandshakeAbandoned : Prop :=
  (∀ (s : State) (r agent : Nat) (h : Handshake), present r = true → (s.region r).hs = some h → h.force = false →
    agentOpen s r agent = true → agentAnswer s r agent = .refuse →
    Completes (.handshakeAnswer r agent) s (fun t => (t.region r).hs = none ∧ (t.region r).power = (s.region r).power ∧
      getF t (powerPg r) POWER_HS_RESULT_OUTCOME = 4)) ∧
  (∀ (s : State) (r : Nat) (h : Handshake), present r = true → (s.region r).hs = some h → h.force = false →
    allAccepted s r h = false →
    Completes (.handshakeDeadline r) s (fun t => (t.region r).hs = none ∧ (t.region r).power = (s.region r).power ∧
      getF t (powerPg r) POWER_HS_RESULT_OUTCOME = 3))

/-- Junction temperature.
Where it rests on the model's readings or choices, these are log entries 33, 37. -/
def Obligations.Temperature : Prop :=
  (∀ (s : State) (r : Nat) (a b c d : Int), present r = true → inRun s r = true →
    flagF s (powerPg r) COMMIT_ARMED = false → (∀ x ∈ [a, b, c, d], -640 ≤ x ∧ x < 1840) →
    Completes (.throttleEvaluation r [a, b, c, d]) s (fun t =>
      getF t (powerPg r) POWER_THERM_TJ = ofSigned 16 (max (max (max a b) c) d) ∧
      getF t (powerPg r) POWER_PWR_STATE_LEVEL =
        (nextLevel s r (getF s (powerPg r) POWER_PWR_STATE_LEVEL) (max (max (max a b) c) d)) % 4 ∧
      t.regions = s.regions)) ∧
  (∀ (s : State) (r : Nat) (a b c d : Int), present r = true → inRun s r = true →
    (∃ x ∈ [a, b, c, d], 1840 ≤ x ∧ x ≤ 2400) →
    Completes (.throttleEvaluation r [a, b, c, d]) s (fun t => (t.region r).power = .stop ∧ (t.region r).lockout = true)) ∧
  (∀ (s : State) (r : Nat) (ts : List Int), present r = true → inRun s r = true → (∀ x ∈ ts, x < -640 ∨ 2400 < x) →
    Completes (.throttleEvaluation r ts) s (fun t => (t.region r).power = .stop ∧ (t.entry r).state = .failed ∧
      (t.entry r).cause = .field)) ∧
  (∀ (s : State) (r : Nat), (s.region r).lockout = true → coldEnough s r = true →
    Completes (.thermalLockoutEnd r) s (fun t => (t.region r).lockout = false ∧ Only [.regions, .wakeQ] s t ∧
      ∀ q, q ≠ r → t.region q = s.region q))

/-- Failures in Run.
Where it rests on the model's readings or choices, these are log entries 36, 38, 39, 69, 90. -/
def Obligations.RunFailures : Prop :=
  (∀ (s : State) (r : Nat), present r = true → inRun s r = true →
    Completes (.lockLost r) s (fun t => (t.entry r).state = .failed ∧ (t.entry r).cause = .field ∧
      (t.region r).power = .stop ∧ (t.region r).switchOn = false)) ∧
  (∀ (s : State) (r : Nat) (cause : QCause), present r = true → inRun s r = true →
    Completes (.regionFail r cause) s (fun t => (t.entry r).state = .failed ∧ (t.entry r).cause = cause ∧
      (t.region r).power = .stop ∧ (t.region r).switchOn = false)) ∧
  (∀ (s : State) (l : LinkName) (n : Nat), present l.region = true → neighbour l.region (if l.east then 2 else 3) = some n →
    linkFaulty s l.region (if l.east then 2 else 3) = false →
    Completes (.meshLinkFail l) s (fun t => linkFaulty t l.region (if l.east then 2 else 3) = true)) ∧
  (∀ (s : State) (src dst : Nat), (src, dst) ∈ s.road.holds →
    (∀ p ∈ s.road.packets, p.src = src → p.dst = dst → p.loc = src) →
    Completes (.rerouteRelease src dst) s (fun t =>
      t = { s with road := { s.road with holds := s.road.holds.filter (· != (src, dst)) } })) ∧
  (∀ (s : State) (r : Nat) (silent : List Nat), present r = true → inRun s r = true →
    (∀ g ∈ facesOf r, faceLives s g = true → silent.contains (faceSlot g) = true → (s.faceAt g).missed = 0) →
    Completes (.livenessPoll r silent) s (fun t => Only [.faces] s t ∧ ∀ g ∈ facesOf r, faceLives s g = true →
      (t.faceAt g).missed = (if silent.contains (faceSlot g) then 1 else 0))) ∧
  (∀ (s : State) (g : Nat), faceLives s g = true →
    Completes (.faceLost g) s (fun t => ∃ u, (u.faceAt g).dead = true ∧ (u.faceAt g).scanning = true ∧
      (u.faceAt g).run = .idle ∧ (u.faceAt g).queue = [] ∧ (u.faceAt g).issued = [] ∧ backed u g = false ∧
      Only [.fields, .regions, .syncs, .faces, .hostMemory, .log, .links] s u ∧
      t = (cutJobs u g).foldl (fun s j => jobStop (s.updJob j (fun x => { x with lastLost := g })) j 0x11 0 g)
        (escFaceLost u g 3))) ∧
  (∀ (s : State) (g : Nat), (s.faceAt g).scanning = true → inRun s (faceRegion g) = true → scanBehind s g = false →
    Completes (.tagScanDone g true) s (fun t => ∃ u,
      u.bed (faceRegion g) = scanTags g (s.faceAt g) (s.bed (faceRegion g)) ∧ (u.faceAt g).dead = false ∧
      (u.faceAt g).scanning = false ∧ t = (liveJobs u).foldl jobCheckEnd u) ∧
    Completes (.tagScanDone g false) s (fun t => (t.entry (faceRegion g)).state = .failed ∧
      (t.entry (faceRegion g)).cause = .field ∧ (t.region (faceRegion g)).power = .stop))

/-- R50: back-pressure of a full ingress. -/
def Obligations.IngressStalls : Prop :=
  ∀ (s : State) (r cls n : Nat) (p : Packet) (rest : List Packet), present r = true → cls < 4 →
    headOf s r cls = (some p, rest) → p.dst ≠ r → neighbour r (route s r p.dst) = some n → 2048 ≤ ingress s n →
    Completes (.haulRoadPacket r cls) s (fun t => t = s)

/-- Packets move.
Where it rests on the model's readings or choices, this is log entry 38. -/
def Obligations.PacketsMove : Prop :=
  (∀ (s : State) (r cls n : Nat) (p : Packet) (rest : List Packet) (x : Share), present r = true → cls < 4 →
    headOf s r cls = (some p, rest) → p.dst ≠ r → neighbour r (route s r p.dst) = some n →
    arbitrate s r (route s r p.dst) = (some cls, x) →
    Completes (.haulRoadPacket r cls) s (fun t => t = { s with road := { s.road with
      packets := movePacket p n s.road.packets
      shares := tset Share.reset s.road.shares (r * 128 + route s r p.dst) x } })) ∧
  (∀ (s : State) (r cls : Nat) (p : Packet) (op : SyncOp) (rest : List Packet) (x : Share), present r = true → cls < 4 →
    headOf s r cls = (some p, rest) → p.dst = r → p.body = .sync op → arbitrate s r p.body.port = (some cls, x) →
    Completes (.haulRoadPacket r cls) s (fun t => t.road.packets = rest ∧
      (t.sync r).arrivals = (s.sync r).arrivals ++ [op] ∧ Only [.road, .syncs] s t)) ∧
  (∀ (s : State) (r cls : Nat) (p : Packet) (op : SyncOp) (rest : List Packet), present r = true → cls < 4 →
    headOf s r cls = (some p, rest) → p.dst ≠ r → neighbour r (route s r p.dst) = none → p.body = .sync op →
    Completes (.haulRoadPacket r cls) s (fun t =>
      t = opFail { s with road := { s.road with packets := rest } } 3 op)) ∧
  (∀ (s : State) (r cls : Nat) (p q : Packet) (rest : List Packet), present r = true → 0 < cls → cls < 4 →
    headOf s r cls = (some p, rest) → (p.dst = r ∨ (neighbour r (route s r p.dst)).isSome = true) →
    (headOf s r 0).1 = some q → outPort s r q = outPort s r p → canGo s r q = true →
    Completes (.haulRoadPacket r cls) s (fun t => t = s)) ∧
  (∀ (s : State) (r cls : Nat), (∀ p ∈ s.road.packets, p.loc = r → p.cls = cls → heldPacket s p = true) →
    Completes (.haulRoadPacket r cls) s (fun t => t = s))

/-- R207: VERSION of every page. -/
def Obligations.VersionReads : Prop :=
  ∀ (s : State) (sp : Space) (a ref size be : Nat) (fate : Fate) (k : PageKind), Reached s sp a ref 4 k ⟨size, be, fate⟩ →
    Completes (.counterLowRead sp a size be fate) s (fun t => t = { s with bus := busDone sp a 0x100 })

/-- R229: what a refused write leaves alone.
Where it rests on the model's readings or choices, these are log entries 17, 18. -/
def Obligations.RefusedWrite : Prop :=
  ∀ (s : State) (sp : Space) (a ref off size be value setNow code : Nat) (fate : Fate) (k : PageKind),
    Reached s sp a ref off k ⟨size, be, fate⟩ →
    refusal (commonCodes s sp ref k off (lessSet a value setNow % 2 ^ 32) ++
      blockCodes s sp ref k off (lessSet a value setNow % 2 ^ 32)) = some code →
    Completes (.registerWrite sp a size be value setNow fate) s (fun t => getF t ref STATUS_WERR = 1 ∧ t.bus = busDone sp a 0 ∧
      (∀ (p : Nat) (f : Fld), fieldKey p f ∉ [fieldKey ref STATUS_WERR, fieldKey ref ERRINFO, fieldKey ref ERRADDR] →
        getF t p f = getF s p f) ∧ Only [.fields, .bus] s t)

/-- CTRL.
Where it rests on the model's readings or choices, these are log entries 20, 21, 28. -/
def Obligations.BlockControl : Prop :=
  (∀ (s : State) (sp : Space) (ref : Nat) (k : PageKind) (value : Word),
    Taken s sp (ref * 0x1000 + 0x08) value.toNat ref 0x08 k → ctrlOf k = .enable → getF s ref STATUS_SRST_BUSY = 0 →
    bit value.toNat 0 = true → bit value.toNat 1 = false → getF s ref CTRL_EN = 0 →
    Completes (.blockEnable sp ref value) s (fun t => getF t ref CTRL_EN = 1 ∧ getF t ref STATUS_ENABLED = 1 ∧
      t.bus = busDone sp (ref * 0x1000 + 0x08) 0)) ∧
  (∀ (s : State) (sp : Space) (ref : Nat) (k : PageKind) (value : Word),
    Taken s sp (ref * 0x1000 + 0x08) value.toNat ref 0x08 k → ctrlOf k = .enable → getF s ref STATUS_SRST_BUSY = 0 →
    bit value.toNat 0 = false → bit value.toNat 1 = false → getF s ref CTRL_EN = 1 →
    Completes (.blockDisable sp ref value) s (fun t => getF t ref CTRL_EN = 0 ∧
      (k ∉ [PageKind.sensor, .listener, .adit, .field] → getF t ref STATUS_ENABLED = 0) ∧
      (k ∈ [PageKind.sensor, .listener, .adit] → getF t ref STATUS_ENABLED = getF s ref STATUS_ENABLED) ∧ t.bus = busDone sp (ref * 0x1000 + 0x08) 0)) ∧
  (∀ (s : State) (sp : Space) (ref : Nat) (k : PageKind) (value : Word),
    Taken s sp (ref * 0x1000 + 0x08) value.toNat ref 0x08 k → ctrlOf k ≠ .none → getF s ref STATUS_SRST_BUSY = 0 →
    bit value.toNat 1 = true →
    Completes (.softReset sp ref value) s (fun t => getF t ref CTRL_EN = 0 ∧ getF t ref STATUS_ENABLED = 0 ∧
      (k ≠ .jobq → getF t ref STATUS_SRST_BUSY = 1) ∧ t.bus = busDone sp (ref * 0x1000 + 0x08) 0)) ∧
  (∀ (s : State) (sp : Space) (ref : Nat) (k : PageKind) (value : Word),
    Taken s sp (ref * 0x1000 + 0x08) value.toNat ref 0x08 k → getF s ref STATUS_SRST_BUSY ≠ 0 → bit value.toNat 1 = true →
    Completes (.softReset sp ref value) s (fun t => t = { s with bus := busDone sp (ref * 0x1000 + 0x08) 0 })) ∧
  (∀ (s : State) (ref : Nat) (k : PageKind), pageKind ref = some k → k ≠ .jobq → getF s ref STATUS_SRST_BUSY ≠ 0 →
    Completes (.softResetDone ref) s (fun t => t = resetPage s ref [EVT_EN k, EVT_ROUTE] ∧
      getF t ref STATUS_SRST_BUSY = 0)) ∧
  (∀ s : State, getF s jobqPg STATUS_SRST_BUSY ≠ 0 → s.host.srstWait = true → liveJobs s = [] →
    Completes (.softResetDone jobqPg) s (fun t => getF t jobqPg STATUS_SRST_BUSY = 0))

/-- Header registers.
Where it rests on the model's readings or choices, these are log entries 15, 21, 81. -/
def Obligations.HeaderRegisters : Prop :=
  (∀ (s : State) (sp : Space) (ref : Nat) (k : PageKind) (value : Word) (setNow : Nat),
    Taken s sp (ref * 0x1000 + 0x18) (lessSet 0x18 value.toNat setNow) ref 0x18 k →
    Completes (.evtStatClear sp ref value setNow) s (fun t =>
      getF t ref EVT_RAW = (getF s ref EVT_RAW - (getF s ref EVT_RAW &&& (value.toNat - (value.toNat &&& setNow)))) % 2 ^ 32 ∧
      t.bus = busDone sp (ref * 0x1000 + 0x18) 0)) ∧
  (∀ (s : State) (sp : Space) (ref : Nat) (k : PageKind) (value : Word),
    Taken s sp (ref * 0x1000 + 0x14) value.toNat ref 0x14 k →
    Completes (.evtEnWrite sp ref value) s (fun t => getF t ref (EVT_EN k) = (value.toNat &&& eventsOf k) % 2 ^ 32 ∧
      t.bus = busDone sp (ref * 0x1000 + 0x14) 0)) ∧
  (∀ (s : State) (sp : Space) (ref : Nat) (k : PageKind) (value : Word) (setNow : Nat),
    Taken s sp (ref * 0x1000 + 0x20) (lessSet 0x20 value.toNat setNow) ref 0x20 k →
    bit (value.toNat - (value.toNat &&& setNow)) 8 = true →
    Completes (.errinfoClear sp ref value setNow) s (fun t => getF t ref ERRINFO = 0 ∧ getF t ref ERRADDR = 0 ∧
      t.bus = busDone sp (ref * 0x1000 + 0x20) 0 ∧ Only [.fields, .bus] s t)) ∧
  (∀ (s : State) (sp : Space) (ref : Nat) (k : PageKind),
    Taken s sp (ref * 0x1000 + 0x1C) 1 ref 0x1C k → noCommit k = false → getF s ref COMMIT_ARMED = 0 →
    Completes (.commitArm sp ref) s (fun t => t = { (if k = .field then armFields (setF s ref COMMIT_ARMED 1)
      else setF s ref COMMIT_ARMED 1) with bus := busDone sp (ref * 0x1000 + 0x1C) 0 })) ∧
  (∀ (s : State) (ref : Nat) (k : PageKind), pageKind ref = some k → getF s ref COMMIT_ARMED ≠ 0 →
    boundaryHere s ref k = true →
    Completes (.commitApply ref) s (fun t => t = applyCommit s ref k ∧
      (k ∉ [PageKind.sensor, .listener, .esc, .adit, .mgmt] → t = commitPage s ref ∧ getF t ref COMMIT_ARMED = 0))) ∧
  (∀ s : State, getF s mgmtPg COMMIT_ARMED ≠ 0 →
    Completes (.commitApply mgmtPg) s (fun t =>
      if getF (commitPage s mgmtPg) mgmtPg MGMT_MGMT_CFG_AMP ≠ getF s mgmtPg MGMT_MGMT_CFG_AMP ∧
          flagF s mgmtPg MGMT_MGMT_STATUS_LINK_UP = true then
        flagF t mgmtPg MGMT_MGMT_STATUS_LINK_UP = false ∧
          getF t mgmtPg MGMT_MGMT_CFG_AMP = getF (commitPage s mgmtPg) mgmtPg MGMT_MGMT_CFG_AMP
      else t = commitPage s mgmtPg))

/-- Words of registers.
Where it rests on the model's readings or choices, these are log entries 16, 19, 89. -/
def Obligations.RegisterWords : Prop :=
  (∀ (s : State) (sp : Space) (a q : Nat) (value : Word), q < 64 → Taken s sp a value.toNat jobqPg (0x104 + 16 * q) .jobq →
    Completes (.loWordWrite sp a value) s (fun t => t = { s with
      staged := tput s.staged (fieldKey jobqPg (JOBQ_CQ_BASE.ix q)) value.toNat, bus := busDone sp a 0 })) ∧
  (∀ (s : State) (sp : Space) (a q : Nat) (value : Word), q < 64 → Taken s sp a value.toNat jobqPg (0x108 + 16 * q) .jobq →
    Completes (.hiWordWrite sp a value) s (fun t =>
      (∀ lo, tfind s.staged (fieldKey jobqPg (JOBQ_CQ_BASE.ix q)) = some lo → lo < 2 ^ 32 →
        getF t jobqPg (JOBQ_CQ_BASE.ix q) = value.toNat * 2 ^ 32 + lo) ∧
      (tfind s.staged (fieldKey jobqPg (JOBQ_CQ_BASE.ix q)) = none →
        getF t jobqPg (JOBQ_CQ_BASE.ix q) = value.toNat * 2 ^ 32 + getF s jobqPg (JOBQ_CQ_BASE.ix q) % 2 ^ 32) ∧
      tfind t.staged (fieldKey jobqPg (JOBQ_CQ_BASE.ix q)) = none ∧ t.bus = busDone sp a 0 ∧
      Only [.fields, .staged, .bus] s t)) ∧
  (∀ (s : State) (sp : Space) (a r size be : Nat) (fate : Fate), Reached s sp a (powerPg r) 0x60 .power ⟨size, be, fate⟩ →
    Completes (.counterLowRead sp a size be fate) s (fun t => t.fields = s.fields ∧
      t.bus = busDone sp a (pageWord s sp (powerPg r) .power 0x60) ∧
      snapOf t sp (fieldKey (powerPg r) POWER_RUN_US) = readField s (powerPg r) .power ⟨POWER_RUN_US, 1, .l, .ctr, [], false⟩ 0 / 2 ^ 32)) ∧
  (∀ (s : State) (sp : Space) (a ref off size be value setNow : Nat) (fate : Fate) (k : PageKind),
    Taken s sp a (lessSet a value setNow % 2 ^ 32) ref off k ⟨size, be, fate⟩ →
    Completes (.registerWrite sp a size be value setNow fate) s (fun t =>
      t = { writePage s sp ref k off (lessSet a value setNow % 2 ^ 32) [] with bus := busDone sp a 0 }))

/-- Port frames and deliveries.
Where it rests on the model's readings or choices, these are log entries 33, 42, 43. -/
def Obligations.PortFrames : Prop :=
  (∀ (s : State) (p : Nat) (i : PortInput), p < 6 → s.carrier.vaon = .up →
    Completes (.portFrame p i) s (fun t =>
      let n := max (s.time / 24576) ((s.sensor p).frame + 1)
      (t.sensor p).frame = n ∧ t.time = max s.time (n * 24576) ∧
      portF t p SENSOR_HEAD_MEAS_MA = min i.ma 4095 ∧ portF t p SENSOR_HEAD_MEAS_MV = min i.mv 4095 ∧
      ∀ k, k < 12 → portOn s p = true → strF s p k SENSOR_S_STATUS_ACTIVE = 1 →
        (s.stream p k).hist.length < histDepth s p k →
        (t.stream p k).hist.map (·.frame) = (s.stream p k).hist.map (·.frame) ++ [n - 1])) ∧
  (∀ (s : State) (p : Nat), portOn s p = true → portF s p SENSOR_CAL_CFG_GAIN_CAL_EN = 1 → windowOver s p = true →
    Completes (.calibrationWindow p) s (fun t => Only [.sensors] s t ∧
      (3 ≤ ((List.range 8).filter (calibrating s p)).length → (∀ k, k < 8 → (s.stream p k).calFault = false) →
        ∀ k, k < 8 → calibrating s p k = true →
          (t.stream p k).calOff = calStep (portF s p SENSOR_CAL_CFG_LIMIT) (s.stream p k).calOff
            (median2 (((List.range 8).filter (calibrating s p)).map (calPower s p)) - 2 * calPower s p k)))) ∧
  (∀ (s : State) (p k : Nat) (v : Delivery), p < 6 → k < 12 → (s.stream p k).busy = some v → v.flight = .landed →
    Completes (.recordWritten p k) s (fun t => strF t p k SENSOR_S_SEQ = v.frame % 2 ^ 64 ∧
      strF t p k SENSOR_S_STATUS_DEST_DEAD = 0 ∧ ∀ x ∈ (t.stream p k).hist, x.frame = v.frame → x.delivered = true)) ∧
  (∀ (s : State) (p k : Nat) (v : Delivery), p < 6 → k < 12 → (s.stream p k).busy = some v →
    v.flight = .lost ∨ v.flight = .unsent →
    Completes (.recordWritten p k) s (fun t => strF t p k SENSOR_S_STATUS_DEST_DEAD = 1 ∧ (t.stream p k).busy = none))

/-- Camera frames.
Where it rests on the model's readings or choices, these are log entries 40, 41. -/
def Obligations.CameraFrames : Prop :=
  (∀ (s : State) (p vc : Nat), csiOn s p vc = true → (s.stream p (12 + vc)).cam = none →
    (s.stream p (12 + vc)).held = none → strF s p (12 + vc) SENSOR_S_STATUS_ACTIVE ≠ 0 →
    Completes (.frameStart p vc) s (fun t => (t.stream p (12 + vc)).camSeq = (s.stream p (12 + vc)).camSeq + 1 ∧
      ∃ c, (t.stream p (12 + vc)).cam = some c ∧ c.seq = (s.stream p (12 + vc)).camSeq + 1 ∧ c.tick = s.time ∧
        c.lines = 0 ∧ c.fill = 0 ∧ c.face = strF s p (12 + vc) SENSOR_S_DEST_FACE)) ∧
  (∀ (s : State) (p vc : Nat) (pkt : CsiPacket), csiOn s p vc = true → pkt.payload.length < 65536 → pkt.headerOk = false →
    Completes (.csiLongPacket p vc pkt) s (fun t =>
      portF t p SENSOR_CSI_ERR_HDR = (portF s p SENSOR_CSI_ERR_HDR + 1) % 65536 ∧
      t.sensors = s.sensors ∧ t.faces = s.faces)) ∧
  (∀ (s : State) (p vc : Nat) (pkt : CsiPacket) (c : CamFrame), csiOn s p vc = true → pkt.payload.length < 65536 →
    pkt.headerOk = true → pkt.overrun = false → (s.stream p (12 + vc)).cam = some c →
    pkt.dt = strF s p (12 + vc) SENSOR_S_CFG_DT → (c.room = 0 ∨ destOk s p c.face = true) →
    Completes (.csiLongPacket p vc pkt) s (fun t => ∃ d, (t.stream p (12 + vc)).cam = some d ∧
      d.lines = c.lines + 1 ∧ d.sawData = true ∧ d.crc = (c.crc || !pkt.crcOk) ∧ d.seq = c.seq)) ∧
  (∀ (s : State) (p vc : Nat) (c : CamFrame), csiOn s p vc = true → (s.stream p (12 + vc)).cam = some c → c.room ≠ 0 →
    Completes (.frameEnd p vc) s (fun t => (t.stream p (12 + vc)).cam = none ∧
      (t.stream p (12 + vc)).closing = (s.stream p (12 + vc)).closing ++ [c] ∧ (t.stream p (12 + vc)).lastWhole = true)) ∧
  (∀ (s : State) (p k : Nat) (v : Delivery), p < 6 → 12 ≤ k → k < 16 → (s.stream p k).busy = some v → v.flight ≠ .moving →
    Completes (.cameraFrameWritten p k) s (fun t => (t.stream p k).closing = (s.stream p k).closing.drop 1 ∧
      (v.flight = .landed → strF t p k SENSOR_S_SEQ = v.frame % 2 ^ 64) ∧
      (v.flight ≠ .landed → strF t p k SENSOR_S_STATUS_DEST_DEAD = 1)))

/-- Faults, head supply, camera control.
Where it rests on the model's readings or choices, these are log entries 33, 43. -/
def Obligations.PortControl : Prop :=
  (∀ (s : State) (p k code : Nat), portOn s p = true → k < 16 → strF s p k SENSOR_S_STATUS_ACTIVE = 1 →
    strF s p k SENSOR_S_STATUS_FAULT = 0 → faultFits s p k code = true →
    Completes (.streamFault p k code) s (fun t => strF t p k SENSOR_S_STATUS_FAULT = code)) ∧
  (∀ (s : State) (p k : Nat), portOn s p = true → k < 16 → clearFits s p k = true →
    Completes (.streamClear p k) s (fun t => strF t p k SENSOR_S_STATUS_FAULT = 0 ∧ t.sensors = s.sensors)) ∧
  (∀ (s : State) (p : Nat), p < 6 → headOk s p = true →
    Completes (.headTrip p) s (fun t => portF t p SENSOR_PORT_STATUS_HEAD_OK = 0 ∧ (t.sensor p).tripped = true ∧
      ∀ k, k < 16 → strF s p k SENSOR_S_STATUS_ACTIVE = 1 → strF s p k SENSOR_S_STATUS_FAULT = 0 →
        strF t p k SENSOR_S_STATUS_FAULT = F_HEAD_OFF)) ∧
  (∀ (s : State) (p : Nat), p < 6 → (s.sensor p).tripped = true → portF s p SENSOR_HEAD_CTRL_AUTO_RETRY = 1 →
    Completes (.headRetry p) s (fun t => portF t p SENSOR_PORT_STATUS_HEAD_OK = 1 ∧ (t.sensor p).tripped = false ∧
      Only [.fields, .sensors] s t)) ∧
  (∀ (s : State) (sp : Space) (p : Nat) (value : Word), p < 6 →
    Taken s sp (sensorPg p * 0x1000 + 0x48) value.toNat (sensorPg p) 0x48 .sensor →
    Completes (.headCtrlWrite sp p value) s (fun t => portF t p SENSOR_HEAD_CTRL_ON = bits value.toNat 0 1 ∧
      (bits value.toNat 0 1 = 0 → portF t p SENSOR_PORT_STATUS_HEAD_OK = 0 ∧ (t.sensor p).tripped = false) ∧
      (bits value.toNat 0 1 = 1 → (s.sensor p).tripped = false → portF t p SENSOR_PORT_STATUS_HEAD_OK = 1) ∧
      t.bus = busDone sp (sensorPg p * 0x1000 + 0x48) 0)) ∧
  (∀ (s : State) (sp : Space) (p : Nat) (value : Word), p < 6 → bit value.toNat 12 = true → (s.sensor p).cci = none →
    Taken s sp (sensorPg p * 0x1000 + 0x70) value.toNat (sensorPg p) 0x70 .sensor →
    Completes (.cciGo sp p value) s (fun t => portF t p SENSOR_CCI_CTRL_BUSY = 1 ∧ (t.sensor p).cci.isSome = true ∧
      t.bus = busDone sp (sensorPg p * 0x1000 + 0x70) 0)) ∧
  (∀ (s : State) (p : Nat) (c : CciSt) (nack : Bool) (data : Nat), p < 6 → (s.sensor p).cci = some c →
    Completes (.cciDone p nack data) s (fun t => portF t p SENSOR_CCI_CTRL_BUSY = 0 ∧ (t.sensor p).cci = none ∧
      portF t p SENSOR_CCI_CTRL_NACK = nack.toNat ∧
      (c.read = true → nack = false → c.len ≤ 4 → portF t p SENSOR_CCI_DATA_DATA = data % 2 ^ (8 * c.len))))

/-- Stage B of the listener.
Where it rests on the model's readings or choices, these are log entries 44, 45, 79, 87. -/
def Obligations.ListenerStageB : Prop :=
  (∀ (s : State) (p k : Nat), listenerOn s p = true → hopDue s p = true → k < 4 →
    Completes (.listenerHop p) s (fun t => (t.listener p).hopFrame = s.time / 24576 ∧
      ((s.lslot p k).manual = true → chnF s p k LISTENER_CHAIN_CFG_EN = 1 → lisF s p COMMIT_ARMED = 0 →
        (t.lslot p k).level = 2 ∧ (t.lslot p k).manual = false ∧
        ∃ m, (t.lslot p k).pending = some m ∧ m.kind = .trigger ∧ m.manual = true ∧ m.frame = s.time / 24576))) ∧
  (∀ (s : State) (p corrected : Nat) (e : EvalSt), p < 6 → (s.listener p).eval = some e →
    Completes (.evaluationDone p corrected none) s (fun t => (t.listener p).eval = none ∧
      lisF t p LISTENER_STATUS_B_BUSY = 0 ∧ ∀ i, i < 4 → lisF t p (LISTENER_SCORES.ix i) =
        leNum ((List.range 4).map (fun j => ofSigned 8 (e.scores.getD (4 * i + j) 0))) % 2 ^ 32)) ∧
  (∀ (s : State) (p corrected off : Nat), p < 6 → (s.listener p).eval.isSome = true →
    Completes (.evaluationDone p corrected (some off)) s (fun t => (t.listener p).eval = none ∧
      lisF t p LISTENER_STATUS_B_FAULT = 4 ∧ lisF t p LISTENER_STATUS_B_READY = 0)) ∧
  (∀ (s : State) (p corrected : Nat), p < 6 → (s.listener p).checking = true →
    Completes (.imageCheckDone p corrected none) s (fun t => (t.listener p).checking = false ∧
      lisF t p LISTENER_STATUS_B_FAULT = (checkImage s p).1 ∧
      ((checkImage s p).1 = 0 → lisF t p LISTENER_STATUS_B_READY = 1) ∧
      ((checkImage s p).1 ≠ 0 → lisF t p LISTENER_STATUS_B_READY = 0 ∧ lisF t p LISTENER_CTRL_B_EN = 0))) ∧
  (∀ (s : State) (p corrected off : Nat), p < 6 → (s.listener p).checking = true →
    Completes (.imageCheckDone p corrected (some off)) s (fun t => (t.listener p).checking = false ∧
      lisF t p LISTENER_STATUS_B_FAULT = 4 ∧ lisF t p LISTENER_CTRL_B_EN = 0)) ∧
  (∀ (s : State) (sp : Space) (p : Nat) (value : Word), p < 6 → bit value.toNat 1 = false →
    Taken s sp (listenerPg p * 0x1000 + 0x08) value.toNat (listenerPg p) 0x08 .listener →
    lisF s p STATUS_SRST_BUSY = 0 → (bit value.toNat 2 = true ∨ lisF s p LISTENER_CTRL_B_EN = 1) →
    Completes (.bEnWrite sp p value) s (fun t => lisF t p LISTENER_CTRL_B_EN = bits value.toNat 2 1 ∧
      (t.listener p).checking = bit value.toNat 2 ∧
      (bit value.toNat 2 = false → (t.listener p).ring = [] ∧ lisF t p LISTENER_STATUS_B_READY = 0)))

/-- Image memory and messages of the listener.
Where it rests on the model's readings or choices, these are log entries 44, 45. -/
def Obligations.ListenerMemory : Prop :=
  (∀ (s : State) (sp : Space) (p : Nat) (value : Word), p < 6 →
    Taken s sp (listenerPg p * 0x1000 + 0xB4) value.toNat (listenerPg p) 0xB4 .listener →
    Completes (.bDataWrite sp p value) s (fun t =>
      (t.listener p).image = mputs (s.listener p).image (lisF s p LISTENER_B_ADDR_ADDR * 4) (leBytes 4 value.toNat) ∧
      lisF t p LISTENER_B_ADDR_ADDR = (lisF s p LISTENER_B_ADDR_ADDR + 1) % 12288 ∧
      Only [.fields, .listeners, .bus] s t)) ∧
  (∀ (s : State) (sp : Space) (p corrected : Nat) (bad : Bool), p < 6 →
    Reached s sp (listenerPg p * 0x1000 + 0xB4) (listenerPg p) 0xB4 .listener →
    Completes (.bDataRead sp p corrected bad) s (fun t =>
      lisF t p LISTENER_B_ADDR_ADDR = (lisF s p LISTENER_B_ADDR_ADDR + 1) % 12288 ∧
      (bad = false → t.listeners = s.listeners ∧ t.bus =
        busDone sp (listenerPg p * 0x1000 + 0xB4) (mnum (s.listener p).image (lisF s p LISTENER_B_ADDR_ADDR * 4) 4)) ∧
      (bad = true → lisF t p LISTENER_STATUS_B_FAULT = 4 ∧ ∃ v, t.bus = busDone sp (listenerPg p * 0x1000 + 0xB4) v))) ∧
  (∀ (s : State) (sp : Space) (p : Nat) (value : Word), p < 6 → bit value.toNat 2 = true →
    Taken s sp (listenerPg p * 0x1000 + 0x90) value.toNat (listenerPg p) 0x90 .listener →
    Completes (.trigCmd sp p value) s (fun t => (t.lslot p (bits value.toNat 0 2)).manual = true ∧
      ∀ j, j ≠ bits value.toNat 0 2 → t.lslot p j = s.lslot p j)) ∧
  (∀ (s : State) (sp : Space) (p d : Nat) (value : Word), p < 6 → d < 16 → bit value.toNat 0 = true →
    Taken s sp (listenerPg p * 0x1000 + 0x114 + 32 * d) value.toNat (listenerPg p) (0x114 + 32 * d) .listener →
    Completes (.floorReset sp p d value) s (fun t => (t.det p d).setFloor = true ∧
      ∀ j, j ≠ d → t.det p j = s.det p j)) ∧
  (∀ (s : State) (p k : Nat) (m q : ListenerMsg) (rest : List RingMsg), p < 6 → k < 4 → ringFree s = true →
    takeMsg (slotAck p k) s.ring = (some (.ack m), rest) → (s.lslot p k).pending = some q →
    Completes (.messageAck p k) s (fun t => t.ring = rest ∧ Only [.listeners, .ring] s t ∧
      (m.same q = true → (t.lslot p k).pending = none ∧ (t.lslot p k).resend = false) ∧
      (m.same q = false → t.listeners = s.listeners))) ∧
  (∀ (s : State) (p k : Nat), p < 6 → k < 4 → (s.lslot p k).pending.isSome = true →
    Completes (.ackTimeout p k) s (fun t => (t.lslot p k).resend = true ∧
      (t.lslot p k).pending = (s.lslot p k).pending)) ∧
  (∀ (s : State) (p k : Nat), p < 6 → k < 4 → ringFree s = true → RingMsg.demoted p k ∈ s.ring →
    (s.lslot p k).level = 2 →
    Completes (.demotedReport p k) s (fun t =>
      if bFault s p ≠ 0 then (t.lslot p k).level = 0
      else if (s.lslot p k).crossed = true ∧ chnF s p k LISTENER_CHAIN_B_B_HOLD ≤ 1 then
        (t.lslot p k).level = 2 ∧ (t.lslot p k).hold = 0
      else (t.lslot p k).level = 1 ∧ (t.lslot p k).hold = (s.lslot p k).crossed.toNat ∧
        t.ring = (takeMsg (· == .demoted p k) s.ring).2 ∧ Only [.listeners, .ring] s t))

/-- Listener messages.
Where it rests on the model's readings or choices, these are log entries 45, 46, 87. -/
def Obligations.ListenerMessages : Prop :=
  (∀ (s : State) (p k : Nat) (m : ListenerMsg) (rest : List RingMsg), s.carrier.vaon = .up →
    takeMsg (listenerMsg .aFire p k) s.ring = (some (.listener m), rest) → staleMsg s m = false →
    (s.chain m.chain).depth = 0 →
    Completes (.aFire p k) s (fun t => (t.chain m.chain).depth = 1 ∧ t.ring = rest ++ [.ack m])) ∧
  (∀ (s : State) (p k : Nat) (m : ListenerMsg) (rest : List RingMsg), s.carrier.vaon = .up →
    takeMsg (listenerMsg .demoted p k) s.ring = (some (.listener m), rest) → staleMsg s m = false →
    (s.chain m.chain).depth = 1 →
    Completes (.demoted p k) s (fun t => (t.chain m.chain).depth = 0 ∧ t.ring = rest ++ [.ack m])) ∧
  (∀ (s : State) (p k : Nat) (m : ListenerMsg) (rest : List RingMsg), s.carrier.vaon = .up →
    takeMsg (listenerMsg .refresh p k) s.ring = (some (.listener m), rest) → staleMsg s m = false →
    (s.chain m.chain).depth = 2 →
    Completes (.refresh p k) s (fun t => (t.chain m.chain).depth = 2 ∧
      (t.chain m.chain).timer = some (s.time, stCfg s m.chain 2 ESC_ST_TIME_DEMOTE_MS))) ∧
  (∀ (s : State) (p k : Nat) (m : ListenerMsg) (rest : List RingMsg), s.carrier.vaon = .up →
    takeMsg (listenerMsg .trigger p k) s.ring = (some (.listener m), rest) → staleMsg s m = false →
    (s.chain m.chain).depth < 2 →
    Completes (.trigger p k) s (fun t =>
      (phase s ≠ PHASE_READY → (t.chain m.chain).pendingFlag = true ∧ t.esc.pend = s.esc.pend ++ [⟨m.chain, m, false⟩]) ∧
      (phase s = PHASE_READY → (t.chain m.chain).trig = ⟨m.port, m.lslot, m.frame, m.fired⟩ ∧
        (stCfg s m.chain 2 ESC_ST_CFG_PORT_REGION = 0 → stageFaces s m.chain 2 ≠ [] →
          (∀ g ∈ stageFaces s m.chain 2, faceAvailable s g = true ∧ inRun s (faceRegion g) = true ∧
            (s.region (faceRegion g)).hs = none) → (t.chain m.chain).depth = 2))))

/-- Verdicts and the controller's commands.
Where it rests on the model's readings or choices, these are log entries 46, 47, 85, 86. -/
def Obligations.EscalationControl : Prop :=
  (∀ (s : State) (g v : Nat) (rest : List RingMsg), s.carrier.vaon = .up →
    takeMsg (fun m => match m with | .verdict h _ => h == g | _ => false) s.ring = (some (.verdict g v), rest) →
    Completes (.verdict g) s (fun t =>
      (2 ≤ bits v 20 3 → bits v 20 3 ≤ (s.chain (bits v 16 4)).depth → g ∈ activeSet s (bits v 16 4) (bits v 20 3) →
        chCfg t (bits v 16 4) ESC_CH_LAST_SCORE = bits v 0 16) ∧
      (bits v 20 3 < 2 ∨ (s.chain (bits v 16 4)).depth < bits v 20 3 ∨ g ∉ activeSet s (bits v 16 4) (bits v 20 3) →
        t.esc = s.esc ∧ t.ring = rest ∧
        getF t escPg ESC_VERDICT_COUNT_STALE = (getF s escPg ESC_VERDICT_COUNT_STALE + 1) % 65536))) ∧
  (∀ (s : State) (g c pos : Nat) (rest : List RingMsg), s.carrier.vaon = .up → ringFree s = true →
    takeMsg (fun m => match m with | .wakeAck h _ _ => h == g | _ => false) s.ring = (some (.wakeAck g c pos), rest) →
    Completes (.wakeAck g) s (fun t => ∀ p, promoAt t c pos = some p → g ∈ p.acked)) ∧
  (∀ (s : State) (c d : Nat), c < 16 → (s.chain c).depth = d + 2 → timerOver s c = true →
    Completes (.demotionTimerExpiry c) s (fun t => (t.chain c).depth = d + 1 ∧ activeSet t c (d + 2) = [] ∧
      (t.chain c).timer = (if d = 0 then none else some (s.time, stCfg s c (d + 1) ESC_ST_TIME_DEMOTE_MS)))) ∧
  (∀ (s : State) (sp : Space) (value : Word) (d : Nat), bit value.toNat 5 = true → bit value.toNat 4 = false →
    Taken s sp (escPg * 0x1000 + 0x40) value.toNat escPg 0x40 .esc → (s.chain (bits value.toNat 0 4)).depth = d + 2 →
    Completes (.demote sp value) s (fun t => (t.chain (bits value.toNat 0 4)).depth = d + 1)) ∧
  (∀ (s : State) (sp : Space) (value : Word) (c d : Nat), c = bits value.toNat 0 4 → bit value.toNat 4 = true →
    bit value.toNat 5 = false → Taken s sp (escPg * 0x1000 + 0x40) value.toNat escPg 0x40 .esc → (s.chain c).depth = d →
    stageFaces s c (d + 1) ≠ [] → (∀ g ∈ stageFaces s c (d + 1), faceAvailable s g = true ∧
      inRun s (faceRegion g) = true ∧ (s.region (faceRegion g)).hs = none) →
    Completes (.promote sp value) s (fun t => (t.chain c).depth = d + 1)) ∧
  (∀ (s : State) (sp : Space) (value : Word), bit value.toNat 0 = true → s.esc.saving = none →
    Taken s sp (escPg * 0x1000 + 0x44) value.toNat escPg 0x44 .esc →
    Completes (.chainStoreSave sp value) s (fun t => getF t escPg ESC_STORE_CMD_BUSY = 1 ∧
      (if t.esc.storeSelB then t.esc.storeB else t.esc.storeA).valid = false ∧
      ∃ r, t.esc.saving = some (r, 1) ∧ r.en = flagF s escPg CTRL_EN ∧
        r.cfg = (List.range 16).map (fun c => wordOf s escPg c chFlds))) ∧
  (∀ (s : State) (r : ChainRec) (n : Nat) (ok : Bool), s.carrier.vaon = .up → s.esc.saving = some (r, n) →
    Completes (.storeDone ok) s (fun t =>
      (ok = true → t.esc.saving = none ∧ (if t.esc.storeSelB then t.esc.storeB else t.esc.storeA) = .written r ∧
        (ChainStore.written r).valid = true ∧ getF t escPg ESC_STORE_CMD_BUSY = 0 ∧
        getF t escPg ESC_STORE_CMD_STORE_FAULT = 0) ∧
      (ok = false → n < 2 → t.esc.saving = some (r, n + 1) ∧ t.fields = s.fields) ∧
      (ok = false → 2 ≤ n → t.esc.saving = none ∧ getF t escPg ESC_STORE_CMD_BUSY = 0 ∧
        getF t escPg ESC_STORE_CMD_STORE_FAULT = 1)))

/-- Starts and ends of a face.
Where it rests on the model's readings or choices, these are log entries 15, 56. -/
def Obligations.FaceStarts : Prop :=
  (∀ (s s0 v : State) (g model : Nat) (errs : List (Nat × Nat)) (withEnd : Bool) (m : RingMsg) (o : Owner) (rec32 : List Nat),
    startArrives s g (isStart g) withEnd = some (s0, m) → v = ageLines s0 (faceRegion g) errs →
    (∃ h c pos, m = .wake h c pos model rec32 ∧ o = .stage c pos) ∨
      (∃ h j, m = .start h j model none ∧ o = .job j ∧ rec32 = []) →
    (mayStart v g .none = true →
      Completes (.startMessage g errs withEnd) s (fun t => ∃ u, (u.faceAt g).run = .switching ∧ (u.faceAt g).owner = o ∧
        (u.faceAt g).regs = [] ∧ (u.faceAt g).preds = 0 ∧ (u.faceAt g).loops = [] ∧ (u.faceAt g).tokens = 255 ∧
        (u.faceAt g).queue = [] ∧ (u.faceAt g).sram = mputs (s0.faceAt g).sram 0x3FFFC0 rec32 ∧
        Only [.fields, .beds, .faces] v u ∧
        t = (if (startLoad u g model).2 then logBegin (startLoad u g model).1 g else (startLoad u g model).1))) ∧
    (mayStart v g .none = false → Completes (.startMessage g errs withEnd) s (fun t => t = startRefused v g o))) ∧
  (∀ (s s0 v : State) (g h j model ctx : Nat) (errs : List (Nat × Nat)) (withEnd : Bool),
    startArrives s g (isRestart g) withEnd = some (s0, .start h j model (some ctx)) → v = ageLines s0 (faceRegion g) errs →
    (mayStart v g (.job j) = true →
      Completes (.restartMessage g errs withEnd) s (fun t => ∃ u, (u.faceAt g).run = .switching ∧
        (u.faceAt g).owner = .job j ∧ (u.faceAt g).tokens = 255 ∧ (u.faceAt g).sram = (s0.faceAt g).sram ∧
        Only [.fields, .faces] v u ∧
        (bedCapacity (faceRegion g) < ctx + 512 → t = faceStop u g noRecord 0x45 3 ctx) ∧
        (ctx + 512 ≤ bedCapacity (faceRegion g) → faceMay u g (faceRegion g) ctx 512 0 = true →
          ∃ w b, w = (bedRead u (faceRegion g) ctx 512).1 ∧ b = (w.bed (faceRegion g)).bytes ∧
            (contextValid b ctx = false ∨ modelEntry (w.bed (faceRegion g)) (mnum b (ctx + 6) 2) = none →
              t = faceStop w g noRecord 0x45 3 ctx) ∧
            (contextValid b ctx = true → (modelEntry (w.bed (faceRegion g)) (mnum b (ctx + 6) 2)).isSome = true →
              (startLoad w g (mnum b (ctx + 6) 2)).2 = true →
              t = numRestore ((startLoad w g (mnum b (ctx + 6) 2)).1.updFace g (loadContext b ctx)) g
                (mbytes b (ctx + 0xE0) 64))))) ∧
    (mayStart v g (.job j) = false → Completes (.restartMessage g errs withEnd) s (fun t => t = startRefused v g (.job j)))) ∧
  (∀ (s : State) (g : Nat) (rest : List RingMsg), takeMsg (· == .endFace g) s.ring = (some (.endFace g), rest) →
    inRun s (faceRegion g) = true → backed s g = true → (s.faceAt g).dead = false →
    Completes (.endMessage g) s (fun t => ∃ u, u.ring = rest ∧
      t = (match ownerJob s g with | some j => jobCheckEnd u j | none => u) ∧
      ((s.faceAt g).run ≠ .switching → (u.faceAt g).queue = [] ∧ (u.faceAt g).loops = [] ∧
        (((s.faceAt g).issued.filter (fun i => !i.st.isWait)).all (·.st.ended) = true →
          (u.faceAt g).run = .idle ∧ (u.faceAt g).owner = .none) ∧
        (((s.faceAt g).issued.filter (fun i => !i.st.isWait)).all (·.st.ended) = false →
          (u.faceAt g).run = (s.faceAt g).run ∧ (u.faceAt g).owner = (s.faceAt g).owner ∧ (u.faceAt g).endPending = true)) ∧
      ((s.faceAt g).run = .switching →
        u = ({ s with ring := rest } : State).updFace g (fun f => { f with endPending := true }))))

/-- A face's own events.
Where it rests on the model's readings or choices, these are log entries 48, 55. -/
def Obligations.FaceEvents : Prop :=
  (∀ (s : State) (g : Nat), (s.faceAt g).run = .switching → (s.faceAt g).dead = false → inRun s (faceRegion g) = true →
    (s.faceAt g).endPending = false →
    Completes (.switchComplete g) s (fun t => (t.faceAt g).run = .running ∧ (t.faceAt g).start = none ∧
      (∀ st, (s.faceAt g).start = some st → st.ack = none → t.ring = s.ring) ∧
      ∀ st c pos, (s.faceAt g).start = some st → st.ack = some (c, pos) → RingMsg.wakeAck g c pos ∈ t.ring)) ∧
  (∀ (f : FaceSt) (l : Loop) (ls : List Loop), f.pc = l.stop →
    (0 < l.remain → (loopEnd (l :: ls) f).pc = l.start ∧ (loopEnd (l :: ls) f).loops = { l with remain := l.remain - 1 } :: ls ∧
      (l.areg % 16 ≠ 0 → (loopEnd (l :: ls) f).a l.areg = (f.a l.areg + l.step) % 2 ^ 32)) ∧
    (l.remain = 0 → loopEnd (l :: ls) f = loopEnd ls { f with loops := ls })) ∧
  (∀ (s u : State) (g pc : Nat) (errs : List (Nat × Nat)), faceRuns s g = true → (s.faceAt g).opq < 256 →
    (s.faceAt g).endPending = false → fetchHeld (s.faceAt g) = false → loopReady (s.faceAt g) = true →
    u = (ageLines s (faceRegion g) errs).updFace g (fun f => loopEnd f.loops f) → pc = (u.faceAt g).pc →
    pc + 32 ≤ bedCapacity (faceRegion g) → faceMay u g (faceRegion g) pc 32 2 = true →
    (linesOf pc 32).any (fun l => lineSpoil (u.bed (faceRegion g)) l || lineUE (u.bed (faceRegion g)) l) = false →
    (fetchRecord u g pc).known = true →
    Completes (.opRecordFetch g errs) s (fun t => (t.faceAt g).queue = (s.faceAt g).queue ++ [fetchRecord u g pc] ∧
      (t.faceAt g).pc = pc + 32 ∧ (t.faceAt g).regs = (u.faceAt g).regs ∧ (t.faceAt g).loops = (u.faceAt g).loops)) ∧
  (∀ (s : State) (g i : Nat) (x : Issued), (s.faceAt g).issued[i]? = some x → isComplete s g x = true →
    (s.faceAt g).dead = false → inRun s (faceRegion g) = true →
    Completes (.recordComplete g i) s (fun t => ∃ u, (u.faceAt g).issued = (s.faceAt g).issued.filter (·.id != x.id) ∧
      (u.faceAt g).queue = (s.faceAt g).queue ∧ (x.record.tokenEn = true → bit (u.faceAt g).tokens x.record.token = true) ∧
      Only [.fields, .faces] s u ∧ ((s.faceAt g).endPending = false → t = u) ∧
      ((s.faceAt g).endPending = true → (s.faceAt g).run ≠ .switching → (u.faceAt g).issued.all (·.st.ended) = true →
        t = endAndCheck u g))) ∧
  (∀ (s : State) (g a : Nat), inRun s (faceRegion g) = true → (s.faceAt g).dead = false → (s.faceAt g).num.writeDue = true →
    a = logSlot s g (getF s (numPg g) NUM_LOG_POS_SEGMENT) (if (s.faceAt g).num.slot = 0 then 1 else 0) →
    faceMay s g (faceRegion g) a 256 1 = true →
    Completes (.scaleLogWrite g true) s (fun t => (t.faceAt g).num.writeDue = false ∧
      (t.faceAt g).num.seq = (s.faceAt g).num.seq + 1 ∧ (t.faceAt g).num.slot = (if (s.faceAt g).num.slot = 0 then 1 else 0))) ∧
  (∀ (s : State) (g : Nat), g < 3200 → inRun s (faceRegion g) = true → (s.faceAt g).dead = false →
    (s.faceAt g).num.writeDue = true →
    Completes (.scaleLogWrite g false) s (fun t => (t.faceAt g).num.writeDue = false ∧
      getF t (numPg g) NUM_LOG_POS_ERR = 1 ∧ t.beds = s.beds))

/-- R468 and R471 for every op record command.
Where it rests on the model's readings or choices, these are log entries 48, 49, 91. -/
def Obligations.SkippedAndIllegal : Prop :=
  (∀ (c : Instr) (s : State) (g : Nat) (o : OpRec), takesRecord c s g o → headReady s g = some o → o.illegal = false →
    (s.faceAt g).skips o = true →
    Completes c s (fun t => Retired s t g o ∧ (t.faceAt g).regs = (s.faceAt g).regs ∧
      (t.faceAt g).preds = (s.faceAt g).preds ∧ (t.faceAt g).loops = (s.faceAt g).loops ∧
      (t.faceAt g).sram = (s.faceAt g).sram ∧ (t.faceAt g).run = (s.faceAt g).run ∧
      (t.faceAt g).pc = (if o.family = 4 ∧ o.subop = 1 then loopStop o else (s.faceAt g).pc) ∧ Only [.fields, .faces] s t)) ∧
  (∀ (c : Instr) (s : State) (g : Nat) (o : OpRec), g < 3200 → takesRecord c s g o → headReady s g = some o →
    o.illegal = true → effectsSeen s g o = true →
    Completes c s (fun t => ∃ u, (u.faceAt g).run = .stopped ∧ (u.faceAt g).queue = [] ∧
      getF u (facePg g) FACE_STOP_INFO_CAUSE = 0x40 ∧ getF u (facePg g) FACE_STOP_PC_PC = o.addr % 2 ^ 32 ∧
      (u.faceAt g).sram = (s.faceAt g).sram ∧
      t = (match (s.faceAt g).owner with
        | .job j => jobStop u j 0x10 0x40 g
        | .stage _ _ => escFaceLost u g 3
        | .none => u))) ∧
  (∀ (c : Instr) (s : State) (g n a fam sub : Nat) (o : OpRec), Issues s g fam sub o →
    (c, fam, sub) ∈ [(Instr.lda g ⟨n, some a⟩, 4, 6), (.sta g ⟨n, some a⟩, 4, 7)] →
    Completes c s (fun t => ∃ u, Only [.fields, .hostMemory, .log] s u ∧ t = faceStop u g o 0x43 6 (a % sramSize)))

/-- Control records.
Where it rests on the model's readings or choices, these are log entries 48, 50. -/
def Obligations.ControlRecords : Prop :=
  (∀ (s : State) (g : Nat) (o : OpRec), Issues s g 4 0 o →
    Completes (.endProg g) s (fun t =>
      (jobStopped s g = true → t = endAndCheck s g) ∧
      (jobStopped s g = false → ∃ u, (u.faceAt g).run = .idle ∧ (u.faceAt g).queue = [] ∧
        (u.faceAt g).owner = (s.faceAt g).owner ∧ (u.faceAt g).ended = true ∧ (u.faceAt g).sram = (s.faceAt g).sram ∧
        t = (match ownerJob s g with | some j => jobCheckEnd u j | none => u)))) ∧
  (∀ (s : State) (g n : Nat) (o : OpRec), Issues s g 4 1 o →
    n = (if bits (o.word 1) 24 4 = 0 then bits (o.word 1) 0 24 else (s.faceAt g).a (bits (o.word 1) 24 4)) →
    (∀ l ∈ (s.faceAt g).loops.head?, loopStop o ≤ l.stop) →
    Completes (.loop g) s (fun t =>
      (n = 0 → Retired s t g o ∧ (t.faceAt g).pc = loopStop o ∧ (t.faceAt g).loops = (s.faceAt g).loops) ∧
      (n ≠ 0 → (s.faceAt g).loops.length < 4 → Retired s t g o ∧ (t.faceAt g).pc = (s.faceAt g).pc ∧
        (t.faceAt g).loops =
          ⟨o.addr + 32, loopStop o, n - 1, o.word 3, bits (o.word 2) 16 4⟩ :: (s.faceAt g).loops) ∧
      (n ≠ 0 → 4 ≤ (s.faceAt g).loops.length → t = faceStop s g o 0x40 3 o.addr))) ∧
  (∀ (s : State) (g : Nat) (o : OpRec) (l : Loop), Issues s g 4 1 o → (s.faceAt g).loops.head? = some l →
    l.stop < loopStop o → Completes (.loop g) s (fun t => t = faceStop s g o 0x40 3 o.addr)) ∧
  (∀ (s : State) (g : Nat) (o : OpRec), Issues s g 4 2 o →
    Completes (.branch g) s (fun t => Retired s t g o ∧
      ((t.faceAt g).pc : Int) = (o.addr + 32 * toSigned 24 (bits (o.word 1) 0 24)) % (2 ^ 32 : Nat) ∧
      (∃ pre, (s.faceAt g).loops = pre ++ (t.faceAt g).loops ∧
        (∀ l ∈ pre, ¬ (l.start ≤ (t.faceAt g).pc ∧ (t.faceAt g).pc < l.stop)) ∧
        ∀ l ∈ (t.faceAt g).loops.head?, l.start ≤ (t.faceAt g).pc ∧ (t.faceAt g).pc < l.stop) ∧
      Only [.fields, .faces] s t)) ∧
  (∀ (s : State) (g a : Nat) (o : OpRec), Issues s g 4 9 o → a = (s.faceAt g).addrOperand (o.word 1) → a % 512 = 0 →
    a + 512 ≤ sramSize →
    Completes (.saveCtx g) s (fun t => Retired s t g o ∧
      (t.faceAt g).sram = mputs (s.faceAt g).sram a (contextBytes s g (o.addr + 32)) ∧
      (t.faceAt g).regs = (s.faceAt g).regs ∧ (t.faceAt g).preds = (s.faceAt g).preds))

/-- R464. -/
def Obligations.SetPredicate : Prop :=
  ∀ (s : State) (g x y cmp comb pd : Nat) (o : OpRec) (r : Bool), Issues s g 4 3 o → pd = bits (o.word 1) 0 3 →
    cmp = bits (o.word 1) 4 3 → comb = bits (o.word 1) 8 2 → x = (s.faceAt g).a (bits (o.word 1) 12 4) →
    y = (if bit (o.word 1) 20 then o.word 2 else (s.faceAt g).a (bits (o.word 1) 16 4)) →
    (cmp = 0 → r = decide (x = y)) → (cmp = 1 → r = decide (x ≠ y)) → (cmp = 2 → r = decide (toSigned 32 x < toSigned 32 y)) →
    (cmp = 3 → r = decide (toSigned 32 y ≤ toSigned 32 x)) → (cmp = 4 → r = decide (x < y)) → (cmp = 5 → r = decide (y ≤ x)) →
    Completes (.setp g) s (fun t => Retired s t g o ∧
      (comb = 0 → bit (t.faceAt g).preds pd = r) ∧
      (comb = 1 → bit (t.faceAt g).preds pd = (bit (s.faceAt g).preds pd && r)) ∧
      (comb = 2 → bit (t.faceAt g).preds pd = (bit (s.faceAt g).preds pd || r)) ∧
      (∀ k, k < 8 → k ≠ pd → bit (t.faceAt g).preds k = bit (s.faceAt g).preds k) ∧
      (t.faceAt g).regs = (s.faceAt g).regs ∧ (t.faceAt g).sram = (s.faceAt g).sram ∧ Only [.fields, .faces] s t)

/-- Register records.
Where it rests on the model's readings or choices, this is log entry 48. -/
def Obligations.RegisterRecords : Prop :=
  (∀ (s : State) (g d : Nat) (o : OpRec), Issues s g 4 4 o → d = bits (o.word 1) 0 4 →
    Completes (.seta g) s (fun t => Retired s t g o ∧ (t.faceAt g).a d = (if d = 0 then 0 else o.word 2 % 2 ^ 32) ∧
      (∀ k, k < 16 → k ≠ d → (t.faceAt g).a k = (s.faceAt g).a k) ∧ (t.faceAt g).preds = (s.faceAt g).preds ∧
      (t.faceAt g).sram = (s.faceAt g).sram ∧ Only [.fields, .faces] s t)) ∧
  (∀ (s : State) (g d : Nat) (o : OpRec), Issues s g 4 5 o → d = bits (o.word 1) 0 4 →
    Completes (.adda g) s (fun t => Retired s t g o ∧
      (t.faceAt g).a d = (if d = 0 then 0 else ((s.faceAt g).a (bits (o.word 1) 4 4) + o.word 2) % 2 ^ 32) ∧
      (∀ k, k < 16 → k ≠ d → (t.faceAt g).a k = (s.faceAt g).a k) ∧ (t.faceAt g).preds = (s.faceAt g).preds ∧
      (t.faceAt g).sram = (s.faceAt g).sram ∧ Only [.fields, .faces] s t)) ∧
  (∀ (s : State) (g d a n : Nat) (o : OpRec), Issues s g 4 6 o → d = bits (o.word 1) 0 4 →
    a = ((s.faceAt g).a (bits (o.word 1) 4 4) + o.word 2) % 2 ^ 32 → a % 4 = 0 → a + 4 ≤ sramSize →
    (s.faceAt g).rangeSpoil a 4 = false →
    Completes (.lda g ⟨n, none⟩) s (fun t => Retired s t g o ∧
      (t.faceAt g).a d = (if d = 0 then 0 else mnum (s.faceAt g).sram a 4 % 2 ^ 32) ∧
      (∀ k, k < 16 → k ≠ d → (t.faceAt g).a k = (s.faceAt g).a k) ∧ (t.faceAt g).preds = (s.faceAt g).preds ∧
      (t.faceAt g).sram = (s.faceAt g).sram)) ∧
  (∀ (s : State) (g a n : Nat) (o : OpRec), Issues s g 4 7 o →
    a = ((s.faceAt g).a (bits (o.word 1) 4 4) + o.word 2) % 2 ^ 32 → a % 4 = 0 → a + 4 ≤ sramSize →
    Completes (.sta g ⟨n, none⟩) s (fun t => Retired s t g o ∧
      (t.faceAt g).sram = mputs (s.faceAt g).sram a (leBytes 4 ((s.faceAt g).a (bits (o.word 1) 0 4))) ∧
      (∀ b, b < a ∨ a + 4 ≤ b → mbyte (t.faceAt g).sram b = mbyte (s.faceAt g).sram b) ∧
      (t.faceAt g).regs = (s.faceAt g).regs ∧ (t.faceAt g).preds = (s.faceAt g).preds)) ∧
  (∀ (c : Instr) (s : State) (g a n sub : Nat) (o : OpRec), Issues s g 4 sub o →
    (c, sub) ∈ [(Instr.lda g ⟨n, none⟩, 6), (.sta g ⟨n, none⟩, 7)] →
    a = ((s.faceAt g).a (bits (o.word 1) 4 4) + o.word 2) % 2 ^ 32 → a % 4 ≠ 0 ∨ sramSize < a + 4 →
    Completes c s (fun t => ∃ u, (n = 0 → u = s) ∧ Only [.fields, .hostMemory, .log] s u ∧ t = faceStop u g o 0x41 6 a)) ∧
  (∀ (s : State) (g : Nat) (o : OpRec), Issues s g 4 8 o →
    Completes (.ctlNop g) s (fun t => Retired s t g o ∧ (t.faceAt g).regs = (s.faceAt g).regs ∧
      (t.faceAt g).preds = (s.faceAt g).preds ∧ (t.faceAt g).sram = (s.faceAt g).sram ∧ Only [.fields, .faces] s t))

/-- The engines.
Where it rests on the model's readings or choices, these are log entries 48, 49, 51, 52. -/
def Obligations.TensorEngines : Prop :=
  (∀ (s : State) (g n : Nat) (o : OpRec) (f : FaceSt), Issues s g 0 0 o → f = s.faceAt g → matCheck f o = none →
    Completes (.mat g ⟨n, none⟩) s (fun t => Dispatched s t g o .done ∧ (t.faceAt g).regs = f.regs ∧
      (t.faceAt g).preds = f.preds ∧
      (matEpi o = false → (t.faceAt g).sram =
        ((matOuter o (f.pat (o.word 1)) (f.pat (o.word 2)) (f.pat (o.word 3))).map (matPoint f o)).foldl
          (fun m x => mputs m x.addr x.bytes) f.sram))) ∧
  (∀ (f : FaceSt) (o : OpRec) (p : List Int) (a b c : Pat), a = f.pat (o.word 1) → b = f.pat (o.word 2) →
    c = f.pat (o.word 3) → matMode o = 0 → matAcc o = false → matEpi o = false → dimsOf o 3 = [] →
    (matPoint f o p).addr = elemAddr 4 c.start (p.getD 2 0) ∧
    (matPoint f o p).bytes = leBytes 4 (ofSigned 32
      ((f.intElem 1 a.start (p.getD 0 0) - a.zp) * (f.intElem 1 b.start (p.getD 1 0) - b.zp))) ∧
    (matPoint f o p).satAcc = 0) ∧
  (∀ (s : State) (g n : Nat) (o : OpRec), Issues s g 1 0 o → eltCheck (s.faceAt g) o = none →
    Completes (.elt g ⟨n, none⟩) s (fun t => Dispatched s t g o .done ∧ (t.faceAt g).regs = (s.faceAt g).regs ∧
      (t.faceAt g).preds = (s.faceAt g).preds)) ∧
  (∀ (s : State) (c : SramEcc → Instr) (g n a fam : Nat) (o : OpRec), (c, fam) ∈ [(Instr.mat g, 0), (Instr.elt g, 1)] →
    Issues s g fam 0 o →
    Completes (c ⟨n, some a⟩) s (fun t => ∃ u, u.faceAt g = s.faceAt g ∧ Only [.fields, .hostMemory, .log] s u ∧
      t = faceStop u g o 0x43 6 (a % sramSize))) ∧
  (∀ (f : FaceSt) (w b c i : Nat) (m : Bool), eOPC w = 0x14 → laneOp f w (2 ^ 31) b c i m = (2 ^ 31 - 1, true)) ∧
  (∀ (m : Tab Byte) (a v : Nat) (odd : Bool), 127 < toSigned 32 v → storeElem m 0 a odd v = ([127], true))

/-- Sequence operators.
Where it rests on the model's readings or choices, these are log entries 48, 52, 54. -/
def Obligations.SequenceRecords : Prop :=
  (∀ (s : State) (g n : Nat) (o : OpRec), Issues s g 5 0 o → recCheck (s.faceAt g) o = none →
    Completes (.gru g ⟨n, none⟩) s (fun t => Dispatched s t g o .done ∧ (t.faceAt g).regs = (s.faceAt g).regs ∧
      (t.faceAt g).preds = (s.faceAt g).preds)) ∧
  (∀ (s : State) (g n : Nat) (o : OpRec), Issues s g 5 1 o → recCheck (s.faceAt g) o = none →
    Completes (.lstm g ⟨n, none⟩) s (fun t => Dispatched s t g o .done ∧ (t.faceAt g).regs = (s.faceAt g).regs ∧
      (t.faceAt g).preds = (s.faceAt g).preds)) ∧
  (∀ (f : FaceSt) (o : OpRec) (x : RecD) (r : Nat), rowHold f o x r = true → rowReset f o r = false →
    (recRow f o x r).sats = 0 ∧ (recRow f o x r).writes.head? = some (x.hOut + r * x.hPitch,
      (readInts f.sram (x.hIn + r * x.hPitch) 2 x.h).flatMap (fun h => leBytes 2 (ofSigned 16 h)))) ∧
  (∀ (s : State) (g n : Nat) (o : OpRec), Issues s g 6 0 o → blockCheck (s.faceAt g) o = none →
    Completes (.block g ⟨n, none⟩) s (fun t => Dispatched s t g o .done ∧ (t.faceAt g).regs = (s.faceAt g).regs ∧
      (t.faceAt g).preds = (s.faceAt g).preds ∧
      (mnum (s.faceAt g).sram ((s.faceAt g).attDesc o).tag 4 ≠ ((s.faceAt g).attDesc o).block + 1 →
        (t.faceAt g).sram = mputs (s.faceAt g).sram (((s.faceAt g).attDesc o).d + 0x4E) (leBytes 2 1)))) ∧
  (∀ (f : FaceSt) (o : OpRec) (x : AttD) (q : Nat), (∀ k, k < x.kvrows → allowed f o x q k = false) →
    attRow f o x q = none) ∧
  (∀ (s : State) (g n : Nat) (o : OpRec), Issues s g 6 1 o → finishCheck (s.faceAt g) o = none →
    Completes (.finish g ⟨n, none⟩) s (fun t => Dispatched s t g o .done ∧ (t.faceAt g).regs = (s.faceAt g).regs ∧
      (t.faceAt g).preds = (s.faceAt g).preds))

/-- MOV.
Where it rests on the model's readings or choices, these are log entries 38, 48, 58. -/
def Obligations.HoistCommands : Prop :=
  (∀ (s : State) (c : Instr) (g k n : Nat) (o : OpRec) (d : HoistDesc) (errs : List (Nat × Nat)), g < 3200 →
    c ∈ [Instr.fetch g ⟨k, none⟩ errs, .writeback g ⟨k, none⟩, .discard g ⟨k, none⟩, .load g ⟨k, none⟩ errs,
      .store g ⟨k, none⟩, .copy g ⟨k, none⟩] → moveOf c = some (g, n) → Issues s g 2 0 o → movStop s g o = none →
    d = (s.faceAt g).desc o → d.op = n → d.remote = false → hoistFree (s.faceAt g) d = true →
    Completes c s (fun t => (t.faceAt g).regs = (s.faceAt g).regs ∧ (t.faceAt g).preds = (s.faceAt g).preds ∧
      ∃ u, u.faceAt g = s.faceAt g ∧ Only [.fields, .beds, .hostMemory, .log] s u ∧
      (d.leaves g = false → ∃ st x,
        st = (if n = 1 then .writes (faceRegion g) n d.addr else if n = 4 then .writes d.region n d.addr else .done) ∧
        Dispatched s t g o st ∧ x = runRows (moveRow g d) (List.range d.rows) (startIssue u g o st) false ∧
        (x.1.fail = none → t = xferSpoil x.1.st g x.1.spoiled) ∧
        ∀ e a off, x.1.fail = some (e, a, off) → getF t (hoistPg g) HOIST_LAST_FAIL_STATUS = e % 8) ∧
      (d.leaves g = true → reachable s (faceRegion g) d.farRegion = true →
        (n = 5 → copyMay s g d.dst = true ∧ backed s d.dst = true) →
        (n ≠ 5 → ∀ x ∈ d.chunks, ∀ p ∈ piecesOf (x.len + 1) (d.farAt x.row + x.off) x.len 0,
          faceMay s g d.region p.1 p.2.1 (if n = 3 then 0 else 1) = true) →
        (∃ sp, Dispatched s t g o (.moving ⟨n, d.addr, d.cls, d.farRegion, d.faceAt 0,
          d.faceAt (d.rows - 1) + d.rowBytes, sp, none⟩)) ∧
        t.road.packets = s.road.packets ++ d.chunks.zipIdx.map (fun x =>
          ⟨d.cls, faceRegion g, d.farRegion, faceRegion g, getF s wbPg WB_EPOCH, chunkBody s g (s.faceAt g).nextId d x⟩)) ∧
      (d.leaves g = true → n = 5 → copyMay s g d.dst = false →
        Dispatched s t g o .done ∧ getF t (hoistPg g) HOIST_LAST_FAIL_STATUS = 2) ∧
      (d.leaves g = true → (n = 5 → copyMay s g d.dst = true) →
        reachable s (faceRegion g) d.farRegion = false ∨ (n = 5 ∧ backed s d.dst = false) →
        Dispatched s t g o .done ∧ getF t (hoistPg g) HOIST_LAST_FAIL_STATUS = 3))) ∧
  (∀ (s : State) (g k : Nat) (o : OpRec) (d : HoistDesc), Issues s g 2 0 o → movStop s g o = none →
    d = (s.faceAt g).desc o → d.op = 5 → d.remote = true → hoistFree (s.faceAt g) d = true →
    Completes (.copy g ⟨k, none⟩) s (fun t => ∃ u, u.faceAt g = s.faceAt g ∧ Only [.fields, .hostMemory, .log] s u ∧
      (remoteStatus u g d.link = 0 → Dispatched s t g o (.remote d.link (s.link d.link).nextOp) ∧
        (t.link d.link).nextOp = (s.link d.link).nextOp + 1) ∧
      (remoteStatus u g d.link ≠ 0 → Dispatched s t g o .done ∧
        getF t (hoistPg g) HOIST_LAST_FAIL_STATUS = remoteStatus u g d.link))) ∧
  (∀ (s : State) (c : Instr) (g n : Nat) (o : OpRec) (a : Nat), moveOf c = some (g, n) → Issues s g 2 0 o →
    a = (s.faceAt g).descAddr o → a % 32 ≠ 0 ∨ sramSize < a + 32 →
    Completes c s (fun t => t = faceStop s g o 0x41 6 a))

/-- Lines and rows.
Where it rests on the model's readings or choices, these are log entries 53, 57, 58. -/
def Obligations.HoistLines : Prop :=
  (∀ (s : State) (g face far j : Nat), faceMay s g (faceRegion g) ((far / 64 + j) * 64) 64 0 = true →
    ((s.faceAt g).tag (face / 64 + j)).valid = true → ((s.faceAt g).tag (face / 64 + j)).home = far / 64 + j →
    (fetchLine g face far s j).fail = none ∧ Only [.fields] s (fetchLine g face far s j).st) ∧
  (∀ (s : State) (g face far j : Nat), faceMay s g (faceRegion g) ((far / 64 + j) * 64) 64 0 = true →
    ((s.faceAt g).tag (face / 64 + j)).dirty = false →
    ((s.faceAt g).tag (face / 64 + j)).valid = false ∨ ((s.faceAt g).tag (face / 64 + j)).home ≠ far / 64 + j →
    (fetchLine g face far s j).fail = none ∧
    ((fetchLine g face far s j).st.faceAt g).tag (face / 64 + j) = ⟨true, false, far / 64 + j⟩ ∧
    ∀ i, i < 64 → mbyte ((fetchLine g face far s j).st.faceAt g).sram ((face / 64 + j) * 64 + i) =
      mbyte (s.bed (faceRegion g)).bytes ((far / 64 + j) * 64 + i)) ∧
  (∀ (s : State) (g face j : Nat) (x : LineTag), x = (s.faceAt g).tag (face / 64 + j) → x.dirty = true →
    faceMay s g (faceRegion g) (x.home * 64) 64 1 = true →
    (writeBackOne g face s j).fail = none ∧
    ((writeBackOne g face s j).st.faceAt g).tag (face / 64 + j) = { x with dirty := false } ∧
    ((writeBackOne g face s j).st.faceAt g).sram = (s.faceAt g).sram ∧
    ∀ i, i < 64 → mbyte ((writeBackOne g face s j).st.bed (faceRegion g)).bytes (x.home * 64 + i) =
      mbyte (s.faceAt g).sram ((face / 64 + j) * 64 + i)) ∧
  (∀ (s : State) (g face j : Nat),
    (discardLine g face s j).fail = none ∧ ((discardLine g face s j).st.faceAt g).tag (face / 64 + j) = LineTag.reset ∧
    ((discardLine g face s j).st.faceAt g).sram = (s.faceAt g).sram ∧ Only [.beds, .faces] s (discardLine g face s j).st) ∧
  (∀ (s : State) (g r : Nat) (d : HoistDesc), reachable s (faceRegion g) d.region = true →
    (∀ p ∈ piecesOf (d.rowBytes + 1) (d.farAt r) d.rowBytes 0, faceMay s g d.region p.1 p.2.1 0 = true) →
    (loadRow g d s r).fail = none ∧
    ∀ i, i < d.rowBytes → mbyte ((loadRow g d s r).st.faceAt g).sram (d.faceAt r + i) =
      mbyte (s.bed d.region).bytes (d.farAt r + i)) ∧
  (∀ (s : State) (g r : Nat) (d : HoistDesc), reachable s (faceRegion g) d.region = true →
    (∀ p ∈ piecesOf (d.rowBytes + 1) (d.farAt r) d.rowBytes 0, faceMay s g d.region p.1 p.2.1 1 = true) →
    (storeRow g d s r).fail = none ∧ ((storeRow g d s r).st.faceAt g).sram = (s.faceAt g).sram ∧
    ∀ i, i < d.rowBytes → mbyte ((storeRow g d s r).st.bed d.region).bytes (d.farAt r + i) =
      mbyte (s.faceAt g).sram (d.faceAt r + i)) ∧
  (∀ (s : State) (g r : Nat) (d : HoistDesc), copyMay s g d.dst = true → backed s d.dst = true →
    reachable s (faceRegion g) (faceRegion d.dst) = true →
    (copyRow g d s r).fail = none ∧
    ∀ i, i < d.rowBytes → mbyte ((copyRow g d s r).st.faceAt d.dst).sram (d.farAt r + i) =
      mbyte (s.faceAt g).sram (d.faceAt r + i))

/-- SYN records.
Where it rests on the model's readings or choices, these are log entries 38, 48, 59, 86, 91. -/
def Obligations.SyncRecords : Prop :=
  (∀ (s : State) (c : Instr) (sub : SyncSub) (g r : Nat) (o : OpRec) (op : SyncOp),
    (c, sub) ∈ [(Instr.synAdd g, SyncSub.add), (.synWaitGe g, .waitGe), (.synSet g, .set), (.synClear g, .clear),
      (.synWaitSet g, .waitSet), (.synAcquire g, .acquire), (.synRelease g, .release), (.synArrive g, .arrive),
      (.synArriveWait g, .arriveWait), (.synRead g, .read)] →
    Issues s g 3 sub.code o → syncFree s g o = true → (o.isWait = true → jobStopped s g = false) →
    bit (o.word 1) 18 = false →
    r = bits (o.word 1) 0 7 →
    op = ⟨bits (o.word 1) 8 8, sub, if bit (o.word 1) 28 then (s.faceAt g).a (bits (o.word 1) 24 4) else o.word 2,
      .face g, (s.faceAt g).nextId⟩ →
    Completes c s (fun t =>
      (inRun s r = true → r = faceRegion g → Dispatched s t g o (.waiting r op o.isWait) ∧
        (t.sync r).arrivals = (s.sync r).arrivals ++ [op] ∧ Only [.faces, .syncs] s t) ∧
      (inRun s r = true → r ≠ faceRegion g → route s (faceRegion g) r ≠ HOP_DEAD →
        Dispatched s t g o (.waiting r op o.isWait) ∧
        t.road.packets = s.road.packets ++ [⟨bits (o.word 1) 16 2, faceRegion g, r, faceRegion g,
          getF s wbPg WB_EPOCH, .sync op⟩] ∧
        Only [.faces, .road] s t) ∧
      (inRun s r = false ∨ (r ≠ faceRegion g ∧ route s (faceRegion g) r = HOP_DEAD) →
        ∃ u, Dispatched s u g o (.waiting r op o.isWait) ∧ Only [.faces] s u ∧ t = syncFail u g op.recId 3))) ∧
  (∀ (s : State) (c : Instr) (n g k : Nat) (o : OpRec), (c, n) ∈ [(Instr.synAdd g, 0), (.synSet g, 2), (.synArrive g, 7)] →
    Issues s g 3 n o → bit (o.word 1) 18 = true → k = bits (o.word 1) 19 2 →
    Completes c s (fun t =>
      (remoteStatus s g k = 0 → Dispatched s t g o (.remote k (s.link k).nextOp) ∧
        (t.link k).nextOp = (s.link k).nextOp + 1 ∧ Only [.faces, .links, .road] s t) ∧
      (remoteStatus s g k = 2 → ∃ u, Dispatched s u g o .done ∧ getF u (syncPg (faceRegion g)) SYNC_LAST_REFUSAL_REASON = 2 ∧
        t = syncFail u g (s.faceAt g).nextId 2) ∧
      (remoteStatus s g k = 3 → ∃ u, Dispatched s u g o .done ∧ Only [.faces] s u ∧
        t = syncFail u g (s.faceAt g).nextId 3))) ∧
  (∀ (s : State) (c : Instr) (n g : Nat) (o : OpRec),
    (c, n) ∈ [(Instr.synWaitGe g, 1), (.synWaitSet g, 4), (.synAcquire g, 5), (.synArriveWait g, 8)] →
    Issues s g 3 n o → syncFree s g o = true → jobStopped s g = true → Completes c s (fun t => t = endAndCheck s g)) ∧
  (∀ (s : State) (g : Nat) (o : OpRec), Issues s g 3 10 o → verdictGoes s g = true →
    Completes (.synVerdict g) s (fun t => Dispatched s t g o .done ∧ Only [.faces, .ring] s t ∧
      t.ring = (if (s.region (faceRegion g)).unreached then s.ring else s.ring ++ [.verdict g ((s.faceAt g).synValue o)])))

/-- Operations applied.
Where it rests on the model's readings or choices, this is log entry 59. -/
def Obligations.SyncApply : Prop :=
  (∀ (s : State) (r : Nat) (op : SyncOp) (rest : List SyncOp) (x : SyncObj), (s.sync r).arrivals = op :: rest →
    inRun s r = true → x = (s.sync r).obj op.obj → syncAllowed s x op.src = true → x.corrupt = false →
    Completes (.syncOperationApply r false) s (fun t =>
      (op.sub ∈ [SyncSub.add, .set, .clear, .waitGe, .waitSet, .read] →
        x.kind = .none ∨ op.sub.needs = some x.kind ∨ op.sub = .read → (t.sync r).arrivals = rest) ∧
      (op.sub = .add → x.kind = .counter → (t.sync r).obj op.obj = { x with value := (x.value + op.val) % 2 ^ 32 }) ∧
      (op.sub = .add → x.kind = .none → ((t.sync r).obj op.obj).kind = .counter ∧
        ((t.sync r).obj op.obj).value = op.val % 2 ^ 32) ∧
      (op.sub = .set → x.kind = .event → (t.sync r).obj op.obj = { x with value := 1 }) ∧
      (op.sub = .clear → x.kind = .event → (t.sync r).obj op.obj = { x with value := 0 }) ∧
      (∀ h, op.sub = .acquire → x.kind = .lock → op.src = .face h → x.held = false →
        ((t.sync r).obj op.obj).held = true ∧ ((t.sync r).obj op.obj).holder = h ∧
        ((t.sync r).obj op.obj).abandoned = false) ∧
      (∀ h, op.sub = .release → x.kind = .lock → op.src = .face h → x.held = true → x.holder = h →
        (s.sync r).waiters.any (fun w => w.is op.obj .acquire) = false →
        ((t.sync r).obj op.obj).held = false ∧ ((t.sync r).obj op.obj).holder = 0) ∧
      (op.sub = .arrive ∨ op.sub = .arriveWait → x.kind = .barrier → 1 ≤ op.val → op.val ≤ 65535 → op.val = x.parties →
        op.val ≤ x.value + 1 → (t.sync r).obj op.obj = { x with value := 0, gen := (x.gen + 1) % 65536 }) ∧
      (op.sub = .arrive → x.kind = .barrier → 1 ≤ op.val → op.val ≤ 65535 → op.val = x.parties → x.value + 1 < op.val →
        (t.sync r).obj op.obj = { x with value := x.value + 1 }) ∧
      (op.sub = .waitGe → x.kind = .counter → serialGe x.value op.val = false → (s.sync r).waiters.length < 1024 →
        (t.sync r).waiters = (s.sync r).waiters ++ [⟨op, 0⟩] ∧ (t.sync r).obj op.obj = x) ∧
      (op.sub = .read → (t.sync r).objs = (s.sync r).objs ∧ (t.sync r).waiters = (s.sync r).waiters))) ∧
  (∀ (s : State) (r : Nat) (op : SyncOp) (rest : List SyncOp), r < 100 → (s.sync r).arrivals = op :: rest →
    inRun s r = true → syncAllowed s ((s.sync r).obj op.obj) op.src = false →
    (op.src = .banksman ∨ op.src = .esc ∨ ∃ k, op.src = .sensor k) →
    Completes (.syncOperationApply r false) s (fun t => (t.sync r).objs = (s.sync r).objs ∧ (t.sync r).arrivals = rest ∧
      getF t (syncPg r) SYNC_LAST_REFUSAL_REASON = 2 ∧ Only [.fields, .syncs, .hostMemory, .log] s t)) ∧
  (∀ (s : State) (r : Nat) (op : SyncOp) (rest : List SyncOp), (s.sync r).arrivals = op :: rest → inRun s r = true →
    (op.src = .banksman ∨ op.src = .esc ∨ (∃ k, op.src = .sensor k) ∨ op.src = .host) →
    Completes (.syncOperationApply r true) s (fun t => ((t.sync r).obj op.obj).corrupt = true ∧ (t.sync r).arrivals = rest))

/-- Registers of the sync block.
Where it rests on the model's readings or choices, these are log entries 59, 88. -/
def Obligations.SyncCommands : Prop :=
  (∀ (s : State) (c : Space → Nat → Word → Instr) (n : Nat) (sub : SyncSub) (sp : Space) (r : Nat) (v : Word),
    (c, n, sub) ∈ [(Instr.sigCmdAdd, 0, SyncSub.add), (.sigCmdSet, 2, .set), (.sigCmdClear, 3, .clear)] →
    present r = true → bit v.toNat 12 = true → bits v.toNat 8 4 = n →
    Taken s sp (syncPg r * 0x1000 + 0x58) v.toNat (syncPg r) 0x58 .sync →
    Completes (c sp r v) s (fun t => (t.sync r).arrivals = (s.sync r).arrivals ++
        [⟨bits v.toNat 0 8, sub, getF s (syncPg r) SYNC_SIG_VAL_VALUE, if sp = .banksman then .banksman else .host, 0⟩] ∧
      (t.sync r).objs = (s.sync r).objs ∧ t.bus = busDone sp (syncPg r * 0x1000 + 0x58) 0 ∧ Only [.syncs, .bus] s t)) ∧
  (∀ (s : State) (sp : Space) (r : Nat) (v : Word), present r = true → bit v.toNat 12 = true →
    Taken s sp (syncPg r * 0x1000 + 0x60) v.toNat (syncPg r) 0x60 .sync →
    Completes (.snapSave sp r v) s (fun t => getF t (syncPg r) SYNC_SNAP_CMD_BUSY = 1 ∧
      ∃ x, (t.sync r).snap = some x ∧ x.save = true ∧
        (jobClaims s (bits v.toNat 0 10) r (snapBase s r) 0x2000 1 = false → x.result = 2 ∧ t.beds = s.beds) ∧
        (jobClaims s (bits v.toNat 0 10) r (snapBase s r) 0x2000 1 = true → x.result = 1))) ∧
  (∀ (s : State) (sp : Space) (r : Nat) (v : Word), present r = true → bit v.toNat 12 = false → bit v.toNat 13 = true →
    Taken s sp (syncPg r * 0x1000 + 0x60) v.toNat (syncPg r) 0x60 .sync →
    Completes (.snapRestore sp r v) s (fun t => getF t (syncPg r) SYNC_SNAP_CMD_BUSY = 1 ∧ t.beds = s.beds ∧
      ∃ x, (t.sync r).snap = some x ∧ x.save = false ∧
        (jobClaims s (bits v.toNat 0 10) r (snapBase s r) 0x2000 0 = false →
          x.result = 2 ∧ (t.sync r).objs = (s.sync r).objs))) ∧
  (∀ (s : State) (r : Nat) (x : SnapSt), r < 100 → (s.sync r).snap = some x → inRun s r = true → snapEnded s r x = true →
    Completes (.snapComplete r) s (fun t => (t.sync r).snap = none ∧ getF t (syncPg r) SYNC_SNAP_CMD_BUSY = 0 ∧
      getF t (syncPg r) SYNC_SNAP_CMD_RESULT = x.result % 8 ∧
      (x.result = 1 → getF t (syncPg r) SYNC_SNAP_SEQ_SEQ = x.seq % 2 ^ 32) ∧ (t.sync r).objs = (s.sync r).objs)) ∧
  (∀ (s : State) (sp : Space) (r obj : Nat) (v : Word), present r = true → obj < 256 →
    Taken s sp (syncPg r * 0x1000 + 0x800 + 8 * obj) v.toNat (syncPg r) (0x800 + 8 * obj) .sync →
    Completes (.objCfgWrite sp r obj v) s (fun t =>
      (t.sync r).obj obj = { SyncObj.reset with kind := SyncKind.ofCode (bits v.toNat 0 3), parties := bits v.toNat 16 16 } ∧
      (∀ k, k ≠ obj → (t.sync r).obj k = (s.sync r).obj k) ∧ Only [.syncs, .bus] s t)) ∧
  (∀ (s : State) (sp : Space) (r obj : Nat), present r = true → obj < 256 →
    Reached s sp (syncPg r * 0x1000 + 0x804 + 8 * obj) (syncPg r) (0x804 + 8 * obj) .sync →
    Completes (.objStateRead sp r obj) s (fun t => t.syncs = s.syncs ∧
      (objSecret s r obj = false → t.bus = busDone sp (syncPg r * 0x1000 + 0x804 + 8 * obj)
        (pageWord s sp (syncPg r) .sync (0x804 + 8 * obj))) ∧
      (objSecret s r obj = true → t.bus = busDone sp (syncPg r * 0x1000 + 0x804 + 8 * obj) 0))) ∧
  (∀ (s : State) (g i r : Nat) (x : Issued) (op : SyncOp) (w : Bool), (s.faceAt g).issued[i]? = some x →
    x.st = .retry r op w → inRun s (faceRegion g) = true →
    Completes (.waitRetry g i) s (fun t => ∃ u, Only [.faces] s u ∧
      (u.faceAt g).issued = (s.faceAt g).issued.map (fun y => if y.id = x.id then { y with st := .waiting r op w } else y) ∧
      (inRun s r = true → r = faceRegion g → t.faces = u.faces ∧ Only [.syncs] u t ∧
        (t.sync r).arrivals = (s.sync r).arrivals ++ [op]) ∧
      (inRun s r = true → r ≠ faceRegion g → route s (faceRegion g) r ≠ HOP_DEAD → Only [.road] u t ∧
        t.road.packets = s.road.packets ++ [⟨0, faceRegion g, r, faceRegion g, getF s wbPg WB_EPOCH, .sync op⟩]) ∧
      (inRun s r = false ∨ (r ≠ faceRegion g ∧ route s (faceRegion g) r = HOP_DEAD) → t = syncFail u g x.id 3)))

/-- The bed-store controller.
Where it rests on the model's readings or choices, this is log entry 57. -/
def Obligations.BedStore : Prop :=
  (∀ (s : State) (r : Nat) (o : OutMark) (rest : List OutMark), (s.bed r).outQueue = o :: rest → inRun s r = true →
    Completes (.outMarkDurable r) s (fun t => (t.bed r).outQueue = rest ∧ tget 0 (t.bed r).marks o.line = o.epoch + 1 ∧
      (t.bed r).bytes = (s.bed r).bytes ∧ Only [.beds] s t ∧ ∀ q, q ≠ r → t.bed q = s.bed q)) ∧
  (∀ (s : State) (r i fails : Nat) (w : LineWrite), (s.bed r).queue[i]? = some w → inRun s r = true →
    mayEnd (s.bed r).queue i = true → (s.bed r).failing.contains (w.line / 64) = false →
    Completes (.lineWriteDurable r i fails) s (fun t => (t.bed r).bytes = (s.bed r).bytes ∧
      (fails < 2 → (t.bed r).queue = (s.bed r).queue.take i ++ (s.bed r).queue.drop (i + 1)) ∧
      (2 ≤ fails → sparesFree r (s.bed r) ≠ 0 → (t.bed r).queue = (s.bed r).queue ∧ w.line / 64 ∈ (t.bed r).failing) ∧
      (2 ≤ fails → sparesFree r (s.bed r) = 0 → tget false (t.bed r).spoil w.line = true))) ∧
  (∀ (s : State) (r errs : Nat), inRun s r = true → (s.bed r).scrubPos < bedLines r →
    Completes (.scrubRead r errs) s (fun t => (t.bed r).scrubPos = (s.bed r).scrubPos + 1 ∧
      (t.bed r).bytes = (s.bed r).bytes ∧
      (tget 0 (s.bed r).marks (s.bed r).scrubPos ≠ 0 →
        tget 0 (s.bed r).marks (s.bed r).scrubPos ≠ (s.bed r).epoch + 1 →
        tget false (t.bed r).spoil (s.bed r).scrubPos = true ∧ tget 0 (t.bed r).marks (s.bed r).scrubPos = 0))) ∧
  (∀ (s : State) (r blk p : Nat), bestSpare (s.bed r) (freeSpares r (s.bed r)) = some p → inRun s r = true →
    (s.bed r).reloc = none → relocWhy s r blk ≠ 0 →
    Completes (.blockRelocation r blk) s (fun t => Only [.beds] s t ∧ (t.bed r).bytes = (s.bed r).bytes ∧
      ∃ x, (t.bed r).reloc = some x ∧ x.block = blk ∧ x.spare = p)) ∧
  (∀ (s : State) (r : Nat) (x : Reloc), (s.bed r).reloc = some x → inRun s r = true →
    Completes (.relocationCommit r) s (fun t => (t.bed r).reloc = none ∧ tget 0 (t.bed r).remap x.block = x.spare + 1 ∧
      (t.bed r).relocCount = ((s.bed r).relocCount + 1) % 65536 ∧ (t.bed r).bytes = (s.bed r).bytes ∧
      (t.bed r).queue = (s.bed r).queue))

/-- Face SRAM and bed store seen by masters.
Where it rests on the model's readings or choices, these are log entries 24, 70. -/
def Obligations.PeekAndAperture : Prop :=
  (∀ (s : State) (sp : Space) (g n : Nat), faceAssigned g = true →
    Reached s sp (facePg g * 0x1000 + 0xC4) (facePg g) 0xC4 .face →
    Completes (.peekDataRead sp g ⟨n, none⟩) s (fun t =>
      ((s.faceAt g).secret = true → t.bus = busDone sp (facePg g * 0x1000 + 0xC4) 0 ∧ t.faces = s.faces) ∧
      ((s.faceAt g).secret = false → getF s (facePg g) FACE_PEEK_ADDR_SPACE = 0 →
        4 * getF s (facePg g) FACE_PEEK_ADDR_ADDR + 4 ≤ sramSize →
        t.bus = busDone sp (facePg g * 0x1000 + 0xC4) (mnum (s.faceAt g).sram (4 * getF s (facePg g) FACE_PEEK_ADDR_ADDR) 4) ∧
        getF t (facePg g) FACE_PEEK_ADDR_ADDR = (getF s (facePg g) FACE_PEEK_ADDR_ADDR + 1) % 2 ^ 22 ∧
        t.faces = s.faces))) ∧
  (∀ (s : State) (sp : Space) (g n w a : Nat), faceAssigned g = true →
    Reached s sp (facePg g * 0x1000 + 0xC4) (facePg g) 0xC4 .face → (s.faceAt g).secret = false →
    a = 4 * getF s (facePg g) FACE_PEEK_ADDR_ADDR →
    (getF s (facePg g) FACE_PEEK_ADDR_SPACE ≠ 0 → Completes (.peekDataRead sp g ⟨n, none⟩) s (fun t => t.faces = s.faces ∧
      t.bus = busDone sp (facePg g * 0x1000 + 0xC4) ((s.faceAt g).peekWord (getF s (facePg g) FACE_PEEK_ADDR_SPACE) a) ∧
      getF t (facePg g) FACE_PEEK_ADDR_ADDR = (getF s (facePg g) FACE_PEEK_ADDR_ADDR + 1) % 2 ^ 22)) ∧
    (getF s (facePg g) FACE_PEEK_ADDR_SPACE = 0 → a + 4 ≤ sramSize →
      Completes (.peekDataRead sp g ⟨n, some w⟩) s (fun t => ∃ u v, u.faces = s.faces ∧
        t = { faceStop u g noRecord 0x43 6 a with bus := busDone sp (facePg g * 0x1000 + 0xC4) v }))) ∧
  (∀ (s : State) (sp : Space) (g : Nat) (v : Word), faceAssigned g = true →
    Taken s sp (facePg g * 0x1000 + 0xC4) v.toNat (facePg g) 0xC4 .face →
    4 * getF s (facePg g) FACE_PEEK_ADDR_ADDR + 4 ≤ sramSize →
    Completes (.peekDataWrite sp g v) s (fun t =>
      (t.faceAt g).sram = mputs (s.faceAt g).sram (4 * getF s (facePg g) FACE_PEEK_ADDR_ADDR) (leBytes 4 v.toNat) ∧
      getF t (facePg g) FACE_PEEK_ADDR_ADDR = (getF s (facePg g) FACE_PEEK_ADDR_ADDR + 1) % 2 ^ 22 ∧
      t.bus = busDone sp (facePg g * 0x1000 + 0xC4) 0)) ∧
  (∀ (s : State) (sp : Space) (addr size r off errs : Nat) (fate : Fate), canAccess s sp = true → target sp addr = .aperture r off →
    judge s sp addr ⟨size, 2 ^ size - 1, fate⟩ = .ok →
    Completes (.apertureRead sp addr size errs fate) s (fun t => (t.bed r).bytes = (s.bed r).bytes ∧
      (hostMay s r (apertureAddr s r off) size 3 = true →
        t.bus = busDone sp addr (leNum (mbytes (s.bed r).bytes (apertureAddr s r off) size))) ∧
      (hostMay s r (apertureAddr s r off) size 3 = false → t.bus = busDone sp addr 0))) ∧
  (∀ (s : State) (sp : Space) (addr size r off : Nat) (data : List Nat) (fate : Fate), canAccess s sp = true →
    target sp addr = .aperture r off → judge s sp addr ⟨size, 2 ^ size - 1, fate⟩ = .ok →
    Completes (.apertureWrite sp addr size data fate) s (fun t => t.bus = busDone sp addr 0 ∧
      (hostMay s r (apertureAddr s r off) size 4 = true →
        (∀ i, i < size → mbyte (t.bed r).bytes (apertureAddr s r off + i) = data.getD i 0 % 256) ∧
        ∀ b, b < apertureAddr s r off ∨ apertureAddr s r off + size ≤ b →
          mbyte (t.bed r).bytes b = mbyte (s.bed r).bytes b) ∧
      (hostMay s r (apertureAddr s r off) size 4 = false → t.beds = s.beds)))

/-- Training and failure of a link.
Where it rests on the model's readings or choices, this is log entry 61. -/
def Obligations.LinkTraining : Prop :=
  (∀ (s : State) (k lanes : Nat) (two : Bool), awaitsLanes s k = true →
    Completes (.lanePllLock k lanes two) s (fun t =>
      (provisioned s = false → t = setLinkState s k 6) ∧
      (provisioned s = true → lanes % 16 = 15 →
        linkState t k = (if linkState s k = 0 then 1 else linkState s k) ∧ getF t (aditPg k) ADIT_LINK_STATE_LANES = 3 ∧
        Only [.fields] s t) ∧
      (provisioned s = true → usableLanes lanes (two && flagF s (aditPg k) ADIT_LINK_CFG_TWO_LANE) = 0 →
        (t.link k).retry = true ∧ getF t (aditPg k) ADIT_LINK_STATE_LANES = 0 ∧ Only [.fields, .links] s t))) ∧
  (∀ (s : State) (k peer : Nat) (pf : Bool), linkOn s k = true → (s.link k).retry = false → provisioned s = true →
    getF s (aditPg k) ADIT_LINK_STATE_LANES ≠ 0 →
    (linkState s k = 1 ∨ (linkState s k = 4 ∧ getF s (aditPg k) ADIT_PEER_ID = peer % 2 ^ 64)) →
    Completes (.linkUp k peer pf) s (fun t => linkState t k = 2 ∧ getF t (aditPg k) ADIT_PEER_ID = peer % 2 ^ 64 ∧
      (flagF s (aditPg k) ADIT_LINK_CFG_ROLE ≠ pf →
        flagF t (aditPg k) ADIT_LINK_STATE_ROLE_ACT = flagF s (aditPg k) ADIT_LINK_CFG_ROLE) ∧
      (flagF s (aditPg k) ADIT_LINK_CFG_ROLE = pf → getF t (aditPg k) ADIT_LINK_STATE_ROLE_ADJUSTED = 1 ∧
        flagF t (aditPg k) ADIT_LINK_STATE_ROLE_ACT = !decide (linkId k < peer % 2 ^ 64)) ∧
      ∀ c, c < 4 → getF t (aditPg k) (creditFld c) = 512 - (s.link k).unacked c)) ∧
  (∀ (s : State) (k peer : Nat) (pf : Bool), linkOn s k = true → (s.link k).retry = false → provisioned s = true →
    getF s (aditPg k) ADIT_LINK_STATE_LANES ≠ 0 → linkState s k = 4 → getF s (aditPg k) ADIT_PEER_ID ≠ peer % 2 ^ 64 →
    Completes (.linkUp k peer pf) s (fun t => ∃ u, Only [.fields] s u ∧ t = linkFailed u k)) ∧
  (∀ (s : State) (k : Nat), linkOn s k = true → linkState s k = 1 ∨ linkState s k = 4 → (s.link k).retry = false →
    Completes (.trainingAttemptFail k) s (fun t => (t.link k).retry = true ∧
      getF t (aditPg k) ADIT_TRAIN_TRAIN_FAILS = (getF s (aditPg k) ADIT_TRAIN_TRAIN_FAILS + 1) % 65536 ∧
      getF t (aditPg k) ADIT_LINK_STATE_LANES = 0 ∧ Only [.fields, .links] s t)) ∧
  (∀ (s : State) (k : Nat), linkOn s k = true → (s.link k).retry = true →
    flagF s (aditPg k) CTRL_EN = true →
    Completes (.trainRetry k) s (fun t => (t.link k).retry = false ∧
      linkState t k = (if linkState s k = 4 then 4 else if provisioned s then 1 else 6) ∧ Only [.fields, .links] s t)) ∧
  (∀ (s : State) (k stamp : Nat), linkOn s k = true → linkState s k ∈ [1, 2, 3, 4] →
    Completes (.probe k stamp) s (fun t => (t.link k).ctl = (s.link k).ctl ++ [.echo (stamp % 2 ^ 64)] ∧ Only [.links] s t)) ∧
  (∀ (s : State) (k ns : Nat), linkOn s k = true → linkState s k ∈ [1, 2, 3, 4] →
    Completes (.echo k ns) s (fun t =>
      (ns ≤ 2000 ∨ linkPasses s k = true → getF t (aditPg k) ADIT_DELAY_NS = min ns 65535 ∧ Only [.fields] s t) ∧
      (2000 < ns → linkPasses s k = false → (t.link k).retry = true ∧ getF t (aditPg k) ADIT_LINK_STATE_LANES = 0))) ∧
  (∀ (s : State) (k : Nat) (auth : Bool), linkOn s k = true → linkPasses s k = true →
    Completes (.linkHold k auth) s (fun t => linkState t k = 4 ∧ (t.link k).swap = none ∧ (t.link k).retry = false ∧
      getF t (aditPg k) ADIT_LINK_STATE_LANES = 0 ∧ (t.link k).jobs = (s.link k).jobs ∧ (t.link k).ops = (s.link k).ops)) ∧
  (∀ (s : State) (k : Nat), linkOn s k = true → linkState s k = 4 →
    Completes (.holdTimeout k) s (fun t =>
      ((s.link k).jobs = [] → (s.link k).ops = [] → linkState t k = 5 ∧ (t.link k).retry = true ∧ (t.link k).tx = []) ∧
      ∃ u, linkState u k = 5 ∧ (u.link k).swap = none ∧ (u.link k).cut = (s.link k).jobs.map (·.2.1) ∧
        (u.link k).jobs = (s.link k).jobs ∧
        t = reselectTime ((failRems (((u.link k).jobs.map (·.2.2)).foldl (fun s j => jobStop s j 0x14 k 0xFFFF) u) k
          (fun _ => true) 4).updLink k (fun l => { clearLink l with retry := true }))))

/-- Frames of a link.
Where it rests on the model's readings or choices, these are log entries 60, 62, 63. -/
def Obligations.LinkFrames : Prop :=
  (∀ (s : State) (k : Nat), linkOn s k = true → flagF s (aditPg k) CTRL_EN = false →
    Completes (.linkFrameSend k) s (fun t => flagF t (aditPg k) STATUS_ENABLED = false)) ∧
  (∀ (s : State) (k : Nat), linkOn s k = true → linkPasses s k = true → getF s (aditPg k) COMMIT_ARMED = 0 →
    flagF s (aditPg k) CTRL_EN = true →
    Completes (.linkFrameSend k) s (fun t =>
      (4095 ≤ (s.link k).sinceIdle → (t.link k).out = (s.link k).out ++
        [.idle (tget 0 (s.link k).ctr 0) (ackOf (s.link k))] ∧ (t.link k).sinceIdle = 0 ∧ Only [.links] s t) ∧
      ((s.link k).sinceIdle < 4095 →
        (∀ op rest, (s.link k).ctl = op :: rest → (t.link k).ctl = rest ∧ (t.link k).out = (s.link k).out ++
          [.control op (tget 0 (s.link k).ctr 0) (ackOf (s.link k))] ∧ Only [.links] s t) ∧
        ((s.link k).ctl = [] → (s.link k).tx = [] → (s.link k).sent = [] → (t.link k).out = (s.link k).out ++
          [.idle (tget 0 (s.link k).ctr 0) (ackOf (s.link k))] ∧ Only [.links] s t) ∧
        (∀ x, (s.link k).ctl = [] → nextOf s k 0 = some (x, true) →
          (t.link k).out = (s.link k).out ++ [.data x.frame x.ctr x.ack] ∧ Only [.fields, .links] s t) ∧
        (∀ x, (s.link k).ctl = [] → nextOf s k 0 = some (x, false) → (t.link k).out = (s.link k).out ++
          [.data { x.frame with seq := tget 0 (s.link k).nextSeq 0 } (tget 0 (s.link k).ctr x.frame.tag) (ackOf (s.link k))] ∧
          getF t (aditPg k) ADIT_CREDITS_01_C0 = (getF s (aditPg k) ADIT_CREDITS_01_C0 - 1) % 1024 ∧
          tget 0 (t.link k).nextSeq 0 = (tget 0 (s.link k).nextSeq 0 + 1) % 65536 ∧ Only [.fields, .links] s t)))) ∧
  (∀ (s : State) (k : Nat), linkOn s k = true → linkPasses s k = true →
    flagF s (aditPg k) ADIT_LINK_STATE_ROLE_ACT = false →
    Completes (.timeSend k) s (fun t => (t.link k).ctl = (s.link k).ctl ++ [.time (cabTime s)] ∧ Only [.links] s t)) ∧
  (∀ (s : State) (k want : Nat) (f : DataFrame) (ack : LinkAck) (ok : Bool), linkOn s k = true → linkPasses s k = true →
    want = tget 0 (s.link k).rxNext (f.cls % 4) →
    Completes (.dataFrame k f ack false ok) s (fun t =>
      (t.link k).ctl = (s.link k).ctl ++ [.nak (f.cls % 4) want] ∧ Only [.links] s t)) ∧
  (∀ (s : State) (k want : Nat) (f : DataFrame) (ack : LinkAck) (ok : Bool), linkOn s k = true → linkPasses s k = true →
    want = tget 0 (s.link k).rxNext (f.cls % 4) → f.seq % 65536 ≠ want →
    covered ((want + 65535) % 65536) (f.seq % 65536) = false →
    Completes (.dataFrame k f ack true ok) s (fun t =>
      (t.link k).ctl = (s.link k).ctl ++ [.nak (f.cls % 4) want] ∧ (t.link k).rxNext = (s.link k).rxNext ∧
      Only [.fields, .links] s t)) ∧
  (∀ (s : State) (k : Nat) (f : DataFrame) (ack : LinkAck) (ok : Bool), linkOn s k = true → linkPasses s k = true →
    f.seq % 65536 = tget 0 (s.link k).rxNext (f.cls % 4) → (s.link k).jobOf f.tag = none →
    Completes (.dataFrame k f ack true ok) s (fun t =>
      (t.link k).ctl = (s.link k).ctl ++ [.reject f.tag (f.cls % 4) (f.seq % 65536) 1] ∧
      tget 0 (t.link k).rxNext (f.cls % 4) = (f.seq % 65536 + 1) % 65536 ∧ Only [.fields, .links] s t)) ∧
  (∀ (s : State) (k j face addr : Nat) (bs : List Nat) (spoil : Bool) (f : DataFrame) (ack : LinkAck), linkOn s k = true →
    linkPasses s k = true → f.seq % 65536 = tget 0 (s.link k).rxNext (f.cls % 4) → (s.link k).jobOf f.tag = some j →
    (s.link k).cut.contains f.tag = false → f.op = .copy face addr bs spoil →
    Completes (.dataFrame k f ack true true) s (fun t =>
      tget 0 (t.link k).rxNext (f.cls % 4) = (f.seq % 65536 + 1) % 65536 ∧
      ∀ mine reach answered, mine = (s.job j).cut.any (fun c => c.face == face) →
        reach = (backed s face && inRun s (faceRegion face) && route s (aditRegion k) (faceRegion face) != HOP_DEAD &&
          addr + bs.length ≤ sramSize) →
        answered = (fun code => (t.link k).tx = (s.link k).tx ++ [⟨⟨0, 0, (s.job j).rank, f.tag,
          getF s wbPg WB_EPOCH % 65536, f.face % 4096, f.opId, .status code⟩, 0, false, ⟨0, 0, 0⟩⟩]) →
        (mine = false → answered 2 ∧ t.faces = s.faces) ∧ (mine = true → reach = false → answered 3 ∧ t.faces = s.faces) ∧
        (mine = true → reach = true → faceRegion face = aditRegion k → (s.faceAt face).dead = false →
          answered 0 ∧ (t.faceAt face).sram = mputs (s.faceAt face).sram addr bs) ∧
        (mine = true → reach = true → faceRegion face ≠ aditRegion k →
          t.faces = s.faces ∧ t.road.packets = s.road.packets ++ [⟨f.cls % 4, aditRegion k, faceRegion face, aditRegion k,
            getF s wbPg WB_EPOCH, .toFace (.adit k f.tag (f.face % 4096) f.opId) face
              ⟨addr, bs, if spoil then [(0, bs.length)] else []⟩⟩]))) ∧
  (∀ (s : State) (k j r obj sub val : Nat) (f : DataFrame) (ack : LinkAck) (op : SyncOp), linkOn s k = true →
    linkPasses s k = true → f.seq % 65536 = tget 0 (s.link k).rxNext (f.cls % 4) → (s.link k).jobOf f.tag = some j →
    (s.link k).cut.contains f.tag = false → f.op = .signal r obj sub val →
    op = ⟨obj % 256, signalSub sub, val % 2 ^ 32, .adit k j (f.rank % 16 * 4096 + f.face % 4096) f.opId, 0⟩ →
    Completes (.dataFrame k f ack true true) s (fun t =>
      (r = aditRegion k → (t.sync r).arrivals = (s.sync r).arrivals ++ [op] ∧ Only [.fields, .links, .syncs] s t) ∧
      (r ≠ aditRegion k → inRun s r = true → route s (aditRegion k) r ≠ HOP_DEAD → Only [.fields, .links, .road] s t ∧
        t.road.packets = s.road.packets ++
          [⟨f.cls % 4, aditRegion k, r, aditRegion k, getF s wbPg WB_EPOCH, .sync op⟩]))) ∧
  (∀ (s : State) (k : Nat) (ack : LinkAck), linkOn s k = true → linkPasses s k = true →
    Completes (.idleFrame k ack) s (fun t =>
      getF t (aditPg k) (creditFld (ack.cls % 4)) = min (getF s (aditPg k) (creditFld (ack.cls % 4)) + ack.credits) 512 ∧
      (t.link k).sent = (s.link k).sent.filter
        (fun x => !(x.frame.cls == ack.cls % 4 && covered (ack.ack % 65536) x.frame.seq)) ∧ Only [.fields, .links] s t)) ∧
  (∀ (s : State) (k cls seq : Nat) (ack : LinkAck), linkOn s k = true → linkPasses s k = true →
    (s.link k).naks ≠ (cls % 4, seq % 65536, (s.link k).naks.2.2) →
    Completes (.nak k cls seq ack) s (fun t => (∀ x ∈ (t.link k).sent, x.frame.cls = cls % 4 → x.again = true) ∧
      (t.link k).naks = (cls % 4, seq % 65536, 1) ∧
      getF t (aditPg k) ADIT_ERRORS_REPLAYS = (getF s (aditPg k) ADIT_ERRORS_REPLAYS + 1) % 65536 ∧
      linkState t k = linkState s k)) ∧
  (∀ (s : State) (k cls seq n : Nat) (ack : LinkAck), linkOn s k = true → linkPasses s k = true →
    (s.link k).naks = (cls % 4, seq % 65536, n) → 3 ≤ n → Completes (.nak k cls seq ack) s (fun t => linkState t k = 4)) ∧
  (∀ (s : State) (k tag cls seq : Nat) (ack : LinkAck) (o : RemOp) (i : Issued), linkOn s k = true → linkPasses s k = true →
    o.g < 3200 → (s.link k).ops = [o] → o.tag = tag → (cls, seq) ∈ o.seqs → remIssue s o = some i →
    Completes (.reject k tag cls seq 1 ack) s (fun t =>
      (i.record.family = 2 → (t.link k).ops = [] ∧
        (t.faceAt o.g).issued = (s.faceAt o.g).issued.map (fun y => if y.id = o.recId then { y with st := .done } else y) ∧
        getF t (hoistPg o.g) HOIST_LAST_FAIL_STATUS = 3) ∧
      (i.record.family ≠ 2 → ∃ u, (u.link k).ops = [] ∧ Only [.fields, .links] s u ∧ t = syncFail u o.g o.recId 3))) ∧
  (∀ (s : State) (k v : Nat) (ack : LinkAck), linkOn s k = true → linkPasses s k = true →
    flagF s (aditPg k) ADIT_LINK_STATE_ROLE_ACT = true →
    Completes (.time k v ack) s (fun t => (t.link k).timed = true ∧ getF t (aditPg k) ADIT_OFFSET =
        (v % 2 ^ 64 + nsTo256 (getF s (aditPg k) ADIT_DELAY_NS) + 2 ^ 64 - s.time * 256 % 2 ^ 64) % 2 ^ 64 ∧
      (s.cab.src = some k → t.cab.offset = getF t (aditPg k) ADIT_OFFSET)))

/-- Swaps.
Where it rests on the model's readings or choices, this is log entry 61. -/
def Obligations.LinkSwaps : Prop :=
  (∀ (s : State) (sp : Space) (k : Nat) (v : Word), k < 4 → bit v.toNat 0 = true →
    Taken s sp (aditPg k * 0x1000 + 0x5C) v.toNat (aditPg k) 0x5C .adit →
    Completes (.roleSwap sp k v) s (fun t => linkState t k = 3 ∧ getF t (aditPg k) ADIT_ROLE_CMD_BUSY = 1 ∧
      (t.link k).swap = some ⟨true, false⟩ ∧ (t.link k).ctl = (s.link k).ctl ++ [.swapReq (linkId k)] ∧
      Only [.fields, .links, .bus] s t)) ∧
  (∀ (s : State) (k id : Nat) (ack : LinkAck), linkOn s k = true → linkPasses s k = true →
    Completes (.swapReq k id ack) s (fun t =>
      ((s.link k).swap = none → (t.link k).swap = some ⟨false, true⟩ ∧ linkState t k = 3 ∧
        (t.link k).ctl = (s.link k).ctl ++ [.swapAck]) ∧
      ((s.link k).swap = some ⟨true, false⟩ → linkId k < id % 2 ^ 64 → (t.link k).swap = (s.link k).swap ∧
        (t.link k).ctl = (s.link k).ctl) ∧
      ((s.link k).swap = some ⟨true, false⟩ → id % 2 ^ 64 < linkId k → (t.link k).swap = some ⟨false, true⟩ ∧
        (t.link k).ctl = (s.link k).ctl ++ [.swapAck] ∧ getF t (aditPg k) ADIT_LINK_STATE_SWAP_COLLIDED = 1) ∧
      ((s.link k).swap = some ⟨true, false⟩ → id % 2 ^ 64 = linkId k → (t.link k).swap = none ∧ linkState t k = 2 ∧
        (t.link k).ctl = (s.link k).ctl ++ [.swapAbort 1] ∧ getF t (aditPg k) ADIT_LINK_STATE_ID_EQUAL = 1))) ∧
  (∀ (s : State) (k id : Nat) (ack : LinkAck) (w : SwapSt), linkOn s k = true → linkPasses s k = true →
    (s.link k).swap = some w → w.requester = false ∨ w.paused = true →
    Completes (.swapReq k id ack) s (fun t => (t.link k).swap = some w ∧ (t.link k).ctl = (s.link k).ctl ∧
      Only [.fields, .links] s t)) ∧
  (∀ (s : State) (k : Nat) (ack : LinkAck) (w : SwapSt), linkOn s k = true → linkPasses s k = true →
    (s.link k).swap = some w → w.requester = true →
    Completes (.swapAck k ack) s (fun t => (t.link k).swap = some ⟨true, true⟩ ∧ (t.link k).ctl = (s.link k).ctl ∧
      Only [.fields, .links] s t)) ∧
  (∀ (s : State) (k : Nat) (ack : LinkAck) (w : SwapSt), linkOn s k = true → linkPasses s k = true →
    (s.link k).swap = some w → w.requester = false →
    Completes (.swapDone k ack) s (fun t => linkState t k = 2 ∧ (t.link k).swap = none ∧
      flagF t (aditPg k) ADIT_LINK_STATE_ROLE_ACT = !flagF s (aditPg k) ADIT_LINK_STATE_ROLE_ACT ∧
      flagF t (aditPg k) ADIT_LINK_CFG_ROLE = !flagF s (aditPg k) ADIT_LINK_STATE_ROLE_ACT ∧
      getF t (aditPg k) ADIT_ROLE_CMD_BUSY = 0)) ∧
  (∀ (s : State) (k reason : Nat) (ack : LinkAck), linkOn s k = true → linkPasses s k = true →
    (s.link k).swap.isSome = true →
    Completes (.swapAbort k reason ack) s (fun t => linkState t k = 2 ∧ (t.link k).swap = none ∧
      getF t (aditPg k) ADIT_ROLE_CMD_BUSY = 0 ∧
      flagF t (aditPg k) ADIT_LINK_STATE_ROLE_ACT = flagF s (aditPg k) ADIT_LINK_STATE_ROLE_ACT)) ∧
  (∀ (s : State) (k : Nat), linkOn s k = true → (s.link k).swap = some ⟨true, true⟩ → (s.link k).drained = true →
    Completes (.swapDrained k) s (fun t => linkState t k = 2 ∧ (t.link k).swap = none ∧
      (t.link k).ctl = (s.link k).ctl ++ [.swapDone] ∧
      flagF t (aditPg k) ADIT_LINK_STATE_ROLE_ACT = !flagF s (aditPg k) ADIT_LINK_STATE_ROLE_ACT ∧
      flagF t (aditPg k) ADIT_LINK_CFG_ROLE = !flagF s (aditPg k) ADIT_LINK_STATE_ROLE_ACT)) ∧
  (∀ (s : State) (k : Nat), linkOn s k = true → (s.link k).paused = true → (s.link k).drained = false →
    Completes (.swapDrainTimeout k) s (fun t => linkState t k = 2 ∧ (t.link k).swap = none ∧
      (t.link k).ctl = (s.link k).ctl ++ [.swapAbort 2])) ∧
  (∀ (s : State) (k j tag : Nat), k < 4 → (s.link k).tagOf j = some tag → (s.job j).state = .retiring →
    (s.job j).step = 4 → linkHasFrames s k tag = false →
    Completes (.linkJobEntryRemove k j) s (fun t => (t.link k).jobs = (s.link k).jobs.filter (fun e => e.2.2 != j) ∧
      (t.link k).tagOf j = none))

/-- Jobs begin.
Where it rests on the model's readings or choices, these are log entries 64, 65, 66. -/
def Obligations.JobBeginnings : Prop :=
  (∀ (s : State) (q : Nat) (v : Word), q < 64 → canAccess s .bar2 = true →
    Completes (.submitLo q v) s (fun t => getF t (bar2Pg q) SUBMIT_LO = v.toNat ∧ t.bus = busDone .bar2 (q * 0x1000) 0 ∧
      Only [.fields, .bus] s t)) ∧
  (∀ (s : State) (q a : Nat) (v : Word), q < 64 → canAccess s .bar2 = true →
    a = getF s (bar2Pg q) SUBMIT_LO + v.toNat * 2 ^ 32 →
    Completes (.submitHi q v) s (fun t => getF t (bar2Pg q) SUBMIT_RESULT = submitResult s q a ∧
      getF t (bar2Pg q) SUBMIT_SEQ = (getF s (bar2Pg q) SUBMIT_SEQ + 1) % 65536 ∧
      pendOf t q = (if submitResult s q a = 1 then pendOf s q ++ [a] else pendOf s q))) ∧
  (∀ (s : State) (q j : Nat) (d : DescRead) (x : JobSt), fetchQueue s = some q → freeJob s = some j → jobsOn s = true →
    x = parseJob d q ((pendOf s q).headD 0) s.host.nextOrder s.time →
    Completes (.descriptorFetch d) s (fun t => pendOf t q = (pendOf s q).drop 1 ∧
      (∀ i, d.fail = some i → (t.job j).stop = some ⟨7, Config.dmaDetail i % 65536, 0xFFFF⟩ ∧
        (t.job j).state = .retiring ∧ (t.job j).step = 6) ∧
      (d.fail = none → jobFault d x = none → cutInvalid s x = none → t.job j = x) ∧
      (∀ o, d.fail = none → jobFault d x = some o → (t.job j).stop = some ⟨1, o % 65536, 0xFFFF⟩ ∧ (t.job j).state = .retiring ∧
        (t.job j).step = 6) ∧
      (∀ g, d.fail = none → jobFault d x = none → cutInvalid s x = some g → (t.job j).stop = some ⟨2, 0, g⟩ ∧
        (t.job j).state = .retiring))) ∧
  (∀ (s : State) (j : Nat), (s.job j).state = .waiting → jobsOn s = true →
    Completes (.admission j) s (fun t =>
      (cutInvalid s (s.job j) = none → cutFree s (s.job j) = true → cutBehind s j = false → eraseHolds s = false →
        t = admitBegin s j) ∧
      (cutInvalid s (s.job j) = none → cutFree s (s.job j) = false ∨ cutBehind s j = true ∨ eraseHolds s = true → t = s) ∧
      (∀ g, cutInvalid s (s.job j) = some g → (s.job j).stop = none → (t.job j).stop = some ⟨2, 0, g⟩ ∧
        (t.job j).state = .retiring))) ∧
  (∀ (s : State) (j : Nat), (s.job j).state = .waiting → (s.job j).waitMs ≠ 0 → (s.job j).stop = none →
    Completes (.admitTimeout j) s (fun t => (t.job j).stop = some ⟨3, 0, 0xFFFF⟩ ∧ (t.job j).state = .retiring ∧
      (t.job j).step = 6)) ∧
  (∀ (s : State) (j : Nat) (m : RangeEnt) (data : List Nat), (s.job j).images[(s.job j).item]? = some m →
    admitAt s j 4 = true → inRun s m.region = true →
    Completes (.imageCopy j data false) s (fun t => ∀ i, i < m.len →
      mbyte (t.bed m.region).bytes (m.bedAddr + i) = data.getD i 0 % 256)) ∧
  (∀ (s : State) (j : Nat) (m : RangeEnt) (data : List Nat), (s.job j).images[(s.job j).item]? = some m →
    admitAt s j 4 = true → (s.job j).stop = none → inRun s m.region = false →
    Completes (.imageCopy j data false) s (fun t => (t.job j).stop = some ⟨9, (s.job j).item, 0xFFFF⟩ ∧ t.beds = s.beds)) ∧
  (∀ (s : State) (j : Nat) (m : RangeEnt) (data : List Nat), (s.job j).images[(s.job j).item]? = some m →
    admitAt s j 4 = true → (s.job j).stop = none →
    Completes (.imageCopy j data true) s (fun t => (t.job j).stop = some ⟨7, (s.job j).item, 0xFFFF⟩ ∧ t.beds = s.beds)) ∧
  (∀ (s : State) (q : Nat) (v : Word), q < 64 → canAccess s .bar2 = true →
    Completes (.cqHeadWrite q v) s (fun t => getF t (bar2Pg q) CQ_HEAD =
      (if headFits (getF s (bar2Pg q) CQ_HEAD) (v.toNat % 65536) (getF s (bar2Pg q) CQ_TAIL) then v.toNat % 65536
       else getF s (bar2Pg q) CQ_HEAD) ∧ Only [.fields, .bus] s t)) ∧
  (∀ (s : State) (v : Word), canAccess s .bar2 = true →
    Completes (.evqHeadWrite v) s (fun t => getF t evqPg EVQ_HEAD =
      (if headFits (getF s evqPg EVQ_HEAD) (v.toNat % 65536) (getF s evqPg EVQ_TAIL) then v.toNat % 65536
       else getF s evqPg EVQ_HEAD) ∧ Only [.fields, .bus] s t))

/-- Jobs end.
Where it rests on the model's readings or choices, these are log entries 67, 68, 88. -/
def Obligations.JobEndings : Prop :=
  (∀ (s : State) (sp : Space) (j : Nat) (v : Word), bit v.toNat 12 = true → j = bits v.toNat 0 10 →
    Taken s sp (jobqPg * 0x1000 + 0x54) v.toNat jobqPg 0x54 .jobq → (s.job j).stop = none →
    Completes (.jobStop sp v) s (fun t => t.bus = busDone sp (jobqPg * 0x1000 + 0x54) 0 ∧
      ((s.job j).state = .waiting → (t.job j).stop = some ⟨0x16, 0, 0xFFFF⟩ ∧ (t.job j).state = .retiring ∧
        (t.job j).step = 6) ∧
      ((s.job j).state ≠ .free → (s.job j).state ≠ .retiring → (t.job j).stop = some ⟨0x16, 0, 0xFFFF⟩) ∧
      ((s.job j).state = .free → Only [.bus] s t))) ∧
  (∀ (s : State) (sp : Space) (q : Nat) (v : Word) (users : List Nat), bit v.toNat 8 = true → q = bits v.toNat 0 6 →
    Taken s sp (jobqPg * 0x1000 + 0x58) v.toNat jobqPg 0x58 .jobq → (pendOf s q).length ≤ users.length →
    Completes (.queueFlush sp v users) s (fun t => pendOf t q = [] ∧ t.host.doneSubs = s.host.doneSubs ++
      (users.take (pendOf s q).length).map (fun u => (q, u % 2 ^ 64, 0x08, 0, 0xFFFF)) ∧ Only [.jobs, .bus] s t)) ∧
  (∀ (s : State) (j : Nat) (m : RangeEnt) (errs : List (Nat × Nat × Nat)), (s.job j).state = .retiring → (s.job j).step = 2 →
    s.host.linkUp = true → (s.job j).outs = [m] → inRun s m.region = true →
    Completes (.outputCopy j errs none) s (fun t => ∃ u, (u.job j).step = 3 ∧ t = retireOn u j ∧
      ∀ i, i < m.len → mbyte u.host.mem (m.hostAddr + i) = mbyte (s.bed m.region).bytes (m.bedAddr + i))) ∧
  (∀ (s : State), flagF s wbPg WB_CLAIM_FENCE_DRAINED = false → fenceClear s = true →
    Completes .claimFenceDrained s (fun t => getF t wbPg WB_CLAIM_FENCE_DRAINED = 1 ∧
      getF t wbPg WB_CLAIM_FENCE_OLDEST = getF s wbPg WB_EPOCH % 65536 ∧
      ∀ j, (s.job j).state = .retiring → (s.job j).step = 5 → (t.job j).step = 6)) ∧
  (∀ (s : State) (q j tail size : Nat), j < 1024 → q < 64 → (s.job j).state = .retiring → (s.job j).step = 6 →
    (s.job j).queue = q → tail = getF s (bar2Pg q) CQ_TAIL → size = qCfg s q JOBQ_QCFG_CQ_SIZE →
    Completes (.completionWrite q j) s (fun t =>
      ((s.job j).silent = true → t.job j = JobSt.reset ∧ t.host.mem = s.host.mem) ∧
      ((s.job j).silent = false → ringFull s q = false → t.job j = JobSt.reset ∧
        getF t (bar2Pg q) CQ_TAIL = (tail + 1) % 65536 ∧
        t.host.mem = mputs s.host.mem (getF s jobqPg (JOBQ_CQ_BASE.ix q) + tail % 2 ^ size * 32)
          (jobRecord s j (ringPhase tail size))) ∧
      ((s.job j).silent = false → ringFull s q = true → t.job j = s.job j ∧
        getF t (bar2Pg q) CQ_TAIL = tail))) ∧
  (∀ (s : State) (q j : Nat) (d : Nat × Nat × Nat × Nat × Nat), 1024 ≤ j → q < 64 → s.host.linkUp = true →
    s.host.doneSubs.find? (fun d => d.1 == q) = some d → ringFull s q = false →
    Completes (.completionWrite q j) s (fun t => t.host.doneSubs.length + 1 = s.host.doneSubs.length ∧
      getF t (bar2Pg q) CQ_TAIL = (getF s (bar2Pg q) CQ_TAIL + 1) % 65536 ∧ t.host.jobs = s.host.jobs)) ∧
  (∀ (s : State) (j : Nat), (s.job j).state = .respawning →
    (s.job j).cut.any (fun c => (s.faceAt c.face).scanning) = false →
    Completes (.respawn j) s (fun t =>
      (respawns s j = false → t = retireJob s j) ∧
      (∀ slot, respawns s j = true → ckptSelect s j = some slot → (respawnSyncs s j slot).2 = false →
        t = retireJob (respawnSyncs s j slot).1 j) ∧
      (∀ slot, respawns s j = true → ckptSelect s j = some slot → (respawnSyncs s j slot).2 = true →
        (t.job j).state = .running ∧ (t.job j).stop = none ∧ (t.job j).respawns = (s.job j).respawns + 1 ∧
        ∀ c ∈ (s.job j).sorted, RingMsg.start c.face j c.model (some (ckptContext (respawnSyncs s j slot).1 j slot c.face)) ∈
          t.ring)))

/-- The weighbridge.
Where it rests on the model's readings or choices, these are log entries 13, 71, 72, 82. -/
def Obligations.Weighbridge : Prop :=
  (∀ (s : State) (c : Space → Instr) (n : Nat) (sp : Space),
    (c, n) ∈ [(Instr.getCert, 1), (.moduleTicket, 2), (.jobTicket, 3), (.partList, 4), (.partDelete, 5), (.zeroise, 6),
      (.selfTest, 7)] →
    Taken s sp (wbPg * 0x1000 + 0x40) (0x100 + n) wbPg 0x40 .wb →
    Completes (c sp) s (fun t => ∃ u m, getF u wbPg WB_MB_STATUS_BUSY = 1 ∧ getF u wbPg WB_MB_STATUS_RESULT = 0 ∧
      getF u wbPg WB_MB_STATUS_REASON = 0 ∧ getF u wbPg WB_MB_STATUS_LEN = 0 ∧ Only [.fields, .wb] s u ∧
      u.wb.mb = some m ∧ m.op = n ∧ m.host = (sp != .banksman) ∧ m.args = [mbArg s 0, mbArg s 1, mbArg s 2] ∧
      (m.result, m.reason) = mbJudge s n (sp != .banksman) ∧
      t = { (if m.result = 0 then mbStart u n else u) with bus := busDone sp (wbPg * 0x1000 + 0x40) 0 })) ∧
  (∀ (s : State) (failed : Nat) (m : MbCmd), s.wb.mb = some m → mbReady s m = true →
    Completes (.mbDone failed) s (fun t => t.wb.mb = none ∧ getF t wbPg WB_MB_STATUS_BUSY = 0 ∧
      (m.result ≠ 0 → getF t wbPg WB_MB_STATUS_RESULT = m.result % 8 ∧ getF t wbPg WB_MB_STATUS_REASON = m.reason % 256 ∧
        t.wb.parts = s.wb.parts ∧ t.beds = s.beds) ∧
      (m.result = 0 → m.op = 1 → getF t wbPg WB_MB_STATUS_RESULT = 1 ∧ t.wb.parts = s.wb.parts ∧
        getF t wbPg WB_MB_STATUS_LEN = min 3840 (Config.certificate (m.args.getD 0 0) s.wb.enrolCount).length) ∧
      (∀ p, m.result = 0 → m.op = 4 → tfind s.wb.parts (m.args.getD 0 0) = some p →
        getF t wbPg WB_MB_STATUS_RESULT = 1 ∧ t.wb.parts = s.wb.parts ∧ getF t wbPg WB_MB_STATUS_LEN =
          min 3840 (Config.partEntry p.region p.base p.len (p.digest % 2 ^ 128)).length) ∧
      (∀ p, m.result = 0 → m.op = 5 → tfind s.wb.parts (m.args.getD 0 0) = some p →
        getF t wbPg WB_MB_STATUS_RESULT = 1 ∧ tfind t.wb.parts (m.args.getD 0 0) = none ∧
        (inRun s p.region = false → t.wb.owed = s.wb.owed ++ [p])) ∧
      (m.result = 0 → m.op = 6 → getF t wbPg WB_MB_STATUS_RESULT = 1) ∧
      (m.result = 0 → m.op = 7 → failed % 65536 = 0 → getF t wbPg WB_MB_STATUS_RESULT = 1 ∧ t.wb.error = s.wb.error) ∧
      (m.result = 0 → m.op = 7 → failed % 65536 ≠ 0 → getF t wbPg WB_MB_STATUS_RESULT = 2 ∧
        getF t wbPg WB_MB_STATUS_REASON = 4 ∧ t.wb.error = true ∧ getF t wbPg WB_SELFTEST_FAILED = failed % 65536))) ∧
  (∀ (s : State) (j : Nat), admitAt s j 7 = true → digestsReady s (s.job j) = true →
    Completes (.ticketDone (some j)) s (fun t =>
      (ticketRefusal s ≠ 0 → t = admitFail s j 5 (ticketRefusal s)) ∧
      (ticketRefusal s = 0 → (s.job j).ticketLen < (jobTicketBytes s j (s.job j).ticketNonce).length →
        t = admitFail (useNonces s) j 5 6) ∧
      (ticketRefusal s = 0 → (jobTicketBytes s j (s.job j).ticketNonce).length ≤ (s.job j).ticketLen →
        t = admitGo (admitNext (raise (hostWrite (useNonces s) (s.job j).ticketAddr
          (jobTicketBytes s j (s.job j).ticketNonce)) wbPg 1) j 8) j))) ∧
  (∀ (s : State) (m : MbCmd), s.wb.mb = some m → m.result = 0 → m.op = 2 →
    Completes (.ticketDone none) s (fun t =>
      (ticketRefusal s ≠ 0 → t.wb.mb = some { m with result := 2, reason := ticketRefusal s } ∧ t.host = s.host) ∧
      (ticketRefusal s = 0 → m.addr ≠ 0 → (moduleTicketBytes s m.nonce).length ≤ m.args.getD 2 0 →
        t.wb.mb = some { m with result := 1, reason := 0 } ∧
        t = mbOutcome (raise (hostWrite (useNonces s) m.addr (moduleTicketBytes s m.nonce)) wbPg 1) 1 0) ∧
      (ticketRefusal s = 0 → m.addr = 0 → 3840 < (moduleTicketBytes s m.nonce).length →
        t.wb.mb = some { m with result := 2, reason := 6 } ∧ t.host = s.host) ∧
      (ticketRefusal s = 0 → m.addr = 0 → (moduleTicketBytes s m.nonce).length ≤ 3840 →
        t.wb.mb = some { m with result := 1, reason := 0 } ∧
        getF t wbPg WB_MB_STATUS_LEN = (moduleTicketBytes s m.nonce).length))) ∧
  (∀ (s : State) (m : MbCmd) (j : Nat), s.wb.mb = some m → m.result = 0 → m.op = 3 → j = m.args.getD 0 0 % 1024 →
    digestsReady s (s.job j) = true →
    Completes (.ticketDone none) s (fun t =>
      (ticketRefusal s ≠ 0 → t.wb.mb = some { m with result := 2, reason := ticketRefusal s } ∧ t.host = s.host) ∧
      (ticketRefusal s = 0 → (s.job j).state ≠ .running →
        t.wb.mb = some { m with result := 2, reason := 8 } ∧ t.host = s.host) ∧
      (ticketRefusal s = 0 → (s.job j).state = .running → (jobTicketBytes s j m.nonce).length ≤ m.args.getD 2 0 →
        t = mbOutcome (raise (hostWrite (useNonces s) m.addr (jobTicketBytes s j m.nonce)) wbPg 1) 1 0))) ∧
  (∀ (s : State) (j r model : Nat), inRun s r = true → digestCached s r model = false → j ∈ ticketJobs s →
    (r, model) ∈ digestNeeds s (s.job j) →
    Completes (.modelDigestDone r model true) s (fun t => digestCached t r model = true ∧ Only [.beds] s t ∧
      (t.bed r).bytes = (s.bed r).bytes ∧ ∀ q, q ≠ r → t.bed q = s.bed q)) ∧
  (∀ (s : State) (j r model : Nat) (m : MbCmd), inRun s r = true → digestCached s r model = false → ticketJobs s = [] →
    s.wb.mb = some m → mbTicketJob s = some j → (r, model) ∈ digestNeeds s (s.job j) →
    Completes (.modelDigestDone r model false) s (fun t => t.wb.mb = some { m with result := 2, reason := 10 } ∧
      Only [.wb] s t)) ∧
  (∀ (s : State), s.carrier.vaon = .up →
    Completes .openDap s (fun t =>
      (anyLive s = true ∨ s.wb.erase ≠ none ∨ s.wb.dapOpen = true → getF t dapPg DAP_DAP_STATE_REFUSED_LAST = 1 ∧
        t.wb = (setTap s .opening).wb ∧ Only [.fields, .wb, .hostMemory, .log] s t) ∧
      (anyLive s = false → s.wb.erase = none → s.wb.dapOpen = false → t = eraseBegin (setTap s .opening) true false ∧
        ((∀ k, k < 4 → inRun s (aditRegion k) = false) → partRegions s = [] →
          t.wb.erase = some ⟨true, true, [], false, false⟩ ∧ t.wb.erasePending = true ∧ t.wb.dapOpen = false ∧
          getF t dapPg DAP_DAP_STATE_STATE = 1)))) ∧
  (∀ (s : State) (e : EraseSt), s.wb.erase = some e → zeroReady s e = true →
    Completes .partitionZeroDone s (fun t => t.wb.parts = [] ∧
      t.wb.erase = some { e with zeroing := [], cleared := true } ∧
      (s.wb.parts = [] → t.beds = s.beds ∧ t.wb.owed = s.wb.owed) ∧
      ∀ i p, s.wb.parts = [(i, p)] → (inRun s p.region = false → t.beds = s.beds ∧ t.wb.owed = s.wb.owed ++ [p]) ∧
        (inRun s p.region = true → t.beds = (zeroRange s p.region p.base p.len).beds))) ∧
  (∀ (s : State) (e : EraseSt), s.wb.erase = some e → e.cleared = true →
    Completes .eraseComplete s (fun t => t.wb.erase = none ∧ t.wb.erasePending = false ∧ t.wb.provisioned = false ∧
      t.wb.dapOpen = e.opens ∧ t.wb.opens = (if e.opens then s.wb.opens + 1 else s.wb.opens) ∧
      getF t dapPg DAP_DAP_STATE_STATE = (if e.opens then 2 else 0) ∧ Only [.fields, .wb, .hostMemory, .log] s t)) ∧
  (∀ (s : State) (i : TapInstr) (op : TapOp) (b : Bool) (cells : List Bool), s.carrier.vaon = .up →
    (op, i, b, cells) ∈ [(.bypass b, .bypass, b, s.wb.tap.cells), (.sample cells, .sample, s.wb.tap.bypassBit, cells),
      (.preload cells, .preload, s.wb.tap.bypassBit, cells), (.extest, .extest, s.wb.tap.bypassBit, s.wb.tap.cells)] →
    Completes (.dapAccess op) s (fun t => t = { s with wb := { s.wb with tap := ⟨i, b, cells⟩ } })) ∧
  (∀ (s u : State) (w : Bool) (addr size value : Nat), s.carrier.vaon = .up → u = setTap s .bridge →
    Completes (.dapAccess (.access w addr size value)) s (fun t =>
      (s.wb.dapOpen = true → s.wb.erase = none → w = true →
        t = busWrite u .banksman addr ⟨size, 2 ^ size - 1, .arrives⟩ value []) ∧
      (s.wb.dapOpen = true → s.wb.erase = none → w = false →
        t = (busRead u .banksman addr ⟨size, 2 ^ size - 1, .arrives⟩ .clean).1) ∧
      (s.wb.dapOpen = false ∨ s.wb.erase ≠ none → t = u)))

/-- Sessions and requests.
Where it rests on the model's readings or choices, these are log entries 6, 73, 74. -/
def Obligations.SessionRequests : Prop :=
  (∀ (s : State) (peer slot : Nat) (a : Anchor), mgmtUp s = true → s.mgmt.sessions.length < 4 →
    tfind s.mgmt.trust slot = some a →
    Completes (.sessionHandshake peer slot true) s (fun t => t.mgmt.sessions = s.mgmt.sessions ++
      [⟨s.mgmt.nextSession, a.operator, peer, false, false, []⟩] ∧ t.mgmt.nextSession = s.mgmt.nextSession + 1 ∧
      Only [.fields, .hostMemory, .log, .sessions] s t)) ∧
  (∀ (s : State) (peer slot : Nat) (valid : Bool), mgmtUp s = true →
    Completes (.sessionHandshake peer slot valid) s (fun t => (4 ≤ s.mgmt.sessions.length → t = s) ∧
      (valid = false ∨ tfind s.mgmt.trust slot = none → t.mgmt.sessions = s.mgmt.sessions))) ∧
  (∀ (s : State) (id : Nat) (x : Session), s.session id = some x → s.carrier.vaon = .up →
    Completes (.sessionIdleTimeout id) s (fun t => t.session id = none ∧
      (∀ p ∈ t.mgmt.partials, p.session ≠ id ∧ p ∈ s.mgmt.partials) ∧ ∀ k, k ≠ id → t.session k = s.session k)) ∧
  (∀ (s : State) (id reqId : Nat), s.mgmt.partials.any (Partial.isOf id reqId) = true →
    Completes (.fragmentTimeout id reqId) s (fun t => t.mgmt.partials.any (Partial.isOf id reqId) = false ∧
      t.mgmt.sessions = s.mgmt.sessions ∧ Only [.sessions] s t)) ∧
  (∀ (s : State) (c : Instr) (op : Nat) (m : Datagram) (x : Session) (r : Nat × Nat × List Nat), requestOf c = some (op, m) →
    s.session m.session = some x → mgmtUp s = true → x.kept.find? (·.1 == m.reqId) = some r → m.frag = 0 →
    Completes c s (fun t => t.mgmt.sent = s.mgmt.sent ++ [⟨x.id, r.2.2.headD 0, r.1, r.2.1, r.2.2.drop 1⟩] ∧
      Only [.log] s t)) ∧
  (∀ (s : State) (c : Instr) (op : Nat) (m : Datagram) (x : Session), requestOf c = some (op, m) → Fresh s m x →
    Datagram.headerOk m = false →
    Completes c s (fun t => ∃ u, t = reply u x.id op m.reqId 1 [] ∧ Only [.fields, .hostMemory, .log, .sessions] s u)) ∧
  (∀ (s : State) (c : Instr) (op : Nat) (m : Datagram) (x : Session), requestOf c = some (op, m) → Fresh s m x →
    Datagram.headerOk m = true → 1 < m.count → s.mgmt.partials.find? (Partial.isOf m.session m.reqId) = none →
    Completes c s (fun t => t.mgmt.sent = s.mgmt.sent ∧ t.mgmt.partials = s.mgmt.partials ++
      [⟨m.session, m.reqId, op, m.count, m.len, [(m.frag, m.bytes)]⟩] ∧ Only [.sessions] s t)) ∧
  (∀ (s : State) (c : Instr) (op : Nat) (m : Datagram) (x : Session),
    c ∈ [Instr.write m, .moduleReset m, .trust m, .net m] → requestOf c = some (op, m) → Asked s m x → x.operator = false →
    Completes c s (fun t => t = reply (logCommand s op 0x7F m.reqId 3 m.bytes) x.id op m.reqId 3 [])) ∧
  (∀ (s : State) (m : Datagram) (x : Session), Asked s m x →
    Completes (.ping m) s (fun t => (m.bytes = [] → t = reply s x.id 1 m.reqId 0 (leBytes 8 s.time) ∧
        t.mgmt.sent = s.mgmt.sent ++ [⟨x.id, 1, m.reqId, 0, leBytes 8 s.time⟩]) ∧
      (m.bytes ≠ [] → t.mgmt.sent = s.mgmt.sent ++ [⟨x.id, 1, m.reqId, 1, []⟩])) ∧
    Completes (.read m) s (fun t => (badRun m.bytes = true ∨ m.bytes.length ≠ 8 → t = reply s x.id 2 m.reqId 1 []) ∧
      (badRun m.bytes = false → m.bytes.length = 8 → ∃ u vs, readRun (pnum m.bytes 4 2) (pnum m.bytes 0 4) s = (u, vs) ∧ t = reply u x.id 2 m.reqId
        (if vs.length < pnum m.bytes 4 2 then 6 else 0) (runHead u vs.length ++ vs.flatMap (leBytes 4)))) ∧
    Completes (.write m) s (fun t => x.operator = true →
      (badRun m.bytes = true ∨ m.bytes.length ≠ 8 + 4 * pnum m.bytes 4 2 →
        t = reply (logCommand s 3 0x7F m.reqId 1 m.bytes) x.id 3 m.reqId 1 []) ∧
      (badRun m.bytes = false → m.bytes.length = 8 + 4 * pnum m.bytes 4 2 → ∃ u n, writeRun ((List.range (pnum m.bytes 4 2)).map
        (fun i => pnum m.bytes (8 + 4 * i) 4)) (pnum m.bytes 0 4) s = (u, n) ∧
        t = reply (logCommand u 3 0x7F m.reqId (runStatus (pnum m.bytes 4 2) n) m.bytes) x.id 3 m.reqId
          (if n < pnum m.bytes 4 2 then 6 else 0) (runHead u n))) ∧
    Completes (.qmapRead m) s (fun t => m.bytes = [] → t.map = s.map ∧
      t.mgmt.sent = s.mgmt.sent ++ [⟨x.id, 4, m.reqId, 0, s.map.committed.bytes⟩]) ∧
    Completes (.bringupRead m) s (fun t => m.bytes = [] → t.mgmt.sent = s.mgmt.sent ++ [⟨x.id, 5, m.reqId, 0,
      (List.range 8).flatMap (fun i => leBytes 4 (if i = 5 then getF s bringupPg BRINGUP_QMAP_SEQ / 2 ^ 32
        else pageWord s .banksman bringupPg .bringup (0x40 + 4 * i)))⟩]) ∧
    Completes (.logRead m) s (fun t => m.bytes.length = 8 → 1 ≤ pnum m.bytes 4 4 → pnum m.bytes 4 4 ≤ 120 →
      t.mgmt.sent = s.mgmt.sent ++ [⟨x.id, 6, m.reqId, 0,
        (logFrom s (pnum m.bytes 0 4) (pnum m.bytes 4 4)).flatMap LogRec.bytes⟩]) ∧
    Completes (.subscribe m) s (fun t => m.bytes.length = 4 → pnum m.bytes 0 4 < 4 →
      t.mgmt.sent = s.mgmt.sent ++ [⟨x.id, 7, m.reqId, 0, []⟩] ∧ ∃ y, t.session x.id = some y ∧
        y.subLog = bit (pnum m.bytes 0 4) 0 ∧ y.subTel = bit (pnum m.bytes 0 4) 1)) ∧
  (∀ (s : State) (m : Datagram) (x : Session), Asked s m x → x.operator = true →
    Completes (.moduleReset m) s (fun t => m.bytes = leBytes 4 resetMagic →
      (beforeReady s = true → t = reply (logCommand s 0x11 0x7F m.reqId 5 m.bytes) x.id 0x11 m.reqId 5 []) ∧
      (beforeReady s = false → t.carrier.vbus = .off)) ∧
    Completes (.trust m) s (fun t =>
      (∀ slot role o rest, m.bytes = [1, slot, role, 0] ++ rest → slot ≤ 3 → rest ≠ [] → roleOf role = some o →
        tfind t.mgmt.trust slot = some ⟨leNum rest, o⟩) ∧
      (∀ slot role, m.bytes = [2, slot, role, 0] → slot ≤ 3 → tfind t.mgmt.trust slot = none)) ∧
    Completes (.net m) s (fun t => m.bytes.length = 16 → t.mgmt.staticAddr = leNum m.bytes ∧
      Only [.fields, .hostMemory, .log, .sessions] s t))

/-- Region commands and the foreman's own work.
Where it rests on the model's readings or choices, these are log entries 34, 39, 73, 75, 76, 89, 90. -/
def Obligations.RegionCommands : Prop :=
  (∀ (s : State) (c : Instr) (n r : Nat) (m : Datagram) (x : Session) (busy : Bool)
      (eff : State × Nat × List Nat), (c, n, busy, eff) ∈ [(Instr.wake m, 1, beforeReady s, wakeCmd r s),
      (.stop m, 2, beforeReady s, (requestStop s r false 3 false, 0, [])),
      (.stopForce m, 3, beforeReady s, (requestStop s r true 3 false, 0, [])),
      (.hold m, 4, beforeReady s, holdCmd false r s), (.holdForce m, 5, beforeReady s, holdCmd true r s),
      (.release m, 6, beforeReady s, releaseCmd r s), (.retestSet m, 7, false, retestCmd true r s),
      (.retestClear m, 8, false, retestCmd false r s)] →
    Asked s m x → m.bytes = [r, n, 0, 0] → present r = true →
    Completes c s (fun t =>
      (x.operator = false → t = reply (logCommand s 0x10 r m.reqId 3 m.bytes) x.id 0x10 m.reqId 3 []) ∧
      (x.operator = true → busy = true → t = reply (logCommand s 0x10 r m.reqId 5 m.bytes) x.id 0x10 m.reqId 5 []) ∧
      (x.operator = true → busy = false →
        t = reply (logCommand eff.1 0x10 r m.reqId eff.2.1 m.bytes) x.id 0x10 m.reqId eff.2.1 eff.2.2 ∧
        (∀ f, n = 4 + f → f < 2 → sound s r = true → (r = hostRegion → s.host.linkUp = false) →
          (t.region r).hold = true) ∧
        (n = 6 → sound s r = true → (t.region r).hold = false ∧ (t.region r).holdForce = false) ∧
        (∀ f, n = 7 + f → f < 2 → (s.entry r).state = .failed → (s.entry r).factory = false →
          (s.boot.active = false ∨ s.map.writing.isSome = true → (t.entry r).retest = decide (f = 0)) ∧
          (s.boot.active = true → s.map.writing = none → t.map = s.map ∧
            t.boot.retestReq = s.boot.retestReq ++ [(r, decide (f = 0))]))))) ∧
  (∀ (s : State) (r : Nat), (s.region r).hold = true → inRun s r = true → (s.region r).hs = none →
    s.stopQ.any (·.region == r) = false → regionUsed s r = false →
    Completes (.holdStopRetry r) s (fun t => t = { s with stopQ := s.stopQ ++ [⟨r, (s.region r).holdForce, 12, false⟩] })) ∧
  (∀ (s : State) (r : Nat), present r = true → s.carrier.vaon = .up → (s.region r).unreached = false → inRun s r = true →
    Completes (.banksmanReport r [] true) s (fun t => getF t (banksmanPg r) BANKSMAN_BK_STATUS_ROUTE_MATCH = 1 ∧
      getF t (banksmanPg r) BANKSMAN_BK_STATUS_POWER_MATCH = 1 ∧ Only [.fields] s t)) ∧
  (∀ (s : State) (r d hop : Nat), present r = true → present d = true → d ≠ r → s.carrier.vaon = .up →
    (s.region r).unreached = false → inRun s r = true → mgmtState s d = 3 → route s r d ≠ hop → hop ≤ 5 →
    (r, d) ∉ s.road.holds →
    Completes (.banksmanReport r [(d, hop)] true) s (fun t => route t r d = route s r d ∧
      getF t (banksmanPg r) BANKSMAN_BK_STATUS_ROUTE_MATCH = 0 ∧ bit (getF t (banksmanPg r) EVT_RAW) 0 = true)) ∧
  (∀ (s : State) (r : Nat), present r = true → inRun s r = true → ringCw s = true ∨ ringCcw s = true →
    (s.region r).unreached = false →
    Completes (.banksmanLost r) s (fun t => (t.entry r).state = .failed ∧ (t.entry r).cause = .management ∧
      (t.region r).power = .stop)) ∧
  (∀ (s : State) (r : Nat), (s.region r).unreached = true → (s.region r).power ≠ .stop →
    Completes (.foremanSilence r) s (fun t => (t.region r).power = .stop)) ∧
  (∀ (s : State) (cw : Bool) (gone : List Nat), s.carrier.vaon = .up → (if cw then ringCw s else ringCcw s) = true →
    Completes (.ringFault cw gone) s (fun t => (if cw then ringCw t else ringCcw t) = false ∧
      ((if cw then ringCcw s else ringCw s) = true → t.regions = s.regions ∧ t.map = s.map) ∧
      ((if cw then ringCcw s else ringCw s) = false → ∀ r, present r = true → r ∈ gone →
        (t.region r).unreached = true))) ∧
  (∀ (s : State) (up high : Bool), s.carrier.vaon = .up → flagF s mgmtPg MGMT_MGMT_STATUS_LINK_UP = !up →
    Completes (.mgmtLinkChange up high) s (fun t => flagF t mgmtPg MGMT_MGMT_STATUS_LINK_UP = up ∧
      Only [.fields, .hostMemory, .log] s t)) ∧
  (∀ (s : State) (items : List (Nat × Nat × Nat)) (busy : List (Nat × Nat)), s.carrier.vaon = .up →
    Completes (.telemetryPeriod items busy) s (fun t => Only [.log] s t ∧
      (∀ x, s.mgmt.sessions.filter (·.subTel) = [x] → (telItems s items busy).length ≤ 509 →
        t.mgmt.sent = s.mgmt.sent ++ [⟨x.id, 0x21, 0, 0, telBytes s.time (telItems s items busy)⟩]) ∧
      (s.mgmt.sessions.filter (·.subTel) = [] → t = s))) ∧
  (∀ (s : State) (r vinLow : Nat), bgCandidate s = some r → mayBackground s vinLow = true →
    Completes (.backgroundWake vinLow) s (fun t => t = addF (startRegion s r 5 false).1 mgmtPg MGMT_BG_STATUS_WAKES 1)) ∧
  (∀ (s : State) (r : Nat), inRun s r = true → bedLines r ≤ (s.bed r).scrubPos →
    Completes (.scrubPassEnd r) s (fun t => (t.bed r).scrubPos = 0 ∧
      (t.bed r).scrubPasses = ((s.bed r).scrubPasses + 1) % 256 ∧ (t.region r).age = 0)) ∧
  (∀ (s : State) (r : Nat), present r = true → s.carrier.vaon = .up →
    Completes (.scrubAgeHour r) s (fun t => (t.region r).age = min ((s.region r).age + 1) 255 ∧
      ∀ q, q ≠ r → t.region q = s.region q)) ∧
  (∀ (s : State) (reading : Int), s.carrier.vaon = .up →
    Completes (.coldPlateSensorFault reading) s (fun t => t.carrier.coldPlate = reading ∧
      t.carrier.coldPlateOk = sensorValid reading ∧
      (s.carrier.coldPlateOk = false ∨ sensorValid reading = true → t.fields = s.fields ∧ t.mgmt = s.mgmt) ∧
      (s.carrier.coldPlateOk = true → sensorValid reading = false →
        t = logRec (s.updCarrier (fun c => { c with coldPlateOk := false, coldPlate := reading })) 1 0x7F 0 [0, 0, 0, 0])))

/-- Field outputs.
Where it rests on the model's readings or choices, these are log entries 77, 78. -/
def Obligations.FieldOutputs : Prop :=
  (∀ (s : State) (ch i v : Nat) (fullOn : Bool), ch < 4 → fieldOn s = true → ch ∉ s.outs.arming → s.outs.stopping = none →
    loopActive s ch = true →
    (s.loop ch).on = true → (s.loop ch).overvolt = false → (s.loop ch).internal = false →
    Completes (.regulationTick ch i v fullOn) s (fun t => chF t ch FIELD_LOOP_MEAS_I_UA = min i 65535 ∧
      chF t ch FIELD_LOOP_MEAS_VT_MV = min v 65535 ∧ chF t ch FIELD_LOOP_TARGET_UA = (tickTarget s ch).1 % 65536 ∧
      (t.loop ch).comp = ((s.loop ch).comp || (fullOn && decide (i + 50 < (tickTarget s ch).1))) ∧
      (t.loop ch).clean = (if fullOn && decide (i + 50 < (tickTarget s ch).1) then 0 else (s.loop ch).clean + 1) ∧
      Only [.fields, .outs, .hostMemory, .log] s t)) ∧
  (∀ (s : State) (ch : Nat), ch < 4 → (s.loop ch).comp = true → 10 ≤ (s.loop ch).clean → (s.loop ch).faultLow = false →
    Completes (.complianceClear ch) s (fun t => t.loop ch = { s.loop ch with comp := false } ∧
      chF t ch FIELD_LOOP_STATUS_STATE = loopStateCode (t.loop ch) ∧ Only [.fields, .outs] s t)) ∧
  (∀ (s : State) (ch : Nat), ch < 4 → (s.loop ch).on = true → chF s ch FIELD_LOOP_CFG_NE43 = 1 → (s.loop ch).comp = true →
    (s.loop ch).faultLow = false →
    Completes (.loopFallback ch) s (fun t => t.loop ch = { s.loop ch with faultLow := true } ∧
      chF t ch FIELD_LOOP_TARGET_UA = 3600 ∧ bit (getF t fieldPg EVT_RAW) 2 = true ∧
      chF t ch FIELD_LOOP_COUNT_FALLBACKS = (chF s ch FIELD_LOOP_COUNT_FALLBACKS + 1) % 65536)) ∧
  (∀ (s : State) (ch : Nat), ch < 4 → (s.loop ch).faultLow = true → (s.loop ch).retrying = false →
    chF s ch FIELD_LOOP_CFG_RETRY_EN = 1 →
    Completes (.loopRetry ch) s (fun t => t.loop ch = { s.loop ch with retrying := true, clean := 0 } ∧
      chF t ch FIELD_LOOP_TARGET_UA = (loopTarget s ch).1 % 65536 ∧ Only [.fields, .outs] s t)) ∧
  (∀ (s : State) (ch : Nat), ch < 4 → (s.loop ch).retrying = true →
    Completes (.loopRetryEnd ch) s (fun t => Only [.fields, .outs] s t ∧
      (50 ≤ (s.loop ch).clean → t.loop ch = { s.loop ch with comp := false, retrying := false, faultLow := false }) ∧
      ((s.loop ch).clean < 50 → t.loop ch = { s.loop ch with retrying := false } ∧ chF t ch FIELD_LOOP_TARGET_UA = 3600))) ∧
  (∀ (s : State) (ch : Nat), ch < 4 → (s.loop ch).on = true → 10 ≤ (s.loop ch).openRun → (s.loop ch).opened = false →
    Completes (.loopOpen ch) s (fun t => t.loop ch = { s.loop ch with opened := true } ∧
      bit (getF t fieldPg EVT_RAW) 3 = true)) ∧
  (∀ (s : State) (ch v : Nat), ch < 4 → (s.loop ch).on = true → 40000 < v → (s.loop ch).overvolt = false →
    Completes (.loopOvervolt ch v) s (fun t => t.loop ch = { s.loop ch with overvolt := true } ∧
      chF t ch FIELD_LOOP_TARGET_UA = 0 ∧ bit (getF t fieldPg EVT_RAW) 4 = true)) ∧
  (∀ (s : State) (ch : Nat), ch < 4 →
    ((s.loop ch).on = true → (s.loop ch).internal = false →
      Completes (.channelFault ch) s (fun t => t.loop ch = { s.loop ch with internal := true } ∧
        chF t ch FIELD_LOOP_TARGET_UA = 0 ∧ bit (getF t fieldPg EVT_RAW) 10 = true)) ∧
    ((s.lamp ch).on = true → (s.lamp ch).internal = false →
      Completes (.channelFault (ch + 4)) s (fun t => t.lamp ch = { s.lamp ch with internal := true } ∧
        bit (getF t fieldPg EVT_RAW) 10 = true))) ∧
  (∀ (s : State) (no a b : Nat) (rest : List RingMsg), inRun s fieldRegion = true →
    takeMsg (fun m => match m with | .alarm _ _ _ => true | _ => false) s.ring = (some (.alarm no a b), rest) →
    Completes .alarm s (fun t => t.ring = rest ∧ bit (getF t fieldPg FIELD_ALARM_STAT_IN) (no % 8) = true ∧
      getF t fieldPg FIELD_ALARM_INFO_LAST_NO = no % 8 ∧ getF t fieldPg FIELD_ALARM_INFO_LAST_MANUAL = 0 ∧
      getF t fieldPg FIELD_ALARM_INFO_COUNT = (getF s fieldPg FIELD_ALARM_INFO_COUNT + 1) % 65536 ∧
      getF t fieldPg FIELD_ALARM_TIME = s.time % 2 ^ 64 ∧ bit (getF t fieldPg EVT_RAW) 0 = true)) ∧
  (∀ (s : State) (sp : Space) (value : Word), Taken s sp (fieldPg * 0x1000 + 0x44) value.toNat fieldPg 0x44 .field →
    value.toNat % 256 ≠ 0 →
    Completes (.alarmCmd sp value) s (fun t =>
      (∀ no, no < 8 → bit value.toNat no = true → bit (getF t fieldPg FIELD_ALARM_STAT_IN) no = true) ∧
      getF t fieldPg FIELD_ALARM_INFO_LAST_MANUAL = 1 ∧ getF t fieldPg FIELD_ALARM_INFO_COUNT =
        (getF s fieldPg FIELD_ALARM_INFO_COUNT + ((List.range 8).filter (bit value.toNat)).length) % 65536)) ∧
  (∀ (s : State) (no a b : Nat) (rest : List RingMsg), inRun s fieldRegion = false →
    takeMsg (fun m => match m with | .alarm _ _ _ => true | _ => false) s.ring = (some (.alarm no a b), rest) →
    Completes .alarm s (fun t => t = logRec { s with ring := rest } 6 fieldRegion no [a, b, 1, 0])) ∧
  (∀ (s : State) (sp : Space) (value : Word) (setNow v : Nat), v = value.toNat - (value.toNat &&& setNow) →
    Taken s sp (fieldPg * 0x1000 + 0x40) v fieldPg 0x40 .field →
    Completes (.alarmStatClear sp value setNow) s (fun t => getF t fieldPg FIELD_ALARM_STAT_IN =
      (getF s fieldPg FIELD_ALARM_STAT_IN - (getF s fieldPg FIELD_ALARM_STAT_IN &&& v % 256)) % 256)) ∧
  (∀ (s : State) (ch : Nat), ch < 4 → (s.lamp ch).on = true → lampActive s ch = true → 4 + ch ∉ s.outs.arming →
    s.outs.stopping = none →
    Completes (.pwmPeriodEnd ch) s (fun t => ((t.lamp ch).ma, (t.lamp ch).duty) = lampSetting s ch ∧
      (t.lamp ch).hz = chF s ch FIELD_LAMP_PWM_HZ ∧ (t.lamp ch).proof = (s.lamp ch).proofDue ∧
      (t.lamp ch).overcurrent = ((s.lamp ch).overcurrent && !(s.lamp ch).retry) ∧ (t.lamp ch).retry = false ∧
      Only [.fields, .outs, .hostMemory, .log] s t)) ∧
  (∀ (s : State) (ch ma cv c : Nat) (reg : Bool), ch < 4 → (s.lamp ch).on = true → (s.lamp ch).internal = false →
    (s.lamp ch).overcurrent = false ∨ (s.lamp ch).retry = true → diagnosable (s.lamp ch) = true →
    c = pulseClass (s.lamp ch).ma (chF s ch FIELD_LAMP_CFG_SHORT_V) ma cv reg →
    Completes (.diagnosablePulseEnd ch ma cv reg) s (fun t => (t.lamp ch).cls = c ∧ (t.lamp ch).fresh = true ∧
      (t.lamp ch).run = (if (s.lamp ch).cls = c then (s.lamp ch).run + 1 else 1) ∧
      chF t ch FIELD_LAMP_MEAS_MA = min ma 2047 ∧ chF t ch FIELD_LAMP_MEAS_STRING_CV = min cv 8191 ∧
      chF t ch FIELD_LAMP_STATUS_LAST_DIAG =
        (if 3 ≤ (t.lamp ch).run then c else chF s ch FIELD_LAMP_STATUS_LAST_DIAG))) ∧
  (∀ (s : State) (ch : Nat), ch < 4 → (s.lamp ch).on = true → chF s ch FIELD_LAMP_CFG_PROOF_EN = 1 →
    (s.lamp ch).proofDue = false → onUs (s.lamp ch).duty (s.lamp ch).hz < 25 →
    Completes (.proofPulse ch) s (fun t => t.lamp ch = { s.lamp ch with proofDue := true, proofing := true } ∧
      chF t ch FIELD_LAMP_COUNT_PROOFS = (chF s ch FIELD_LAMP_COUNT_PROOFS + 1) % 65536)) ∧
  (∀ (s : State) (ch : Nat), ch < 4 → (s.lamp ch).on = true → (s.lamp ch).fresh = true →
    Completes (.unverified ch) s (fun t => t.lamp ch = { s.lamp ch with fresh := false } ∧
      ((s.lamp ch).ma ≠ 0 → (s.lamp ch).overcurrent = false → (s.lamp ch).internal = false →
        chF t ch FIELD_LAMP_STATUS_DIAG = 2))) ∧
  (∀ (s : State) (ch : Nat), ch < 4 → (s.lamp ch).on = true → (s.lamp ch).internal = false →
    (s.lamp ch).overcurrent = false ∨ (s.lamp ch).retry = true →
    Completes (.lampOvercurrent ch) s (fun t => (t.lamp ch).overcurrent = true ∧ (t.lamp ch).retry = false ∧ (t.lamp ch).run = 0 ∧
      chF t ch FIELD_LAMP_STATUS_LAST_DIAG = 5 ∧ bit (getF t fieldPg EVT_RAW) 7 = true ∧
      chF t ch FIELD_LAMP_COUNT_FAULTS = (chF s ch FIELD_LAMP_COUNT_FAULTS + 1) % 65536)) ∧
  (∀ (s : State) (ch : Nat), ch < 4 → (s.lamp ch).on = true → (s.lamp ch).overcurrent = true → (s.lamp ch).retry = false →
    Completes (.lampRetry ch) s (fun t => (t.lamp ch).retry = true ∧ (t.lamp ch).overcurrent = true ∧
      ((t.lamp ch).ma, (t.lamp ch).duty) = lampSetting s ch ∧ Only [.outs] s t))
end

