-- ==== Sys2Proof/Laws/Tables.lean ====
section
/-! SUPPORT. Laws/Tables.lean: the laws of sparse tables: what a key reads as after a change, and that every operation keeps
the canonical form. -/

namespace Sys2Proof.Machine

open Sys2Proof

variable {α : Type}

/-! ## Reading after a change -/

theorem tfind_tdel_self (m : List (Nat × α)) (k : Nat) : tfind (tdel m k) k = none := by
  induction m with
  | nil => rfl
  | cons p m ih =>
    by_cases h : p.1 = k
    · simpa [tdel, h] using ih
    · simpa [tdel, h, tfind] using ih

theorem tfind_filter_of {q : Nat × α → Bool} (m : List (Nat × α)) {k : Nat} (h : ∀ p ∈ m, p.1 = k → q p = true) :
    tfind (m.filter q) k = tfind m k := by
  induction m with
  | nil => rfl
  | cons p m ih =>
    have ih := ih (fun x hx => h x (List.mem_cons_of_mem _ hx))
    by_cases hk : p.1 = k
    · have := h p List.mem_cons_self hk
      simp [this, tfind, hk]
    · by_cases hq : q p = true
      · simp [hq, tfind, hk, ih]
      · simp [hq, tfind, hk, ih]

theorem tfind_tdel_ne (m : List (Nat × α)) {k j : Nat} (h : j ≠ k) : tfind (tdel m k) j = tfind m j :=
  tfind_filter_of m (fun p _ hp => by simp [hp, h])

theorem tfind_tins_self (m : List (Nat × α)) (k : Nat) (v : α) (h : tfind m k = none) : tfind (tins k v m) k = some v := by
  induction m with
  | nil => simp [tins, tfind]
  | cons p m ih =>
    obtain ⟨a, w⟩ := p
    by_cases hk : k < a
    · simp [tins, hk, tfind]
    · by_cases ha : a = k
      · simp [tfind, ha] at h
      · simp [tfind, ha] at h
        simp [tins, hk, tfind, ha, ih h]

theorem tfind_tins_ne (m : List (Nat × α)) {k j : Nat} (v : α) (h : j ≠ k) : tfind (tins k v m) j = tfind m j := by
  induction m with
  | nil => simp [tins, tfind, Ne.symm h]
  | cons p m ih =>
    obtain ⟨a, w⟩ := p
    by_cases hk : k < a
    · simp [tins, hk, tfind, Ne.symm h]
    · simp [tins, hk, tfind, ih]

@[simp] theorem tfind_tput_self (m : List (Nat × α)) (k : Nat) (v : α) : tfind (tput m k v) k = some v :=
  tfind_tins_self _ _ _ (tfind_tdel_self m k)

theorem tfind_tput_ne (m : List (Nat × α)) {k j : Nat} (v : α) (h : j ≠ k) : tfind (tput m k v) j = tfind m j := by
  rw [tput, tfind_tins_ne _ _ h, tfind_tdel_ne _ h]

@[simp] theorem tget_tput_self (d : α) (m : List (Nat × α)) (k : Nat) (v : α) : tget d (tput m k v) k = v := by
  simp [tget]

theorem tget_tput_ne (d : α) (m : List (Nat × α)) {k j : Nat} (v : α) (h : j ≠ k) :
    tget d (tput m k v) j = tget d m j := by
  simp [tget, tfind_tput_ne m v h]

@[simp] theorem tget_tset_self [DecidableEq α] (d : α) (m : List (Nat × α)) (k : Nat) (v : α) :
    tget d (tset d m k v) k = v := by
  unfold tset
  split
  · next h => simp [tget, tfind_tdel_self, h]
  · simp

theorem tget_tset_ne [DecidableEq α] (d e : α) (m : List (Nat × α)) {k j : Nat} (v : α) (h : j ≠ k) :
    tget e (tset d m k v) j = tget e m j := by
  unfold tset
  split
  · simp [tget, tfind_tdel_ne m h]
  · exact tget_tput_ne e m v h

theorem tget_tset [DecidableEq α] (d : α) (m : List (Nat × α)) (k j : Nat) (v : α) :
    tget d (tset d m k v) j = if j = k then v else tget d m j := by
  split
  · next h => simp [h]
  · next h => exact tget_tset_ne d d m v h

theorem tfind_map {β : Type} (f : α → β) (m : List (Nat × α)) (k : Nat) :
    tfind (m.map (fun p => (p.1, f p.2))) k = (tfind m k).map f := by
  induction m with
  | nil => rfl
  | cons p m ih => by_cases h : p.1 = k <;> simp [tfind, h, ih]

/-- A key outside the dropped range reads as before. -/
theorem tget_tclear_out (d : α) (m : List (Nat × α)) {lo hi k : Nat} (h : k < lo ∨ hi ≤ k) :
    tget d (tclear m lo hi) k = tget d m k := by
  unfold tget tclear
  rw [tfind_filter_of]
  intro p _ hp
  simp [hp, h]

/-- A key of the dropped range reads as the default. -/
theorem tget_tclear_in (d : α) (m : List (Nat × α)) {lo hi k : Nat} (h1 : lo ≤ k) (h2 : k < hi) :
    tget d (tclear m lo hi) k = d := by
  have : tfind (tclear m lo hi) k = none := by
    induction m with
    | nil => rfl
    | cons p m ih =>
      unfold tclear at ih ⊢
      by_cases hk : p.1 = k
      · have : ¬ (p.1 < lo ∨ hi ≤ p.1) := by omega
        simp only [List.filter_cons, hk] at *
        simpa [this] using ih
      · by_cases hq : p.1 < lo ∨ hi ≤ p.1
        · simpa [List.filter_cons, hq, tfind, hk] using ih
        · simpa [List.filter_cons, hq] using ih
  simp [tget, this]

/-! ## Rising keys -/

/-- Every key of a table lies above a bound. -/
def tabAbove (lo : Nat) (m : List (Nat × α)) : Prop := ∀ p ∈ m, lo < p.1

theorem tabRising_cons {a : Nat} {v : α} {m : List (Nat × α)} :
    tabRising ((a, v) :: m) = true ↔ tabAbove a m ∧ tabRising m = true := by
  induction m generalizing a v with
  | nil => simp [tabRising, tabAbove]
  | cons p m ih =>
    obtain ⟨b, w⟩ := p
    constructor
    · intro h
      simp only [tabRising, Bool.and_eq_true, decide_eq_true_eq] at h
      refine ⟨?_, h.2⟩
      have := (ih.mp h.2).1
      intro q hq
      rcases List.mem_cons.mp hq with rfl | hq
      · exact h.1
      · exact Nat.lt_trans h.1 (this q hq)
    · intro h
      simp only [tabRising, Bool.and_eq_true, decide_eq_true_eq]
      exact ⟨h.1 (b, w) List.mem_cons_self, h.2⟩

theorem tabRising_filter (q : Nat × α → Bool) {m : List (Nat × α)} (h : tabRising m = true) :
    tabRising (m.filter q) = true := by
  induction m with
  | nil => rfl
  | cons p m ih =>
    obtain ⟨a, v⟩ := p
    have h := tabRising_cons.mp h
    by_cases hq : q (a, v) = true
    · rw [List.filter_cons_of_pos hq]
      exact tabRising_cons.mpr ⟨fun p hp => h.1 p ((List.mem_filter.mp hp).1), ih h.2⟩
    · rw [List.filter_cons_of_neg hq]
      exact ih h.2

theorem tabRising_tdel {m : List (Nat × α)} (k : Nat) (h : tabRising m = true) : tabRising (tdel m k) = true :=
  tabRising_filter _ h

theorem tabRising_tclear {m : List (Nat × α)} (lo hi : Nat) (h : tabRising m = true) :
    tabRising (tclear m lo hi) = true := tabRising_filter _ h

theorem mem_tins {k : Nat} {v : α} {m : List (Nat × α)} {p : Nat × α} (h : p ∈ tins k v m) : p = (k, v) ∨ p ∈ m := by
  induction m with
  | nil => simpa [tins] using h
  | cons q m ih =>
    obtain ⟨a, w⟩ := q
    by_cases hk : k < a
    · simpa [tins, hk] using h
    · simp only [tins, hk, if_false, List.mem_cons] at h
      rcases h with rfl | h
      · exact Or.inr List.mem_cons_self
      · exact (ih h).imp id (List.mem_cons_of_mem _)

theorem tabRising_tins {m : List (Nat × α)} (k : Nat) (v : α) (h : tabRising m = true) (hk : ∀ p ∈ m, p.1 ≠ k) :
    tabRising (tins k v m) = true := by
  induction m with
  | nil => rfl
  | cons p m ih =>
    obtain ⟨a, w⟩ := p
    have h := tabRising_cons.mp h
    have hak : a ≠ k := hk (a, w) List.mem_cons_self
    by_cases hlt : k < a
    · simp only [tins, hlt, if_true]
      refine tabRising_cons.mpr ⟨?_, tabRising_cons.mpr h⟩
      intro q hq
      rcases List.mem_cons.mp hq with rfl | hq
      · exact hlt
      · exact Nat.lt_trans hlt (h.1 q hq)
    · simp only [tins, hlt, if_false]
      refine tabRising_cons.mpr ⟨?_, ih h.2 (fun p hp => hk p (List.mem_cons_of_mem _ hp))⟩
      intro q hq
      rcases mem_tins hq with rfl | hq
      · show a < k
        omega
      · exact h.1 q hq

theorem not_mem_tdel {m : List (Nat × α)} {k : Nat} : ∀ p ∈ tdel m k, p.1 ≠ k := by
  intro p hp
  simpa using (List.mem_filter.mp hp).2

theorem tabRising_tput {m : List (Nat × α)} (k : Nat) (v : α) (h : tabRising m = true) : tabRising (tput m k v) = true :=
  tabRising_tins k v (tabRising_tdel k h) not_mem_tdel

theorem tabRising_tset [DecidableEq α] (d : α) {m : List (Nat × α)} (k : Nat) (v : α) (h : tabRising m = true) :
    tabRising (tset d m k v) = true := by
  unfold tset
  split
  · exact tabRising_tdel k h
  · exact tabRising_tput k v h

/-! ## The canonical form -/

theorem tabWf_iff [DecidableEq α] {d : α} {m : List (Nat × α)} :
    tabWf d m = true ↔ tabRising m = true ∧ ∀ p ∈ m, p.2 ≠ d := by
  induction m with
  | nil => simp [tabWf, tabRising]
  | cons p m ih =>
    obtain ⟨a, v⟩ := p
    cases m with
    | nil => simp [tabWf, tabRising]
    | cons q m =>
      obtain ⟨b, w⟩ := q
      simp only [tabWf, tabRising, Bool.and_eq_true, decide_eq_true_eq, ih, List.forall_mem_cons]
      exact ⟨fun h => ⟨⟨h.1.2, h.2.1⟩, h.1.1, h.2.2⟩, fun h => ⟨⟨h.2.1, h.1.1⟩, h.1.2, h.2.2⟩⟩

theorem tabWf_filter [DecidableEq α] {d : α} (q : Nat × α → Bool) {m : List (Nat × α)} (h : tabWf d m = true) :
    tabWf d (m.filter q) = true := by
  rw [tabWf_iff] at h ⊢
  exact ⟨tabRising_filter q h.1, fun p hp => h.2 p ((List.mem_filter.mp hp).1)⟩

theorem tabWf_tset [DecidableEq α] {d : α} {m : List (Nat × α)} (k : Nat) (v : α) (h : tabWf d m = true) :
    tabWf d (tset d m k v) = true := by
  rw [tabWf_iff] at h ⊢
  refine ⟨tabRising_tset d k v h.1, ?_⟩
  unfold tset
  split
  · exact fun p hp => h.2 p ((List.mem_filter.mp hp).1)
  · next hv =>
    intro p hp
    rcases mem_tins hp with rfl | hp
    · exact hv
    · exact h.2 p ((List.mem_filter.mp hp).1)

/-! ## Memory: every operation keeps the canonical form -/

theorem Memory.wf_nil : Memory.wf [] = true := rfl

theorem mput_wf {m : Tab Byte} (a v : Nat) (h : Memory.wf m = true) : Memory.wf (mput m a v) = true := tabWf_tset a _ h

theorem mputs_wf {m : Tab Byte} (a : Nat) (bs : List Nat) (h : Memory.wf m = true) : Memory.wf (mputs m a bs) = true := by
  induction bs generalizing m a with
  | nil => exact h
  | cons b bs ih => exact ih (a + 1) (mput_wf a b h)

theorem mclear_wf {m : Tab Byte} (lo hi : Nat) (h : Memory.wf m = true) : Memory.wf (tclear m lo hi) = true :=
  tabWf_filter _ h

/-- A byte reads as it was written; every other byte reads as before. -/
theorem mbyte_mput (m : Tab Byte) (a v b : Nat) : mbyte (mput m a v) b = if b = a then v % 256 else mbyte m b := by
  unfold mbyte mput
  rw [tget_tset]
  split <;> simp

/-- Bytes outside a written range read as before. -/
theorem mbyte_mputs_out (m : Tab Byte) (a : Nat) (bs : List Nat) (b : Nat) (h : b < a ∨ a + bs.length ≤ b) :
    mbyte (mputs m a bs) b = mbyte m b := by
  induction bs generalizing m a with
  | nil => rfl
  | cons v bs ih =>
    have hb : b ≠ a := by simp at h; omega
    rw [mputs, ih _ _ (by simp at h; omega), mbyte_mput, if_neg hb]

/-- Byte `i` of a written range. -/
theorem mbyte_mputs_in (m : Tab Byte) (a : Nat) (bs : List Nat) (i : Nat) (h : i < bs.length) :
    mbyte (mputs m a bs) (a + i) = bs.getD i 0 % 256 := by
  induction bs generalizing m a i with
  | nil => simp at h
  | cons v bs ih =>
    cases i with
    | zero => rw [mputs, mbyte_mputs_out _ _ _ _ (by omega), Nat.add_zero, mbyte_mput, if_pos rfl]; simp
    | succ i =>
      have := ih (mput m a v) (a + 1) i (by simpa using h)
      rw [mputs, show a + (i + 1) = a + 1 + i by omega, this]
      simp

end Sys2Proof.Machine
end

