-- ==== Sys2Proof/Laws/EvBase.lean ====
section
/-! SUPPORT. Laws/EvBase.lean: what every operation of the model keeps: the queue of waiting commands, the count of free values
(which never falls), the canonical form, and every part of the state outside its footprint. A footprint is a number whose bit
`StatePart.bit p` says that part `p` may change. -/

namespace Sys2Proof.Machine

open Sys2Proof

def StatePart.bit : StatePart → Nat
  | .time => 0
  | .freeCount => 1
  | .fields => 2
  | .shadow => 3
  | .staged => 4
  | .snapHost => 5
  | .snapBk => 6
  | .bus => 7
  | .supply => 8
  | .hostPower => 9
  | .mapRecord => 10
  | .mapEntries => 11
  | .boot => 12
  | .regions => 13
  | .wakeQ => 14
  | .road => 15
  | .syncs => 16
  | .beds => 17
  | .faces => 18
  | .hostMemory => 19
  | .jobs => 20
  | .log => 21
  | .sessions => 22
  | .esc => 23
  | .sensors => 24
  | .listeners => 25
  | .wb => 26
  | .links => 27
  | .cab => 28
  | .outs => 29
  | .ring => 30
  | .stopQ => 31

/-- `t` comes from `s` by operations of the model whose footprint is `m`. -/
structure Ev (m : Nat) (s t : State) : Prop where
  pending : t.pending = s.pending
  free : s.freeCount ≤ t.freeCount
  canon : Canonical s → Canonical t
  frame : ∀ p : StatePart, m.testBit p.bit = false → p.same s t

variable {m : Nat}

theorem orSub {x y z : Nat} (h : x ||| y = y) (k : y ||| z = z) : x ||| z = z := by
  rw [← k, ← Nat.or_assoc, h]

/-- A bit of the footprint is set. -/
theorem orBit {k : Nat} (h : 2 ^ k ||| m = m) : m.testBit k = true := by
  rw [← h]
  simp

theorem StatePart.same_trans {p : StatePart} {s t u : State} (h : p.same s t) (k : p.same t u) : p.same s u := by
  cases p <;> exact Eq.trans k h

theorem Ev.refl (s : State) : Ev m s s := ⟨rfl, Nat.le_refl _, id, fun p _ => by cases p <;> rfl⟩

theorem Ev.trans {s t u : State} (h : Ev m s t) (k : Ev m t u) : Ev m s u :=
  ⟨k.pending.trans h.pending, Nat.le_trans h.free k.free, fun c => k.canon (h.canon c),
    fun p hp => StatePart.same_trans (h.frame p hp) (k.frame p hp)⟩

/-- A footprint may be widened. -/
theorem Ev.widen {n : Nat} {s t : State} (h : Ev m s t) (k : m ||| n = n) : Ev n s t :=
  ⟨h.pending, h.free, h.canon, fun p hp => h.frame p (by
    rw [← k, Nat.testBit_or] at hp
    cases hm : m.testBit p.bit with
    | false => rfl
    | true => rw [hm] at hp; cases hp)⟩

/-- Closes the frame of an operation that changes one part. -/
theorem frame_of {k : StatePart} {s t : State} (hb : m.testBit k.bit = true) (h : ∀ p : StatePart, p ≠ k → p.same s t) :
    ∀ p : StatePart, m.testBit p.bit = false → p.same s t := by
  intro p hp
  apply h
  intro e
  rw [e, hb] at hp
  cases hp

/-- An operation that leaves alone the parts with a canonical form. -/
theorem Ev.same {a s t : State} (h : Ev m a s) (hp : t.pending = s.pending) (hc : t.freeCount = s.freeCount)
    (h1 : t.fields = s.fields) (h2 : t.shadow = s.shadow) (h3 : t.staged = s.staged) (h4 : t.snapHost = s.snapHost)
    (h5 : t.snapBk = s.snapBk) (h6 : t.host = s.host) (h7 : t.beds = s.beds) (h8 : t.faces = s.faces)
    (h9 : t.listeners = s.listeners) (hf : ∀ p : StatePart, m.testBit p.bit = false → p.same s t) : Ev m a t := by
  refine h.trans ⟨hp, by omega, fun c => ⟨⟨?_, ?_, ?_, ?_, ?_⟩, ⟨?_, ?_, ?_, ?_⟩⟩, hf⟩
  · rw [h1]; exact c.registers.fields
  · rw [h2]; exact c.registers.shadow
  · rw [h3]; exact c.registers.staged
  · rw [h4]; exact c.registers.snapHost
  · rw [h5]; exact c.registers.snapBk
  · rw [h6]; exact c.memories.host
  · intro r; unfold State.bed; rw [h7]; exact c.memories.beds r
  · intro g; unfold State.faceAt; rw [h8]; exact c.memories.faces g
  · intro p; unfold State.listener; rw [h9]; exact c.memories.listeners p

/-- Any record update of the parts without a canonical form, both ways. -/
theorem Ev.both {a s t : State} (hp : t.pending = s.pending) (hc : t.freeCount = s.freeCount)
    (h1 : t.fields = s.fields) (h2 : t.shadow = s.shadow) (h3 : t.staged = s.staged) (h4 : t.snapHost = s.snapHost)
    (h5 : t.snapBk = s.snapBk) (h6 : t.host = s.host) (h7 : t.beds = s.beds) (h8 : t.faces = s.faces)
    (h9 : t.listeners = s.listeners) (hf : ∀ p : StatePart, m.testBit p.bit = false → p.same s t) : Ev m a t ↔ Ev m a s :=
  ⟨fun h => h.same hp.symm hc.symm h1.symm h2.symm h3.symm h4.symm h5.symm h6.symm h7.symm h8.symm h9.symm
    (fun p q => by have k := hf p q; cases p <;> exact Eq.symm k),
    fun h => h.same hp hc h1 h2 h3 h4 h5 h6 h7 h8 h9 hf⟩

/-! ## One part changed -/

theorem Ev.raw_time (hb : 2 ^ 0 ||| m = m) {a s : State} (x) :
    Ev m a ⟨s.pending, x, s.freeCount, s.fields, s.shadow, s.staged, s.snapHost, s.snapBk, s.bus, s.carrier, s.map,
      s.boot, s.regions, s.wakeQ, s.road, s.syncs, s.beds, s.faces, s.host, s.mgmt, s.esc, s.sensors, s.listeners, s.wb,
      s.links, s.cab, s.outs, s.ring, s.stopQ⟩ ↔ Ev m a s :=
  Ev.both rfl rfl rfl rfl rfl rfl rfl rfl rfl rfl rfl (frame_of (k := .time) (orBit hb) (fun p hp => by
    cases p <;> first | rfl | exact absurd rfl hp))

theorem Ev.raw_bus (hb : 2 ^ 7 ||| m = m) {a s : State} (x) :
    Ev m a ⟨s.pending, s.time, s.freeCount, s.fields, s.shadow, s.staged, s.snapHost, s.snapBk, x, s.carrier, s.map,
      s.boot, s.regions, s.wakeQ, s.road, s.syncs, s.beds, s.faces, s.host, s.mgmt, s.esc, s.sensors, s.listeners, s.wb,
      s.links, s.cab, s.outs, s.ring, s.stopQ⟩ ↔ Ev m a s :=
  Ev.both rfl rfl rfl rfl rfl rfl rfl rfl rfl rfl rfl (frame_of (k := .bus) (orBit hb) (fun p hp => by
    cases p <;> first | rfl | exact absurd rfl hp))

theorem Ev.raw_boot (hb : 2 ^ 12 ||| m = m) {a s : State} (x) :
    Ev m a ⟨s.pending, s.time, s.freeCount, s.fields, s.shadow, s.staged, s.snapHost, s.snapBk, s.bus, s.carrier, s.map,
      x, s.regions, s.wakeQ, s.road, s.syncs, s.beds, s.faces, s.host, s.mgmt, s.esc, s.sensors, s.listeners, s.wb,
      s.links, s.cab, s.outs, s.ring, s.stopQ⟩ ↔ Ev m a s :=
  Ev.both rfl rfl rfl rfl rfl rfl rfl rfl rfl rfl rfl (frame_of (k := .boot) (orBit hb) (fun p hp => by
    cases p <;> first | rfl | exact absurd rfl hp))

theorem Ev.raw_regions (hb : 2 ^ 13 ||| m = m) {a s : State} (x) :
    Ev m a ⟨s.pending, s.time, s.freeCount, s.fields, s.shadow, s.staged, s.snapHost, s.snapBk, s.bus, s.carrier, s.map,
      s.boot, x, s.wakeQ, s.road, s.syncs, s.beds, s.faces, s.host, s.mgmt, s.esc, s.sensors, s.listeners, s.wb, s.links,
      s.cab, s.outs, s.ring, s.stopQ⟩ ↔ Ev m a s :=
  Ev.both rfl rfl rfl rfl rfl rfl rfl rfl rfl rfl rfl (frame_of (k := .regions) (orBit hb) (fun p hp => by
    cases p <;> first | rfl | exact absurd rfl hp))

theorem Ev.raw_wakeQ (hb : 2 ^ 14 ||| m = m) {a s : State} (x) :
    Ev m a ⟨s.pending, s.time, s.freeCount, s.fields, s.shadow, s.staged, s.snapHost, s.snapBk, s.bus, s.carrier, s.map,
      s.boot, s.regions, x, s.road, s.syncs, s.beds, s.faces, s.host, s.mgmt, s.esc, s.sensors, s.listeners, s.wb,
      s.links, s.cab, s.outs, s.ring, s.stopQ⟩ ↔ Ev m a s :=
  Ev.both rfl rfl rfl rfl rfl rfl rfl rfl rfl rfl rfl (frame_of (k := .wakeQ) (orBit hb) (fun p hp => by
    cases p <;> first | rfl | exact absurd rfl hp))

theorem Ev.raw_road (hb : 2 ^ 15 ||| m = m) {a s : State} (x) :
    Ev m a ⟨s.pending, s.time, s.freeCount, s.fields, s.shadow, s.staged, s.snapHost, s.snapBk, s.bus, s.carrier, s.map,
      s.boot, s.regions, s.wakeQ, x, s.syncs, s.beds, s.faces, s.host, s.mgmt, s.esc, s.sensors, s.listeners, s.wb,
      s.links, s.cab, s.outs, s.ring, s.stopQ⟩ ↔ Ev m a s :=
  Ev.both rfl rfl rfl rfl rfl rfl rfl rfl rfl rfl rfl (frame_of (k := .road) (orBit hb) (fun p hp => by
    cases p <;> first | rfl | exact absurd rfl hp))

theorem Ev.raw_syncs (hb : 2 ^ 16 ||| m = m) {a s : State} (x) :
    Ev m a ⟨s.pending, s.time, s.freeCount, s.fields, s.shadow, s.staged, s.snapHost, s.snapBk, s.bus, s.carrier, s.map,
      s.boot, s.regions, s.wakeQ, s.road, x, s.beds, s.faces, s.host, s.mgmt, s.esc, s.sensors, s.listeners, s.wb,
      s.links, s.cab, s.outs, s.ring, s.stopQ⟩ ↔ Ev m a s :=
  Ev.both rfl rfl rfl rfl rfl rfl rfl rfl rfl rfl rfl (frame_of (k := .syncs) (orBit hb) (fun p hp => by
    cases p <;> first | rfl | exact absurd rfl hp))

theorem Ev.raw_esc (hb : 2 ^ 23 ||| m = m) {a s : State} (x) :
    Ev m a ⟨s.pending, s.time, s.freeCount, s.fields, s.shadow, s.staged, s.snapHost, s.snapBk, s.bus, s.carrier, s.map,
      s.boot, s.regions, s.wakeQ, s.road, s.syncs, s.beds, s.faces, s.host, s.mgmt, x, s.sensors, s.listeners, s.wb,
      s.links, s.cab, s.outs, s.ring, s.stopQ⟩ ↔ Ev m a s :=
  Ev.both rfl rfl rfl rfl rfl rfl rfl rfl rfl rfl rfl (frame_of (k := .esc) (orBit hb) (fun p hp => by
    cases p <;> first | rfl | exact absurd rfl hp))

theorem Ev.raw_sensors (hb : 2 ^ 24 ||| m = m) {a s : State} (x) :
    Ev m a ⟨s.pending, s.time, s.freeCount, s.fields, s.shadow, s.staged, s.snapHost, s.snapBk, s.bus, s.carrier, s.map,
      s.boot, s.regions, s.wakeQ, s.road, s.syncs, s.beds, s.faces, s.host, s.mgmt, s.esc, x, s.listeners, s.wb, s.links,
      s.cab, s.outs, s.ring, s.stopQ⟩ ↔ Ev m a s :=
  Ev.both rfl rfl rfl rfl rfl rfl rfl rfl rfl rfl rfl (frame_of (k := .sensors) (orBit hb) (fun p hp => by
    cases p <;> first | rfl | exact absurd rfl hp))

theorem Ev.raw_wb (hb : 2 ^ 26 ||| m = m) {a s : State} (x) :
    Ev m a ⟨s.pending, s.time, s.freeCount, s.fields, s.shadow, s.staged, s.snapHost, s.snapBk, s.bus, s.carrier, s.map,
      s.boot, s.regions, s.wakeQ, s.road, s.syncs, s.beds, s.faces, s.host, s.mgmt, s.esc, s.sensors, s.listeners, x,
      s.links, s.cab, s.outs, s.ring, s.stopQ⟩ ↔ Ev m a s :=
  Ev.both rfl rfl rfl rfl rfl rfl rfl rfl rfl rfl rfl (frame_of (k := .wb) (orBit hb) (fun p hp => by
    cases p <;> first | rfl | exact absurd rfl hp))

theorem Ev.raw_links (hb : 2 ^ 27 ||| m = m) {a s : State} (x) :
    Ev m a ⟨s.pending, s.time, s.freeCount, s.fields, s.shadow, s.staged, s.snapHost, s.snapBk, s.bus, s.carrier, s.map,
      s.boot, s.regions, s.wakeQ, s.road, s.syncs, s.beds, s.faces, s.host, s.mgmt, s.esc, s.sensors, s.listeners, s.wb,
      x, s.cab, s.outs, s.ring, s.stopQ⟩ ↔ Ev m a s :=
  Ev.both rfl rfl rfl rfl rfl rfl rfl rfl rfl rfl rfl (frame_of (k := .links) (orBit hb) (fun p hp => by
    cases p <;> first | rfl | exact absurd rfl hp))

theorem Ev.raw_cab (hb : 2 ^ 28 ||| m = m) {a s : State} (x) :
    Ev m a ⟨s.pending, s.time, s.freeCount, s.fields, s.shadow, s.staged, s.snapHost, s.snapBk, s.bus, s.carrier, s.map,
      s.boot, s.regions, s.wakeQ, s.road, s.syncs, s.beds, s.faces, s.host, s.mgmt, s.esc, s.sensors, s.listeners, s.wb,
      s.links, x, s.outs, s.ring, s.stopQ⟩ ↔ Ev m a s :=
  Ev.both rfl rfl rfl rfl rfl rfl rfl rfl rfl rfl rfl (frame_of (k := .cab) (orBit hb) (fun p hp => by
    cases p <;> first | rfl | exact absurd rfl hp))

theorem Ev.raw_outs (hb : 2 ^ 29 ||| m = m) {a s : State} (x) :
    Ev m a ⟨s.pending, s.time, s.freeCount, s.fields, s.shadow, s.staged, s.snapHost, s.snapBk, s.bus, s.carrier, s.map,
      s.boot, s.regions, s.wakeQ, s.road, s.syncs, s.beds, s.faces, s.host, s.mgmt, s.esc, s.sensors, s.listeners, s.wb,
      s.links, s.cab, x, s.ring, s.stopQ⟩ ↔ Ev m a s :=
  Ev.both rfl rfl rfl rfl rfl rfl rfl rfl rfl rfl rfl (frame_of (k := .outs) (orBit hb) (fun p hp => by
    cases p <;> first | rfl | exact absurd rfl hp))

theorem Ev.raw_ring (hb : 2 ^ 30 ||| m = m) {a s : State} (x) :
    Ev m a ⟨s.pending, s.time, s.freeCount, s.fields, s.shadow, s.staged, s.snapHost, s.snapBk, s.bus, s.carrier, s.map,
      s.boot, s.regions, s.wakeQ, s.road, s.syncs, s.beds, s.faces, s.host, s.mgmt, s.esc, s.sensors, s.listeners, s.wb,
      s.links, s.cab, s.outs, x, s.stopQ⟩ ↔ Ev m a s :=
  Ev.both rfl rfl rfl rfl rfl rfl rfl rfl rfl rfl rfl (frame_of (k := .ring) (orBit hb) (fun p hp => by
    cases p <;> first | rfl | exact absurd rfl hp))

theorem Ev.raw_stopQ (hb : 2 ^ 31 ||| m = m) {a s : State} (x) :
    Ev m a ⟨s.pending, s.time, s.freeCount, s.fields, s.shadow, s.staged, s.snapHost, s.snapBk, s.bus, s.carrier, s.map,
      s.boot, s.regions, s.wakeQ, s.road, s.syncs, s.beds, s.faces, s.host, s.mgmt, s.esc, s.sensors, s.listeners, s.wb,
      s.links, s.cab, s.outs, s.ring, x⟩ ↔ Ev m a s :=
  Ev.both rfl rfl rfl rfl rfl rfl rfl rfl rfl rfl rfl (frame_of (k := .stopQ) (orBit hb) (fun p hp => by
    cases p <;> first | rfl | exact absurd rfl hp))

theorem Ev.raw_queues (hb : 2 ^ 14 ||| m = m) (hc : 2 ^ 31 ||| m = m) {a s : State} (x y) :
    Ev m a ⟨s.pending, s.time, s.freeCount, s.fields, s.shadow, s.staged, s.snapHost, s.snapBk, s.bus, s.carrier, s.map,
      s.boot, s.regions, x, s.road, s.syncs, s.beds, s.faces, s.host, s.mgmt, s.esc, s.sensors, s.listeners, s.wb,
      s.links, s.cab, s.outs, s.ring, y⟩ ↔ Ev m a s :=
  Ev.both rfl rfl rfl rfl rfl rfl rfl rfl rfl rfl rfl (fun p hp => by
    cases p <;> first | rfl | exact absurd ((orBit (k := 14) hb).symm.trans hp) (by decide) |
      exact absurd ((orBit (k := 31) hc).symm.trans hp) (by decide))

/-! ## Parts of which a change may leave one half alone -/

/-- A half changes only if its bit is set. -/
theorem half {α : Type} {k : Nat} {x y : α} (h : 2 ^ k ||| m = m ∨ y = x) (hp : m.testBit k = false) : y = x := by
  obtain h | h := h
  · rw [orBit h] at hp
    cases hp
  · exact h

theorem Ev.updCarrier {a s : State} (h : Ev m a s) (f : Carrier → Carrier)
    (h1 : 2 ^ 8 ||| m = m ∨ ∀ x, Carrier.supply (f x) = Carrier.supply x) (h2 : 2 ^ 9 ||| m = m ∨ ∀ x, Carrier.hostPwrOk (f x) = Carrier.hostPwrOk x) :
    Ev m a (s.updCarrier f) :=
  h.same rfl rfl rfl rfl rfl rfl rfl rfl rfl rfl rfl (fun p hp => by
    cases p <;> first
      | rfl
      | exact half (k := 8) (h1.imp id (fun k => k s.carrier)) hp
      | exact half (k := 9) (h2.imp id (fun k => k s.carrier)) hp)

theorem Ev.updMap {a s : State} (h : Ev m a s) (f : MapSt → MapSt)
    (h1 : 2 ^ 10 ||| m = m ∨ ∀ x, MapSt.record (f x) = MapSt.record x) (h2 : 2 ^ 11 ||| m = m ∨ ∀ x, MapSt.entries (f x) = MapSt.entries x) :
    Ev m a (s.updMap f) :=
  h.same rfl rfl rfl rfl rfl rfl rfl rfl rfl rfl rfl (fun p hp => by
    cases p <;> first
      | rfl
      | exact half (k := 10) (h1.imp id (fun k => k s.map)) hp
      | exact half (k := 11) (h2.imp id (fun k => k s.map)) hp)

theorem Ev.updMgmt {a s : State} (h : Ev m a s) (f : MgmtSt → MgmtSt)
    (h1 : 2 ^ 21 ||| m = m ∨ ∀ x, MgmtSt.output (f x) = MgmtSt.output x) (h2 : 2 ^ 22 ||| m = m ∨ ∀ x, MgmtSt.access (f x) = MgmtSt.access x) :
    Ev m a (s.updMgmt f) :=
  h.same rfl rfl rfl rfl rfl rfl rfl rfl rfl rfl rfl (fun p hp => by
    cases p <;> first
      | rfl
      | exact half (k := 21) (h1.imp id (fun k => k s.mgmt)) hp
      | exact half (k := 22) (h2.imp id (fun k => k s.mgmt)) hp)

/-! ## The register tables -/

theorem Ev.setF {a s : State} (h : Ev m a s) (hm : 4 ||| m = m) (ref : Nat) (f : Fld) (v : Nat) : Ev m a (setF s ref f v) :=
  h.trans ⟨rfl, Nat.le_refl _, fun c => ⟨⟨tabRising_tset _ _ _ c.registers.fields, c.registers.shadow, c.registers.staged, c.registers.snapHost, c.registers.snapBk⟩,
    ⟨c.memories.host, c.memories.beds, c.memories.faces, c.memories.listeners⟩⟩,
    frame_of (k := .fields) (orBit (k := 2) hm) (fun p hp => by cases p <;> first | rfl | exact absurd rfl hp)⟩

theorem Ev.setShadow {a s : State} (h : Ev m a s) (hm : 8 ||| m = m) (ref : Nat) (f : Fld) (v : Nat) : Ev m a (setShadow s ref f v) :=
  h.trans ⟨rfl, Nat.le_refl _, fun c => ⟨⟨c.registers.fields, tabRising_tset _ _ _ c.registers.shadow, c.registers.staged, c.registers.snapHost, c.registers.snapBk⟩,
    ⟨c.memories.host, c.memories.beds, c.memories.faces, c.memories.listeners⟩⟩,
    frame_of (k := .shadow) (orBit (k := 3) hm) (fun p hp => by cases p <;> first | rfl | exact absurd rfl hp)⟩

theorem Ev.clearFields {a s : State} (h : Ev m a s) (hm : 4 ||| m = m) (lo hi : Nat) : Ev m a { s with fields := tclear s.fields lo hi } :=
  h.trans ⟨rfl, Nat.le_refl _, fun c => ⟨⟨tabRising_tclear _ _ c.registers.fields, c.registers.shadow, c.registers.staged, c.registers.snapHost, c.registers.snapBk⟩,
    ⟨c.memories.host, c.memories.beds, c.memories.faces, c.memories.listeners⟩⟩,
    frame_of (k := .fields) (orBit (k := 2) hm) (fun p hp => by cases p <;> first | rfl | exact absurd rfl hp)⟩

theorem Ev.clearShadow {a s : State} (h : Ev m a s) (hm : 8 ||| m = m) (lo hi : Nat) : Ev m a { s with shadow := tclear s.shadow lo hi } :=
  h.trans ⟨rfl, Nat.le_refl _, fun c => ⟨⟨c.registers.fields, tabRising_tclear _ _ c.registers.shadow, c.registers.staged, c.registers.snapHost, c.registers.snapBk⟩,
    ⟨c.memories.host, c.memories.beds, c.memories.faces, c.memories.listeners⟩⟩,
    frame_of (k := .shadow) (orBit (k := 3) hm) (fun p hp => by cases p <;> first | rfl | exact absurd rfl hp)⟩

theorem Ev.delShadow {a s : State} (h : Ev m a s) (hm : 8 ||| m = m) (k : Nat) : Ev m a { s with shadow := tdel s.shadow k } :=
  h.trans ⟨rfl, Nat.le_refl _, fun c => ⟨⟨c.registers.fields, tabRising_tdel _ c.registers.shadow, c.registers.staged, c.registers.snapHost, c.registers.snapBk⟩,
    ⟨c.memories.host, c.memories.beds, c.memories.faces, c.memories.listeners⟩⟩,
    frame_of (k := .shadow) (orBit (k := 3) hm) (fun p hp => by cases p <;> first | rfl | exact absurd rfl hp)⟩

theorem Ev.putStaged {a s : State} (h : Ev m a s) (hm : 16 ||| m = m) (k v : Nat) : Ev m a { s with staged := tput s.staged k v } :=
  h.trans ⟨rfl, Nat.le_refl _, fun c => ⟨⟨c.registers.fields, c.registers.shadow, tabRising_tput _ _ c.registers.staged, c.registers.snapHost, c.registers.snapBk⟩,
    ⟨c.memories.host, c.memories.beds, c.memories.faces, c.memories.listeners⟩⟩,
    frame_of (k := .staged) (orBit (k := 4) hm) (fun p hp => by cases p <;> first | rfl | exact absurd rfl hp)⟩

theorem Ev.delStaged {a s : State} (h : Ev m a s) (hm : 16 ||| m = m) (k : Nat) : Ev m a { s with staged := tdel s.staged k } :=
  h.trans ⟨rfl, Nat.le_refl _, fun c => ⟨⟨c.registers.fields, c.registers.shadow, tabRising_tdel _ c.registers.staged, c.registers.snapHost, c.registers.snapBk⟩,
    ⟨c.memories.host, c.memories.beds, c.memories.faces, c.memories.listeners⟩⟩,
    frame_of (k := .staged) (orBit (k := 4) hm) (fun p hp => by cases p <;> first | rfl | exact absurd rfl hp)⟩

theorem Ev.putSnapBk {a s : State} (h : Ev m a s) (hm : 64 ||| m = m) (k v : Nat) : Ev m a { s with snapBk := tset 0 s.snapBk k v } :=
  h.trans ⟨rfl, Nat.le_refl _, fun c => ⟨⟨c.registers.fields, c.registers.shadow, c.registers.staged, c.registers.snapHost, tabRising_tset _ _ _ c.registers.snapBk⟩,
    ⟨c.memories.host, c.memories.beds, c.memories.faces, c.memories.listeners⟩⟩,
    frame_of (k := .snapBk) (orBit (k := 6) hm) (fun p hp => by cases p <;> first | rfl | exact absurd rfl hp)⟩

theorem Ev.putSnapHost {a s : State} (h : Ev m a s) (hm : 32 ||| m = m) (k v : Nat) : Ev m a { s with snapHost := tset 0 s.snapHost k v } :=
  h.trans ⟨rfl, Nat.le_refl _, fun c => ⟨⟨c.registers.fields, c.registers.shadow, c.registers.staged, tabRising_tset _ _ _ c.registers.snapHost, c.registers.snapBk⟩,
    ⟨c.memories.host, c.memories.beds, c.memories.faces, c.memories.listeners⟩⟩,
    frame_of (k := .snapHost) (orBit (k := 5) hm) (fun p hp => by cases p <;> first | rfl | exact absurd rfl hp)⟩

theorem Ev.resetPage {a s : State} (h : Ev m a s) (hm : 124 ||| m = m) (ref : Nat) (keep : List Fld) :
    Ev m a (resetPage s ref keep) := by
  have k : Ev 124 s (Machine.resetPage s ref keep) := ⟨rfl, Nat.le_refl _,
    fun c => ⟨⟨tabRising_filter _ c.registers.fields, tabRising_tclear _ _ c.registers.shadow,
      tabRising_tclear _ _ c.registers.staged, tabRising_tclear _ _ c.registers.snapHost,
      tabRising_tclear _ _ c.registers.snapBk⟩,
      ⟨c.memories.host, c.memories.beds, c.memories.faces, c.memories.listeners⟩⟩,
    fun p hp => by cases p <;> first | rfl | exact absurd hp (by decide)⟩
  exact h.trans (k.widen hm)

theorem Ev.count {a s : State} (h : Ev m a s) (hm : 2 ||| m = m) (n : Nat) :
    Ev m a { s with freeCount := s.freeCount + n } :=
  h.trans ⟨rfl, Nat.le_add_right _ _, fun c => ⟨⟨c.registers.fields, c.registers.shadow, c.registers.staged,
    c.registers.snapHost, c.registers.snapBk⟩, ⟨c.memories.host, c.memories.beds, c.memories.faces, c.memories.listeners⟩⟩,
    frame_of (k := .freeCount) (orBit (k := 1) hm) (fun p hp => by cases p <;> first | rfl | exact absurd rfl hp)⟩

theorem Ev.fresh {a s : State} (h : Ev m a s) (hm : 2 ||| m = m) : Ev m a s.fresh.1 := h.count hm 1

/-! ## The parts that hold memories -/

theorem Ev.updHost {a s : State} (h : Ev m a s) (f : HostSt → HostSt)
    (h1 : 2 ^ 19 ||| m = m ∨ ∀ x, HostSt.memory (f x) = HostSt.memory x)
    (h2 : 2 ^ 20 ||| m = m ∨ ∀ x, HostSt.table (f x) = HostSt.table x)
    (hf : ∀ x, Memory.wf x.mem = true → Memory.wf (f x).mem = true) : Ev m a (s.updHost f) :=
  h.trans ⟨rfl, Nat.le_refl _, fun c => ⟨⟨c.registers.fields, c.registers.shadow, c.registers.staged,
    c.registers.snapHost, c.registers.snapBk⟩, ⟨hf _ c.memories.host, c.memories.beds, c.memories.faces, c.memories.listeners⟩⟩,
    fun p hp => by
      cases p <;> first
        | rfl
        | exact half (k := 19) (h1.imp id (fun k => k s.host)) hp
        | exact half (k := 20) (h2.imp id (fun k => k s.host)) hp⟩

theorem bed_updBed (s : State) (r q : Nat) (f : BedSt → BedSt) :
    (s.updBed r f).bed q = if q = r then f (s.bed r) else s.bed q := tget_tset _ _ _ _ _

theorem faceAt_updFace (s : State) (g q : Nat) (f : FaceSt → FaceSt) :
    (s.updFace g f).faceAt q = if q = g then f (s.faceAt g) else s.faceAt q := tget_tset _ _ _ _ _

theorem listener_updListener (s : State) (p q : Nat) (f : ListenerSt → ListenerSt) :
    (s.updListener p f).listener q = if q = p then f (s.listener p) else s.listener q := tget_tset _ _ _ _ _

theorem Ev.updBed {a s : State} (h : Ev m a s) (hm : 131072 ||| m = m) (r : Nat) (f : BedSt → BedSt)
    (hf : ∀ x, Memory.wf x.bytes = true → Memory.wf (f x).bytes = true) :
    Ev m a (s.updBed r f) :=
  h.trans ⟨rfl, Nat.le_refl _, fun c => ⟨⟨c.registers.fields, c.registers.shadow, c.registers.staged,
    c.registers.snapHost, c.registers.snapBk⟩, ⟨c.memories.host, fun q => by
      rw [bed_updBed]; split
      · exact hf _ (c.memories.beds r)
      · exact c.memories.beds q, c.memories.faces, c.memories.listeners⟩⟩,
    frame_of (k := .beds) (orBit (k := 17) hm) (fun p hp => by cases p <;> first | rfl | exact absurd rfl hp)⟩

theorem Ev.updFace {a s : State} (h : Ev m a s) (hm : 262144 ||| m = m) (g : Nat) (f : FaceSt → FaceSt)
    (hf : ∀ x, Memory.wf x.sram = true → Memory.wf (f x).sram = true) :
    Ev m a (s.updFace g f) :=
  h.trans ⟨rfl, Nat.le_refl _, fun c => ⟨⟨c.registers.fields, c.registers.shadow, c.registers.staged,
    c.registers.snapHost, c.registers.snapBk⟩, ⟨c.memories.host, c.memories.beds, fun q => by
      rw [faceAt_updFace]; split
      · exact hf _ (c.memories.faces g)
      · exact c.memories.faces q, c.memories.listeners⟩⟩,
    frame_of (k := .faces) (orBit (k := 18) hm) (fun p hp => by cases p <;> first | rfl | exact absurd rfl hp)⟩

theorem Ev.setBed {a s : State} (h : Ev m a s) (hm : 131072 ||| m = m) (r : Nat) {b : BedSt}
    (hb : Memory.wf (s.bed r).bytes = true → Memory.wf b.bytes = true) :
    Ev m a (s.updBed r (fun _ => b)) :=
  h.trans ⟨rfl, Nat.le_refl _, fun c => ⟨⟨c.registers.fields, c.registers.shadow, c.registers.staged,
    c.registers.snapHost, c.registers.snapBk⟩, ⟨c.memories.host, fun q => by
      rw [bed_updBed]; split
      · exact hb (c.memories.beds r)
      · exact c.memories.beds q, c.memories.faces, c.memories.listeners⟩⟩,
    frame_of (k := .beds) (orBit (k := 17) hm) (fun p hp => by cases p <;> first | rfl | exact absurd rfl hp)⟩

theorem Ev.setFace {a s : State} (h : Ev m a s) (hm : 262144 ||| m = m) (g : Nat) {f : FaceSt}
    (hf : Memory.wf (s.faceAt g).sram = true → Memory.wf f.sram = true) :
    Ev m a (s.updFace g (fun _ => f)) :=
  h.trans ⟨rfl, Nat.le_refl _, fun c => ⟨⟨c.registers.fields, c.registers.shadow, c.registers.staged,
    c.registers.snapHost, c.registers.snapBk⟩, ⟨c.memories.host, c.memories.beds, fun q => by
      rw [faceAt_updFace]; split
      · exact hf (c.memories.faces g)
      · exact c.memories.faces q, c.memories.listeners⟩⟩,
    frame_of (k := .faces) (orBit (k := 18) hm) (fun p hp => by cases p <;> first | rfl | exact absurd rfl hp)⟩

theorem Ev.updListener {a s : State} (h : Ev m a s) (hm : 33554432 ||| m = m) (p : Nat) (f : ListenerSt → ListenerSt)
    (hf : ∀ x, Memory.wf x.image = true → Memory.wf (f x).image = true) :
    Ev m a (s.updListener p f) :=
  h.trans ⟨rfl, Nat.le_refl _, fun c => ⟨⟨c.registers.fields, c.registers.shadow, c.registers.staged,
    c.registers.snapHost, c.registers.snapBk⟩, ⟨c.memories.host, c.memories.beds, c.memories.faces, fun q => by
      rw [listener_updListener]; split
      · exact hf _ (c.memories.listeners p)
      · exact c.memories.listeners q⟩⟩,
    frame_of (k := .listeners) (orBit (k := 25) hm) (fun q hp => by cases q <;> first | rfl | exact absurd rfl hp)⟩

/-! ## The forms of a definition's body -/

theorem Ev.ite {a x y : State} {c : Prop} [Decidable c] (h1 : Ev m a x) (h2 : Ev m a y) : Ev m a (if c then x else y) := by
  split <;> assumption

theorem Ev.foldl {a s : State} (h : Ev m a s) {β : Type} (l : List β) (f : State → β → State)
    (hf : ∀ t x, Ev m a t → Ev m a (f t x)) : Ev m a (l.foldl f s) := by
  induction l generalizing s with
  | nil => exact h
  | cons x l ih => exact ih (hf s x h)

/-- What `Ev` asks of an operation that answers a state and a value. -/
structure EvP (m : Nat) {α : Type} (a : State) (p : State × α) : Prop where
  fst : Ev m a p.1

theorem EvP.mk' {α : Type} {a s : State} (h : Ev m a s) (x : α) : EvP m a (s, x) := ⟨h⟩

theorem EvP.mk_iff {α : Type} {a s : State} (x : α) : EvP m a (s, x) ↔ Ev m a s := ⟨fun h => h.fst, fun h => ⟨h⟩⟩

theorem EvP.ite {α : Type} {a : State} {x y : State × α} {c : Prop} [Decidable c] (h1 : EvP m a x) (h2 : EvP m a y) :
    EvP m a (if c then x else y) := by
  split <;> assumption

theorem EvP.fresh {a s : State} (h : Ev m a s) (hm : 2 ||| m = m) : EvP m a s.fresh := ⟨Ev.fresh h hm⟩

theorem EvP.foldl {α β : Type} {a : State} {p : State × α} (h : EvP m a p) (l : List β) (f : State × α → β → State × α)
    (hf : ∀ t x, EvP m a t → EvP m a (f t x)) : EvP m a (l.foldl f p) := by
  induction l generalizing p with
  | nil => exact h
  | cons x l ih => exact ih (hf p x h)

/-- What `Ev` asks of a meaning. -/
structure EvOut (m : Nat) (a : State) (o : Host.Outcome State Fault Refusal) : Prop where
  out : ∀ t, o = .next t → Ev m a t

theorem EvOut.next {a t : State} (h : Ev m a t) : EvOut m a (.next t) := by
  refine ⟨fun u hu => ?_⟩
  cases hu
  exact h

theorem EvOut.guardDo {a s : State} (h : Ev m a s) (c : Bool) (f : State → State) (hf : ∀ t, Ev m a t → Ev m a (f t)) :
    EvOut m a (guardDo c f s) := by
  unfold Machine.guardDo
  apply EvOut.next
  cases c
  · exact h
  · exact hf s h

theorem EvOut.ite {a : State} {x y : Host.Outcome State Fault Refusal} {c : Prop} [Decidable c] (h1 : EvOut m a x)
    (h2 : EvOut m a y) : EvOut m a (if c then x else y) := by
  split <;> assumption

theorem EvOut.fault {a : State} (r : Fault) : EvOut m a (.fault r) := by
  refine ⟨fun t ht => ?_⟩
  cases ht

theorem faceReset_wf : Memory.wf FaceSt.reset.sram = true := rfl

theorem bedFoldl {β : Type} {b : BedSt} (h : Memory.wf b.bytes = true) (l : List β) (f : BedSt → β → BedSt)
    (hf : ∀ t x, Memory.wf t.bytes = true → Memory.wf (f t x).bytes = true) : Memory.wf (l.foldl f b).bytes = true := by
  induction l generalizing b with
  | nil => exact h
  | cons x l ih => exact ih (hf b x h)

theorem faceFoldl {β : Type} {b : FaceSt} (h : Memory.wf b.sram = true) (l : List β) (f : FaceSt → β → FaceSt)
    (hf : ∀ t x, Memory.wf t.sram = true → Memory.wf (f t x).sram = true) : Memory.wf (l.foldl f b).sram = true := by
  induction l generalizing b with
  | nil => exact h
  | cons x l ih => exact ih (hf b x h)

theorem bedIte {c : Prop} [Decidable c] {x y : BedSt} (h1 : Memory.wf x.bytes = true) (h2 : Memory.wf y.bytes = true) :
    Memory.wf (if c then x else y).bytes = true := by
  split <;> assumption

theorem faceIte {c : Prop} [Decidable c] {x y : FaceSt} (h1 : Memory.wf x.sram = true) (h2 : Memory.wf y.sram = true) :
    Memory.wf (if c then x else y).sram = true := by
  split <;> assumption

end Sys2Proof.Machine
end

