-- ==== Sys2Proof/Laws/Ev01.lean ====
section
/-! SUPPORT. Laws/Ev01.lean: `Ev` of every operation of Machine/Ops.lean, Machine/Flags.lean, Machine/RoadCore.lean,
Machine/BedCore.lean, Machine/LinkCore.lean, Machine/FaceCore.lean. -/

namespace Sys2Proof.Machine

open Sys2Proof

/-! ## Machine/Ops.lean -/

theorem ev_addF {a s : State} (h : Ev m a s) (hm : 4 ||| m = m) (ref f n) : Ev m a (addF s ref f n) := by
  dsimp only [addF]
  with_reducible repeat' first | assumption | apply Ev.setF

theorem ev_State_updJob {a s : State} (h : Ev m a s) (hm : 1048576 ||| m = m) (j f) : Ev m a (State.updJob s j f) := by
  dsimp only [State.updJob]
  with_reducible
    repeat' first
      | assumption | intro _ | exact .inl (orSub (by decide) hm) | exact .inr (fun _ => rfl) | apply Ev.updHost

theorem ev_State_updSync {a s : State} (h : Ev m a s) (hm : 65536 ||| m = m) (r f) : Ev m a (State.updSync s r f) := by
  dsimp only [State.updSync]
  with_reducible repeat' first | assumption | simp only [Ev.raw_syncs (orSub (by decide) hm)]

theorem ev_State_updRoad {a s : State} (h : Ev m a s) (hm : 32768 ||| m = m) (f) : Ev m a (State.updRoad s f) := by
  dsimp only [State.updRoad]
  with_reducible repeat' first | assumption | simp only [Ev.raw_road (orSub (by decide) hm)]

theorem ev_State_updRegion {a s : State} (h : Ev m a s) (hm : 8192 ||| m = m) (r f) : Ev m a (State.updRegion s r f) := by
  dsimp only [State.updRegion]
  with_reducible repeat' first | assumption | simp only [Ev.raw_regions (orSub (by decide) hm)]

theorem ev_putFlag {a s : State} (h : Ev m a s) (hm : 4 ||| m = m) (ref f b) : Ev m a (putFlag s ref f b) := by
  dsimp only [putFlag]
  with_reducible repeat' first | assumption | apply Ev.setF

theorem ev_copyShadows {a s : State} (h : Ev m a s) (hm : 12 ||| m = m) (rows ref) : Ev m a (copyShadows s rows ref) := by
  dsimp only [copyShadows]
  refine Ev.clearShadow ?_ (orSub (by decide) hm) _ _
  with_reducible repeat' first | assumption | intro _ | exact orSub (by decide) hm | apply Ev.setF | apply Ev.foldl | split

theorem ev_done {a s : State} (h : Ev m a s) : EvOut m a (done s) := by
  dsimp only [done]
  with_reducible repeat' first | apply EvOut.next | assumption

theorem ev_State_updBoot {a s : State} (h : Ev m a s) (hm : 4096 ||| m = m) (f) : Ev m a (State.updBoot s f) := by
  dsimp only [State.updBoot]
  with_reducible repeat' first | assumption | simp only [Ev.raw_boot (orSub (by decide) hm)]

theorem ev_satF {a s : State} (h : Ev m a s) (hm : 4 ||| m = m) (ref f n) : Ev m a (satF s ref f n) := by
  dsimp only [satF]
  with_reducible repeat' first | assumption | apply Ev.setF

/-! ## Machine/Flags.lean -/

theorem ev_latch {a s : State} (h : Ev m a s) (hm : 4 ||| m = m) (ref k evbit) : EvP m a (latch s ref k evbit) := by
  dsimp only [latch]
  with_reducible repeat' first | assumption | apply Ev.setF | apply EvP.ite | simp only [EvP.mk_iff]

theorem ev_hostWrite {a s : State} (h : Ev m a s) (hm : 524288 ||| m = m) (x2 bs) : Ev m a (hostWrite s x2 bs) := by
  dsimp only [hostWrite]
  with_reducible
    repeat' first
      | assumption | intro _ | exact .inl (orSub (by decide) hm) | exact .inr (fun _ => rfl) | apply Ev.updHost
      | apply mputs_wf

theorem ev_hostEventRaw {a s : State} (h : Ev m a s) (hm : 524292 ||| m = m) (page evbit stat errinfo) :
    EvP m a (hostEventRaw s page evbit stat errinfo) := by
  dsimp only [hostEventRaw]
  with_reducible
    repeat' first
      | assumption | intro _ | exact orSub (by decide) hm | exact .inl (orSub (by decide) hm) | exact .inr (fun _ => rfl)
      | apply Ev.updHost | apply ev_addF | apply ev_hostWrite | apply Ev.setF | apply EvP.ite | split
      | simp only [EvP.mk_iff]

theorem ev_sendMsix {a s : State} (h : Ev m a s) (hm : 524292 ||| m = m) (v) : Ev m a (sendMsix s v) := by
  dsimp only [sendMsix]
  with_reducible
    repeat' first
      | assumption | intro _ | exact orSub (by decide) hm | exact .inl (orSub (by decide) hm) | exact .inr (fun _ => rfl)
      | apply Ev.setF | apply Ev.updHost | apply Ev.ite

theorem ev_notifyLog {a s : State} (h : Ev m a s) (hm : 2097152 ||| m = m) (lr) : Ev m a (notifyLog s lr) := by
  dsimp only [notifyLog]
  with_reducible
    repeat' first
      | assumption | exact .inl (orSub (by decide) hm) | exact .inr (fun _ => rfl) | apply Ev.updMgmt

theorem ev_logPush {a s : State} (h : Ev m a s) (hm : 2097156 ||| m = m) (kind region code data) :
    Ev m a (logPush s kind region code data) := by
  dsimp only [logPush]
  with_reducible
    repeat' first
      | assumption | exact orSub (by decide) hm | exact .inl (orSub (by decide) hm) | exact .inr (fun _ => rfl)
      | apply Ev.updMgmt | apply Ev.setF | apply ev_addF | apply ev_notifyLog | apply Ev.ite

theorem ev_deliverRaw {a s : State} (h : Ev m a s) (hm : 2621444 ||| m = m) (ref evbit msg) :
    EvP m a (deliverRaw s ref evbit msg) := by
  dsimp only [deliverRaw]
  with_reducible
    repeat' first
      | assumption | exact orSub (by decide) hm | apply ev_hostEventRaw | apply ev_sendMsix | apply ev_logPush
      | apply EvP.ite | apply EvP.fst | split | simp only [EvP.mk_iff]

theorem ev_raiseRaw {a s : State} (h : Ev m a s) (hm : 2621444 ||| m = m) (ref evbit) : EvP m a (raiseRaw s ref evbit) := by
  dsimp only [raiseRaw]
  with_reducible
    repeat' first
      | assumption | exact orSub (by decide) hm | apply ev_latch | apply ev_deliverRaw | apply EvP.ite | apply EvP.fst
      | split | simp only [EvP.mk_iff]

theorem ev_followUp {a s : State} (h : Ev m a s) (hm : 2621444 ||| m = m) (dropped before) :
    Ev m a (followUp s dropped before) := by
  dsimp only [followUp]
  with_reducible repeat' first | assumption | apply ev_raiseRaw | apply Ev.ite | apply EvP.fst

theorem ev_raise {a s : State} (h : Ev m a s) (hm : 2621444 ||| m = m) (ref evbit) : Ev m a (raise s ref evbit) := by
  dsimp only [raise]
  with_reducible repeat' first | assumption | apply ev_raiseRaw | apply ev_followUp | apply EvP.fst

theorem ev_recordErr {a s : State} (h : Ev m a s) (hm : 4 ||| m = m) (ref code src space addr) :
    Ev m a (recordErr s ref code src space addr) := by
  dsimp only [recordErr]
  with_reducible repeat' first | assumption | apply Ev.setF | apply Ev.ite

theorem ev_logRec {a s : State} (h : Ev m a s) (hm : 2621444 ||| m = m) (kind region code data) :
    Ev m a (logRec s kind region code data) := by
  dsimp only [logRec]
  with_reducible repeat' first | assumption | exact orSub (by decide) hm | apply ev_followUp | apply ev_logPush

theorem ev_commitPage {a s : State} (h : Ev m a s) (hm : 12 ||| m = m) (ref) : Ev m a (commitPage s ref) := by
  dsimp only [commitPage]
  with_reducible
    repeat' first
      | assumption | exact orSub (by decide) hm | apply ev_copyShadows | apply ev_addF | apply Ev.setF

theorem ev_portErr {a s : State} (h : Ev m a s) (hm : 4 ||| m = m) (sp code addr) : Ev m a (portErr s sp code addr) := by
  dsimp only [portErr]
  with_reducible repeat' first | assumption | apply ev_recordErr | split

theorem ev_deliver {a s : State} (h : Ev m a s) (hm : 2621444 ||| m = m) (ref evbit msg) :
    Ev m a (deliver s ref evbit msg) := by
  dsimp only [deliver]
  with_reducible repeat' first | assumption | apply ev_deliverRaw | apply ev_followUp | apply EvP.fst

theorem ev_refuseWrite {a s : State} (h : Ev m a s) (hm : 4 ||| m = m) (sp ref off code) :
    Ev m a (refuseWrite s sp ref off code) := by
  dsimp only [refuseWrite]
  with_reducible repeat' first | assumption | apply ev_recordErr | apply Ev.setF

/-! ## Machine/RoadCore.lean -/

theorem ev_setRoute {a s : State} (h : Ev m a s) (hm : 32772 ||| m = m) (r d hop) : Ev m a (setRoute s r d hop) := by
  dsimp only [setRoute]
  with_reducible
    repeat' first
      | assumption | exact orSub (by decide) hm | apply ev_addF | apply ev_State_updRoad | apply Ev.ite

theorem ev_installRoutes {a s : State} (h : Ev m a s) (hm : 32772 ||| m = m) : Ev m a (installRoutes s) := by
  dsimp only [installRoutes]
  with_reducible repeat' first | assumption | intro _ | apply ev_setRoute | apply Ev.ite | apply Ev.foldl

theorem ev_inject {a s : State} (h : Ev m a s) (hm : 32768 ||| m = m) (p) : Ev m a (inject s p) := by
  dsimp only [inject]
  with_reducible repeat' first | assumption | apply ev_State_updRoad

theorem ev_State_updEntry {a s : State} (h : Ev m a s) (hm : 2048 ||| m = m) (r f) : Ev m a (State.updEntry s r f) := by
  dsimp only [State.updEntry]
  with_reducible
    repeat' first
      | assumption | exact .inl (orSub (by decide) hm) | exact .inr (fun _ => rfl) | apply Ev.updMap | apply Ev.ite

theorem ev_setLinkFault {a s : State} (h : Ev m a s) (hm : 2048 ||| m = m) (r dir) : Ev m a (setLinkFault s r dir) := by
  dsimp only [setLinkFault]
  with_reducible repeat' first | assumption | apply ev_State_updEntry | split

theorem ev_routesDead {a s : State} (h : Ev m a s) (hm : 32772 ||| m = m) (d) : Ev m a (routesDead s d) := by
  dsimp only [routesDead]
  with_reducible repeat' first | assumption | intro _ | apply ev_setRoute | apply Ev.ite | apply Ev.foldl

theorem ev_reroute {a s : State} (h : Ev m a s) (hm : 32772 ||| m = m) (bad hold) : Ev m a (reroute s bad hold) := by
  dsimp only [reroute]
  with_reducible
    repeat' first
      | assumption | intro _ | exact orSub (by decide) hm | apply ev_setRoute | apply ev_State_updRoad | apply Ev.ite
      | apply Ev.foldl

/-! ## Machine/BedCore.lean -/

theorem bk_wearLine {s : BedSt} (h : Memory.wf s.bytes = true) (r line) : Memory.wf (wearLine r line s).bytes = true := by
  dsimp only [wearLine]
  assumption

theorem ev_checkLine {a s : State} (h : Ev m a s) (hm : 2752516 ||| m = m) (r line) : Ev m a (checkLine s r line) := by
  dsimp only [checkLine]
  with_reducible
    repeat' first
      | assumption | intro _ | exact orSub (by decide) hm | apply ev_addF | apply Ev.updBed | apply bk_wearLine
      | apply Ev.setF | apply ev_recordErr | apply ev_raise | apply Ev.ite

theorem bk_writeLine {s : BedSt} (h : Memory.wf s.bytes = true) (who x2 bs spoil clearStale) :
    Memory.wf (writeLine who x2 bs spoil clearStale s).bytes = true := by
  dsimp only [writeLine]
  with_reducible repeat' first | assumption | apply mputs_wf

theorem ev_bedWrite {a s : State} (h : Ev m a s) (hm : 2752516 ||| m = m) (r who x4 bs spoil clearStale) :
    Ev m a (bedWrite s r who x4 bs spoil clearStale) := by
  dsimp only [bedWrite]
  with_reducible
    repeat' first
      | assumption | intro _ | exact orSub (by decide) hm | apply Ev.updBed | apply ev_checkLine | apply bk_writeLine
      | apply Ev.ite | apply Ev.foldl

theorem bk_writeMark {s : BedSt} (h : Memory.wf s.bytes = true) (r o) : Memory.wf (writeMark r o s).bytes = true := by
  dsimp only [writeMark]
  with_reducible repeat' first | assumption | apply bk_wearLine

theorem ev_ageLines {a s : State} (h : Ev m a s) (hm : 131072 ||| m = m) (r errs) : Ev m a (ageLines s r errs) := by
  dsimp only [ageLines]
  with_reducible repeat' first | assumption | intro _ | apply Ev.updBed

theorem ev_bedRead {a s : State} (h : Ev m a s) (hm : 2752516 ||| m = m) (r x3 n) : EvP m a (bedRead s r x3 n) := by
  dsimp only [bedRead]
  with_reducible repeat' first | assumption | intro _ | apply ev_checkLine | apply Ev.foldl | simp only [EvP.mk_iff]

theorem bk_selectDir {s : BedSt} (h : Memory.wf s.bytes = true) : Memory.wf (selectDir s).bytes = true := by
  dsimp only [selectDir]
  with_reducible repeat' first | assumption | apply bedIte | split

theorem selectDir_bytes (b : BedSt) : (selectDir b).bytes = b.bytes := by
  dsimp only [selectDir]
  repeat' first
    | rfl
    | split

theorem ev_directorySelect {a s : State} (h : Ev m a s) (hm : 2752516 ||| m = m) (r atWake) : Ev m a (directorySelect s r atWake) := by
  dsimp only [directorySelect]
  have k : ∀ c : Bool, Ev m a (s.updBed r (fun _ => if c then { selectDir (s.bed r) with digests := [] }
      else selectDir (s.bed r))) := by
    intro c
    refine Ev.setBed h (orSub (by decide) hm) r ?_
    cases c <;> simp [selectDir_bytes]
  with_reducible repeat' first | exact orSub (by decide) hm | apply ev_raise | apply k | split

theorem ev_bedWake {a s : State} (h : Ev m a s) (hm : 2752516 ||| m = m) (r) : Ev m a (bedWake s r) := by
  dsimp only [bedWake]
  with_reducible
    repeat' first
      | assumption | intro _ | exact orSub (by decide) hm | apply ev_directorySelect | apply Ev.updBed

theorem bk_flushMarks {s : BedSt} (h : Memory.wf s.bytes = true) (r) : Memory.wf (flushMarks r s).bytes = true := by
  dsimp only [flushMarks]
  with_reducible repeat' first | assumption | intro _ | apply bk_writeMark | apply bedFoldl

theorem bk_flushWrites {s : BedSt} (h : Memory.wf s.bytes = true) (r) : Memory.wf (flushWrites r s).bytes = true := by
  dsimp only [flushWrites]
  with_reducible repeat' first | assumption | intro _ | apply bk_wearLine | apply bedFoldl

theorem ev_readPieces {a s : State} (h : Ev m a s) (hm : 2752516 ||| m = m) (r) (ps : List (Nat × Nat × Nat)) : EvP m a (readPieces s r ps) := by
  induction ps generalizing s with
  | nil => exact ⟨h⟩
  | cons p ps ih => exact ⟨(ih (ev_bedRead h (orSub (by decide) hm) _ _ _).fst).fst⟩

theorem ev_writeBackLine {a s : State} (h : Ev m a s) (hm : 131072 ||| m = m) (r g line bs spoil) :
    Ev m a (writeBackLine s r g line bs spoil) := by
  dsimp only [writeBackLine]
  with_reducible
    repeat' first
      | assumption | intro _ | apply Ev.updBed | apply bk_writeMark | apply bk_writeLine | apply bedFoldl

/-! ## Machine/LinkCore.lean -/

theorem ev_State_updLink {a s : State} (h : Ev m a s) (hm : 134217728 ||| m = m) (k f) : Ev m a (State.updLink s k f) := by
  dsimp only [State.updLink]
  with_reducible repeat' first | assumption | simp only [Ev.raw_links (orSub (by decide) hm)]

theorem ev_setLinkState {a s : State} (h : Ev m a s) (hm : 4 ||| m = m) (k v) : Ev m a (setLinkState s k v) := by
  dsimp only [setLinkState]
  with_reducible repeat' first | assumption | apply Ev.setF

theorem ev_queueData {a s : State} (h : Ev m a s) (hm : 134217728 ||| m = m) (k f) : Ev m a (queueData s k f) := by
  dsimp only [queueData]
  with_reducible repeat' first | assumption | apply ev_State_updLink

theorem ev_linkReply {a s : State} (h : Ev m a s) (hm : 134217728 ||| m = m) (k tag face opId code) :
    Ev m a (linkReply s k tag face opId code) := by
  dsimp only [linkReply]
  with_reducible repeat' first | assumption | apply ev_queueData | apply Ev.ite

theorem ev_signalReply {a s : State} (h : Ev m a s) (hm : 134217728 ||| m = m) (link job peer opId code) :
    Ev m a (signalReply s link job peer opId code) := by
  dsimp only [signalReply]
  with_reducible repeat' first | assumption | apply ev_linkReply

theorem ev_adoptOffset {a s : State} (h : Ev m a s) (hm : 271056900 ||| m = m) (k) : Ev m a (adoptOffset s k) := by
  dsimp only [adoptOffset]
  with_reducible
    repeat' first
      | assumption | exact orSub (by decide) hm | apply ev_logRec | apply ev_raise | apply Ev.ite
      | simp only [Ev.raw_cab (orSub (by decide) hm)]

theorem ev_reselectTime {a s : State} (h : Ev m a s) (hm : 271056900 ||| m = m) : Ev m a (reselectTime s) := by
  dsimp only [reselectTime]
  with_reducible
    repeat' first
      | assumption | apply ev_adoptOffset | apply Ev.ite | split | simp only [Ev.raw_cab (orSub (by decide) hm)]

theorem ev_queueCtl {a s : State} (h : Ev m a s) (hm : 134217728 ||| m = m) (k op) : Ev m a (queueCtl s k op) := by
  dsimp only [queueCtl]
  with_reducible repeat' first | assumption | apply ev_State_updLink

theorem ev_linkAddJob {a s : State} (h : Ev m a s) (hm : 134217732 ||| m = m) (k tag j) :
    Ev m a (linkAddJob s k tag j) := by
  dsimp only [linkAddJob]
  with_reducible repeat' first | assumption | exact orSub (by decide) hm | apply ev_State_updLink | apply Ev.setF | split

theorem ev_linkDropJob {a s : State} (h : Ev m a s) (hm : 134217732 ||| m = m) (k j) : Ev m a (linkDropJob s k j) := by
  dsimp only [linkDropJob]
  with_reducible repeat' first | assumption | exact orSub (by decide) hm | apply ev_State_updLink | apply Ev.setF | split

/-! ## Machine/FaceCore.lean -/

theorem fk_FaceSt_setIssue {s : FaceSt} (h : Memory.wf s.sram = true) (id st) :
    Memory.wf (FaceSt.setIssue s id st).sram = true := by
  dsimp only [FaceSt.setIssue]
  assumption

theorem fk_FaceSt_setA {s : FaceSt} (h : Memory.wf s.sram = true) (k v) : Memory.wf (FaceSt.setA s k v).sram = true := by
  dsimp only [FaceSt.setA]
  with_reducible repeat' first | assumption | apply faceIte

theorem fk_FaceSt_setP {s : FaceSt} (h : Memory.wf s.sram = true) (k b) : Memory.wf (FaceSt.setP s k b).sram = true := by
  dsimp only [FaceSt.setP]
  assumption

theorem ev_replyOk {a s : State} (h : Ev m a s) (hm : 2883588 ||| m = m) (g id val abandoned) :
    Ev m a (replyOk s g id val abandoned) := by
  dsimp only [replyOk]
  with_reducible
    repeat' first
      | assumption | intro _ | exact orSub (by decide) hm | apply Ev.updFace | apply fk_FaceSt_setIssue
      | apply fk_FaceSt_setA | apply fk_FaceSt_setP | apply ev_raise | apply Ev.ite | apply faceIte | split

theorem ev_answer {a s : State} (h : Ev m a s) (hm : 137101316 ||| m = m) (op val abandoned) :
    Ev m a (answer s op val abandoned) := by
  dsimp only [answer]
  with_reducible repeat' first | assumption | exact orSub (by decide) hm | apply ev_replyOk | apply ev_signalReply | split

theorem ev_handLock {a s : State} (h : Ev m a s) (hm : 137166852 ||| m = m) (r o) : Ev m a (handLock s r o) := by
  dsimp only [handLock]
  with_reducible repeat' first | assumption | exact orSub (by decide) hm | apply ev_State_updSync | apply ev_answer | split

theorem ev_abandonLock {a s : State} (h : Ev m a s) (hm : 137166852 ||| m = m) (r o) : Ev m a (abandonLock s r o) := by
  dsimp only [abandonLock]
  with_reducible
    repeat' first
      | assumption | exact orSub (by decide) hm | apply ev_State_updSync | apply ev_addF | apply ev_handLock | apply ev_raise

theorem ev_abandonLocks {a s : State} (h : Ev m a s) (hm : 137166852 ||| m = m) (g) : Ev m a (abandonLocks s g) := by
  dsimp only [abandonLocks]
  with_reducible repeat' first | assumption | intro _ | apply ev_abandonLock | apply Ev.foldl

theorem ev_dropWaits {a s : State} (h : Ev m a s) (hm : 65536 ||| m = m) (g) : Ev m a (dropWaits s g) := by
  dsimp only [dropWaits]
  with_reducible repeat' first | assumption | intro _ | apply ev_State_updSync | apply Ev.ite | apply Ev.foldl

theorem ev_faceDiscards {a s : State} (h : Ev m a s) (hm : 327680 ||| m = m) (g) : Ev m a (faceDiscards s g) := by
  dsimp only [faceDiscards]
  with_reducible repeat' first | assumption | intro _ | exact orSub (by decide) hm | apply Ev.updFace | apply ev_dropWaits

theorem ev_faceRelease {a s : State} (h : Ev m a s) (hm : 137166852 ||| m = m) (g) : Ev m a (faceRelease s g) := by
  dsimp only [faceRelease]
  with_reducible repeat' first | assumption | intro _ | exact orSub (by decide) hm | apply Ev.updFace | apply ev_abandonLocks

theorem ev_faceEnd {a s : State} (h : Ev m a s) (hm : 137166852 ||| m = m) (g) : Ev m a (faceEnd s g) := by
  dsimp only [faceEnd]
  with_reducible
    repeat' first
      | assumption | intro _ | exact orSub (by decide) hm | apply Ev.updFace | apply ev_faceDiscards | apply ev_faceRelease
      | apply Ev.ite

theorem bk_pushMarks {s : BedSt} (h : Memory.wf s.bytes = true) (r ms) : Memory.wf (pushMarks r ms s).bytes = true := by
  dsimp only [pushMarks]
  with_reducible repeat' first | assumption | intro _ | apply bk_writeMark | apply bedFoldl

theorem touchLine_sram (g e : Nat) (w p : Bool) (x : FaceSt × List OutMark) (l : Nat) :
    (touchLine g e w p x l).1.sram = x.1.sram := by
  dsimp only [touchLine]
  split <;> split <;> rfl

theorem touchLines_sram (g e : Nat) (w : Nat → Bool) (p : Bool) (ls : List Nat) (x : FaceSt × List OutMark) :
    (ls.foldl (fun x l => touchLine g e (w l) p x l) x).1.sram = x.1.sram := by
  induction ls generalizing x with
  | nil => rfl
  | cons l ls ih => rw [List.foldl_cons, ih, touchLine_sram]

theorem ev_sramWrite {a s : State} (h : Ev m a s) (hm : 393216 ||| m = m) (g x) (bs : List Nat) (spoil : Bool) :
    Ev m a (sramWrite s g x bs spoil) := by
  dsimp only [sramWrite]
  have k : Ev m a (s.updFace g (fun _ => ((linesOf x bs.length).foldl (fun y l =>
      touchLine g (s.bed (faceRegion g)).epoch (x ≤ l * 64 && l * 64 + 64 ≤ x + bs.length) spoil y l)
      ({ s.faceAt g with sram := mputs (s.faceAt g).sram x bs }, [])).1)) := by
    refine Ev.setFace h (orSub (by decide) hm) g ?_
    intro hw
    rw [touchLines_sram]
    exact mputs_wf _ _ hw
  split
  · exact k
  · exact Ev.updBed k (orSub (by decide) hm) _ _ (fun y hy => bk_pushMarks hy _ _)

theorem ev_markSpoil {a s : State} (h : Ev m a s) (hm : 262144 ||| m = m) (g x3 n) : Ev m a (markSpoil s g x3 n) := by
  dsimp only [markSpoil]
  with_reducible repeat' first | assumption | intro _ | apply Ev.updFace

theorem ev_writeLoad {a s : State} (h : Ev m a s) (hm : 393216 ||| m = m) (g d) : Ev m a (writeLoad s g d) := by
  dsimp only [writeLoad]
  with_reducible
    repeat' first
      | assumption | intro _ | exact orSub (by decide) hm | apply ev_markSpoil | apply ev_sramWrite | apply Ev.foldl

theorem ev_sendOp {a s : State} (h : Ev m a s) (hm : 98304 ||| m = m) (cls src dst op) :
    Ev m a (sendOp s cls src dst op) := by
  dsimp only [sendOp]
  with_reducible
    repeat' first
      | assumption | exact orSub (by decide) hm | apply ev_State_updSync | apply ev_inject | apply Ev.ite

theorem fk_FaceSt_setToken {s : FaceSt} (h : Memory.wf s.sram = true) (k b) :
    Memory.wf (FaceSt.setToken s k b).sram = true := by
  dsimp only [FaceSt.setToken]
  assumption

theorem ev_sramWrites {a s : State} (h : Ev m a s) (hm : 393216 ||| m = m) (g ws spoil) :
    Ev m a (sramWrites s g ws spoil) := by
  dsimp only [sramWrites]
  with_reducible repeat' first | assumption | intro _ | apply ev_sramWrite | apply Ev.foldl

end Sys2Proof.Machine
end

