-- ==== Sys2Proof/Laws/State.lean ====
section
/-! SUPPORT. Laws/State.lean: what each update of the state leaves alone, one lemma a field and an update, and what it
writes. -/

namespace Sys2Proof.Machine

open Sys2Proof

/-! ## setF -/

section

variable (s : State) (ref : Nat) (f : Fld) (v : Nat)

@[simp] theorem setF_pending : (setF s ref f v).pending = s.pending := rfl
@[simp] theorem setF_time : (setF s ref f v).time = s.time := rfl
@[simp] theorem setF_freeCount : (setF s ref f v).freeCount = s.freeCount := rfl
@[simp] theorem setF_shadow : (setF s ref f v).shadow = s.shadow := rfl
@[simp] theorem setF_staged : (setF s ref f v).staged = s.staged := rfl
@[simp] theorem setF_snapHost : (setF s ref f v).snapHost = s.snapHost := rfl
@[simp] theorem setF_snapBk : (setF s ref f v).snapBk = s.snapBk := rfl
@[simp] theorem setF_bus : (setF s ref f v).bus = s.bus := rfl
@[simp] theorem setF_carrier : (setF s ref f v).carrier = s.carrier := rfl
@[simp] theorem setF_map : (setF s ref f v).map = s.map := rfl
@[simp] theorem setF_boot : (setF s ref f v).boot = s.boot := rfl
@[simp] theorem setF_regions : (setF s ref f v).regions = s.regions := rfl
@[simp] theorem setF_wakeQ : (setF s ref f v).wakeQ = s.wakeQ := rfl
@[simp] theorem setF_road : (setF s ref f v).road = s.road := rfl
@[simp] theorem setF_syncs : (setF s ref f v).syncs = s.syncs := rfl
@[simp] theorem setF_beds : (setF s ref f v).beds = s.beds := rfl
@[simp] theorem setF_faces : (setF s ref f v).faces = s.faces := rfl
@[simp] theorem setF_host : (setF s ref f v).host = s.host := rfl
@[simp] theorem setF_mgmt : (setF s ref f v).mgmt = s.mgmt := rfl
@[simp] theorem setF_esc : (setF s ref f v).esc = s.esc := rfl
@[simp] theorem setF_sensors : (setF s ref f v).sensors = s.sensors := rfl
@[simp] theorem setF_listeners : (setF s ref f v).listeners = s.listeners := rfl
@[simp] theorem setF_wb : (setF s ref f v).wb = s.wb := rfl
@[simp] theorem setF_links : (setF s ref f v).links = s.links := rfl
@[simp] theorem setF_cab : (setF s ref f v).cab = s.cab := rfl
@[simp] theorem setF_outs : (setF s ref f v).outs = s.outs := rfl
@[simp] theorem setF_ring : (setF s ref f v).ring = s.ring := rfl
@[simp] theorem setF_stopQ : (setF s ref f v).stopQ = s.stopQ := rfl

end

/-! ## setShadow -/

section

variable (s : State) (ref : Nat) (f : Fld) (v : Nat)

@[simp] theorem setShadow_pending : (setShadow s ref f v).pending = s.pending := rfl
@[simp] theorem setShadow_time : (setShadow s ref f v).time = s.time := rfl
@[simp] theorem setShadow_freeCount : (setShadow s ref f v).freeCount = s.freeCount := rfl
@[simp] theorem setShadow_fields : (setShadow s ref f v).fields = s.fields := rfl
@[simp] theorem setShadow_staged : (setShadow s ref f v).staged = s.staged := rfl
@[simp] theorem setShadow_snapHost : (setShadow s ref f v).snapHost = s.snapHost := rfl
@[simp] theorem setShadow_snapBk : (setShadow s ref f v).snapBk = s.snapBk := rfl
@[simp] theorem setShadow_bus : (setShadow s ref f v).bus = s.bus := rfl
@[simp] theorem setShadow_carrier : (setShadow s ref f v).carrier = s.carrier := rfl
@[simp] theorem setShadow_map : (setShadow s ref f v).map = s.map := rfl
@[simp] theorem setShadow_boot : (setShadow s ref f v).boot = s.boot := rfl
@[simp] theorem setShadow_regions : (setShadow s ref f v).regions = s.regions := rfl
@[simp] theorem setShadow_wakeQ : (setShadow s ref f v).wakeQ = s.wakeQ := rfl
@[simp] theorem setShadow_road : (setShadow s ref f v).road = s.road := rfl
@[simp] theorem setShadow_syncs : (setShadow s ref f v).syncs = s.syncs := rfl
@[simp] theorem setShadow_beds : (setShadow s ref f v).beds = s.beds := rfl
@[simp] theorem setShadow_faces : (setShadow s ref f v).faces = s.faces := rfl
@[simp] theorem setShadow_host : (setShadow s ref f v).host = s.host := rfl
@[simp] theorem setShadow_mgmt : (setShadow s ref f v).mgmt = s.mgmt := rfl
@[simp] theorem setShadow_esc : (setShadow s ref f v).esc = s.esc := rfl
@[simp] theorem setShadow_sensors : (setShadow s ref f v).sensors = s.sensors := rfl
@[simp] theorem setShadow_listeners : (setShadow s ref f v).listeners = s.listeners := rfl
@[simp] theorem setShadow_wb : (setShadow s ref f v).wb = s.wb := rfl
@[simp] theorem setShadow_links : (setShadow s ref f v).links = s.links := rfl
@[simp] theorem setShadow_cab : (setShadow s ref f v).cab = s.cab := rfl
@[simp] theorem setShadow_outs : (setShadow s ref f v).outs = s.outs := rfl
@[simp] theorem setShadow_ring : (setShadow s ref f v).ring = s.ring := rfl
@[simp] theorem setShadow_stopQ : (setShadow s ref f v).stopQ = s.stopQ := rfl

end

/-! ## addF -/

section

variable (s : State) (ref : Nat) (f : Fld) (n : Nat)

@[simp] theorem addF_pending : (addF s ref f n).pending = s.pending := rfl
@[simp] theorem addF_time : (addF s ref f n).time = s.time := rfl
@[simp] theorem addF_freeCount : (addF s ref f n).freeCount = s.freeCount := rfl
@[simp] theorem addF_shadow : (addF s ref f n).shadow = s.shadow := rfl
@[simp] theorem addF_staged : (addF s ref f n).staged = s.staged := rfl
@[simp] theorem addF_snapHost : (addF s ref f n).snapHost = s.snapHost := rfl
@[simp] theorem addF_snapBk : (addF s ref f n).snapBk = s.snapBk := rfl
@[simp] theorem addF_bus : (addF s ref f n).bus = s.bus := rfl
@[simp] theorem addF_carrier : (addF s ref f n).carrier = s.carrier := rfl
@[simp] theorem addF_map : (addF s ref f n).map = s.map := rfl
@[simp] theorem addF_boot : (addF s ref f n).boot = s.boot := rfl
@[simp] theorem addF_regions : (addF s ref f n).regions = s.regions := rfl
@[simp] theorem addF_wakeQ : (addF s ref f n).wakeQ = s.wakeQ := rfl
@[simp] theorem addF_road : (addF s ref f n).road = s.road := rfl
@[simp] theorem addF_syncs : (addF s ref f n).syncs = s.syncs := rfl
@[simp] theorem addF_beds : (addF s ref f n).beds = s.beds := rfl
@[simp] theorem addF_faces : (addF s ref f n).faces = s.faces := rfl
@[simp] theorem addF_host : (addF s ref f n).host = s.host := rfl
@[simp] theorem addF_mgmt : (addF s ref f n).mgmt = s.mgmt := rfl
@[simp] theorem addF_esc : (addF s ref f n).esc = s.esc := rfl
@[simp] theorem addF_sensors : (addF s ref f n).sensors = s.sensors := rfl
@[simp] theorem addF_listeners : (addF s ref f n).listeners = s.listeners := rfl
@[simp] theorem addF_wb : (addF s ref f n).wb = s.wb := rfl
@[simp] theorem addF_links : (addF s ref f n).links = s.links := rfl
@[simp] theorem addF_cab : (addF s ref f n).cab = s.cab := rfl
@[simp] theorem addF_outs : (addF s ref f n).outs = s.outs := rfl
@[simp] theorem addF_ring : (addF s ref f n).ring = s.ring := rfl
@[simp] theorem addF_stopQ : (addF s ref f n).stopQ = s.stopQ := rfl

end

/-! ## putFlag -/

section

variable (s : State) (ref : Nat) (f : Fld) (b : Bool)

@[simp] theorem putFlag_pending : (putFlag s ref f b).pending = s.pending := rfl
@[simp] theorem putFlag_time : (putFlag s ref f b).time = s.time := rfl
@[simp] theorem putFlag_freeCount : (putFlag s ref f b).freeCount = s.freeCount := rfl
@[simp] theorem putFlag_shadow : (putFlag s ref f b).shadow = s.shadow := rfl
@[simp] theorem putFlag_staged : (putFlag s ref f b).staged = s.staged := rfl
@[simp] theorem putFlag_snapHost : (putFlag s ref f b).snapHost = s.snapHost := rfl
@[simp] theorem putFlag_snapBk : (putFlag s ref f b).snapBk = s.snapBk := rfl
@[simp] theorem putFlag_bus : (putFlag s ref f b).bus = s.bus := rfl
@[simp] theorem putFlag_carrier : (putFlag s ref f b).carrier = s.carrier := rfl
@[simp] theorem putFlag_map : (putFlag s ref f b).map = s.map := rfl
@[simp] theorem putFlag_boot : (putFlag s ref f b).boot = s.boot := rfl
@[simp] theorem putFlag_regions : (putFlag s ref f b).regions = s.regions := rfl
@[simp] theorem putFlag_wakeQ : (putFlag s ref f b).wakeQ = s.wakeQ := rfl
@[simp] theorem putFlag_road : (putFlag s ref f b).road = s.road := rfl
@[simp] theorem putFlag_syncs : (putFlag s ref f b).syncs = s.syncs := rfl
@[simp] theorem putFlag_beds : (putFlag s ref f b).beds = s.beds := rfl
@[simp] theorem putFlag_faces : (putFlag s ref f b).faces = s.faces := rfl
@[simp] theorem putFlag_host : (putFlag s ref f b).host = s.host := rfl
@[simp] theorem putFlag_mgmt : (putFlag s ref f b).mgmt = s.mgmt := rfl
@[simp] theorem putFlag_esc : (putFlag s ref f b).esc = s.esc := rfl
@[simp] theorem putFlag_sensors : (putFlag s ref f b).sensors = s.sensors := rfl
@[simp] theorem putFlag_listeners : (putFlag s ref f b).listeners = s.listeners := rfl
@[simp] theorem putFlag_wb : (putFlag s ref f b).wb = s.wb := rfl
@[simp] theorem putFlag_links : (putFlag s ref f b).links = s.links := rfl
@[simp] theorem putFlag_cab : (putFlag s ref f b).cab = s.cab := rfl
@[simp] theorem putFlag_outs : (putFlag s ref f b).outs = s.outs := rfl
@[simp] theorem putFlag_ring : (putFlag s ref f b).ring = s.ring := rfl
@[simp] theorem putFlag_stopQ : (putFlag s ref f b).stopQ = s.stopQ := rfl

end

/-! ## updRegion -/

section

variable (s : State) (r : Nat) (f : RegionSt → RegionSt)

@[simp] theorem updRegion_pending : (s.updRegion r f).pending = s.pending := rfl
@[simp] theorem updRegion_time : (s.updRegion r f).time = s.time := rfl
@[simp] theorem updRegion_freeCount : (s.updRegion r f).freeCount = s.freeCount := rfl
@[simp] theorem updRegion_fields : (s.updRegion r f).fields = s.fields := rfl
@[simp] theorem updRegion_shadow : (s.updRegion r f).shadow = s.shadow := rfl
@[simp] theorem updRegion_staged : (s.updRegion r f).staged = s.staged := rfl
@[simp] theorem updRegion_snapHost : (s.updRegion r f).snapHost = s.snapHost := rfl
@[simp] theorem updRegion_snapBk : (s.updRegion r f).snapBk = s.snapBk := rfl
@[simp] theorem updRegion_bus : (s.updRegion r f).bus = s.bus := rfl
@[simp] theorem updRegion_carrier : (s.updRegion r f).carrier = s.carrier := rfl
@[simp] theorem updRegion_map : (s.updRegion r f).map = s.map := rfl
@[simp] theorem updRegion_boot : (s.updRegion r f).boot = s.boot := rfl
@[simp] theorem updRegion_wakeQ : (s.updRegion r f).wakeQ = s.wakeQ := rfl
@[simp] theorem updRegion_road : (s.updRegion r f).road = s.road := rfl
@[simp] theorem updRegion_syncs : (s.updRegion r f).syncs = s.syncs := rfl
@[simp] theorem updRegion_beds : (s.updRegion r f).beds = s.beds := rfl
@[simp] theorem updRegion_faces : (s.updRegion r f).faces = s.faces := rfl
@[simp] theorem updRegion_host : (s.updRegion r f).host = s.host := rfl
@[simp] theorem updRegion_mgmt : (s.updRegion r f).mgmt = s.mgmt := rfl
@[simp] theorem updRegion_esc : (s.updRegion r f).esc = s.esc := rfl
@[simp] theorem updRegion_sensors : (s.updRegion r f).sensors = s.sensors := rfl
@[simp] theorem updRegion_listeners : (s.updRegion r f).listeners = s.listeners := rfl
@[simp] theorem updRegion_wb : (s.updRegion r f).wb = s.wb := rfl
@[simp] theorem updRegion_links : (s.updRegion r f).links = s.links := rfl
@[simp] theorem updRegion_cab : (s.updRegion r f).cab = s.cab := rfl
@[simp] theorem updRegion_outs : (s.updRegion r f).outs = s.outs := rfl
@[simp] theorem updRegion_ring : (s.updRegion r f).ring = s.ring := rfl
@[simp] theorem updRegion_stopQ : (s.updRegion r f).stopQ = s.stopQ := rfl

end

/-! ## updSync -/

section

variable (s : State) (r : Nat) (f : SyncBlk → SyncBlk)

@[simp] theorem updSync_pending : (s.updSync r f).pending = s.pending := rfl
@[simp] theorem updSync_time : (s.updSync r f).time = s.time := rfl
@[simp] theorem updSync_freeCount : (s.updSync r f).freeCount = s.freeCount := rfl
@[simp] theorem updSync_fields : (s.updSync r f).fields = s.fields := rfl
@[simp] theorem updSync_shadow : (s.updSync r f).shadow = s.shadow := rfl
@[simp] theorem updSync_staged : (s.updSync r f).staged = s.staged := rfl
@[simp] theorem updSync_snapHost : (s.updSync r f).snapHost = s.snapHost := rfl
@[simp] theorem updSync_snapBk : (s.updSync r f).snapBk = s.snapBk := rfl
@[simp] theorem updSync_bus : (s.updSync r f).bus = s.bus := rfl
@[simp] theorem updSync_carrier : (s.updSync r f).carrier = s.carrier := rfl
@[simp] theorem updSync_map : (s.updSync r f).map = s.map := rfl
@[simp] theorem updSync_boot : (s.updSync r f).boot = s.boot := rfl
@[simp] theorem updSync_regions : (s.updSync r f).regions = s.regions := rfl
@[simp] theorem updSync_wakeQ : (s.updSync r f).wakeQ = s.wakeQ := rfl
@[simp] theorem updSync_road : (s.updSync r f).road = s.road := rfl
@[simp] theorem updSync_beds : (s.updSync r f).beds = s.beds := rfl
@[simp] theorem updSync_faces : (s.updSync r f).faces = s.faces := rfl
@[simp] theorem updSync_host : (s.updSync r f).host = s.host := rfl
@[simp] theorem updSync_mgmt : (s.updSync r f).mgmt = s.mgmt := rfl
@[simp] theorem updSync_esc : (s.updSync r f).esc = s.esc := rfl
@[simp] theorem updSync_sensors : (s.updSync r f).sensors = s.sensors := rfl
@[simp] theorem updSync_listeners : (s.updSync r f).listeners = s.listeners := rfl
@[simp] theorem updSync_wb : (s.updSync r f).wb = s.wb := rfl
@[simp] theorem updSync_links : (s.updSync r f).links = s.links := rfl
@[simp] theorem updSync_cab : (s.updSync r f).cab = s.cab := rfl
@[simp] theorem updSync_outs : (s.updSync r f).outs = s.outs := rfl
@[simp] theorem updSync_ring : (s.updSync r f).ring = s.ring := rfl
@[simp] theorem updSync_stopQ : (s.updSync r f).stopQ = s.stopQ := rfl

end

/-! ## updBed -/

section

variable (s : State) (r : Nat) (f : BedSt → BedSt)

@[simp] theorem updBed_pending : (s.updBed r f).pending = s.pending := rfl
@[simp] theorem updBed_time : (s.updBed r f).time = s.time := rfl
@[simp] theorem updBed_freeCount : (s.updBed r f).freeCount = s.freeCount := rfl
@[simp] theorem updBed_fields : (s.updBed r f).fields = s.fields := rfl
@[simp] theorem updBed_shadow : (s.updBed r f).shadow = s.shadow := rfl
@[simp] theorem updBed_staged : (s.updBed r f).staged = s.staged := rfl
@[simp] theorem updBed_snapHost : (s.updBed r f).snapHost = s.snapHost := rfl
@[simp] theorem updBed_snapBk : (s.updBed r f).snapBk = s.snapBk := rfl
@[simp] theorem updBed_bus : (s.updBed r f).bus = s.bus := rfl
@[simp] theorem updBed_carrier : (s.updBed r f).carrier = s.carrier := rfl
@[simp] theorem updBed_map : (s.updBed r f).map = s.map := rfl
@[simp] theorem updBed_boot : (s.updBed r f).boot = s.boot := rfl
@[simp] theorem updBed_regions : (s.updBed r f).regions = s.regions := rfl
@[simp] theorem updBed_wakeQ : (s.updBed r f).wakeQ = s.wakeQ := rfl
@[simp] theorem updBed_road : (s.updBed r f).road = s.road := rfl
@[simp] theorem updBed_syncs : (s.updBed r f).syncs = s.syncs := rfl
@[simp] theorem updBed_faces : (s.updBed r f).faces = s.faces := rfl
@[simp] theorem updBed_host : (s.updBed r f).host = s.host := rfl
@[simp] theorem updBed_mgmt : (s.updBed r f).mgmt = s.mgmt := rfl
@[simp] theorem updBed_esc : (s.updBed r f).esc = s.esc := rfl
@[simp] theorem updBed_sensors : (s.updBed r f).sensors = s.sensors := rfl
@[simp] theorem updBed_listeners : (s.updBed r f).listeners = s.listeners := rfl
@[simp] theorem updBed_wb : (s.updBed r f).wb = s.wb := rfl
@[simp] theorem updBed_links : (s.updBed r f).links = s.links := rfl
@[simp] theorem updBed_cab : (s.updBed r f).cab = s.cab := rfl
@[simp] theorem updBed_outs : (s.updBed r f).outs = s.outs := rfl
@[simp] theorem updBed_ring : (s.updBed r f).ring = s.ring := rfl
@[simp] theorem updBed_stopQ : (s.updBed r f).stopQ = s.stopQ := rfl

end

/-! ## updFace -/

section

variable (s : State) (g : Nat) (f : FaceSt → FaceSt)

@[simp] theorem updFace_pending : (s.updFace g f).pending = s.pending := rfl
@[simp] theorem updFace_time : (s.updFace g f).time = s.time := rfl
@[simp] theorem updFace_freeCount : (s.updFace g f).freeCount = s.freeCount := rfl
@[simp] theorem updFace_fields : (s.updFace g f).fields = s.fields := rfl
@[simp] theorem updFace_shadow : (s.updFace g f).shadow = s.shadow := rfl
@[simp] theorem updFace_staged : (s.updFace g f).staged = s.staged := rfl
@[simp] theorem updFace_snapHost : (s.updFace g f).snapHost = s.snapHost := rfl
@[simp] theorem updFace_snapBk : (s.updFace g f).snapBk = s.snapBk := rfl
@[simp] theorem updFace_bus : (s.updFace g f).bus = s.bus := rfl
@[simp] theorem updFace_carrier : (s.updFace g f).carrier = s.carrier := rfl
@[simp] theorem updFace_map : (s.updFace g f).map = s.map := rfl
@[simp] theorem updFace_boot : (s.updFace g f).boot = s.boot := rfl
@[simp] theorem updFace_regions : (s.updFace g f).regions = s.regions := rfl
@[simp] theorem updFace_wakeQ : (s.updFace g f).wakeQ = s.wakeQ := rfl
@[simp] theorem updFace_road : (s.updFace g f).road = s.road := rfl
@[simp] theorem updFace_syncs : (s.updFace g f).syncs = s.syncs := rfl
@[simp] theorem updFace_beds : (s.updFace g f).beds = s.beds := rfl
@[simp] theorem updFace_host : (s.updFace g f).host = s.host := rfl
@[simp] theorem updFace_mgmt : (s.updFace g f).mgmt = s.mgmt := rfl
@[simp] theorem updFace_esc : (s.updFace g f).esc = s.esc := rfl
@[simp] theorem updFace_sensors : (s.updFace g f).sensors = s.sensors := rfl
@[simp] theorem updFace_listeners : (s.updFace g f).listeners = s.listeners := rfl
@[simp] theorem updFace_wb : (s.updFace g f).wb = s.wb := rfl
@[simp] theorem updFace_links : (s.updFace g f).links = s.links := rfl
@[simp] theorem updFace_cab : (s.updFace g f).cab = s.cab := rfl
@[simp] theorem updFace_outs : (s.updFace g f).outs = s.outs := rfl
@[simp] theorem updFace_ring : (s.updFace g f).ring = s.ring := rfl
@[simp] theorem updFace_stopQ : (s.updFace g f).stopQ = s.stopQ := rfl

end

/-! ## updHost -/

section

variable (s : State) (f : HostSt → HostSt)

@[simp] theorem updHost_pending : (s.updHost f).pending = s.pending := rfl
@[simp] theorem updHost_time : (s.updHost f).time = s.time := rfl
@[simp] theorem updHost_freeCount : (s.updHost f).freeCount = s.freeCount := rfl
@[simp] theorem updHost_fields : (s.updHost f).fields = s.fields := rfl
@[simp] theorem updHost_shadow : (s.updHost f).shadow = s.shadow := rfl
@[simp] theorem updHost_staged : (s.updHost f).staged = s.staged := rfl
@[simp] theorem updHost_snapHost : (s.updHost f).snapHost = s.snapHost := rfl
@[simp] theorem updHost_snapBk : (s.updHost f).snapBk = s.snapBk := rfl
@[simp] theorem updHost_bus : (s.updHost f).bus = s.bus := rfl
@[simp] theorem updHost_carrier : (s.updHost f).carrier = s.carrier := rfl
@[simp] theorem updHost_map : (s.updHost f).map = s.map := rfl
@[simp] theorem updHost_boot : (s.updHost f).boot = s.boot := rfl
@[simp] theorem updHost_regions : (s.updHost f).regions = s.regions := rfl
@[simp] theorem updHost_wakeQ : (s.updHost f).wakeQ = s.wakeQ := rfl
@[simp] theorem updHost_road : (s.updHost f).road = s.road := rfl
@[simp] theorem updHost_syncs : (s.updHost f).syncs = s.syncs := rfl
@[simp] theorem updHost_beds : (s.updHost f).beds = s.beds := rfl
@[simp] theorem updHost_faces : (s.updHost f).faces = s.faces := rfl
@[simp] theorem updHost_host : (s.updHost f).host = f s.host := rfl
@[simp] theorem updHost_mgmt : (s.updHost f).mgmt = s.mgmt := rfl
@[simp] theorem updHost_esc : (s.updHost f).esc = s.esc := rfl
@[simp] theorem updHost_sensors : (s.updHost f).sensors = s.sensors := rfl
@[simp] theorem updHost_listeners : (s.updHost f).listeners = s.listeners := rfl
@[simp] theorem updHost_wb : (s.updHost f).wb = s.wb := rfl
@[simp] theorem updHost_links : (s.updHost f).links = s.links := rfl
@[simp] theorem updHost_cab : (s.updHost f).cab = s.cab := rfl
@[simp] theorem updHost_outs : (s.updHost f).outs = s.outs := rfl
@[simp] theorem updHost_ring : (s.updHost f).ring = s.ring := rfl
@[simp] theorem updHost_stopQ : (s.updHost f).stopQ = s.stopQ := rfl

end

/-! ## updJob -/

section

variable (s : State) (j : Nat) (f : JobSt → JobSt)

@[simp] theorem updJob_pending : (s.updJob j f).pending = s.pending := rfl
@[simp] theorem updJob_time : (s.updJob j f).time = s.time := rfl
@[simp] theorem updJob_freeCount : (s.updJob j f).freeCount = s.freeCount := rfl
@[simp] theorem updJob_fields : (s.updJob j f).fields = s.fields := rfl
@[simp] theorem updJob_shadow : (s.updJob j f).shadow = s.shadow := rfl
@[simp] theorem updJob_staged : (s.updJob j f).staged = s.staged := rfl
@[simp] theorem updJob_snapHost : (s.updJob j f).snapHost = s.snapHost := rfl
@[simp] theorem updJob_snapBk : (s.updJob j f).snapBk = s.snapBk := rfl
@[simp] theorem updJob_bus : (s.updJob j f).bus = s.bus := rfl
@[simp] theorem updJob_carrier : (s.updJob j f).carrier = s.carrier := rfl
@[simp] theorem updJob_map : (s.updJob j f).map = s.map := rfl
@[simp] theorem updJob_boot : (s.updJob j f).boot = s.boot := rfl
@[simp] theorem updJob_regions : (s.updJob j f).regions = s.regions := rfl
@[simp] theorem updJob_wakeQ : (s.updJob j f).wakeQ = s.wakeQ := rfl
@[simp] theorem updJob_road : (s.updJob j f).road = s.road := rfl
@[simp] theorem updJob_syncs : (s.updJob j f).syncs = s.syncs := rfl
@[simp] theorem updJob_beds : (s.updJob j f).beds = s.beds := rfl
@[simp] theorem updJob_faces : (s.updJob j f).faces = s.faces := rfl
@[simp] theorem updJob_mgmt : (s.updJob j f).mgmt = s.mgmt := rfl
@[simp] theorem updJob_esc : (s.updJob j f).esc = s.esc := rfl
@[simp] theorem updJob_sensors : (s.updJob j f).sensors = s.sensors := rfl
@[simp] theorem updJob_listeners : (s.updJob j f).listeners = s.listeners := rfl
@[simp] theorem updJob_wb : (s.updJob j f).wb = s.wb := rfl
@[simp] theorem updJob_links : (s.updJob j f).links = s.links := rfl
@[simp] theorem updJob_cab : (s.updJob j f).cab = s.cab := rfl
@[simp] theorem updJob_outs : (s.updJob j f).outs = s.outs := rfl
@[simp] theorem updJob_ring : (s.updJob j f).ring = s.ring := rfl
@[simp] theorem updJob_stopQ : (s.updJob j f).stopQ = s.stopQ := rfl

end

/-! ## updMgmt -/

section

variable (s : State) (f : MgmtSt → MgmtSt)

@[simp] theorem updMgmt_pending : (s.updMgmt f).pending = s.pending := rfl
@[simp] theorem updMgmt_time : (s.updMgmt f).time = s.time := rfl
@[simp] theorem updMgmt_freeCount : (s.updMgmt f).freeCount = s.freeCount := rfl
@[simp] theorem updMgmt_fields : (s.updMgmt f).fields = s.fields := rfl
@[simp] theorem updMgmt_shadow : (s.updMgmt f).shadow = s.shadow := rfl
@[simp] theorem updMgmt_staged : (s.updMgmt f).staged = s.staged := rfl
@[simp] theorem updMgmt_snapHost : (s.updMgmt f).snapHost = s.snapHost := rfl
@[simp] theorem updMgmt_snapBk : (s.updMgmt f).snapBk = s.snapBk := rfl
@[simp] theorem updMgmt_bus : (s.updMgmt f).bus = s.bus := rfl
@[simp] theorem updMgmt_carrier : (s.updMgmt f).carrier = s.carrier := rfl
@[simp] theorem updMgmt_map : (s.updMgmt f).map = s.map := rfl
@[simp] theorem updMgmt_boot : (s.updMgmt f).boot = s.boot := rfl
@[simp] theorem updMgmt_regions : (s.updMgmt f).regions = s.regions := rfl
@[simp] theorem updMgmt_wakeQ : (s.updMgmt f).wakeQ = s.wakeQ := rfl
@[simp] theorem updMgmt_road : (s.updMgmt f).road = s.road := rfl
@[simp] theorem updMgmt_syncs : (s.updMgmt f).syncs = s.syncs := rfl
@[simp] theorem updMgmt_beds : (s.updMgmt f).beds = s.beds := rfl
@[simp] theorem updMgmt_faces : (s.updMgmt f).faces = s.faces := rfl
@[simp] theorem updMgmt_host : (s.updMgmt f).host = s.host := rfl
@[simp] theorem updMgmt_mgmt : (s.updMgmt f).mgmt = f s.mgmt := rfl
@[simp] theorem updMgmt_esc : (s.updMgmt f).esc = s.esc := rfl
@[simp] theorem updMgmt_sensors : (s.updMgmt f).sensors = s.sensors := rfl
@[simp] theorem updMgmt_listeners : (s.updMgmt f).listeners = s.listeners := rfl
@[simp] theorem updMgmt_wb : (s.updMgmt f).wb = s.wb := rfl
@[simp] theorem updMgmt_links : (s.updMgmt f).links = s.links := rfl
@[simp] theorem updMgmt_cab : (s.updMgmt f).cab = s.cab := rfl
@[simp] theorem updMgmt_outs : (s.updMgmt f).outs = s.outs := rfl
@[simp] theorem updMgmt_ring : (s.updMgmt f).ring = s.ring := rfl
@[simp] theorem updMgmt_stopQ : (s.updMgmt f).stopQ = s.stopQ := rfl

end

/-! ## updCarrier -/

section

variable (s : State) (f : Carrier → Carrier)

@[simp] theorem updCarrier_pending : (s.updCarrier f).pending = s.pending := rfl
@[simp] theorem updCarrier_time : (s.updCarrier f).time = s.time := rfl
@[simp] theorem updCarrier_freeCount : (s.updCarrier f).freeCount = s.freeCount := rfl
@[simp] theorem updCarrier_fields : (s.updCarrier f).fields = s.fields := rfl
@[simp] theorem updCarrier_shadow : (s.updCarrier f).shadow = s.shadow := rfl
@[simp] theorem updCarrier_staged : (s.updCarrier f).staged = s.staged := rfl
@[simp] theorem updCarrier_snapHost : (s.updCarrier f).snapHost = s.snapHost := rfl
@[simp] theorem updCarrier_snapBk : (s.updCarrier f).snapBk = s.snapBk := rfl
@[simp] theorem updCarrier_bus : (s.updCarrier f).bus = s.bus := rfl
@[simp] theorem updCarrier_carrier : (s.updCarrier f).carrier = f s.carrier := rfl
@[simp] theorem updCarrier_map : (s.updCarrier f).map = s.map := rfl
@[simp] theorem updCarrier_boot : (s.updCarrier f).boot = s.boot := rfl
@[simp] theorem updCarrier_regions : (s.updCarrier f).regions = s.regions := rfl
@[simp] theorem updCarrier_wakeQ : (s.updCarrier f).wakeQ = s.wakeQ := rfl
@[simp] theorem updCarrier_road : (s.updCarrier f).road = s.road := rfl
@[simp] theorem updCarrier_syncs : (s.updCarrier f).syncs = s.syncs := rfl
@[simp] theorem updCarrier_beds : (s.updCarrier f).beds = s.beds := rfl
@[simp] theorem updCarrier_faces : (s.updCarrier f).faces = s.faces := rfl
@[simp] theorem updCarrier_host : (s.updCarrier f).host = s.host := rfl
@[simp] theorem updCarrier_mgmt : (s.updCarrier f).mgmt = s.mgmt := rfl
@[simp] theorem updCarrier_esc : (s.updCarrier f).esc = s.esc := rfl
@[simp] theorem updCarrier_sensors : (s.updCarrier f).sensors = s.sensors := rfl
@[simp] theorem updCarrier_listeners : (s.updCarrier f).listeners = s.listeners := rfl
@[simp] theorem updCarrier_wb : (s.updCarrier f).wb = s.wb := rfl
@[simp] theorem updCarrier_links : (s.updCarrier f).links = s.links := rfl
@[simp] theorem updCarrier_cab : (s.updCarrier f).cab = s.cab := rfl
@[simp] theorem updCarrier_outs : (s.updCarrier f).outs = s.outs := rfl
@[simp] theorem updCarrier_ring : (s.updCarrier f).ring = s.ring := rfl
@[simp] theorem updCarrier_stopQ : (s.updCarrier f).stopQ = s.stopQ := rfl

end

/-! ## updBoot -/

section

variable (s : State) (f : Boot → Boot)

@[simp] theorem updBoot_pending : (s.updBoot f).pending = s.pending := rfl
@[simp] theorem updBoot_time : (s.updBoot f).time = s.time := rfl
@[simp] theorem updBoot_freeCount : (s.updBoot f).freeCount = s.freeCount := rfl
@[simp] theorem updBoot_fields : (s.updBoot f).fields = s.fields := rfl
@[simp] theorem updBoot_shadow : (s.updBoot f).shadow = s.shadow := rfl
@[simp] theorem updBoot_staged : (s.updBoot f).staged = s.staged := rfl
@[simp] theorem updBoot_snapHost : (s.updBoot f).snapHost = s.snapHost := rfl
@[simp] theorem updBoot_snapBk : (s.updBoot f).snapBk = s.snapBk := rfl
@[simp] theorem updBoot_bus : (s.updBoot f).bus = s.bus := rfl
@[simp] theorem updBoot_carrier : (s.updBoot f).carrier = s.carrier := rfl
@[simp] theorem updBoot_map : (s.updBoot f).map = s.map := rfl
@[simp] theorem updBoot_boot : (s.updBoot f).boot = f s.boot := rfl
@[simp] theorem updBoot_regions : (s.updBoot f).regions = s.regions := rfl
@[simp] theorem updBoot_wakeQ : (s.updBoot f).wakeQ = s.wakeQ := rfl
@[simp] theorem updBoot_road : (s.updBoot f).road = s.road := rfl
@[simp] theorem updBoot_syncs : (s.updBoot f).syncs = s.syncs := rfl
@[simp] theorem updBoot_beds : (s.updBoot f).beds = s.beds := rfl
@[simp] theorem updBoot_faces : (s.updBoot f).faces = s.faces := rfl
@[simp] theorem updBoot_host : (s.updBoot f).host = s.host := rfl
@[simp] theorem updBoot_mgmt : (s.updBoot f).mgmt = s.mgmt := rfl
@[simp] theorem updBoot_esc : (s.updBoot f).esc = s.esc := rfl
@[simp] theorem updBoot_sensors : (s.updBoot f).sensors = s.sensors := rfl
@[simp] theorem updBoot_listeners : (s.updBoot f).listeners = s.listeners := rfl
@[simp] theorem updBoot_wb : (s.updBoot f).wb = s.wb := rfl
@[simp] theorem updBoot_links : (s.updBoot f).links = s.links := rfl
@[simp] theorem updBoot_cab : (s.updBoot f).cab = s.cab := rfl
@[simp] theorem updBoot_outs : (s.updBoot f).outs = s.outs := rfl
@[simp] theorem updBoot_ring : (s.updBoot f).ring = s.ring := rfl
@[simp] theorem updBoot_stopQ : (s.updBoot f).stopQ = s.stopQ := rfl

end

/-! ## updMap -/

section

variable (s : State) (f : MapSt → MapSt)

@[simp] theorem updMap_pending : (s.updMap f).pending = s.pending := rfl
@[simp] theorem updMap_time : (s.updMap f).time = s.time := rfl
@[simp] theorem updMap_freeCount : (s.updMap f).freeCount = s.freeCount := rfl
@[simp] theorem updMap_fields : (s.updMap f).fields = s.fields := rfl
@[simp] theorem updMap_shadow : (s.updMap f).shadow = s.shadow := rfl
@[simp] theorem updMap_staged : (s.updMap f).staged = s.staged := rfl
@[simp] theorem updMap_snapHost : (s.updMap f).snapHost = s.snapHost := rfl
@[simp] theorem updMap_snapBk : (s.updMap f).snapBk = s.snapBk := rfl
@[simp] theorem updMap_bus : (s.updMap f).bus = s.bus := rfl
@[simp] theorem updMap_carrier : (s.updMap f).carrier = s.carrier := rfl
@[simp] theorem updMap_map : (s.updMap f).map = f s.map := rfl
@[simp] theorem updMap_boot : (s.updMap f).boot = s.boot := rfl
@[simp] theorem updMap_regions : (s.updMap f).regions = s.regions := rfl
@[simp] theorem updMap_wakeQ : (s.updMap f).wakeQ = s.wakeQ := rfl
@[simp] theorem updMap_road : (s.updMap f).road = s.road := rfl
@[simp] theorem updMap_syncs : (s.updMap f).syncs = s.syncs := rfl
@[simp] theorem updMap_beds : (s.updMap f).beds = s.beds := rfl
@[simp] theorem updMap_faces : (s.updMap f).faces = s.faces := rfl
@[simp] theorem updMap_host : (s.updMap f).host = s.host := rfl
@[simp] theorem updMap_mgmt : (s.updMap f).mgmt = s.mgmt := rfl
@[simp] theorem updMap_esc : (s.updMap f).esc = s.esc := rfl
@[simp] theorem updMap_sensors : (s.updMap f).sensors = s.sensors := rfl
@[simp] theorem updMap_listeners : (s.updMap f).listeners = s.listeners := rfl
@[simp] theorem updMap_wb : (s.updMap f).wb = s.wb := rfl
@[simp] theorem updMap_links : (s.updMap f).links = s.links := rfl
@[simp] theorem updMap_cab : (s.updMap f).cab = s.cab := rfl
@[simp] theorem updMap_outs : (s.updMap f).outs = s.outs := rfl
@[simp] theorem updMap_ring : (s.updMap f).ring = s.ring := rfl
@[simp] theorem updMap_stopQ : (s.updMap f).stopQ = s.stopQ := rfl

end

/-! ## updRoad -/

section

variable (s : State) (f : Road → Road)

@[simp] theorem updRoad_pending : (s.updRoad f).pending = s.pending := rfl
@[simp] theorem updRoad_time : (s.updRoad f).time = s.time := rfl
@[simp] theorem updRoad_freeCount : (s.updRoad f).freeCount = s.freeCount := rfl
@[simp] theorem updRoad_fields : (s.updRoad f).fields = s.fields := rfl
@[simp] theorem updRoad_shadow : (s.updRoad f).shadow = s.shadow := rfl
@[simp] theorem updRoad_staged : (s.updRoad f).staged = s.staged := rfl
@[simp] theorem updRoad_snapHost : (s.updRoad f).snapHost = s.snapHost := rfl
@[simp] theorem updRoad_snapBk : (s.updRoad f).snapBk = s.snapBk := rfl
@[simp] theorem updRoad_bus : (s.updRoad f).bus = s.bus := rfl
@[simp] theorem updRoad_carrier : (s.updRoad f).carrier = s.carrier := rfl
@[simp] theorem updRoad_map : (s.updRoad f).map = s.map := rfl
@[simp] theorem updRoad_boot : (s.updRoad f).boot = s.boot := rfl
@[simp] theorem updRoad_regions : (s.updRoad f).regions = s.regions := rfl
@[simp] theorem updRoad_wakeQ : (s.updRoad f).wakeQ = s.wakeQ := rfl
@[simp] theorem updRoad_road : (s.updRoad f).road = f s.road := rfl
@[simp] theorem updRoad_syncs : (s.updRoad f).syncs = s.syncs := rfl
@[simp] theorem updRoad_beds : (s.updRoad f).beds = s.beds := rfl
@[simp] theorem updRoad_faces : (s.updRoad f).faces = s.faces := rfl
@[simp] theorem updRoad_host : (s.updRoad f).host = s.host := rfl
@[simp] theorem updRoad_mgmt : (s.updRoad f).mgmt = s.mgmt := rfl
@[simp] theorem updRoad_esc : (s.updRoad f).esc = s.esc := rfl
@[simp] theorem updRoad_sensors : (s.updRoad f).sensors = s.sensors := rfl
@[simp] theorem updRoad_listeners : (s.updRoad f).listeners = s.listeners := rfl
@[simp] theorem updRoad_wb : (s.updRoad f).wb = s.wb := rfl
@[simp] theorem updRoad_links : (s.updRoad f).links = s.links := rfl
@[simp] theorem updRoad_cab : (s.updRoad f).cab = s.cab := rfl
@[simp] theorem updRoad_outs : (s.updRoad f).outs = s.outs := rfl
@[simp] theorem updRoad_ring : (s.updRoad f).ring = s.ring := rfl
@[simp] theorem updRoad_stopQ : (s.updRoad f).stopQ = s.stopQ := rfl

end

/-! ## updEsc -/

section

variable (s : State) (f : EscSt → EscSt)

@[simp] theorem updEsc_pending : (s.updEsc f).pending = s.pending := rfl
@[simp] theorem updEsc_time : (s.updEsc f).time = s.time := rfl
@[simp] theorem updEsc_freeCount : (s.updEsc f).freeCount = s.freeCount := rfl
@[simp] theorem updEsc_fields : (s.updEsc f).fields = s.fields := rfl
@[simp] theorem updEsc_shadow : (s.updEsc f).shadow = s.shadow := rfl
@[simp] theorem updEsc_staged : (s.updEsc f).staged = s.staged := rfl
@[simp] theorem updEsc_snapHost : (s.updEsc f).snapHost = s.snapHost := rfl
@[simp] theorem updEsc_snapBk : (s.updEsc f).snapBk = s.snapBk := rfl
@[simp] theorem updEsc_bus : (s.updEsc f).bus = s.bus := rfl
@[simp] theorem updEsc_carrier : (s.updEsc f).carrier = s.carrier := rfl
@[simp] theorem updEsc_map : (s.updEsc f).map = s.map := rfl
@[simp] theorem updEsc_boot : (s.updEsc f).boot = s.boot := rfl
@[simp] theorem updEsc_regions : (s.updEsc f).regions = s.regions := rfl
@[simp] theorem updEsc_wakeQ : (s.updEsc f).wakeQ = s.wakeQ := rfl
@[simp] theorem updEsc_road : (s.updEsc f).road = s.road := rfl
@[simp] theorem updEsc_syncs : (s.updEsc f).syncs = s.syncs := rfl
@[simp] theorem updEsc_beds : (s.updEsc f).beds = s.beds := rfl
@[simp] theorem updEsc_faces : (s.updEsc f).faces = s.faces := rfl
@[simp] theorem updEsc_host : (s.updEsc f).host = s.host := rfl
@[simp] theorem updEsc_mgmt : (s.updEsc f).mgmt = s.mgmt := rfl
@[simp] theorem updEsc_esc : (s.updEsc f).esc = f s.esc := rfl
@[simp] theorem updEsc_sensors : (s.updEsc f).sensors = s.sensors := rfl
@[simp] theorem updEsc_listeners : (s.updEsc f).listeners = s.listeners := rfl
@[simp] theorem updEsc_wb : (s.updEsc f).wb = s.wb := rfl
@[simp] theorem updEsc_links : (s.updEsc f).links = s.links := rfl
@[simp] theorem updEsc_cab : (s.updEsc f).cab = s.cab := rfl
@[simp] theorem updEsc_outs : (s.updEsc f).outs = s.outs := rfl
@[simp] theorem updEsc_ring : (s.updEsc f).ring = s.ring := rfl
@[simp] theorem updEsc_stopQ : (s.updEsc f).stopQ = s.stopQ := rfl

end

/-! ## updChain -/

section

variable (s : State) (c : Nat) (f : ChainSt → ChainSt)

@[simp] theorem updChain_pending : (s.updChain c f).pending = s.pending := rfl
@[simp] theorem updChain_time : (s.updChain c f).time = s.time := rfl
@[simp] theorem updChain_freeCount : (s.updChain c f).freeCount = s.freeCount := rfl
@[simp] theorem updChain_fields : (s.updChain c f).fields = s.fields := rfl
@[simp] theorem updChain_shadow : (s.updChain c f).shadow = s.shadow := rfl
@[simp] theorem updChain_staged : (s.updChain c f).staged = s.staged := rfl
@[simp] theorem updChain_snapHost : (s.updChain c f).snapHost = s.snapHost := rfl
@[simp] theorem updChain_snapBk : (s.updChain c f).snapBk = s.snapBk := rfl
@[simp] theorem updChain_bus : (s.updChain c f).bus = s.bus := rfl
@[simp] theorem updChain_carrier : (s.updChain c f).carrier = s.carrier := rfl
@[simp] theorem updChain_map : (s.updChain c f).map = s.map := rfl
@[simp] theorem updChain_boot : (s.updChain c f).boot = s.boot := rfl
@[simp] theorem updChain_regions : (s.updChain c f).regions = s.regions := rfl
@[simp] theorem updChain_wakeQ : (s.updChain c f).wakeQ = s.wakeQ := rfl
@[simp] theorem updChain_road : (s.updChain c f).road = s.road := rfl
@[simp] theorem updChain_syncs : (s.updChain c f).syncs = s.syncs := rfl
@[simp] theorem updChain_beds : (s.updChain c f).beds = s.beds := rfl
@[simp] theorem updChain_faces : (s.updChain c f).faces = s.faces := rfl
@[simp] theorem updChain_host : (s.updChain c f).host = s.host := rfl
@[simp] theorem updChain_mgmt : (s.updChain c f).mgmt = s.mgmt := rfl
@[simp] theorem updChain_sensors : (s.updChain c f).sensors = s.sensors := rfl
@[simp] theorem updChain_listeners : (s.updChain c f).listeners = s.listeners := rfl
@[simp] theorem updChain_wb : (s.updChain c f).wb = s.wb := rfl
@[simp] theorem updChain_links : (s.updChain c f).links = s.links := rfl
@[simp] theorem updChain_cab : (s.updChain c f).cab = s.cab := rfl
@[simp] theorem updChain_outs : (s.updChain c f).outs = s.outs := rfl
@[simp] theorem updChain_ring : (s.updChain c f).ring = s.ring := rfl
@[simp] theorem updChain_stopQ : (s.updChain c f).stopQ = s.stopQ := rfl

end

/-! ## updSensor -/

section

variable (s : State) (p : Nat) (f : SensorSt → SensorSt)

@[simp] theorem updSensor_pending : (s.updSensor p f).pending = s.pending := rfl
@[simp] theorem updSensor_time : (s.updSensor p f).time = s.time := rfl
@[simp] theorem updSensor_freeCount : (s.updSensor p f).freeCount = s.freeCount := rfl
@[simp] theorem updSensor_fields : (s.updSensor p f).fields = s.fields := rfl
@[simp] theorem updSensor_shadow : (s.updSensor p f).shadow = s.shadow := rfl
@[simp] theorem updSensor_staged : (s.updSensor p f).staged = s.staged := rfl
@[simp] theorem updSensor_snapHost : (s.updSensor p f).snapHost = s.snapHost := rfl
@[simp] theorem updSensor_snapBk : (s.updSensor p f).snapBk = s.snapBk := rfl
@[simp] theorem updSensor_bus : (s.updSensor p f).bus = s.bus := rfl
@[simp] theorem updSensor_carrier : (s.updSensor p f).carrier = s.carrier := rfl
@[simp] theorem updSensor_map : (s.updSensor p f).map = s.map := rfl
@[simp] theorem updSensor_boot : (s.updSensor p f).boot = s.boot := rfl
@[simp] theorem updSensor_regions : (s.updSensor p f).regions = s.regions := rfl
@[simp] theorem updSensor_wakeQ : (s.updSensor p f).wakeQ = s.wakeQ := rfl
@[simp] theorem updSensor_road : (s.updSensor p f).road = s.road := rfl
@[simp] theorem updSensor_syncs : (s.updSensor p f).syncs = s.syncs := rfl
@[simp] theorem updSensor_beds : (s.updSensor p f).beds = s.beds := rfl
@[simp] theorem updSensor_faces : (s.updSensor p f).faces = s.faces := rfl
@[simp] theorem updSensor_host : (s.updSensor p f).host = s.host := rfl
@[simp] theorem updSensor_mgmt : (s.updSensor p f).mgmt = s.mgmt := rfl
@[simp] theorem updSensor_esc : (s.updSensor p f).esc = s.esc := rfl
@[simp] theorem updSensor_listeners : (s.updSensor p f).listeners = s.listeners := rfl
@[simp] theorem updSensor_wb : (s.updSensor p f).wb = s.wb := rfl
@[simp] theorem updSensor_links : (s.updSensor p f).links = s.links := rfl
@[simp] theorem updSensor_cab : (s.updSensor p f).cab = s.cab := rfl
@[simp] theorem updSensor_outs : (s.updSensor p f).outs = s.outs := rfl
@[simp] theorem updSensor_ring : (s.updSensor p f).ring = s.ring := rfl
@[simp] theorem updSensor_stopQ : (s.updSensor p f).stopQ = s.stopQ := rfl

end

/-! ## updStream -/

section

variable (s : State) (p k : Nat) (f : StreamSt → StreamSt)

@[simp] theorem updStream_pending : (s.updStream p k f).pending = s.pending := rfl
@[simp] theorem updStream_time : (s.updStream p k f).time = s.time := rfl
@[simp] theorem updStream_freeCount : (s.updStream p k f).freeCount = s.freeCount := rfl
@[simp] theorem updStream_fields : (s.updStream p k f).fields = s.fields := rfl
@[simp] theorem updStream_shadow : (s.updStream p k f).shadow = s.shadow := rfl
@[simp] theorem updStream_staged : (s.updStream p k f).staged = s.staged := rfl
@[simp] theorem updStream_snapHost : (s.updStream p k f).snapHost = s.snapHost := rfl
@[simp] theorem updStream_snapBk : (s.updStream p k f).snapBk = s.snapBk := rfl
@[simp] theorem updStream_bus : (s.updStream p k f).bus = s.bus := rfl
@[simp] theorem updStream_carrier : (s.updStream p k f).carrier = s.carrier := rfl
@[simp] theorem updStream_map : (s.updStream p k f).map = s.map := rfl
@[simp] theorem updStream_boot : (s.updStream p k f).boot = s.boot := rfl
@[simp] theorem updStream_regions : (s.updStream p k f).regions = s.regions := rfl
@[simp] theorem updStream_wakeQ : (s.updStream p k f).wakeQ = s.wakeQ := rfl
@[simp] theorem updStream_road : (s.updStream p k f).road = s.road := rfl
@[simp] theorem updStream_syncs : (s.updStream p k f).syncs = s.syncs := rfl
@[simp] theorem updStream_beds : (s.updStream p k f).beds = s.beds := rfl
@[simp] theorem updStream_faces : (s.updStream p k f).faces = s.faces := rfl
@[simp] theorem updStream_host : (s.updStream p k f).host = s.host := rfl
@[simp] theorem updStream_mgmt : (s.updStream p k f).mgmt = s.mgmt := rfl
@[simp] theorem updStream_esc : (s.updStream p k f).esc = s.esc := rfl
@[simp] theorem updStream_listeners : (s.updStream p k f).listeners = s.listeners := rfl
@[simp] theorem updStream_wb : (s.updStream p k f).wb = s.wb := rfl
@[simp] theorem updStream_links : (s.updStream p k f).links = s.links := rfl
@[simp] theorem updStream_cab : (s.updStream p k f).cab = s.cab := rfl
@[simp] theorem updStream_outs : (s.updStream p k f).outs = s.outs := rfl
@[simp] theorem updStream_ring : (s.updStream p k f).ring = s.ring := rfl
@[simp] theorem updStream_stopQ : (s.updStream p k f).stopQ = s.stopQ := rfl

end

/-! ## updListener -/

section

variable (s : State) (p : Nat) (f : ListenerSt → ListenerSt)

@[simp] theorem updListener_pending : (s.updListener p f).pending = s.pending := rfl
@[simp] theorem updListener_time : (s.updListener p f).time = s.time := rfl
@[simp] theorem updListener_freeCount : (s.updListener p f).freeCount = s.freeCount := rfl
@[simp] theorem updListener_fields : (s.updListener p f).fields = s.fields := rfl
@[simp] theorem updListener_shadow : (s.updListener p f).shadow = s.shadow := rfl
@[simp] theorem updListener_staged : (s.updListener p f).staged = s.staged := rfl
@[simp] theorem updListener_snapHost : (s.updListener p f).snapHost = s.snapHost := rfl
@[simp] theorem updListener_snapBk : (s.updListener p f).snapBk = s.snapBk := rfl
@[simp] theorem updListener_bus : (s.updListener p f).bus = s.bus := rfl
@[simp] theorem updListener_carrier : (s.updListener p f).carrier = s.carrier := rfl
@[simp] theorem updListener_map : (s.updListener p f).map = s.map := rfl
@[simp] theorem updListener_boot : (s.updListener p f).boot = s.boot := rfl
@[simp] theorem updListener_regions : (s.updListener p f).regions = s.regions := rfl
@[simp] theorem updListener_wakeQ : (s.updListener p f).wakeQ = s.wakeQ := rfl
@[simp] theorem updListener_road : (s.updListener p f).road = s.road := rfl
@[simp] theorem updListener_syncs : (s.updListener p f).syncs = s.syncs := rfl
@[simp] theorem updListener_beds : (s.updListener p f).beds = s.beds := rfl
@[simp] theorem updListener_faces : (s.updListener p f).faces = s.faces := rfl
@[simp] theorem updListener_host : (s.updListener p f).host = s.host := rfl
@[simp] theorem updListener_mgmt : (s.updListener p f).mgmt = s.mgmt := rfl
@[simp] theorem updListener_esc : (s.updListener p f).esc = s.esc := rfl
@[simp] theorem updListener_sensors : (s.updListener p f).sensors = s.sensors := rfl
@[simp] theorem updListener_wb : (s.updListener p f).wb = s.wb := rfl
@[simp] theorem updListener_links : (s.updListener p f).links = s.links := rfl
@[simp] theorem updListener_cab : (s.updListener p f).cab = s.cab := rfl
@[simp] theorem updListener_outs : (s.updListener p f).outs = s.outs := rfl
@[simp] theorem updListener_ring : (s.updListener p f).ring = s.ring := rfl
@[simp] theorem updListener_stopQ : (s.updListener p f).stopQ = s.stopQ := rfl

end

/-! ## updLslot -/

section

variable (s : State) (p k : Nat) (f : LSlotSt → LSlotSt)

@[simp] theorem updLslot_pending : (s.updLslot p k f).pending = s.pending := rfl
@[simp] theorem updLslot_time : (s.updLslot p k f).time = s.time := rfl
@[simp] theorem updLslot_freeCount : (s.updLslot p k f).freeCount = s.freeCount := rfl
@[simp] theorem updLslot_fields : (s.updLslot p k f).fields = s.fields := rfl
@[simp] theorem updLslot_shadow : (s.updLslot p k f).shadow = s.shadow := rfl
@[simp] theorem updLslot_staged : (s.updLslot p k f).staged = s.staged := rfl
@[simp] theorem updLslot_snapHost : (s.updLslot p k f).snapHost = s.snapHost := rfl
@[simp] theorem updLslot_snapBk : (s.updLslot p k f).snapBk = s.snapBk := rfl
@[simp] theorem updLslot_bus : (s.updLslot p k f).bus = s.bus := rfl
@[simp] theorem updLslot_carrier : (s.updLslot p k f).carrier = s.carrier := rfl
@[simp] theorem updLslot_map : (s.updLslot p k f).map = s.map := rfl
@[simp] theorem updLslot_boot : (s.updLslot p k f).boot = s.boot := rfl
@[simp] theorem updLslot_regions : (s.updLslot p k f).regions = s.regions := rfl
@[simp] theorem updLslot_wakeQ : (s.updLslot p k f).wakeQ = s.wakeQ := rfl
@[simp] theorem updLslot_road : (s.updLslot p k f).road = s.road := rfl
@[simp] theorem updLslot_syncs : (s.updLslot p k f).syncs = s.syncs := rfl
@[simp] theorem updLslot_beds : (s.updLslot p k f).beds = s.beds := rfl
@[simp] theorem updLslot_faces : (s.updLslot p k f).faces = s.faces := rfl
@[simp] theorem updLslot_host : (s.updLslot p k f).host = s.host := rfl
@[simp] theorem updLslot_mgmt : (s.updLslot p k f).mgmt = s.mgmt := rfl
@[simp] theorem updLslot_esc : (s.updLslot p k f).esc = s.esc := rfl
@[simp] theorem updLslot_sensors : (s.updLslot p k f).sensors = s.sensors := rfl
@[simp] theorem updLslot_wb : (s.updLslot p k f).wb = s.wb := rfl
@[simp] theorem updLslot_links : (s.updLslot p k f).links = s.links := rfl
@[simp] theorem updLslot_cab : (s.updLslot p k f).cab = s.cab := rfl
@[simp] theorem updLslot_outs : (s.updLslot p k f).outs = s.outs := rfl
@[simp] theorem updLslot_ring : (s.updLslot p k f).ring = s.ring := rfl
@[simp] theorem updLslot_stopQ : (s.updLslot p k f).stopQ = s.stopQ := rfl

end

/-! ## updWb -/

section

variable (s : State) (f : WbSt → WbSt)

@[simp] theorem updWb_pending : (s.updWb f).pending = s.pending := rfl
@[simp] theorem updWb_time : (s.updWb f).time = s.time := rfl
@[simp] theorem updWb_freeCount : (s.updWb f).freeCount = s.freeCount := rfl
@[simp] theorem updWb_fields : (s.updWb f).fields = s.fields := rfl
@[simp] theorem updWb_shadow : (s.updWb f).shadow = s.shadow := rfl
@[simp] theorem updWb_staged : (s.updWb f).staged = s.staged := rfl
@[simp] theorem updWb_snapHost : (s.updWb f).snapHost = s.snapHost := rfl
@[simp] theorem updWb_snapBk : (s.updWb f).snapBk = s.snapBk := rfl
@[simp] theorem updWb_bus : (s.updWb f).bus = s.bus := rfl
@[simp] theorem updWb_carrier : (s.updWb f).carrier = s.carrier := rfl
@[simp] theorem updWb_map : (s.updWb f).map = s.map := rfl
@[simp] theorem updWb_boot : (s.updWb f).boot = s.boot := rfl
@[simp] theorem updWb_regions : (s.updWb f).regions = s.regions := rfl
@[simp] theorem updWb_wakeQ : (s.updWb f).wakeQ = s.wakeQ := rfl
@[simp] theorem updWb_road : (s.updWb f).road = s.road := rfl
@[simp] theorem updWb_syncs : (s.updWb f).syncs = s.syncs := rfl
@[simp] theorem updWb_beds : (s.updWb f).beds = s.beds := rfl
@[simp] theorem updWb_faces : (s.updWb f).faces = s.faces := rfl
@[simp] theorem updWb_host : (s.updWb f).host = s.host := rfl
@[simp] theorem updWb_mgmt : (s.updWb f).mgmt = s.mgmt := rfl
@[simp] theorem updWb_esc : (s.updWb f).esc = s.esc := rfl
@[simp] theorem updWb_sensors : (s.updWb f).sensors = s.sensors := rfl
@[simp] theorem updWb_listeners : (s.updWb f).listeners = s.listeners := rfl
@[simp] theorem updWb_wb : (s.updWb f).wb = f s.wb := rfl
@[simp] theorem updWb_links : (s.updWb f).links = s.links := rfl
@[simp] theorem updWb_cab : (s.updWb f).cab = s.cab := rfl
@[simp] theorem updWb_outs : (s.updWb f).outs = s.outs := rfl
@[simp] theorem updWb_ring : (s.updWb f).ring = s.ring := rfl
@[simp] theorem updWb_stopQ : (s.updWb f).stopQ = s.stopQ := rfl

end

/-! ## updLink -/

section

variable (s : State) (k : Nat) (f : LinkSt → LinkSt)

@[simp] theorem updLink_pending : (s.updLink k f).pending = s.pending := rfl
@[simp] theorem updLink_time : (s.updLink k f).time = s.time := rfl
@[simp] theorem updLink_freeCount : (s.updLink k f).freeCount = s.freeCount := rfl
@[simp] theorem updLink_fields : (s.updLink k f).fields = s.fields := rfl
@[simp] theorem updLink_shadow : (s.updLink k f).shadow = s.shadow := rfl
@[simp] theorem updLink_staged : (s.updLink k f).staged = s.staged := rfl
@[simp] theorem updLink_snapHost : (s.updLink k f).snapHost = s.snapHost := rfl
@[simp] theorem updLink_snapBk : (s.updLink k f).snapBk = s.snapBk := rfl
@[simp] theorem updLink_bus : (s.updLink k f).bus = s.bus := rfl
@[simp] theorem updLink_carrier : (s.updLink k f).carrier = s.carrier := rfl
@[simp] theorem updLink_map : (s.updLink k f).map = s.map := rfl
@[simp] theorem updLink_boot : (s.updLink k f).boot = s.boot := rfl
@[simp] theorem updLink_regions : (s.updLink k f).regions = s.regions := rfl
@[simp] theorem updLink_wakeQ : (s.updLink k f).wakeQ = s.wakeQ := rfl
@[simp] theorem updLink_road : (s.updLink k f).road = s.road := rfl
@[simp] theorem updLink_syncs : (s.updLink k f).syncs = s.syncs := rfl
@[simp] theorem updLink_beds : (s.updLink k f).beds = s.beds := rfl
@[simp] theorem updLink_faces : (s.updLink k f).faces = s.faces := rfl
@[simp] theorem updLink_host : (s.updLink k f).host = s.host := rfl
@[simp] theorem updLink_mgmt : (s.updLink k f).mgmt = s.mgmt := rfl
@[simp] theorem updLink_esc : (s.updLink k f).esc = s.esc := rfl
@[simp] theorem updLink_sensors : (s.updLink k f).sensors = s.sensors := rfl
@[simp] theorem updLink_listeners : (s.updLink k f).listeners = s.listeners := rfl
@[simp] theorem updLink_wb : (s.updLink k f).wb = s.wb := rfl
@[simp] theorem updLink_cab : (s.updLink k f).cab = s.cab := rfl
@[simp] theorem updLink_outs : (s.updLink k f).outs = s.outs := rfl
@[simp] theorem updLink_ring : (s.updLink k f).ring = s.ring := rfl
@[simp] theorem updLink_stopQ : (s.updLink k f).stopQ = s.stopQ := rfl

end

/-! ## updLoop -/

section

variable (s : State) (n : Nat) (f : LoopSt → LoopSt)

@[simp] theorem updLoop_pending : (s.updLoop n f).pending = s.pending := rfl
@[simp] theorem updLoop_time : (s.updLoop n f).time = s.time := rfl
@[simp] theorem updLoop_freeCount : (s.updLoop n f).freeCount = s.freeCount := rfl
@[simp] theorem updLoop_fields : (s.updLoop n f).fields = s.fields := rfl
@[simp] theorem updLoop_shadow : (s.updLoop n f).shadow = s.shadow := rfl
@[simp] theorem updLoop_staged : (s.updLoop n f).staged = s.staged := rfl
@[simp] theorem updLoop_snapHost : (s.updLoop n f).snapHost = s.snapHost := rfl
@[simp] theorem updLoop_snapBk : (s.updLoop n f).snapBk = s.snapBk := rfl
@[simp] theorem updLoop_bus : (s.updLoop n f).bus = s.bus := rfl
@[simp] theorem updLoop_carrier : (s.updLoop n f).carrier = s.carrier := rfl
@[simp] theorem updLoop_map : (s.updLoop n f).map = s.map := rfl
@[simp] theorem updLoop_boot : (s.updLoop n f).boot = s.boot := rfl
@[simp] theorem updLoop_regions : (s.updLoop n f).regions = s.regions := rfl
@[simp] theorem updLoop_wakeQ : (s.updLoop n f).wakeQ = s.wakeQ := rfl
@[simp] theorem updLoop_road : (s.updLoop n f).road = s.road := rfl
@[simp] theorem updLoop_syncs : (s.updLoop n f).syncs = s.syncs := rfl
@[simp] theorem updLoop_beds : (s.updLoop n f).beds = s.beds := rfl
@[simp] theorem updLoop_faces : (s.updLoop n f).faces = s.faces := rfl
@[simp] theorem updLoop_host : (s.updLoop n f).host = s.host := rfl
@[simp] theorem updLoop_mgmt : (s.updLoop n f).mgmt = s.mgmt := rfl
@[simp] theorem updLoop_esc : (s.updLoop n f).esc = s.esc := rfl
@[simp] theorem updLoop_sensors : (s.updLoop n f).sensors = s.sensors := rfl
@[simp] theorem updLoop_listeners : (s.updLoop n f).listeners = s.listeners := rfl
@[simp] theorem updLoop_wb : (s.updLoop n f).wb = s.wb := rfl
@[simp] theorem updLoop_links : (s.updLoop n f).links = s.links := rfl
@[simp] theorem updLoop_cab : (s.updLoop n f).cab = s.cab := rfl
@[simp] theorem updLoop_ring : (s.updLoop n f).ring = s.ring := rfl
@[simp] theorem updLoop_stopQ : (s.updLoop n f).stopQ = s.stopQ := rfl

end

/-! ## updLamp -/

section

variable (s : State) (n : Nat) (f : LampSt → LampSt)

@[simp] theorem updLamp_pending : (s.updLamp n f).pending = s.pending := rfl
@[simp] theorem updLamp_time : (s.updLamp n f).time = s.time := rfl
@[simp] theorem updLamp_freeCount : (s.updLamp n f).freeCount = s.freeCount := rfl
@[simp] theorem updLamp_fields : (s.updLamp n f).fields = s.fields := rfl
@[simp] theorem updLamp_shadow : (s.updLamp n f).shadow = s.shadow := rfl
@[simp] theorem updLamp_staged : (s.updLamp n f).staged = s.staged := rfl
@[simp] theorem updLamp_snapHost : (s.updLamp n f).snapHost = s.snapHost := rfl
@[simp] theorem updLamp_snapBk : (s.updLamp n f).snapBk = s.snapBk := rfl
@[simp] theorem updLamp_bus : (s.updLamp n f).bus = s.bus := rfl
@[simp] theorem updLamp_carrier : (s.updLamp n f).carrier = s.carrier := rfl
@[simp] theorem updLamp_map : (s.updLamp n f).map = s.map := rfl
@[simp] theorem updLamp_boot : (s.updLamp n f).boot = s.boot := rfl
@[simp] theorem updLamp_regions : (s.updLamp n f).regions = s.regions := rfl
@[simp] theorem updLamp_wakeQ : (s.updLamp n f).wakeQ = s.wakeQ := rfl
@[simp] theorem updLamp_road : (s.updLamp n f).road = s.road := rfl
@[simp] theorem updLamp_syncs : (s.updLamp n f).syncs = s.syncs := rfl
@[simp] theorem updLamp_beds : (s.updLamp n f).beds = s.beds := rfl
@[simp] theorem updLamp_faces : (s.updLamp n f).faces = s.faces := rfl
@[simp] theorem updLamp_host : (s.updLamp n f).host = s.host := rfl
@[simp] theorem updLamp_mgmt : (s.updLamp n f).mgmt = s.mgmt := rfl
@[simp] theorem updLamp_esc : (s.updLamp n f).esc = s.esc := rfl
@[simp] theorem updLamp_sensors : (s.updLamp n f).sensors = s.sensors := rfl
@[simp] theorem updLamp_listeners : (s.updLamp n f).listeners = s.listeners := rfl
@[simp] theorem updLamp_wb : (s.updLamp n f).wb = s.wb := rfl
@[simp] theorem updLamp_links : (s.updLamp n f).links = s.links := rfl
@[simp] theorem updLamp_cab : (s.updLamp n f).cab = s.cab := rfl
@[simp] theorem updLamp_ring : (s.updLamp n f).ring = s.ring := rfl
@[simp] theorem updLamp_stopQ : (s.updLamp n f).stopQ = s.stopQ := rfl

end

end Sys2Proof.Machine
end

