-- ==== Sys2Proof/Laws/Flags.lean ====
section
/-! SUPPORT. Laws/Flags.lean: reading a register field after a write of another; what an event, a log record and an error
record leave alone. -/

namespace Sys2Proof.Machine

open Sys2Proof

/-! ## Fields -/

theorem getF_setF_self (s : State) (ref : Nat) (f : Fld) (v : Nat) : getF (setF s ref f v) ref f = v % 2 ^ f.w := by
  unfold getF setF
  exact tget_tset_self _ _ _ _

theorem getF_setF_key (s : State) (ref : Nat) (f : Fld) (v : Nat) {ref' : Nat} {g : Fld}
    (h : fieldKey ref' g ≠ fieldKey ref f) : getF (setF s ref f v) ref' g = getF s ref' g := by
  unfold getF setF
  exact tget_tset_ne _ _ _ _ h

/-- Fields at different offsets of a page have different keys, whatever their pages. -/
theorem fieldKey_off {ref ref' : Nat} {f g : Fld} (hf : f.off < 4096 ∧ f.lo < 32) (hg : g.off < 4096 ∧ g.lo < 32)
    (h : g.off ≠ f.off) : fieldKey ref' g ≠ fieldKey ref f := by
  unfold fieldKey
  omega

/-- Fields of different pages have different keys. -/
theorem fieldKey_page {ref ref' : Nat} {f g : Fld} (hf : f.off < 4096 ∧ f.lo < 32) (hg : g.off < 4096 ∧ g.lo < 32)
    (h : ref' ≠ ref) : fieldKey ref' g ≠ fieldKey ref f := by
  unfold fieldKey
  omega

/-- Fields of one register word at different bits have different keys. -/
theorem fieldKey_bit {ref ref' : Nat} {f g : Fld} (hf : f.lo < 32) (hg : g.lo < 32) (h : g.lo ≠ f.lo) :
    fieldKey ref' g ≠ fieldKey ref f := by
  unfold fieldKey
  omega

/-- A field that lies inside its page. -/
abbrev Fld.wf (f : Fld) : Prop := f.off < 4096 ∧ f.lo < 32

/-- Two fields that can not share a key, whatever their pages. -/
abbrev Fld.apart (g f : Fld) : Prop := g.wf ∧ f.wf ∧ (g.off ≠ f.off ∨ g.lo ≠ f.lo)

theorem getF_setF_apart (s : State) (ref ref' : Nat) (f g : Fld) (v : Nat) (h : g.apart f) :
    getF (setF s ref f v) ref' g = getF s ref' g := by
  apply getF_setF_key
  obtain ⟨hg, hf, h | h⟩ := h
  · exact fieldKey_off hf hg h
  · exact fieldKey_bit hf.2 hg.2 h

theorem getF_setF_page (s : State) (ref ref' : Nat) (f g : Fld) (v : Nat) (hg : g.wf) (hf : f.wf) (h : ref' ≠ ref) :
    getF (setF s ref f v) ref' g = getF s ref' g := getF_setF_key s ref f v (fieldKey_page hf hg h)

theorem getF_addF_self (s : State) (ref : Nat) (f : Fld) (n : Nat) :
    getF (addF s ref f n) ref f = (getF s ref f + n) % 2 ^ f.w := getF_setF_self _ _ _ _

theorem getF_addF_apart (s : State) (ref ref' : Nat) (f g : Fld) (v : Nat) (h : g.apart f) :
    getF (addF s ref f v) ref' g = getF s ref' g := getF_setF_apart _ _ _ _ _ _ h

theorem getF_putFlag_self (s : State) (ref : Nat) (f : Fld) (b : Bool) :
    getF (putFlag s ref f b) ref f = b.toNat % 2 ^ f.w := getF_setF_self _ _ _ _

theorem getF_putFlag_apart (s : State) (ref ref' : Nat) (f g : Fld) (b : Bool) (h : g.apart f) :
    getF (putFlag s ref f b) ref' g = getF s ref' g := getF_setF_apart _ _ _ _ _ _ h

/-- A field reads the register table alone. -/
theorem getF_of_fields {s t : State} (h : t.fields = s.fields) (ref : Nat) (f : Fld) : getF t ref f = getF s ref f := by
  unfold getF
  rw [h]

@[simp] theorem getF_updRegion (s : State) (r : Nat) (f : RegionSt → RegionSt) (ref : Nat) (fd : Fld) : getF (s.updRegion r f) ref fd = getF s ref fd := rfl
@[simp] theorem getF_updSync (s : State) (r : Nat) (f : SyncBlk → SyncBlk) (ref : Nat) (fd : Fld) : getF (s.updSync r f) ref fd = getF s ref fd := rfl
@[simp] theorem getF_updBed (s : State) (r : Nat) (f : BedSt → BedSt) (ref : Nat) (fd : Fld) : getF (s.updBed r f) ref fd = getF s ref fd := rfl
@[simp] theorem getF_updFace (s : State) (g : Nat) (f : FaceSt → FaceSt) (ref : Nat) (fd : Fld) : getF (s.updFace g f) ref fd = getF s ref fd := rfl
@[simp] theorem getF_updHost (s : State) (f : HostSt → HostSt) (ref : Nat) (fd : Fld) : getF (s.updHost f) ref fd = getF s ref fd := rfl
@[simp] theorem getF_updJob (s : State) (j : Nat) (f : JobSt → JobSt) (ref : Nat) (fd : Fld) : getF (s.updJob j f) ref fd = getF s ref fd := rfl
@[simp] theorem getF_updMgmt (s : State) (f : MgmtSt → MgmtSt) (ref : Nat) (fd : Fld) : getF (s.updMgmt f) ref fd = getF s ref fd := rfl
@[simp] theorem getF_updCarrier (s : State) (f : Carrier → Carrier) (ref : Nat) (fd : Fld) : getF (s.updCarrier f) ref fd = getF s ref fd := rfl
@[simp] theorem getF_updBoot (s : State) (f : Boot → Boot) (ref : Nat) (fd : Fld) : getF (s.updBoot f) ref fd = getF s ref fd := rfl
@[simp] theorem getF_updMap (s : State) (f : MapSt → MapSt) (ref : Nat) (fd : Fld) : getF (s.updMap f) ref fd = getF s ref fd := rfl
@[simp] theorem getF_updRoad (s : State) (f : Road → Road) (ref : Nat) (fd : Fld) : getF (s.updRoad f) ref fd = getF s ref fd := rfl
@[simp] theorem getF_updEsc (s : State) (f : EscSt → EscSt) (ref : Nat) (fd : Fld) : getF (s.updEsc f) ref fd = getF s ref fd := rfl
@[simp] theorem getF_updChain (s : State) (c : Nat) (f : ChainSt → ChainSt) (ref : Nat) (fd : Fld) : getF (s.updChain c f) ref fd = getF s ref fd := rfl
@[simp] theorem getF_updSensor (s : State) (p : Nat) (f : SensorSt → SensorSt) (ref : Nat) (fd : Fld) : getF (s.updSensor p f) ref fd = getF s ref fd := rfl
@[simp] theorem getF_updStream (s : State) (p k : Nat) (f : StreamSt → StreamSt) (ref : Nat) (fd : Fld) : getF (s.updStream p k f) ref fd = getF s ref fd := rfl
@[simp] theorem getF_updListener (s : State) (p : Nat) (f : ListenerSt → ListenerSt) (ref : Nat) (fd : Fld) : getF (s.updListener p f) ref fd = getF s ref fd := rfl
@[simp] theorem getF_updLslot (s : State) (p k : Nat) (f : LSlotSt → LSlotSt) (ref : Nat) (fd : Fld) : getF (s.updLslot p k f) ref fd = getF s ref fd := rfl
@[simp] theorem getF_updWb (s : State) (f : WbSt → WbSt) (ref : Nat) (fd : Fld) : getF (s.updWb f) ref fd = getF s ref fd := rfl
@[simp] theorem getF_updLink (s : State) (k : Nat) (f : LinkSt → LinkSt) (ref : Nat) (fd : Fld) : getF (s.updLink k f) ref fd = getF s ref fd := rfl
@[simp] theorem getF_updLoop (s : State) (n : Nat) (f : LoopSt → LoopSt) (ref : Nat) (fd : Fld) : getF (s.updLoop n f) ref fd = getF s ref fd := rfl
@[simp] theorem getF_updLamp (s : State) (n : Nat) (f : LampSt → LampSt) (ref : Nat) (fd : Fld) : getF (s.updLamp n f) ref fd = getF s ref fd := rfl

/-! ## Events, the log and errors -/

/-- A field that no event and no log record writes: not EVT_RAW, nor the event ring's TAIL and LOST, nor the pending bits,
nor the counters of the management log. -/
abbrev Fld.still (f : Fld) (ref : Nat) : Prop :=
  f.wf ∧ f.off ≠ 0 ∧ f.off ≠ 4 ∧ f.off ≠ 8 ∧ f.off ≠ 0x10 ∧ ((f.off ≠ 0x54 ∧ f.off ≠ 0x58) ∨ ref ≠ mgmtPg)

/-- `t` differs from `s` in no still field. -/
def Quiet (s t : State) : Prop := ∀ ref (f : Fld), f.still ref → getF t ref f = getF s ref f

theorem Quiet.refl (s : State) : Quiet s s := fun _ _ _ => rfl
theorem Quiet.trans {s t u : State} (h : Quiet s t) (k : Quiet t u) : Quiet s u := fun ref f hf => (k ref f hf).trans (h ref f hf)
theorem Quiet.same {s t u : State} (h : Quiet s t) (e : u.fields = t.fields) : Quiet s u :=
  h.trans (fun ref f _ => getF_of_fields e ref f)
theorem Quiet.ite {s x y : State} {c : Prop} [Decidable c] (h1 : Quiet s x) (h2 : Quiet s y) : Quiet s (if c then x else y) := by
  split <;> assumption

theorem Quiet.setF {s t : State} (h : Quiet s t) (ref : Nat) (g : Fld) (v : Nat)
    (hg : g.wf ∧ (g.off = 0 ∨ g.off = 4 ∨ g.off = 8 ∨ g.off = 0x10 ∨ (ref = mgmtPg ∧ (g.off = 0x54 ∨ g.off = 0x58)))) :
    Quiet s (setF t ref g v) := by
  refine h.trans (fun ref' f hf => ?_)
  obtain ⟨hw, h0, h4, h8, h10, hm⟩ := hf
  apply getF_setF_key
  obtain ⟨hgw, hg⟩ := hg
  by_cases e : f.off = g.off
  · obtain ⟨h54, h58⟩ | hm := hm
    · omega
    · exact fieldKey_page hgw hw (by omega)
  · exact fieldKey_off hgw hw e

theorem quiet_logPush {a s : State} (h : Quiet a s) (kind region code : Nat) (data : List Nat) :
    Quiet a (logPush s kind region code data) := by
  unfold logPush notifyLog
  dsimp only
  refine Quiet.same ?_ (updMgmt_fields _ _)
  split
  · exact Quiet.setF (Quiet.setF (Quiet.same h (updMgmt_fields _ _)) _ _ _ (by decide)) _ _ _ (by decide)
  · exact Quiet.setF (Quiet.same h (updMgmt_fields _ _)) _ _ _ (by decide)

theorem quiet_sendMsix {a s : State} (h : Quiet a s) (v : Nat) (hv : v < 64) : Quiet a (sendMsix s v) := by
  unfold sendMsix
  split
  · exact h
  · split
    · have k : v / 32 = 0 ∨ v / 32 = 1 := by omega
      obtain e | e := k <;> rw [e] <;> exact Quiet.setF h _ _ _ (by decide)
    · exact Quiet.same h (updHost_fields _ _)

theorem quiet_hostEventRaw {a s : State} (h : Quiet a s) (page evbit stat errinfo : Nat) :
    Quiet a (hostEventRaw s page evbit stat errinfo).1 := by
  unfold hostEventRaw
  split
  · exact h
  · dsimp only
    split
    · exact Quiet.same (Quiet.setF (Quiet.same h (updHost_fields _ _)) _ _ _ (by decide)) (updHost_fields _ _)
    · refine Quiet.same (Quiet.setF (Quiet.same h ?_) _ _ _ (by decide)) (updHost_fields _ _)
      rfl

theorem bits_lt (v lo w : Nat) : bits v lo w < 2 ^ w := by
  unfold bits
  exact Nat.mod_lt _ (Nat.two_pow_pos w)

theorem quiet_deliverRaw {a s : State} (h : Quiet a s) (ref evbit : Nat) (msg : Bool) :
    Quiet a (deliverRaw s ref evbit msg).1 := by
  unfold deliverRaw
  dsimp only
  have hv : ROUTE_VECTOR (getF s ref EVT_ROUTE) < 64 := bits_lt _ _ _
  have k : ∀ x : State × Bool, Quiet a x.1 → ∀ (c : Bool) (r e : Nat) (d : List Nat),
      Quiet a (if c then logPush x.1 1 r e d else x.1) := by
    intro x hx c r e d
    split
    · exact quiet_logPush hx _ _ _ _
    · exact hx
  apply k
  split
  · dsimp only
    split
    · exact quiet_sendMsix (quiet_hostEventRaw h _ _ _ _) _ hv
    · exact quiet_hostEventRaw h _ _ _ _
  · exact h

theorem quiet_raiseRaw {a s : State} (h : Quiet a s) (ref evbit : Nat) : Quiet a (raiseRaw s ref evbit).1 := by
  unfold raiseRaw latch
  split
  · exact h
  · dsimp only
    split
    · split
      · exact quiet_deliverRaw h _ _ _
      · exact h
    · split
      · exact quiet_deliverRaw (Quiet.setF h _ _ _ ⟨by decide, .inr (.inr (.inr (.inl rfl)))⟩) _ _ _
      · exact Quiet.setF h _ _ _ ⟨by decide, .inr (.inr (.inr (.inl rfl)))⟩

theorem quiet_followUp {a s : State} (h : Quiet a s) (d b : Bool) : Quiet a (followUp s d b) := by
  have k : ∀ (c : Bool) (t : State), Quiet a t → ∀ r e, Quiet a (if c then (raiseRaw t r e).1 else t) := by
    intro c t ht r e
    split
    · exact quiet_raiseRaw ht _ _
    · exact ht
  exact k _ _ (k _ _ h _ _) _ _

theorem quiet_raise {a s : State} (h : Quiet a s) (ref evbit : Nat) : Quiet a (raise s ref evbit) :=
  quiet_followUp (quiet_raiseRaw h _ _) _ _

theorem quiet_logRec {a s : State} (h : Quiet a s) (kind region code : Nat) (data : List Nat) :
    Quiet a (logRec s kind region code data) := quiet_followUp (quiet_logPush h _ _ _ _) _ _

theorem quiet_deliver {a s : State} (h : Quiet a s) (ref evbit : Nat) (msg : Bool) : Quiet a (deliver s ref evbit msg) :=
  quiet_followUp (quiet_deliverRaw h _ _ _) _ _

/-- A field that no event writes reads after an event what it read before. -/
theorem getF_raise (s : State) (p b ref : Nat) (f : Fld) (h : f.still ref) : getF (raise s p b) ref f = getF s ref f :=
  quiet_raise (Quiet.refl s) p b ref f h

theorem getF_logRec (s : State) (kind region code : Nat) (data : List Nat) (ref : Nat) (f : Fld) (h : f.still ref) :
    getF (logRec s kind region code data) ref f = getF s ref f := quiet_logRec (Quiet.refl s) kind region code data ref f h

theorem getF_deliver (s : State) (p b ref : Nat) (c : Bool) (f : Fld) (h : f.still ref) :
    getF (deliver s p b c) ref f = getF s ref f := quiet_deliver (Quiet.refl s) p b c ref f h

/-- Recording an error writes ERRINFO and ERRADDR alone. -/
theorem getF_recordErr (s : State) (p code : Nat) (src : Src) (space addr ref : Nat) (f : Fld)
    (h : f.wf ∧ f.off ≠ 0x20 ∧ f.off ≠ 0x24) : getF (recordErr s p code src space addr) ref f = getF s ref f := by
  unfold recordErr
  dsimp only
  split
  · exact getF_setF_key _ _ _ _ (fieldKey_off (by decide) h.1 h.2.1)
  · rw [getF_setF_key _ _ _ _ (fieldKey_off (by decide) h.1 h.2.2),
      getF_setF_key _ _ _ _ (fieldKey_off (by decide) h.1 h.2.1)]

/-! ## Halves -/

theorem carrier_of {c d : Carrier} (h : c.supply = d.supply) (k : c.hostPwrOk = d.hostPwrOk) : c = d := by
  cases c; cases d; simp_all

theorem map_of {c d : MapSt} (h : c.record = d.record) (k : c.entries = d.entries) : c = d := by
  cases c; cases d; simp_all

theorem host_of {c d : HostSt} (h : c.memory = d.memory) (k : c.table = d.table) : c = d := by
  cases c; cases d; simp_all

theorem mgmt_of {c d : MgmtSt} (h : c.output = d.output) (k : c.access = d.access) : c = d := by
  cases c; cases d; simp_all

/-! ## The event bit itself -/

theorem bit_eq_testBit (v i : Nat) : bit v i = v.testBit i := by
  rw [Nat.testBit_eq_decide_div_mod_eq]
  rfl

/-- Event bits only rise. -/
def RawUp (s t : State) : Prop :=
  ∀ ref b, b < 32 → bit (getF s ref EVT_RAW) b = true → bit (getF t ref EVT_RAW) b = true

theorem RawUp.refl (s : State) : RawUp s s := fun _ _ _ h => h
theorem RawUp.trans {s t u : State} (h : RawUp s t) (k : RawUp t u) : RawUp s u := fun r b hb x => k r b hb (h r b hb x)
theorem RawUp.same {s t u : State} (h : RawUp s t) (e : u.fields = t.fields) : RawUp s u :=
  h.trans (fun ref b _ x => by rw [getF_of_fields e]; exact x)
theorem RawUp.ite {s x y : State} {c : Prop} [Decidable c] (h1 : RawUp s x) (h2 : RawUp s y) :
    RawUp s (if c then x else y) := by
  split <;> assumption

theorem RawUp.setF {s t : State} (h : RawUp s t) (ref : Nat) (g : Fld) (v : Nat) (hg : g.wf ∧ g.off ≠ 0x10) :
    RawUp s (Machine.setF t ref g v) := by
  refine h.trans (fun ref' b _ x => ?_)
  rw [getF_setF_key _ _ _ _ (fieldKey_off hg.1 (by decide) (fun e => hg.2 e.symm))]
  exact x

theorem RawUp.latch {s t : State} (h : RawUp s t) (ref e : Nat) :
    RawUp s (Machine.setF t ref EVT_RAW (getF t ref EVT_RAW ||| 2 ^ e)) := by
  refine h.trans (fun ref' b hb x => ?_)
  by_cases hr : ref' = ref
  · subst hr
    rw [getF_setF_self, bit_eq_testBit, Nat.testBit_mod_two_pow, Nat.testBit_or]
    rw [bit_eq_testBit] at x
    rw [x]
    simp [EVT_RAW, hb]
  · rw [getF_setF_page _ _ _ EVT_RAW EVT_RAW _ (by decide) (by decide) hr]
    exact x

theorem rawUp_logPush {a s : State} (h : RawUp a s) (kind region code : Nat) (data : List Nat) :
    RawUp a (logPush s kind region code data) := by
  unfold logPush notifyLog
  dsimp only
  refine RawUp.same ?_ (updMgmt_fields _ _)
  split
  · exact RawUp.setF (RawUp.setF (RawUp.same h (updMgmt_fields _ _)) _ _ _ (by decide)) _ _ _ (by decide)
  · exact RawUp.setF (RawUp.same h (updMgmt_fields _ _)) _ _ _ (by decide)

theorem rawUp_sendMsix {a s : State} (h : RawUp a s) (v : Nat) (hv : v < 64) : RawUp a (sendMsix s v) := by
  unfold sendMsix
  split
  · exact h
  · split
    · have k : v / 32 = 0 ∨ v / 32 = 1 := by omega
      obtain e | e := k <;> rw [e] <;> exact RawUp.setF h _ _ _ (by decide)
    · exact RawUp.same h (updHost_fields _ _)

theorem rawUp_hostEventRaw {a s : State} (h : RawUp a s) (page evbit stat errinfo : Nat) :
    RawUp a (hostEventRaw s page evbit stat errinfo).1 := by
  unfold hostEventRaw
  split
  · exact h
  · dsimp only
    split
    · exact RawUp.same (RawUp.setF (RawUp.same h (updHost_fields _ _)) _ _ _ (by decide)) (updHost_fields _ _)
    · refine RawUp.same (RawUp.setF (RawUp.same h ?_) _ _ _ (by decide)) (updHost_fields _ _)
      rfl

theorem rawUp_deliverRaw {a s : State} (h : RawUp a s) (ref evbit : Nat) (msg : Bool) :
    RawUp a (deliverRaw s ref evbit msg).1 := by
  unfold deliverRaw
  dsimp only
  have hv : ROUTE_VECTOR (getF s ref EVT_ROUTE) < 64 := bits_lt _ _ _
  have k : ∀ x : State × Bool, RawUp a x.1 → ∀ (c : Bool) (r e : Nat) (d : List Nat),
      RawUp a (if c then logPush x.1 1 r e d else x.1) := by
    intro x hx c r e d
    split
    · exact rawUp_logPush hx _ _ _ _
    · exact hx
  apply k
  split
  · dsimp only
    split
    · exact rawUp_sendMsix (rawUp_hostEventRaw h _ _ _ _) _ hv
    · exact rawUp_hostEventRaw h _ _ _ _
  · exact h

theorem rawUp_raiseRaw {a s : State} (h : RawUp a s) (ref evbit : Nat) : RawUp a (raiseRaw s ref evbit).1 := by
  unfold raiseRaw Machine.latch
  split
  · exact h
  · dsimp only
    split
    · split
      · exact rawUp_deliverRaw h _ _ _
      · exact h
    · split
      · exact rawUp_deliverRaw (RawUp.latch h _ _) _ _ _
      · exact RawUp.latch h _ _

theorem rawUp_followUp {a s : State} (h : RawUp a s) (d b : Bool) : RawUp a (followUp s d b) := by
  have k : ∀ (c : Bool) (t : State), RawUp a t → ∀ r e, RawUp a (if c then (raiseRaw t r e).1 else t) := by
    intro c t ht r e
    split
    · exact rawUp_raiseRaw ht _ _
    · exact ht
  exact k _ _ (k _ _ h _ _) _ _

theorem rawUp_raise {a s : State} (h : RawUp a s) (ref evbit : Nat) : RawUp a (raise s ref evbit) :=
  rawUp_followUp (rawUp_raiseRaw h _ _) _ _

theorem rawUp_logRec {a s : State} (h : RawUp a s) (kind region code : Nat) (data : List Nat) :
    RawUp a (logRec s kind region code data) := rawUp_followUp (rawUp_logPush h _ _ _ _) _ _

theorem rawUp_recordErr {a s : State} (h : RawUp a s) (p code : Nat) (src : Src) (space addr : Nat) :
    RawUp a (recordErr s p code src space addr) := by
  unfold recordErr
  dsimp only
  split
  · exact RawUp.setF h _ _ _ (by decide)
  · exact RawUp.setF (RawUp.setF h _ _ _ (by decide)) _ _ _ (by decide)

/-- An event of a page latches its bit of EVT_RAW (R238). -/
theorem raise_sets (s : State) (ref b : Nat) (hk : (pageKind ref).isSome = true) (hb : b < 32) :
    bit (getF (raise s ref b) ref EVT_RAW) b = true := by
  have k : bit (getF (raiseRaw s ref b).1 ref EVT_RAW) b = true := by
    unfold raiseRaw Machine.latch
    split
    · rename_i hn
      rw [hn] at hk
      cases hk
    · dsimp only
      by_cases hs : bit (getF s ref EVT_RAW) b = true
      · rw [if_pos hs]
        exact hs
      · rw [if_neg hs]
        have k2 : bit (getF (Machine.setF s ref EVT_RAW (getF s ref EVT_RAW ||| 2 ^ b)) ref EVT_RAW) b = true := by
          rw [getF_setF_self, bit_eq_testBit, Nat.testBit_mod_two_pow, Nat.testBit_or, Nat.testBit_two_pow_self]
          simp [EVT_RAW, hb]
        split
        · exact rawUp_deliverRaw (RawUp.refl _) _ _ _ ref b hb k2
        · exact k2
  exact rawUp_followUp (RawUp.refl _) _ _ ref b hb k

/-! ## Parts that raise leaves alone -/

section

variable (s : State) (p b : Nat)

theorem raise_ev : Ev 2621444 s (raise s p b) := ev_raise (Ev.refl s) (by decide) _ _
@[simp] theorem raise_pending : (raise s p b).pending = s.pending := (raise_ev s p b).pending
@[simp] theorem raise_time : (raise s p b).time = s.time := (raise_ev s p b).frame .time (by decide)
@[simp] theorem raise_freeCount : (raise s p b).freeCount = s.freeCount := (raise_ev s p b).frame .freeCount (by decide)
@[simp] theorem raise_shadow : (raise s p b).shadow = s.shadow := (raise_ev s p b).frame .shadow (by decide)
@[simp] theorem raise_staged : (raise s p b).staged = s.staged := (raise_ev s p b).frame .staged (by decide)
@[simp] theorem raise_snapHost : (raise s p b).snapHost = s.snapHost := (raise_ev s p b).frame .snapHost (by decide)
@[simp] theorem raise_snapBk : (raise s p b).snapBk = s.snapBk := (raise_ev s p b).frame .snapBk (by decide)
@[simp] theorem raise_bus : (raise s p b).bus = s.bus := (raise_ev s p b).frame .bus (by decide)
@[simp] theorem raise_boot : (raise s p b).boot = s.boot := (raise_ev s p b).frame .boot (by decide)
@[simp] theorem raise_regions : (raise s p b).regions = s.regions := (raise_ev s p b).frame .regions (by decide)
@[simp] theorem raise_wakeQ : (raise s p b).wakeQ = s.wakeQ := (raise_ev s p b).frame .wakeQ (by decide)
@[simp] theorem raise_road : (raise s p b).road = s.road := (raise_ev s p b).frame .road (by decide)
@[simp] theorem raise_syncs : (raise s p b).syncs = s.syncs := (raise_ev s p b).frame .syncs (by decide)
@[simp] theorem raise_beds : (raise s p b).beds = s.beds := (raise_ev s p b).frame .beds (by decide)
@[simp] theorem raise_faces : (raise s p b).faces = s.faces := (raise_ev s p b).frame .faces (by decide)
@[simp] theorem raise_esc : (raise s p b).esc = s.esc := (raise_ev s p b).frame .esc (by decide)
@[simp] theorem raise_sensors : (raise s p b).sensors = s.sensors := (raise_ev s p b).frame .sensors (by decide)
@[simp] theorem raise_listeners : (raise s p b).listeners = s.listeners := (raise_ev s p b).frame .listeners (by decide)
@[simp] theorem raise_wb : (raise s p b).wb = s.wb := (raise_ev s p b).frame .wb (by decide)
@[simp] theorem raise_links : (raise s p b).links = s.links := (raise_ev s p b).frame .links (by decide)
@[simp] theorem raise_cab : (raise s p b).cab = s.cab := (raise_ev s p b).frame .cab (by decide)
@[simp] theorem raise_outs : (raise s p b).outs = s.outs := (raise_ev s p b).frame .outs (by decide)
@[simp] theorem raise_ring : (raise s p b).ring = s.ring := (raise_ev s p b).frame .ring (by decide)
@[simp] theorem raise_stopQ : (raise s p b).stopQ = s.stopQ := (raise_ev s p b).frame .stopQ (by decide)
@[simp] theorem raise_carrier : (raise s p b).carrier = s.carrier :=
  carrier_of ((raise_ev s p b).frame .supply (by decide)) ((raise_ev s p b).frame .hostPower (by decide))
@[simp] theorem raise_map : (raise s p b).map = s.map :=
  map_of ((raise_ev s p b).frame .mapRecord (by decide)) ((raise_ev s p b).frame .mapEntries (by decide))
@[simp] theorem raise_host_linkUp : (raise s p b).host.linkUp = s.host.linkUp :=
  (congrArg HostSt.linkUp (show HostSt.table (raise s p b).host = HostSt.table s.host from (raise_ev s p b).frame .jobs (by decide)) :)
@[simp] theorem raise_host_pend : (raise s p b).host.pend = s.host.pend :=
  (congrArg HostSt.pend (show HostSt.table (raise s p b).host = HostSt.table s.host from (raise_ev s p b).frame .jobs (by decide)) :)
@[simp] theorem raise_host_jobs : (raise s p b).host.jobs = s.host.jobs :=
  (congrArg HostSt.jobs (show HostSt.table (raise s p b).host = HostSt.table s.host from (raise_ev s p b).frame .jobs (by decide)) :)
@[simp] theorem raise_host_nextOrder : (raise s p b).host.nextOrder = s.host.nextOrder :=
  (congrArg HostSt.nextOrder (show HostSt.table (raise s p b).host = HostSt.table s.host from (raise_ev s p b).frame .jobs (by decide)) :)
@[simp] theorem raise_host_lastQueue : (raise s p b).host.lastQueue = s.host.lastQueue :=
  (congrArg HostSt.lastQueue (show HostSt.table (raise s p b).host = HostSt.table s.host from (raise_ev s p b).frame .jobs (by decide)) :)
@[simp] theorem raise_host_doneSubs : (raise s p b).host.doneSubs = s.host.doneSubs :=
  (congrArg HostSt.doneSubs (show HostSt.table (raise s p b).host = HostSt.table s.host from (raise_ev s p b).frame .jobs (by decide)) :)
@[simp] theorem raise_host_srstWait : (raise s p b).host.srstWait = s.host.srstWait :=
  (congrArg HostSt.srstWait (show HostSt.table (raise s p b).host = HostSt.table s.host from (raise_ev s p b).frame .jobs (by decide)) :)
@[simp] theorem raise_mgmt_sessions : (raise s p b).mgmt.sessions = s.mgmt.sessions :=
  (congrArg MgmtSt.sessions (show MgmtSt.access (raise s p b).mgmt = MgmtSt.access s.mgmt from (raise_ev s p b).frame .sessions (by decide)) :)
@[simp] theorem raise_mgmt_nextSession : (raise s p b).mgmt.nextSession = s.mgmt.nextSession :=
  (congrArg MgmtSt.nextSession (show MgmtSt.access (raise s p b).mgmt = MgmtSt.access s.mgmt from (raise_ev s p b).frame .sessions (by decide)) :)
@[simp] theorem raise_mgmt_trust : (raise s p b).mgmt.trust = s.mgmt.trust :=
  (congrArg MgmtSt.trust (show MgmtSt.access (raise s p b).mgmt = MgmtSt.access s.mgmt from (raise_ev s p b).frame .sessions (by decide)) :)
@[simp] theorem raise_mgmt_staticAddr : (raise s p b).mgmt.staticAddr = s.mgmt.staticAddr :=
  (congrArg MgmtSt.staticAddr (show MgmtSt.access (raise s p b).mgmt = MgmtSt.access s.mgmt from (raise_ev s p b).frame .sessions (by decide)) :)
@[simp] theorem raise_mgmt_partials : (raise s p b).mgmt.partials = s.mgmt.partials :=
  (congrArg MgmtSt.partials (show MgmtSt.access (raise s p b).mgmt = MgmtSt.access s.mgmt from (raise_ev s p b).frame .sessions (by decide)) :)

end

/-! ## Parts that logRec leaves alone -/

section

variable (s : State) (kind region code : Nat) (data : List Nat)

theorem logRec_ev : Ev 2621444 s (logRec s kind region code data) := ev_logRec (Ev.refl s) (by decide) _ _ _ _
@[simp] theorem logRec_pending : (logRec s kind region code data).pending = s.pending := (logRec_ev s kind region code data).pending
@[simp] theorem logRec_time : (logRec s kind region code data).time = s.time := (logRec_ev s kind region code data).frame .time (by decide)
@[simp] theorem logRec_freeCount : (logRec s kind region code data).freeCount = s.freeCount := (logRec_ev s kind region code data).frame .freeCount (by decide)
@[simp] theorem logRec_shadow : (logRec s kind region code data).shadow = s.shadow := (logRec_ev s kind region code data).frame .shadow (by decide)
@[simp] theorem logRec_staged : (logRec s kind region code data).staged = s.staged := (logRec_ev s kind region code data).frame .staged (by decide)
@[simp] theorem logRec_snapHost : (logRec s kind region code data).snapHost = s.snapHost := (logRec_ev s kind region code data).frame .snapHost (by decide)
@[simp] theorem logRec_snapBk : (logRec s kind region code data).snapBk = s.snapBk := (logRec_ev s kind region code data).frame .snapBk (by decide)
@[simp] theorem logRec_bus : (logRec s kind region code data).bus = s.bus := (logRec_ev s kind region code data).frame .bus (by decide)
@[simp] theorem logRec_boot : (logRec s kind region code data).boot = s.boot := (logRec_ev s kind region code data).frame .boot (by decide)
@[simp] theorem logRec_regions : (logRec s kind region code data).regions = s.regions := (logRec_ev s kind region code data).frame .regions (by decide)
@[simp] theorem logRec_wakeQ : (logRec s kind region code data).wakeQ = s.wakeQ := (logRec_ev s kind region code data).frame .wakeQ (by decide)
@[simp] theorem logRec_road : (logRec s kind region code data).road = s.road := (logRec_ev s kind region code data).frame .road (by decide)
@[simp] theorem logRec_syncs : (logRec s kind region code data).syncs = s.syncs := (logRec_ev s kind region code data).frame .syncs (by decide)
@[simp] theorem logRec_beds : (logRec s kind region code data).beds = s.beds := (logRec_ev s kind region code data).frame .beds (by decide)
@[simp] theorem logRec_faces : (logRec s kind region code data).faces = s.faces := (logRec_ev s kind region code data).frame .faces (by decide)
@[simp] theorem logRec_esc : (logRec s kind region code data).esc = s.esc := (logRec_ev s kind region code data).frame .esc (by decide)
@[simp] theorem logRec_sensors : (logRec s kind region code data).sensors = s.sensors := (logRec_ev s kind region code data).frame .sensors (by decide)
@[simp] theorem logRec_listeners : (logRec s kind region code data).listeners = s.listeners := (logRec_ev s kind region code data).frame .listeners (by decide)
@[simp] theorem logRec_wb : (logRec s kind region code data).wb = s.wb := (logRec_ev s kind region code data).frame .wb (by decide)
@[simp] theorem logRec_links : (logRec s kind region code data).links = s.links := (logRec_ev s kind region code data).frame .links (by decide)
@[simp] theorem logRec_cab : (logRec s kind region code data).cab = s.cab := (logRec_ev s kind region code data).frame .cab (by decide)
@[simp] theorem logRec_outs : (logRec s kind region code data).outs = s.outs := (logRec_ev s kind region code data).frame .outs (by decide)
@[simp] theorem logRec_ring : (logRec s kind region code data).ring = s.ring := (logRec_ev s kind region code data).frame .ring (by decide)
@[simp] theorem logRec_stopQ : (logRec s kind region code data).stopQ = s.stopQ := (logRec_ev s kind region code data).frame .stopQ (by decide)
@[simp] theorem logRec_carrier : (logRec s kind region code data).carrier = s.carrier :=
  carrier_of ((logRec_ev s kind region code data).frame .supply (by decide)) ((logRec_ev s kind region code data).frame .hostPower (by decide))
@[simp] theorem logRec_map : (logRec s kind region code data).map = s.map :=
  map_of ((logRec_ev s kind region code data).frame .mapRecord (by decide)) ((logRec_ev s kind region code data).frame .mapEntries (by decide))
@[simp] theorem logRec_host_linkUp : (logRec s kind region code data).host.linkUp = s.host.linkUp :=
  (congrArg HostSt.linkUp (show HostSt.table (logRec s kind region code data).host = HostSt.table s.host from (logRec_ev s kind region code data).frame .jobs (by decide)) :)
@[simp] theorem logRec_host_pend : (logRec s kind region code data).host.pend = s.host.pend :=
  (congrArg HostSt.pend (show HostSt.table (logRec s kind region code data).host = HostSt.table s.host from (logRec_ev s kind region code data).frame .jobs (by decide)) :)
@[simp] theorem logRec_host_jobs : (logRec s kind region code data).host.jobs = s.host.jobs :=
  (congrArg HostSt.jobs (show HostSt.table (logRec s kind region code data).host = HostSt.table s.host from (logRec_ev s kind region code data).frame .jobs (by decide)) :)
@[simp] theorem logRec_host_nextOrder : (logRec s kind region code data).host.nextOrder = s.host.nextOrder :=
  (congrArg HostSt.nextOrder (show HostSt.table (logRec s kind region code data).host = HostSt.table s.host from (logRec_ev s kind region code data).frame .jobs (by decide)) :)
@[simp] theorem logRec_host_lastQueue : (logRec s kind region code data).host.lastQueue = s.host.lastQueue :=
  (congrArg HostSt.lastQueue (show HostSt.table (logRec s kind region code data).host = HostSt.table s.host from (logRec_ev s kind region code data).frame .jobs (by decide)) :)
@[simp] theorem logRec_host_doneSubs : (logRec s kind region code data).host.doneSubs = s.host.doneSubs :=
  (congrArg HostSt.doneSubs (show HostSt.table (logRec s kind region code data).host = HostSt.table s.host from (logRec_ev s kind region code data).frame .jobs (by decide)) :)
@[simp] theorem logRec_host_srstWait : (logRec s kind region code data).host.srstWait = s.host.srstWait :=
  (congrArg HostSt.srstWait (show HostSt.table (logRec s kind region code data).host = HostSt.table s.host from (logRec_ev s kind region code data).frame .jobs (by decide)) :)
@[simp] theorem logRec_mgmt_sessions : (logRec s kind region code data).mgmt.sessions = s.mgmt.sessions :=
  (congrArg MgmtSt.sessions (show MgmtSt.access (logRec s kind region code data).mgmt = MgmtSt.access s.mgmt from (logRec_ev s kind region code data).frame .sessions (by decide)) :)
@[simp] theorem logRec_mgmt_nextSession : (logRec s kind region code data).mgmt.nextSession = s.mgmt.nextSession :=
  (congrArg MgmtSt.nextSession (show MgmtSt.access (logRec s kind region code data).mgmt = MgmtSt.access s.mgmt from (logRec_ev s kind region code data).frame .sessions (by decide)) :)
@[simp] theorem logRec_mgmt_trust : (logRec s kind region code data).mgmt.trust = s.mgmt.trust :=
  (congrArg MgmtSt.trust (show MgmtSt.access (logRec s kind region code data).mgmt = MgmtSt.access s.mgmt from (logRec_ev s kind region code data).frame .sessions (by decide)) :)
@[simp] theorem logRec_mgmt_staticAddr : (logRec s kind region code data).mgmt.staticAddr = s.mgmt.staticAddr :=
  (congrArg MgmtSt.staticAddr (show MgmtSt.access (logRec s kind region code data).mgmt = MgmtSt.access s.mgmt from (logRec_ev s kind region code data).frame .sessions (by decide)) :)
@[simp] theorem logRec_mgmt_partials : (logRec s kind region code data).mgmt.partials = s.mgmt.partials :=
  (congrArg MgmtSt.partials (show MgmtSt.access (logRec s kind region code data).mgmt = MgmtSt.access s.mgmt from (logRec_ev s kind region code data).frame .sessions (by decide)) :)

end

/-! ## Parts that deliver leaves alone -/

section

variable (s : State) (p b : Nat) (c : Bool)

theorem deliver_ev : Ev 2621444 s (deliver s p b c) := ev_deliver (Ev.refl s) (by decide) _ _ _
@[simp] theorem deliver_pending : (deliver s p b c).pending = s.pending := (deliver_ev s p b c).pending
@[simp] theorem deliver_time : (deliver s p b c).time = s.time := (deliver_ev s p b c).frame .time (by decide)
@[simp] theorem deliver_freeCount : (deliver s p b c).freeCount = s.freeCount := (deliver_ev s p b c).frame .freeCount (by decide)
@[simp] theorem deliver_shadow : (deliver s p b c).shadow = s.shadow := (deliver_ev s p b c).frame .shadow (by decide)
@[simp] theorem deliver_staged : (deliver s p b c).staged = s.staged := (deliver_ev s p b c).frame .staged (by decide)
@[simp] theorem deliver_snapHost : (deliver s p b c).snapHost = s.snapHost := (deliver_ev s p b c).frame .snapHost (by decide)
@[simp] theorem deliver_snapBk : (deliver s p b c).snapBk = s.snapBk := (deliver_ev s p b c).frame .snapBk (by decide)
@[simp] theorem deliver_bus : (deliver s p b c).bus = s.bus := (deliver_ev s p b c).frame .bus (by decide)
@[simp] theorem deliver_boot : (deliver s p b c).boot = s.boot := (deliver_ev s p b c).frame .boot (by decide)
@[simp] theorem deliver_regions : (deliver s p b c).regions = s.regions := (deliver_ev s p b c).frame .regions (by decide)
@[simp] theorem deliver_wakeQ : (deliver s p b c).wakeQ = s.wakeQ := (deliver_ev s p b c).frame .wakeQ (by decide)
@[simp] theorem deliver_road : (deliver s p b c).road = s.road := (deliver_ev s p b c).frame .road (by decide)
@[simp] theorem deliver_syncs : (deliver s p b c).syncs = s.syncs := (deliver_ev s p b c).frame .syncs (by decide)
@[simp] theorem deliver_beds : (deliver s p b c).beds = s.beds := (deliver_ev s p b c).frame .beds (by decide)
@[simp] theorem deliver_faces : (deliver s p b c).faces = s.faces := (deliver_ev s p b c).frame .faces (by decide)
@[simp] theorem deliver_esc : (deliver s p b c).esc = s.esc := (deliver_ev s p b c).frame .esc (by decide)
@[simp] theorem deliver_sensors : (deliver s p b c).sensors = s.sensors := (deliver_ev s p b c).frame .sensors (by decide)
@[simp] theorem deliver_listeners : (deliver s p b c).listeners = s.listeners := (deliver_ev s p b c).frame .listeners (by decide)
@[simp] theorem deliver_wb : (deliver s p b c).wb = s.wb := (deliver_ev s p b c).frame .wb (by decide)
@[simp] theorem deliver_links : (deliver s p b c).links = s.links := (deliver_ev s p b c).frame .links (by decide)
@[simp] theorem deliver_cab : (deliver s p b c).cab = s.cab := (deliver_ev s p b c).frame .cab (by decide)
@[simp] theorem deliver_outs : (deliver s p b c).outs = s.outs := (deliver_ev s p b c).frame .outs (by decide)
@[simp] theorem deliver_ring : (deliver s p b c).ring = s.ring := (deliver_ev s p b c).frame .ring (by decide)
@[simp] theorem deliver_stopQ : (deliver s p b c).stopQ = s.stopQ := (deliver_ev s p b c).frame .stopQ (by decide)
@[simp] theorem deliver_carrier : (deliver s p b c).carrier = s.carrier :=
  carrier_of ((deliver_ev s p b c).frame .supply (by decide)) ((deliver_ev s p b c).frame .hostPower (by decide))
@[simp] theorem deliver_map : (deliver s p b c).map = s.map :=
  map_of ((deliver_ev s p b c).frame .mapRecord (by decide)) ((deliver_ev s p b c).frame .mapEntries (by decide))
@[simp] theorem deliver_host_linkUp : (deliver s p b c).host.linkUp = s.host.linkUp :=
  (congrArg HostSt.linkUp (show HostSt.table (deliver s p b c).host = HostSt.table s.host from (deliver_ev s p b c).frame .jobs (by decide)) :)
@[simp] theorem deliver_host_pend : (deliver s p b c).host.pend = s.host.pend :=
  (congrArg HostSt.pend (show HostSt.table (deliver s p b c).host = HostSt.table s.host from (deliver_ev s p b c).frame .jobs (by decide)) :)
@[simp] theorem deliver_host_jobs : (deliver s p b c).host.jobs = s.host.jobs :=
  (congrArg HostSt.jobs (show HostSt.table (deliver s p b c).host = HostSt.table s.host from (deliver_ev s p b c).frame .jobs (by decide)) :)
@[simp] theorem deliver_host_nextOrder : (deliver s p b c).host.nextOrder = s.host.nextOrder :=
  (congrArg HostSt.nextOrder (show HostSt.table (deliver s p b c).host = HostSt.table s.host from (deliver_ev s p b c).frame .jobs (by decide)) :)
@[simp] theorem deliver_host_lastQueue : (deliver s p b c).host.lastQueue = s.host.lastQueue :=
  (congrArg HostSt.lastQueue (show HostSt.table (deliver s p b c).host = HostSt.table s.host from (deliver_ev s p b c).frame .jobs (by decide)) :)
@[simp] theorem deliver_host_doneSubs : (deliver s p b c).host.doneSubs = s.host.doneSubs :=
  (congrArg HostSt.doneSubs (show HostSt.table (deliver s p b c).host = HostSt.table s.host from (deliver_ev s p b c).frame .jobs (by decide)) :)
@[simp] theorem deliver_host_srstWait : (deliver s p b c).host.srstWait = s.host.srstWait :=
  (congrArg HostSt.srstWait (show HostSt.table (deliver s p b c).host = HostSt.table s.host from (deliver_ev s p b c).frame .jobs (by decide)) :)
@[simp] theorem deliver_mgmt_sessions : (deliver s p b c).mgmt.sessions = s.mgmt.sessions :=
  (congrArg MgmtSt.sessions (show MgmtSt.access (deliver s p b c).mgmt = MgmtSt.access s.mgmt from (deliver_ev s p b c).frame .sessions (by decide)) :)
@[simp] theorem deliver_mgmt_nextSession : (deliver s p b c).mgmt.nextSession = s.mgmt.nextSession :=
  (congrArg MgmtSt.nextSession (show MgmtSt.access (deliver s p b c).mgmt = MgmtSt.access s.mgmt from (deliver_ev s p b c).frame .sessions (by decide)) :)
@[simp] theorem deliver_mgmt_trust : (deliver s p b c).mgmt.trust = s.mgmt.trust :=
  (congrArg MgmtSt.trust (show MgmtSt.access (deliver s p b c).mgmt = MgmtSt.access s.mgmt from (deliver_ev s p b c).frame .sessions (by decide)) :)
@[simp] theorem deliver_mgmt_staticAddr : (deliver s p b c).mgmt.staticAddr = s.mgmt.staticAddr :=
  (congrArg MgmtSt.staticAddr (show MgmtSt.access (deliver s p b c).mgmt = MgmtSt.access s.mgmt from (deliver_ev s p b c).frame .sessions (by decide)) :)
@[simp] theorem deliver_mgmt_partials : (deliver s p b c).mgmt.partials = s.mgmt.partials :=
  (congrArg MgmtSt.partials (show MgmtSt.access (deliver s p b c).mgmt = MgmtSt.access s.mgmt from (deliver_ev s p b c).frame .sessions (by decide)) :)

end

/-! ## Parts that recordErr leaves alone -/

section

variable (s : State) (p code : Nat) (src : Src) (space addr : Nat)

theorem recordErr_ev : Ev 4 s (recordErr s p code src space addr) := ev_recordErr (Ev.refl s) (by decide) _ _ _ _ _
@[simp] theorem recordErr_pending : (recordErr s p code src space addr).pending = s.pending := (recordErr_ev s p code src space addr).pending
@[simp] theorem recordErr_time : (recordErr s p code src space addr).time = s.time := (recordErr_ev s p code src space addr).frame .time (by decide)
@[simp] theorem recordErr_freeCount : (recordErr s p code src space addr).freeCount = s.freeCount := (recordErr_ev s p code src space addr).frame .freeCount (by decide)
@[simp] theorem recordErr_shadow : (recordErr s p code src space addr).shadow = s.shadow := (recordErr_ev s p code src space addr).frame .shadow (by decide)
@[simp] theorem recordErr_staged : (recordErr s p code src space addr).staged = s.staged := (recordErr_ev s p code src space addr).frame .staged (by decide)
@[simp] theorem recordErr_snapHost : (recordErr s p code src space addr).snapHost = s.snapHost := (recordErr_ev s p code src space addr).frame .snapHost (by decide)
@[simp] theorem recordErr_snapBk : (recordErr s p code src space addr).snapBk = s.snapBk := (recordErr_ev s p code src space addr).frame .snapBk (by decide)
@[simp] theorem recordErr_bus : (recordErr s p code src space addr).bus = s.bus := (recordErr_ev s p code src space addr).frame .bus (by decide)
@[simp] theorem recordErr_boot : (recordErr s p code src space addr).boot = s.boot := (recordErr_ev s p code src space addr).frame .boot (by decide)
@[simp] theorem recordErr_regions : (recordErr s p code src space addr).regions = s.regions := (recordErr_ev s p code src space addr).frame .regions (by decide)
@[simp] theorem recordErr_wakeQ : (recordErr s p code src space addr).wakeQ = s.wakeQ := (recordErr_ev s p code src space addr).frame .wakeQ (by decide)
@[simp] theorem recordErr_road : (recordErr s p code src space addr).road = s.road := (recordErr_ev s p code src space addr).frame .road (by decide)
@[simp] theorem recordErr_syncs : (recordErr s p code src space addr).syncs = s.syncs := (recordErr_ev s p code src space addr).frame .syncs (by decide)
@[simp] theorem recordErr_beds : (recordErr s p code src space addr).beds = s.beds := (recordErr_ev s p code src space addr).frame .beds (by decide)
@[simp] theorem recordErr_faces : (recordErr s p code src space addr).faces = s.faces := (recordErr_ev s p code src space addr).frame .faces (by decide)
@[simp] theorem recordErr_esc : (recordErr s p code src space addr).esc = s.esc := (recordErr_ev s p code src space addr).frame .esc (by decide)
@[simp] theorem recordErr_sensors : (recordErr s p code src space addr).sensors = s.sensors := (recordErr_ev s p code src space addr).frame .sensors (by decide)
@[simp] theorem recordErr_listeners : (recordErr s p code src space addr).listeners = s.listeners := (recordErr_ev s p code src space addr).frame .listeners (by decide)
@[simp] theorem recordErr_wb : (recordErr s p code src space addr).wb = s.wb := (recordErr_ev s p code src space addr).frame .wb (by decide)
@[simp] theorem recordErr_links : (recordErr s p code src space addr).links = s.links := (recordErr_ev s p code src space addr).frame .links (by decide)
@[simp] theorem recordErr_cab : (recordErr s p code src space addr).cab = s.cab := (recordErr_ev s p code src space addr).frame .cab (by decide)
@[simp] theorem recordErr_outs : (recordErr s p code src space addr).outs = s.outs := (recordErr_ev s p code src space addr).frame .outs (by decide)
@[simp] theorem recordErr_ring : (recordErr s p code src space addr).ring = s.ring := (recordErr_ev s p code src space addr).frame .ring (by decide)
@[simp] theorem recordErr_stopQ : (recordErr s p code src space addr).stopQ = s.stopQ := (recordErr_ev s p code src space addr).frame .stopQ (by decide)
@[simp] theorem recordErr_carrier : (recordErr s p code src space addr).carrier = s.carrier :=
  carrier_of ((recordErr_ev s p code src space addr).frame .supply (by decide)) ((recordErr_ev s p code src space addr).frame .hostPower (by decide))
@[simp] theorem recordErr_map : (recordErr s p code src space addr).map = s.map :=
  map_of ((recordErr_ev s p code src space addr).frame .mapRecord (by decide)) ((recordErr_ev s p code src space addr).frame .mapEntries (by decide))
@[simp] theorem recordErr_host : (recordErr s p code src space addr).host = s.host :=
  host_of ((recordErr_ev s p code src space addr).frame .hostMemory (by decide)) ((recordErr_ev s p code src space addr).frame .jobs (by decide))
@[simp] theorem recordErr_mgmt : (recordErr s p code src space addr).mgmt = s.mgmt :=
  mgmt_of ((recordErr_ev s p code src space addr).frame .log (by decide)) ((recordErr_ev s p code src space addr).frame .sessions (by decide))

end

end Sys2Proof.Machine
end

