-- ==== Sys2Proof/Laws/Acc.lean ====
section
/-! SUPPORT. Laws/Acc.lean: each numbered part of the state read after a change of one: the part itself and the others. -/

namespace Sys2Proof.Machine

open Sys2Proof

@[simp] theorem region_updRegion (s : State) (k j : Nat) (f : RegionSt → RegionSt) :
    (s.updRegion k f).region j = if j = k then f (s.region k) else s.region j := tget_tset ..
@[simp] theorem sync_updSync (s : State) (k j : Nat) (f : SyncBlk → SyncBlk) :
    (s.updSync k f).sync j = if j = k then f (s.sync k) else s.sync j := tget_tset ..
@[simp] theorem job_updJob (s : State) (k j : Nat) (f : JobSt → JobSt) :
    (s.updJob k f).job j = if j = k then f (s.job k) else s.job j := tget_tset ..
@[simp] theorem chain_updChain (s : State) (k j : Nat) (f : ChainSt → ChainSt) :
    (s.updChain k f).chain j = if j = k then f (s.chain k) else s.chain j := tget_tset ..
@[simp] theorem loop_updLoop (s : State) (k j : Nat) (f : LoopSt → LoopSt) :
    (s.updLoop k f).loop j = if j = k then f (s.loop k) else s.loop j := tget_tset ..
@[simp] theorem lamp_updLamp (s : State) (k j : Nat) (f : LampSt → LampSt) :
    (s.updLamp k f).lamp j = if j = k then f (s.lamp k) else s.lamp j := tget_tset ..
@[simp] theorem link_updLink (s : State) (k j : Nat) (f : LinkSt → LinkSt) :
    (s.updLink k f).link j = if j = k then f (s.link k) else s.link j := tget_tset ..
@[simp] theorem sensor_updSensor (s : State) (k j : Nat) (f : SensorSt → SensorSt) :
    (s.updSensor k f).sensor j = if j = k then f (s.sensor k) else s.sensor j := tget_tset ..
theorem det_updDet_self (s : State) (p k : Nat) (f : DetSt → DetSt) : (s.updDet p k f).det p k = f (s.det p k) := by
  simp [State.updDet, State.det, State.updListener, State.listener]
theorem det_updDet_ne (s : State) (p k j : Nat) (f : DetSt → DetSt) (h : j ≠ k) : (s.updDet p k f).det p j = s.det p j := by
  simp [State.updDet, State.det, State.updListener, State.listener, tget_tset, h]
theorem lslot_updLslot_self (s : State) (p k : Nat) (f : LSlotSt → LSlotSt) : (s.updLslot p k f).lslot p k = f (s.lslot p k) := by
  simp [State.updLslot, State.lslot, State.updListener, State.listener]
theorem lslot_updLslot_ne (s : State) (p k j : Nat) (f : LSlotSt → LSlotSt) (h : j ≠ k) : (s.updLslot p k f).lslot p j = s.lslot p j := by
  simp [State.updLslot, State.lslot, State.updListener, State.listener, tget_tset, h]
theorem stream_updStream_self (s : State) (p k : Nat) (f : StreamSt → StreamSt) : (s.updStream p k f).stream p k = f (s.stream p k) := by
  simp [State.updStream, State.stream, State.updSensor, State.sensor]
theorem stream_updStream_ne (s : State) (p k j : Nat) (f : StreamSt → StreamSt) (h : j ≠ k) : (s.updStream p k f).stream p j = s.stream p j := by
  simp [State.updStream, State.stream, State.updSensor, State.sensor, tget_tset, h]

/-! ## Quarry map entries -/

theorem entry_updMap_other (s : State) (f : MapSt → MapSt) (r : Nat) (h : (f s.map).working = s.map.working) :
    (s.updMap f).entry r = s.entry r := by
  simp only [State.entry, State.updMap, h]

/-- A changed entry: CHANGED_AT is that of the record before while STATE and CAUSE are, else the count of now. -/
theorem entry_updEntry_self (s : State) (r : Nat) (f : QEntry → QEntry) :
    (s.updEntry r f).entry r = { f (s.entry r) with
      changedAt :=
        if (f (s.entry r)).state = (s.map.base.entry r).state ∧ (f (s.entry r)).cause = (s.map.base.entry r).cause then
          (s.map.base.entry r).changedAt
        else s.map.committed.bootCount + (if s.boot.active && !s.boot.warm then 1 else 0) } := by
  have key : ∀ (e : QEntry) (c : List Nat), (if e = s.entry r then s
      else s.updMap (fun m => { m with working := m.working.setEntry r e, changed := c })).entry r = e := by
    intro e c
    split
    · next h => exact h.symm
    · simp [State.updMap, State.entry, QRec.setEntry, QRec.entry]
  exact key _ _

@[simp] theorem state_updEntry_self (s : State) (r : Nat) (f : QEntry → QEntry) :
    ((s.updEntry r f).entry r).state = (f (s.entry r)).state := by
  rw [entry_updEntry_self]
@[simp] theorem cause_updEntry_self (s : State) (r : Nat) (f : QEntry → QEntry) :
    ((s.updEntry r f).entry r).cause = (f (s.entry r)).cause := by
  rw [entry_updEntry_self]
@[simp] theorem fused_updEntry_self (s : State) (r : Nat) (f : QEntry → QEntry) :
    ((s.updEntry r f).entry r).fused = (f (s.entry r)).fused := by
  rw [entry_updEntry_self]
@[simp] theorem linkE_updEntry_self (s : State) (r : Nat) (f : QEntry → QEntry) :
    ((s.updEntry r f).entry r).linkE = (f (s.entry r)).linkE := by
  rw [entry_updEntry_self]
@[simp] theorem linkS_updEntry_self (s : State) (r : Nat) (f : QEntry → QEntry) :
    ((s.updEntry r f).entry r).linkS = (f (s.entry r)).linkS := by
  rw [entry_updEntry_self]
@[simp] theorem factory_updEntry_self (s : State) (r : Nat) (f : QEntry → QEntry) :
    ((s.updEntry r f).entry r).factory = (f (s.entry r)).factory := by
  rw [entry_updEntry_self]
@[simp] theorem retest_updEntry_self (s : State) (r : Nat) (f : QEntry → QEntry) :
    ((s.updEntry r f).entry r).retest = (f (s.entry r)).retest := by
  rw [entry_updEntry_self]
@[simp] theorem physBad_updEntry_self (s : State) (r : Nat) (f : QEntry → QEntry) :
    ((s.updEntry r f).entry r).physBad = (f (s.entry r)).physBad := by
  rw [entry_updEntry_self]
@[simp] theorem slots_updEntry_self (s : State) (r : Nat) (f : QEntry → QEntry) :
    ((s.updEntry r f).entry r).slots = (f (s.entry r)).slots := by
  rw [entry_updEntry_self]

theorem entry_updEntry_ne (s : State) (r q : Nat) (f : QEntry → QEntry) (h : q ≠ r) : (s.updEntry r f).entry q = s.entry q := by
  have key : ∀ (e : QEntry) (c : List Nat), (if e = s.entry r then s
      else s.updMap (fun m => { m with working := m.working.setEntry r e, changed := c })).entry q = s.entry q := by
    intro e c
    split
    · rfl
    · exact tget_tset_ne _ _ _ _ h
  exact key _ _

/-! ## A part that reads the same -/

theorem region_same {s t : State} (h : StatePart.regions.same s t) (r : Nat) : t.region r = s.region r := by
  simp only [State.region, show t.regions = s.regions from h]
theorem face_same {s t : State} (h : StatePart.faces.same s t) (g : Nat) : t.faceAt g = s.faceAt g := by
  simp only [State.faceAt, show t.faces = s.faces from h]
theorem bed_same {s t : State} (h : StatePart.beds.same s t) (r : Nat) : t.bed r = s.bed r := by
  simp only [State.bed, show t.beds = s.beds from h]
theorem sync_same {s t : State} (h : StatePart.syncs.same s t) (r : Nat) : t.sync r = s.sync r := by
  simp only [State.sync, show t.syncs = s.syncs from h]
theorem job_same {s t : State} (h : StatePart.jobs.same s t) (j : Nat) : t.job j = s.job j := by
  simp only [State.job]
  rw [show t.host.jobs = s.host.jobs from (congrArg HostSt.jobs h : t.host.table.jobs = s.host.table.jobs)]
theorem chain_same {s t : State} (h : StatePart.esc.same s t) (c : Nat) : t.chain c = s.chain c := by
  simp only [State.chain, show t.esc = s.esc from h]
theorem link_same {s t : State} (h : StatePart.links.same s t) (k : Nat) : t.link k = s.link k := by
  simp only [State.link, show t.links = s.links from h]
theorem entry_same {s t : State} (h : StatePart.mapEntries.same s t) (r : Nat) : t.entry r = s.entry r := by
  simp only [State.entry]
  rw [show t.map.working = s.map.working from congrArg Prod.fst h]

end Sys2Proof.Machine
end

