-- ==== Sys2Proof/Laws/Ev02.lean ====
section
/-! SUPPORT. Laws/Ev02.lean: `Ev` of every operation of Machine/EscCore.lean, Machine/JobCore.lean, Machine/Sensor.lean. -/

namespace Sys2Proof.Machine

open Sys2Proof

/-! ## Machine/EscCore.lean -/

theorem ev_post {a s : State} (h : Ev m a s) (hm : 1073741824 ||| m = m) (x2) : Ev m a (post s x2) := by
  dsimp only [post]
  with_reducible repeat' first | assumption | simp only [Ev.raw_ring (orSub (by decide) hm)]

theorem ev_State_updEsc {a s : State} (h : Ev m a s) (hm : 8388608 ||| m = m) (f) : Ev m a (State.updEsc s f) := by
  dsimp only [State.updEsc]
  with_reducible repeat' first | assumption | simp only [Ev.raw_esc (orSub (by decide) hm)]

theorem ev_State_updChain {a s : State} (h : Ev m a s) (hm : 8388608 ||| m = m) (c f) : Ev m a (State.updChain s c f) := by
  dsimp only [State.updChain]
  with_reducible repeat' first | assumption | apply ev_State_updEsc

theorem ev_startTimer {a s : State} (h : Ev m a s) (hm : 8388608 ||| m = m) (c) : Ev m a (startTimer s c) := by
  dsimp only [startTimer]
  with_reducible repeat' first | assumption | apply ev_State_updChain | apply Ev.ite

theorem ev_sendDemoted {a s : State} (h : Ev m a s) (hm : 1082130432 ||| m = m) (c) : Ev m a (sendDemoted s c) := by
  dsimp only [sendDemoted]
  with_reducible
    repeat' first
      | assumption | intro _ | exact orSub (by decide) hm | apply ev_post | apply ev_State_updChain | apply Ev.foldl

theorem ev_heldStops {a s : State} (h : Ev m a s) (hm : 2147483648 ||| m = m) (regs) : Ev m a (heldStops s regs) := by
  dsimp only [heldStops]
  with_reducible
    repeat' first
      | assumption | intro _ | apply Ev.ite | apply Ev.foldl | simp only [Ev.raw_stopQ (orSub (by decide) hm)]

theorem ev_demote {a s : State} (h : Ev m a s) (hm : 3232235524 ||| m = m) (c) : Ev m a (demote s c) := by
  dsimp only [demote]
  with_reducible
    repeat' first
      | assumption | intro _ | exact orSub (by decide) hm | apply ev_post | apply ev_State_updChain | apply ev_addF
      | apply ev_startTimer | apply ev_sendDemoted | apply ev_raise | apply ev_heldStops | apply Ev.ite | apply Ev.foldl

theorem ev_demoteTo {a s : State} (h : Ev m a s) (hm : 3232235524 ||| m = m) (c pos n : Nat) : Ev m a (demoteTo s c pos n) := by
  induction n generalizing s with
  | zero => exact h
  | succ n ih =>
    unfold demoteTo
    split
    · exact ih (ev_demote h (orSub (by decide) hm) _)
    · exact h

theorem ev_sendWakes {a s : State} (h : Ev m a s) (hm : 1082195968 ||| m = m) (c p) : Ev m a (sendWakes s c p) := by
  dsimp only [sendWakes]
  with_reducible
    repeat' first
      | assumption | intro _ | exact orSub (by decide) hm | apply ev_State_updSync | apply ev_post | apply ev_State_updChain
      | apply Ev.ite | apply Ev.foldl

theorem ev_finishPromo {a s : State} (h : Ev m a s) (hm : 11075588 ||| m = m) (c p) : Ev m a (finishPromo s c p) := by
  dsimp only [finishPromo]
  with_reducible
    repeat' first
      | assumption | intro _ | exact orSub (by decide) hm | apply ev_State_updSync | apply Ev.setF | apply ev_raise
      | apply ev_State_updChain | apply Ev.ite | apply Ev.foldl

theorem ev_progressPromo {a s : State} (h : Ev m a s) (hm : 1084817412 ||| m = m) (c pos) :
    Ev m a (progressPromo s c pos) := by
  dsimp only [progressPromo]
  with_reducible
    repeat' first
      | assumption | exact orSub (by decide) hm | apply ev_sendWakes | apply ev_finishPromo | apply Ev.ite | split

theorem ev_stageFaceLost {a s : State} (h : Ev m a s) (hm : 3232235524 ||| m = m) (c pos g cause) :
    Ev m a (stageFaceLost s c pos g cause) := by
  dsimp only [stageFaceLost]
  with_reducible
    repeat' first
      | assumption | exact orSub (by decide) hm | apply ev_State_updChain | apply ev_raise | apply ev_logRec
      | apply ev_demoteTo | apply Ev.ite

theorem ev_escFaceLost {a s : State} (h : Ev m a s) (hm : 3232301060 ||| m = m) (g cause) :
    Ev m a (escFaceLost s g cause) := by
  dsimp only [escFaceLost]
  with_reducible
    repeat' first
      | assumption | intro _ | exact orSub (by decide) hm | apply ev_progressPromo | apply ev_stageFaceLost | apply Ev.ite
      | apply Ev.foldl

theorem ev_progressChain {a s : State} (h : Ev m a s) (hm : 1084817412 ||| m = m) (c) : Ev m a (progressChain s c) := by
  dsimp only [progressChain]
  with_reducible repeat' first | assumption | intro _ | apply ev_progressPromo | apply Ev.foldl

theorem ev_escProgress {a s : State} (h : Ev m a s) (hm : 1084817412 ||| m = m) : Ev m a (escProgress s) := by
  dsimp only [escProgress]
  with_reducible repeat' first | assumption | intro _ | apply ev_progressChain | apply Ev.foldl

/-! ## Machine/JobCore.lean -/

theorem ev_logJob {a s : State} (h : Ev m a s) (hm : 2621444 ||| m = m) (j status kept) :
    Ev m a (logJob s j status kept) := by
  dsimp only [logJob]
  with_reducible repeat' first | assumption | apply ev_logRec

theorem ev_releaseFace {a s : State} (h : Ev m a s) (hm : 137166852 ||| m = m) (j g) : Ev m a (releaseFace s j g) := by
  dsimp only [releaseFace]
  with_reducible
    repeat' first
      | assumption | intro _ | exact orSub (by decide) hm | apply ev_abandonLocks | apply Ev.updFace | apply Ev.ite

theorem ev_releaseSyncs {a s : State} (h : Ev m a s) (hm : 65536 ||| m = m) (j) : Ev m a (releaseSyncs s j) := by
  dsimp only [releaseSyncs]
  with_reducible repeat' first | assumption | intro _ | apply ev_State_updSync | apply Ev.foldl

theorem ev_epochChange {a s : State} (h : Ev m a s) (hm : 69730308 ||| m = m) (rs) : Ev m a (epochChange s rs) := by
  dsimp only [epochChange]
  with_reducible
    repeat' first
      | assumption | intro _ | exact orSub (by decide) hm | apply Ev.setF | apply ev_raise | apply ev_addF | apply Ev.ite
      | apply Ev.foldl | split | simp only [Ev.raw_wb (orSub (by decide) hm)]

theorem ev_retireOn {a s : State} (h : Ev m a s) (hm : 70844420 ||| m = m) (j) : Ev m a (retireOn s j) := by
  dsimp only [retireOn]
  with_reducible
    repeat' first
      | assumption | exact orSub (by decide) hm | apply ev_State_updJob | apply ev_releaseSyncs | apply ev_epochChange
      | apply Ev.ite

theorem ev_retireJob {a s : State} (h : Ev m a s) (hm : 205324292 ||| m = m) (j) : Ev m a (retireJob s j) := by
  dsimp only [retireJob]
  with_reducible
    repeat' first
      | assumption | intro _ | exact orSub (by decide) hm | apply ev_releaseFace | apply ev_retireOn | apply ev_State_updJob
      | apply Ev.foldl

theorem ev_jobCheckEnd {a s : State} (h : Ev m a s) (hm : 205324292 ||| m = m) (j) : Ev m a (jobCheckEnd s j) := by
  dsimp only [jobCheckEnd]
  with_reducible
    repeat' first
      | assumption | exact orSub (by decide) hm | apply ev_State_updJob | apply ev_retireJob | apply Ev.ite

theorem ev_admitEnd {a s : State} (h : Ev m a s) (hm : 205324292 ||| m = m) (j) : Ev m a (admitEnd s j) := by
  dsimp only [admitEnd]
  with_reducible repeat' first | assumption | exact orSub (by decide) hm | apply ev_jobCheckEnd | apply ev_State_updJob

theorem ev_endWaits {a s : State} (h : Ev m a s) (hm : 137166852 ||| m = m) (j) : Ev m a (endWaits s j) := by
  dsimp only [endWaits]
  with_reducible repeat' first | assumption | intro _ | apply ev_faceEnd | apply Ev.ite | apply Ev.foldl

theorem ev_jobStop {a s : State} (h : Ev m a s) (hm : 205324292 ||| m = m) (j status detail face) :
    Ev m a (jobStop s j status detail face) := by
  dsimp only [jobStop]
  with_reducible
    repeat' first
      | assumption | exact orSub (by decide) hm | apply ev_logJob | apply ev_State_updJob | apply ev_admitEnd
      | apply ev_jobCheckEnd | apply ev_endWaits | apply Ev.ite | split

theorem ev_endAndCheck {a s : State} (h : Ev m a s) (hm : 205324292 ||| m = m) (g) : Ev m a (endAndCheck s g) := by
  dsimp only [endAndCheck]
  with_reducible repeat' first | assumption | exact orSub (by decide) hm | apply ev_faceEnd | apply ev_jobCheckEnd | split

theorem ev_syncFail {a s : State} (h : Ev m a s) (hm : 3434938372 ||| m = m) (g id st) : Ev m a (syncFail s g id st) := by
  dsimp only [syncFail]
  with_reducible
    repeat' first
      | assumption | intro _ | exact orSub (by decide) hm | apply Ev.updFace | apply fk_FaceSt_setIssue | apply ev_jobStop
      | apply ev_endAndCheck | apply ev_escFaceLost | apply ev_faceEnd | apply Ev.ite | split

theorem ev_opFail {a s : State} (h : Ev m a s) (hm : 3434938372 ||| m = m) (st op) : Ev m a (opFail s st op) := by
  dsimp only [opFail]
  with_reducible repeat' first | assumption | exact orSub (by decide) hm | apply ev_syncFail | apply ev_signalReply | split

theorem ev_admitFail {a s : State} (h : Ev m a s) (hm : 205324292 ||| m = m) (j status detail) :
    Ev m a (admitFail s j status detail) := by
  dsimp only [admitFail]
  with_reducible
    repeat' first
      | assumption | exact orSub (by decide) hm | apply ev_jobStop | apply ev_State_updJob | apply ev_admitEnd | apply Ev.ite

theorem ev_admitLost {a s : State} (h : Ev m a s) (hm : 205324292 ||| m = m) (r) : Ev m a (admitLost s r) := by
  dsimp only [admitLost]
  with_reducible repeat' first | assumption | intro _ | apply ev_admitFail | apply Ev.ite | apply Ev.foldl

theorem ev_faceStop {a s : State} (h : Ev m a s) (hm : 3434938372 ||| m = m) (g o code space addr) :
    Ev m a (faceStop s g o code space addr) := by
  dsimp only [faceStop]
  with_reducible
    repeat' first
      | assumption | intro _ | exact orSub (by decide) hm | apply Ev.setF | apply ev_recordErr | apply Ev.updFace
      | apply ev_raise | apply ev_jobStop | apply ev_escFaceLost | split

theorem ev_dropJob {a s : State} (h : Ev m a s) (hm : 3426549764 ||| m = m) (j) : Ev m a (dropJob s j) := by
  dsimp only [dropJob]
  with_reducible
    repeat' first
      | assumption | intro _ | exact orSub (by decide) hm | exact .inl (orSub (by decide) hm) | apply ev_faceRelease
      | apply ev_faceDiscards | apply ev_linkDropJob | apply ev_releaseSyncs | apply ev_epochChange | apply ev_State_updJob
      | apply ev_heldStops | apply Ev.updHost | apply Ev.ite | apply Ev.foldl
      | simp only [Ev.raw_ring (orSub (by decide) hm)]

/-! ## Machine/Sensor.lean -/

theorem ev_State_updSensor {a s : State} (h : Ev m a s) (hm : 16777216 ||| m = m) (p f) :
    Ev m a (State.updSensor s p f) := by
  dsimp only [State.updSensor]
  with_reducible repeat' first | assumption | simp only [Ev.raw_sensors (orSub (by decide) hm)]

theorem ev_sensorReset {a s : State} (h : Ev m a s) (hm : 16777216 ||| m = m) (p) : Ev m a (sensorReset s p) := by
  dsimp only [sensorReset]
  with_reducible repeat' first | assumption | apply ev_State_updSensor

theorem ev_eachStream {a s : State} (h : Ev m a s) (f) (hf : ∀ y0 y1, Ev m a y0 → Ev m a (f y0 y1)) :
    Ev m a (eachStream f s) := by
  dsimp only [eachStream]
  with_reducible repeat' first | assumption | apply Ev.foldl

theorem ev_setStr {a s : State} (h : Ev m a s) (hm : 4 ||| m = m) (p k f v) : Ev m a (setStr s p k f v) := by
  dsimp only [setStr]
  with_reducible repeat' first | assumption | apply Ev.setF

theorem ev_State_updStream {a s : State} (h : Ev m a s) (hm : 16777216 ||| m = m) (p k f) :
    Ev m a (State.updStream s p k f) := by
  dsimp only [State.updStream]
  with_reducible repeat' first | assumption | apply ev_State_updSensor

theorem ev_State_updSource {a s : State} (h : Ev m a s) (hm : 33554432 ||| m = m) (p k f) :
    Ev m a (State.updSource s p k f) := by
  dsimp only [State.updSource]
  with_reducible repeat' first | assumption | intro _ | apply Ev.updListener

theorem ev_markSource {a s : State} (h : Ev m a s) (hm : 33554432 ||| m = m) (p k fault changed) :
    Ev m a (markSource s p k fault changed) := by
  dsimp only [markSource]
  with_reducible repeat' first | assumption | apply ev_State_updSource | apply Ev.ite

theorem ev_declareFault {a s : State} (h : Ev m a s) (hm : 52953092 ||| m = m) (p k code) :
    Ev m a (declareFault s p k code) := by
  dsimp only [declareFault]
  with_reducible
    repeat' first
      | assumption | exact orSub (by decide) hm | apply ev_setStr | apply ev_State_updStream | apply ev_raise
      | apply ev_markSource

theorem ev_headFault {a s : State} (h : Ev m a s) (hm : 52953092 ||| m = m) (p k) : Ev m a (headFault s p k) := by
  dsimp only [headFault]
  with_reducible repeat' first | assumption | apply ev_declareFault | apply Ev.ite

theorem ev_headFaults {a s : State} (h : Ev m a s) (hm : 52953092 ||| m = m) (p) : Ev m a (headFaults s p) := by
  dsimp only [headFaults]
  with_reducible repeat' first | assumption | intro _ | apply ev_eachStream | apply ev_headFault

theorem ev_headFollows {a s : State} (h : Ev m a s) (hm : 52953092 ||| m = m) (p) : Ev m a (headFollows s p) := by
  dsimp only [headFollows]
  with_reducible
    repeat' first
      | assumption | exact orSub (by decide) hm | apply ev_headFaults | apply Ev.setF | apply ev_State_updSensor
      | apply Ev.ite

theorem ev_cciBegin {a s : State} (h : Ev m a s) (hm : 16777220 ||| m = m) (p) : Ev m a (cciBegin s p) := by
  dsimp only [cciBegin]
  with_reducible
    repeat' first
      | assumption | exact orSub (by decide) hm | apply Ev.setF | apply ev_State_updSensor | apply Ev.ite

theorem ev_holdStream {a s : State} (old : State) (h : Ev m a s) (hm : 16777228 ||| m = m) (p k) : Ev m a (holdStream old s p k) := by
  dsimp only [holdStream]
  with_reducible
    repeat' first
      | assumption | intro _ | exact orSub (by decide) hm | apply Ev.setF | apply Ev.setShadow | apply ev_State_updStream
      | apply Ev.foldl

theorem ev_configFault {a s : State} (h : Ev m a s) (hm : 52953092 ||| m = m) (p k) : Ev m a (configFault s p k) := by
  dsimp only [configFault]
  with_reducible
    repeat' first
      | assumption | exact orSub (by decide) hm | apply ev_setStr | apply ev_declareFault | apply Ev.ite

theorem ev_clearFault {a s : State} (h : Ev m a s) (hm : 2621444 ||| m = m) (p k) : Ev m a (clearFault s p k) := by
  dsimp only [clearFault]
  with_reducible repeat' first | assumption | exact orSub (by decide) hm | apply ev_raise | apply ev_setStr

theorem ev_configOk {a s : State} (h : Ev m a s) (hm : 52953092 ||| m = m) (p k) : Ev m a (configOk s p k) := by
  dsimp only [configOk]
  with_reducible
    repeat' first
      | assumption | exact orSub (by decide) hm | apply ev_State_updStream | apply ev_setStr | apply ev_headFault
      | apply ev_clearFault | apply Ev.ite

theorem ev_portSend {a s : State} (h : Ev m a s) (hm : 425984 ||| m = m) (p k n g d) : Ev m a (portSend s p k n g d) := by
  dsimp only [portSend]
  with_reducible
    repeat' first
      | assumption | exact orSub (by decide) hm | apply ev_writeLoad | apply ev_inject | apply Ev.ite

theorem ev_beginFlight {a s : State} (h : Ev m a s) (hm : 17203200 ||| m = m) (p k v addr bytes) :
    Ev m a (beginFlight s p k v addr bytes) := by
  dsimp only [beginFlight]
  with_reducible
    repeat' first
      | assumption | exact orSub (by decide) hm | apply ev_State_updStream | apply ev_portSend | apply Ev.ite

theorem ev_sendRecord {a s : State} (h : Ev m a s) (hm : 17203200 ||| m = m) (p k b) : Ev m a (sendRecord s p k b) := by
  dsimp only [sendRecord]
  with_reducible repeat' first | assumption | apply ev_beginFlight

theorem ev_beginDelivery {a s : State} (h : Ev m a s) (hm : 17203200 ||| m = m) (p k again) :
    Ev m a (beginDelivery s p k again) := by
  dsimp only [beginDelivery]
  with_reducible repeat' first | assumption | apply ev_sendRecord | apply Ev.ite | split

theorem ev_lookDeliverable {a s : State} (h : Ev m a s) (hm : 17203200 ||| m = m) (p k) :
    Ev m a (lookDeliverable s p k) := by
  dsimp only [lookDeliverable]
  with_reducible
    repeat' first
      | assumption | exact orSub (by decide) hm | apply ev_beginDelivery | apply ev_State_updStream | apply Ev.ite

theorem ev_judgeStream {a s : State} (h : Ev m a s) (hm : 53379076 ||| m = m) (p k) : Ev m a (judgeStream s p k) := by
  dsimp only [judgeStream]
  with_reducible
    repeat' first
      | assumption | exact orSub (by decide) hm | apply ev_setStr | apply ev_recordErr | apply ev_configFault
      | apply ev_configOk | apply ev_lookDeliverable | apply Ev.ite

theorem ev_takeStream {a s : State} (h : Ev m a s) (hm : 53379076 ||| m = m) (p k) : Ev m a (takeStream s p k) := by
  dsimp only [takeStream]
  with_reducible repeat' first | assumption | exact orSub (by decide) hm | apply ev_judgeStream | apply ev_State_updStream

theorem ev_sensorCommit {a s : State} (h : Ev m a s) (hm : 53379084 ||| m = m) (p) : Ev m a (sensorCommit s p) := by
  dsimp only [sensorCommit]
  with_reducible
    repeat' first
      | assumption | intro _ | exact orSub (by decide) hm | apply ev_commitPage | apply ev_eachStream | apply ev_holdStream
      | apply ev_takeStream | apply Ev.ite

theorem ev_sensorStarts {a s : State} (h : Ev m a s) (hm : 53379076 ||| m = m) (p) : Ev m a (sensorStarts s p) := by
  dsimp only [sensorStarts]
  with_reducible
    repeat' first
      | assumption | intro _ | exact orSub (by decide) hm | apply ev_State_updSensor | apply ev_eachStream
      | apply ev_takeStream | apply ev_State_updStream

theorem ev_headerDue {a s : State} (h : Ev m a s) (hm : 17203200 ||| m = m) (p k) : Ev m a (headerDue s p k) := by
  dsimp only [headerDue]
  with_reducible repeat' first | assumption | apply ev_beginFlight | apply Ev.ite | split

theorem ev_portLanded {a s : State} (h : Ev m a s) (hm : 17203200 ||| m = m) (p k n) : Ev m a (portLanded s p k n) := by
  dsimp only [portLanded]
  with_reducible repeat' first | assumption | exact orSub (by decide) hm | apply ev_headerDue | apply ev_State_updStream

theorem ev_deliveryDead {a s : State} (h : Ev m a s) (hm : 2621444 ||| m = m) (p k) : Ev m a (deliveryDead s p k) := by
  dsimp only [deliveryDead]
  with_reducible repeat' first | assumption | exact orSub (by decide) hm | apply ev_raise | apply ev_addF | apply ev_setStr

theorem ev_abandonFrame {a s : State} (h : Ev m a s) (hm : 16777216 ||| m = m) (p k) : Ev m a (abandonFrame s p k) := by
  dsimp only [abandonFrame]
  with_reducible repeat' first | assumption | apply ev_State_updStream

theorem ev_portLost {a s : State} (h : Ev m a s) (hm : 19824644 ||| m = m) (p k n) : Ev m a (portLost s p k n) := by
  dsimp only [portLost]
  with_reducible
    repeat' first
      | assumption | exact orSub (by decide) hm | apply ev_State_updStream | apply ev_headerDue | apply ev_deliveryDead
      | apply ev_abandonFrame | apply Ev.ite

theorem ev_sensorLook {a s : State} (h : Ev m a s) (hm : 17203200 ||| m = m) (p) : Ev m a (sensorLook s p) := by
  dsimp only [sensorLook]
  with_reducible repeat' first | assumption | intro _ | apply ev_eachStream | apply ev_lookDeliverable

theorem ev_freeSamples {a s : State} (h : Ev m a s) (hm : 2 ||| m = m) (n) : EvP m a (freeSamples s n) := by
  dsimp only [freeSamples]
  with_reducible
    repeat' first
      | assumption | intro _ | apply EvP.fresh | apply EvP.fst | apply EvP.foldl | simp only [EvP.mk_iff]

theorem ev_rawSamples {a s : State} (h : Ev m a s) (hm : 16777218 ||| m = m) (p k i) : EvP m a (rawSamples s p k i) := by
  dsimp only [rawSamples]
  with_reducible
    repeat' first
      | assumption | exact orSub (by decide) hm | apply ev_freeSamples | apply ev_State_updStream | apply EvP.ite
      | simp only [EvP.mk_iff]

theorem ev_blockDc {a s : State} (h : Ev m a s) (hm : 16777220 ||| m = m) (p k xs) : EvP m a (blockDc s p k xs) := by
  dsimp only [blockDc]
  with_reducible
    repeat' first
      | assumption | exact orSub (by decide) hm | apply Ev.setF | apply ev_State_updStream | split | simp only [EvP.mk_iff]

theorem ev_blockCal {a s : State} (h : Ev m a s) (hm : 16777216 ||| m = m) (p k ys) : Ev m a (blockCal s p k ys) := by
  dsimp only [blockCal]
  with_reducible repeat' first | assumption | apply ev_State_updStream | apply Ev.ite

theorem ev_setLevel {a s : State} (h : Ev m a s) (hm : 6 ||| m = m) (p k vs) : Ev m a (setLevel s p k vs) := by
  dsimp only [setLevel]
  with_reducible
    repeat' first
      | assumption | exact orSub (by decide) hm | apply EvP.fresh | apply Ev.setF | apply Ev.ite | apply EvP.fst

theorem ev_hear {a s : State} (h : Ev m a s) (hm : 33554432 ||| m = m) (p k vs) : Ev m a (hear s p k vs) := by
  dsimp only [hear]
  with_reducible repeat' first | assumption | apply ev_State_updSource | apply Ev.ite

theorem ev_pushBlock {a s : State} (h : Ev m a s) (hm : 19398660 ||| m = m) (p k b) : Ev m a (pushBlock s p k b) := by
  dsimp only [pushBlock]
  with_reducible
    repeat' first
      | assumption | exact orSub (by decide) hm | apply ev_raise | apply ev_addF | apply ev_State_updStream | apply Ev.ite

theorem ev_formBlock {a s : State} (h : Ev m a s) (hm : 52953094 ||| m = m) (p k frame) (raw : List Int) : Ev m a (formBlock s p k frame raw) := by
  dsimp only [formBlock]
  with_reducible
    repeat' first
      | assumption | exact orSub (by decide) hm | apply Ev.setF | apply ev_State_updStream | apply ev_pushBlock
      | apply ev_blockDc | apply ev_blockCal | apply ev_setLevel | apply ev_hear | apply ev_markSource | apply EvP.fst
      | split

theorem ev_closeFrame {a s : State} (h : Ev m a s) (hm : 17203204 ||| m = m) (p k trunc whole) :
    Ev m a (closeFrame s p k trunc whole) := by
  dsimp only [closeFrame]
  with_reducible
    repeat' first
      | assumption | exact orSub (by decide) hm | apply ev_setStr | apply ev_headerDue | apply ev_State_updStream | split

theorem ev_calWatch {a s : State} (h : Ev m a s) (hm : 16777216 ||| m = m) (p) : Ev m a (calWatch s p) := by
  dsimp only [calWatch]
  with_reducible
    repeat' first
      | assumption | intro _ | apply ev_State_updSensor | apply ev_State_updStream | apply Ev.ite | apply Ev.foldl

theorem ev_portBlocks {a s : State} (h : Ev m a s) (hm : 53379086 ||| m = m) (p frame i) :
    Ev m a (portBlocks s p frame i) := by
  dsimp only [portBlocks]
  with_reducible
    repeat' first
      | assumption | intro _ | exact orSub (by decide) hm | apply ev_rawSamples | apply ev_formBlock | apply ev_sensorCommit
      | apply ev_eachStream | apply ev_closeFrame | apply Ev.setF | apply ev_sensorLook | apply ev_calWatch
      | apply ev_beginDelivery | apply Ev.ite | apply Ev.foldl | apply EvP.fst

theorem ev_portFrameEnds {a s : State} (h : Ev m a s) (hm : 53379087 ||| m = m) (p i) : Ev m a (portFrameEnds s p i) := by
  dsimp only [portFrameEnds]
  with_reducible
    repeat' first
      | assumption | exact orSub (by decide) hm | apply ev_State_updSensor | apply Ev.setF | apply ev_putFlag
      | apply ev_portBlocks | apply Ev.ite | simp only [Ev.raw_time (orSub (by decide) hm)]

theorem ev_execPortFrame {a s : State} (h : Ev m a s) (hm : 53379087 ||| m = m) (p input) :
    EvOut m a (execPortFrame p input s) := by
  dsimp only [execPortFrame]
  with_reducible repeat' first | apply EvOut.guardDo | assumption | intro _ | apply ev_portFrameEnds

theorem ev_calibrate {a s : State} (h : Ev m a s) (hm : 16777216 ||| m = m) (p) : Ev m a (calibrate s p) := by
  dsimp only [calibrate]
  with_reducible
    repeat' first
      | assumption | intro _ | apply ev_State_updStream | apply ev_State_updSensor | apply Ev.ite | apply Ev.foldl

theorem ev_execCalibrationWindow {a s : State} (h : Ev m a s) (hm : 16777216 ||| m = m) (p) :
    EvOut m a (execCalibrationWindow p s) := by
  dsimp only [execCalibrationWindow]
  with_reducible repeat' first | apply EvOut.guardDo | assumption | intro _ | apply ev_calibrate

theorem ev_sendPixels {a s : State} (h : Ev m a s) (hm : 425984 ||| m = m) (p k n g addr bs) :
    Ev m a (sendPixels s p k n g addr bs) := by
  dsimp only [sendPixels]
  with_reducible repeat' first | assumption | intro _ | apply ev_portSend | apply Ev.foldl

theorem ev_takeLine {a s : State} (h : Ev m a s) (hm : 19824644 ||| m = m) (p k c pkt) : Ev m a (takeLine s p k c pkt) := by
  dsimp only [takeLine]
  with_reducible
    repeat' first
      | assumption | exact orSub (by decide) hm | apply ev_State_updStream | apply ev_abandonFrame | apply ev_raise
      | apply ev_addF | apply ev_deliveryDead | apply ev_sendPixels | apply Ev.ite

theorem ev_longPacket {a s : State} (h : Ev m a s) (hm : 19824644 ||| m = m) (p vc pkt) :
    Ev m a (longPacket s p vc pkt) := by
  dsimp only [longPacket]
  with_reducible
    repeat' first
      | assumption | exact orSub (by decide) hm | apply ev_raise | apply ev_addF | apply ev_takeLine | apply Ev.ite | split

theorem ev_execCsiLongPacket {a s : State} (h : Ev m a s) (hm : 19824644 ||| m = m) (p vc pkt) :
    EvOut m a (execCsiLongPacket p vc pkt s) := by
  dsimp only [execCsiLongPacket]
  with_reducible repeat' first | apply EvOut.guardDo | assumption | intro _ | apply ev_longPacket

theorem ev_applyHeld {a s : State} (h : Ev m a s) (hm : 53379084 ||| m = m) (p k) : Ev m a (applyHeld s p k) := by
  dsimp only [applyHeld]
  with_reducible
    repeat' first
      | assumption | intro _ | exact orSub (by decide) hm | apply Ev.setF | apply Ev.setShadow | apply ev_takeStream
      | apply Ev.foldl | split

theorem ev_frameStarts {a s : State} (h : Ev m a s) (hm : 53379084 ||| m = m) (p k) : Ev m a (frameStarts s p k) := by
  dsimp only [frameStarts]
  with_reducible
    repeat' first
      | assumption | exact orSub (by decide) hm | apply ev_applyHeld | apply ev_closeFrame | apply ev_State_updStream
      | apply Ev.ite

theorem ev_execFrameStart {a s : State} (h : Ev m a s) (hm : 53379084 ||| m = m) (p vc) :
    EvOut m a (execFrameStart p vc s) := by
  dsimp only [execFrameStart]
  with_reducible repeat' first | apply EvOut.guardDo | assumption | intro _ | apply ev_frameStarts

theorem ev_execFrameEnd {a s : State} (h : Ev m a s) (hm : 17203204 ||| m = m) (p vc) :
    EvOut m a (execFrameEnd p vc s) := by
  dsimp only [execFrameEnd]
  with_reducible repeat' first | apply EvOut.guardDo | assumption | intro _ | apply ev_closeFrame

theorem ev_portSignal {a s : State} (h : Ev m a s) (hm : 98304 ||| m = m) (p g obj) : Ev m a (portSignal s p g obj) := by
  dsimp only [portSignal]
  with_reducible repeat' first | assumption | apply ev_sendOp | split

theorem ev_frameDone {a s : State} (h : Ev m a s) (hm : 98308 ||| m = m) (p k v) : Ev m a (frameDone s p k v) := by
  dsimp only [frameDone]
  with_reducible
    repeat' first
      | assumption | exact orSub (by decide) hm | apply ev_portSignal | apply ev_setStr | apply Ev.setF

theorem ev_frameWritten {a s : State} (h : Ev m a s) (hm : 19890180 ||| m = m) (p k) : Ev m a (frameWritten s p k) := by
  dsimp only [frameWritten]
  with_reducible
    repeat' first
      | assumption | exact orSub (by decide) hm | apply ev_State_updStream | apply ev_headerDue | apply ev_frameDone
      | apply ev_deliveryDead | apply Ev.ite | split

theorem ev_execCameraFrameWritten {a s : State} (h : Ev m a s) (hm : 19890180 ||| m = m) (p slot) :
    EvOut m a (execCameraFrameWritten p slot s) := by
  dsimp only [execCameraFrameWritten]
  with_reducible repeat' first | apply EvOut.guardDo | assumption | intro _ | apply ev_frameWritten

theorem ev_deliveryOk {a s : State} (h : Ev m a s) (hm : 16777220 ||| m = m) (p k) : Ev m a (deliveryOk s p k) := by
  dsimp only [deliveryOk]
  with_reducible
    repeat' first
      | assumption | exact orSub (by decide) hm | apply ev_State_updStream | apply ev_setStr | apply Ev.ite

theorem ev_recordDone {a s : State} (h : Ev m a s) (hm : 16875524 ||| m = m) (p k v) : Ev m a (recordDone s p k v) := by
  dsimp only [recordDone]
  with_reducible
    repeat' first
      | assumption | exact orSub (by decide) hm | apply ev_State_updStream | apply ev_deliveryOk | apply Ev.setF
      | apply ev_portSignal

theorem ev_recordEnds {a s : State} (h : Ev m a s) (hm : 19890180 ||| m = m) (p k) : Ev m a (recordEnds s p k) := by
  dsimp only [recordEnds]
  with_reducible
    repeat' first
      | assumption | exact orSub (by decide) hm | apply ev_beginDelivery | apply ev_recordDone | apply ev_State_updStream
      | apply ev_deliveryDead | apply Ev.ite | split

theorem ev_execRecordWritten {a s : State} (h : Ev m a s) (hm : 19890180 ||| m = m) (p slot) :
    EvOut m a (execRecordWritten p slot s) := by
  dsimp only [execRecordWritten]
  with_reducible repeat' first | apply EvOut.guardDo | assumption | intro _ | apply ev_recordEnds

theorem ev_execStreamFault {a s : State} (h : Ev m a s) (hm : 52953092 ||| m = m) (p slot code) :
    EvOut m a (execStreamFault p slot code s) := by
  dsimp only [execStreamFault]
  with_reducible repeat' first | apply EvOut.guardDo | assumption | intro _ | apply ev_declareFault

theorem ev_execStreamClear {a s : State} (h : Ev m a s) (hm : 2621444 ||| m = m) (p slot) :
    EvOut m a (execStreamClear p slot s) := by
  dsimp only [execStreamClear]
  with_reducible repeat' first | apply EvOut.guardDo | assumption | intro _ | apply ev_clearFault

theorem ev_execHeadTrip {a s : State} (h : Ev m a s) (hm : 52953092 ||| m = m) (p) : EvOut m a (execHeadTrip p s) := by
  dsimp only [execHeadTrip]
  with_reducible
    repeat' first
      | apply EvOut.guardDo | assumption | intro _ | exact orSub (by decide) hm | apply Ev.setF | apply ev_raise
      | apply ev_State_updSensor | apply ev_headFaults

theorem ev_execHeadRetry {a s : State} (h : Ev m a s) (hm : 16777220 ||| m = m) (p) : EvOut m a (execHeadRetry p s) := by
  dsimp only [execHeadRetry]
  with_reducible
    repeat' first
      | apply EvOut.guardDo | assumption | intro _ | exact orSub (by decide) hm | apply Ev.setF | apply ev_State_updSensor

theorem ev_cciEnd {a s : State} (h : Ev m a s) (hm : 19398660 ||| m = m) (p c nack data) :
    Ev m a (cciEnd s p c nack data) := by
  dsimp only [cciEnd]
  with_reducible
    repeat' first
      | assumption | exact orSub (by decide) hm | apply Ev.setF | apply ev_putFlag | apply ev_raise
      | apply ev_State_updSensor | apply Ev.ite

theorem ev_execCciDone {a s : State} (h : Ev m a s) (hm : 19398660 ||| m = m) (p nack data) :
    EvOut m a (execCciDone p nack data s) := by
  dsimp only [execCciDone]
  with_reducible repeat' first | apply EvOut.guardDo | assumption | intro _ | apply ev_cciEnd | split

end Sys2Proof.Machine
end

