-- ==== Sys2Proof/Laws/Ev03.lean ====
section
/-! SUPPORT. Laws/Ev03.lean: `Ev` of every operation of Machine/Claims.lean, Machine/AditCore.lean, Machine/Carry.lean,
Machine/FieldCore.lean, Machine/Hooks.lean, Machine/RegionCore.lean. -/

namespace Sys2Proof.Machine

open Sys2Proof

/-! ## Machine/Claims.lean -/

theorem ev_denyBed {a s : State} (h : Ev m a s) (hm : 2621444 ||| m = m) (r x3 n src) : Ev m a (denyBed s r x3 n src) := by
  dsimp only [denyBed]
  with_reducible repeat' first | assumption | exact orSub (by decide) hm | apply ev_recordErr | apply ev_raise

/-! ## Machine/AditCore.lean -/

theorem ev_endSwap {a s : State} (h : Ev m a s) (hm : 134217732 ||| m = m) (k) : Ev m a (endSwap s k) := by
  dsimp only [endSwap]
  with_reducible repeat' first | assumption | exact orSub (by decide) hm | apply Ev.setF | apply ev_State_updLink

theorem ev_dropRem {a s : State} (h : Ev m a s) (hm : 134217728 ||| m = m) (k o) : Ev m a (dropRem s k o) := by
  dsimp only [dropRem]
  with_reducible repeat' first | assumption | apply ev_State_updLink

theorem ev_xferFail {a s : State} (h : Ev m a s) (hm : 2621444 ||| m = m) (g op desc status space addr) :
    Ev m a (xferFail s g op desc status space addr) := by
  dsimp only [xferFail]
  with_reducible
    repeat' first
      | assumption | exact orSub (by decide) hm | apply Ev.setF | apply ev_addF | apply ev_raise | apply ev_recordErr

theorem ev_remFail {a s : State} (h : Ev m a s) (hm : 3434938372 ||| m = m) (k o status) :
    Ev m a (remFail s k o status) := by
  dsimp only [remFail]
  with_reducible
    repeat' first
      | assumption | intro _ | exact orSub (by decide) hm | apply ev_dropRem | apply ev_xferFail | apply Ev.updFace
      | apply fk_FaceSt_setIssue | apply ev_syncFail | apply Ev.ite | split

theorem ev_failRems {a s : State} (h : Ev m a s) (hm : 3434938372 ||| m = m) (k p status) :
    Ev m a (failRems s k p status) := by
  dsimp only [failRems]
  with_reducible repeat' first | assumption | intro _ | apply ev_remFail | apply Ev.foldl

theorem ev_linkDown {a s : State} (h : Ev m a s) (hm : 3703373828 ||| m = m) (k st) : Ev m a (linkDown s k st) := by
  dsimp only [linkDown]
  with_reducible
    repeat' first
      | assumption | exact orSub (by decide) hm | apply ev_raise | apply ev_endSwap | apply ev_setLinkState | apply Ev.setF
      | apply ev_failRems | apply ev_State_updLink | apply ev_reselectTime | apply Ev.ite

theorem ev_remAnswer {a s : State} (h : Ev m a s) (hm : 3434938372 ||| m = m) (k o status) :
    Ev m a (remAnswer s k o status) := by
  dsimp only [remAnswer]
  with_reducible
    repeat' first
      | assumption | intro _ | exact orSub (by decide) hm | apply ev_remFail | apply Ev.updFace | apply ev_dropRem
      | apply fk_FaceSt_setIssue | apply ev_State_updLink | apply Ev.ite

theorem ev_trainFail {a s : State} (h : Ev m a s) (hm : 134217732 ||| m = m) (k) : Ev m a (trainFail s k) := by
  dsimp only [trainFail]
  with_reducible
    repeat' first
      | assumption | exact orSub (by decide) hm | apply ev_addF | apply ev_State_updLink | apply Ev.setF

theorem ev_linkFailed {a s : State} (h : Ev m a s) (hm : 3703373828 ||| m = m) (k) : Ev m a (linkFailed s k) := by
  dsimp only [linkFailed]
  with_reducible
    repeat' first
      | assumption | intro _ | exact orSub (by decide) hm | apply ev_endSwap | apply ev_setLinkState | apply Ev.setF
      | apply ev_State_updLink | apply ev_raise | apply ev_jobStop | apply ev_failRems | apply ev_reselectTime
      | apply Ev.foldl

/-! ## Machine/Carry.lean -/

theorem ev_dropTransfers {a s : State} (h : Ev m a s) (hm : 32768 ||| m = m) (g) : Ev m a (dropTransfers s g) := by
  dsimp only [dropTransfers]
  with_reducible repeat' first | assumption | apply ev_State_updRoad

theorem ev_xferSpoil {a s : State} (h : Ev m a s) (hm : 2621444 ||| m = m) (g spoiled) :
    Ev m a (xferSpoil s g spoiled) := by
  dsimp only [xferSpoil]
  with_reducible repeat' first | assumption | exact orSub (by decide) hm | apply ev_raise | apply ev_addF | apply Ev.ite

theorem ev_xferStep {a s : State} (h : Ev m a s) (hm : 2883588 ||| m = m) (g id) : Ev m a (xferStep s g id) := by
  dsimp only [xferStep]
  with_reducible
    repeat' first
      | assumption | intro _ | exact orSub (by decide) hm | apply Ev.updFace | apply fk_FaceSt_setIssue | apply ev_xferFail
      | apply ev_xferSpoil | apply Ev.ite | split

theorem ev_updTransfer {a s : State} (h : Ev m a s) (hm : 262144 ||| m = m) (g id f) : Ev m a (updTransfer s g id f) := by
  dsimp only [updTransfer]
  with_reducible repeat' first | assumption | intro _ | apply Ev.updFace | apply fk_FaceSt_setIssue | split

theorem ev_xferLose {a s : State} (h : Ev m a s) (hm : 2916356 ||| m = m) (b g id n st) :
    Ev m a (xferLose s b g id n st) := by
  dsimp only [xferLose]
  with_reducible
    repeat' first
      | assumption | intro _ | exact orSub (by decide) hm | apply ev_State_updRoad | apply ev_markSpoil | apply ev_xferStep
      | apply ev_updTransfer | apply Ev.foldl | split

theorem ev_landFace {a s : State} (h : Ev m a s) (hm : 154042372 ||| m = m) (who b x4 d) :
    Ev m a (landFace s who b x4 d) := by
  dsimp only [landFace]
  with_reducible
    repeat' first
      | assumption | exact orSub (by decide) hm | apply ev_writeLoad | apply ev_xferStep | apply ev_xferLose
      | apply ev_portLanded | apply ev_portLost | apply ev_linkReply | apply Ev.ite | split

theorem ev_losePacket {a s : State} (h : Ev m a s) (hm : 3451879428 ||| m = m) (st p) : Ev m a (losePacket s st p) := by
  dsimp only [losePacket]
  with_reducible
    repeat' first
      | assumption | exact orSub (by decide) hm | apply ev_opFail | apply ev_portLost | apply ev_linkReply | apply ev_remFail
      | apply ev_xferLose | split

theorem ev_failPackets {a s : State} (h : Ev m a s) (hm : 3451879428 ||| m = m) (st p) : Ev m a (failPackets s st p) := by
  dsimp only [failPackets]
  with_reducible
    repeat' first
      | assumption | intro _ | exact orSub (by decide) hm | apply ev_State_updRoad | apply ev_losePacket | apply Ev.foldl

theorem ev_failStores {a s : State} (h : Ev m a s) (hm : 2883588 ||| m = m) (r) : Ev m a (failStores s r) := by
  dsimp only [failStores]
  with_reducible
    repeat' first
      | assumption | intro _ | exact orSub (by decide) hm | apply ev_xferFail | apply Ev.updFace | apply fk_FaceSt_setIssue
      | apply Ev.foldl | split

theorem ev_answerLoad {a s : State} (h : Ev m a s) (hm : 3047428 ||| m = m) (p g id n far len face) :
    Ev m a (answerLoad s p g id n far len face) := by
  dsimp only [answerLoad]
  with_reducible
    repeat' first
      | assumption | exact orSub (by decide) hm | apply ev_readPieces | apply ev_xferLose | apply ev_inject | apply Ev.ite
      | apply EvP.fst

theorem ev_hoistCount {a s : State} (h : Ev m a s) (hm : 4 ||| m = m) (g f n) : Ev m a (hoistCount s g f n) := by
  dsimp only [hoistCount]
  with_reducible repeat' first | assumption | apply ev_addF | apply Ev.ite

theorem ev_keepFence {a s : State} (h : Ev m a s) (hm : 67108864 ||| m = m) (r epoch) : Ev m a (keepFence s r epoch) := by
  dsimp only [keepFence]
  with_reducible repeat' first | assumption | apply Ev.ite | simp only [Ev.raw_wb (orSub (by decide) hm)]

theorem ev_landBed {a s : State} (h : Ev m a s) (hm : 2752516 ||| m = m) (r who d) : Ev m a (landBed s r who d) := by
  dsimp only [landBed]
  with_reducible repeat' first | assumption | intro _ | apply ev_bedWrite | apply Ev.foldl

theorem ev_landFrame {a s : State} (h : Ev m a s) (hm : 134217728 ||| m = m) (k f) : Ev m a (landFrame s k f) := by
  dsimp only [landFrame]
  with_reducible repeat' first | assumption | apply ev_queueData | split

theorem ev_landPacket {a s : State} (h : Ev m a s) (hm : 221216772 ||| m = m) (p) : Ev m a (landPacket s p) := by
  dsimp only [landPacket]
  with_reducible
    repeat' first
      | assumption | exact orSub (by decide) hm | apply ev_State_updSync | apply ev_landFace | apply ev_xferStep
      | apply ev_keepFence | apply ev_landBed | apply ev_answerLoad | apply ev_xferLose | apply ev_hoistCount
      | apply ev_writeLoad | apply ev_updTransfer | apply ev_landFrame | apply Ev.ite | split

/-! ## Machine/FieldCore.lean -/

theorem ev_dropOuts {a s : State} (h : Ev m a s) (hm : 536870912 ||| m = m) : Ev m a (dropOuts s) := by
  dsimp only [dropOuts]
  with_reducible repeat' first | assumption | simp only [Ev.raw_outs (orSub (by decide) hm)]

theorem ev_State_updLamp {a s : State} (h : Ev m a s) (hm : 536870912 ||| m = m) (n f) : Ev m a (State.updLamp s n f) := by
  dsimp only [State.updLamp]
  with_reducible repeat' first | assumption | simp only [Ev.raw_outs (orSub (by decide) hm)]

theorem ev_beginPeriod {a s : State} (h : Ev m a s) (hm : 536870912 ||| m = m) (n) : Ev m a (beginPeriod s n) := by
  dsimp only [beginPeriod]
  with_reducible repeat' first | assumption | apply ev_State_updLamp

theorem ev_setCh {a s : State} (h : Ev m a s) (hm : 4 ||| m = m) (n f v) : Ev m a (setCh s n f v) := by
  dsimp only [setCh]
  with_reducible repeat' first | assumption | apply Ev.setF

theorem ev_showLamp {a s : State} (h : Ev m a s) (hm : 2621444 ||| m = m) (n) : Ev m a (showLamp s n) := by
  dsimp only [showLamp]
  with_reducible repeat' first | assumption | exact orSub (by decide) hm | apply ev_setCh | apply ev_raise | apply Ev.ite

theorem ev_lookLamp {a s : State} (h : Ev m a s) (hm : 539492356 ||| m = m) (n) : Ev m a (lookLamp s n) := by
  dsimp only [lookLamp]
  with_reducible
    repeat' first
      | assumption | exact orSub (by decide) hm | apply ev_State_updLamp | apply ev_beginPeriod | apply ev_showLamp
      | apply Ev.ite

theorem ev_State_updLoop {a s : State} (h : Ev m a s) (hm : 536870912 ||| m = m) (n f) : Ev m a (State.updLoop s n f) := by
  dsimp only [State.updLoop]
  with_reducible repeat' first | assumption | simp only [Ev.raw_outs (orSub (by decide) hm)]

theorem ev_showLoop {a s : State} (h : Ev m a s) (hm : 4 ||| m = m) (n) : Ev m a (showLoop s n) := by
  dsimp only [showLoop]
  with_reducible repeat' first | assumption | apply ev_setCh

theorem ev_lookLoop {a s : State} (h : Ev m a s) (hm : 536870916 ||| m = m) (n) : Ev m a (lookLoop s n) := by
  dsimp only [lookLoop]
  with_reducible
    repeat' first
      | assumption | exact orSub (by decide) hm | apply ev_State_updLoop | apply ev_setCh | apply ev_showLoop | apply Ev.ite

theorem ev_lookOuts {a s : State} (h : Ev m a s) (hm : 539492356 ||| m = m) : Ev m a (lookOuts s) := by
  dsimp only [lookOuts]
  with_reducible
    repeat' first
      | assumption | intro _ | exact orSub (by decide) hm | apply ev_lookLamp | apply ev_lookLoop | apply Ev.foldl

theorem ev_commitChannel {a s : State} (h : Ev m a s) (hm : 12 ||| m = m) (ch) : Ev m a (commitChannel s ch) := by
  dsimp only [commitChannel]
  apply Ev.foldl h
  intro t x ht
  exact Ev.delShadow (Ev.setF ht (orSub (by decide) hm) _ _ _) (orSub (by decide) hm) _

theorem ev_applyChannel {a s : State} (h : Ev m a s) (hm : 536870924 ||| m = m) (ch) : Ev m a (applyChannel s ch) := by
  dsimp only [applyChannel]
  with_reducible
    repeat' first
      | assumption | exact orSub (by decide) hm | apply ev_commitChannel | apply ev_addF | apply Ev.setF | apply Ev.ite
      | simp only [Ev.raw_outs (orSub (by decide) hm)]

theorem ev_armFields {a s : State} (h : Ev m a s) (hm : 539492364 ||| m = m) : Ev m a (armFields s) := by
  dsimp only [armFields]
  with_reducible
    repeat' first
      | assumption | intro _ | exact orSub (by decide) hm | apply ev_lookOuts | apply ev_applyChannel | apply Ev.foldl
      | simp only [Ev.raw_outs (orSub (by decide) hm)]

theorem ev_fieldStopped {a s : State} (h : Ev m a s) (hm : 539492364 ||| m = m) : Ev m a (fieldStopped s) := by
  dsimp only [fieldStopped]
  with_reducible
    repeat' first
      | assumption | intro _ | exact orSub (by decide) hm | apply ev_applyChannel | apply ev_lookOuts | apply ev_putFlag
      | apply Ev.foldl | simp only [Ev.raw_outs (orSub (by decide) hm)]

theorem ev_fieldStops {a s : State} (h : Ev m a s) (hm : 539492364 ||| m = m) : Ev m a (fieldStops s) := by
  dsimp only [fieldStops]
  with_reducible
    repeat' first
      | assumption | exact orSub (by decide) hm | apply ev_fieldStopped | apply ev_lookOuts | apply Ev.ite
      | simp only [Ev.raw_outs (orSub (by decide) hm)]

theorem ev_channelBoundary {a s : State} (h : Ev m a s) (hm : 539492364 ||| m = m) (ch) :
    Ev m a (channelBoundary s ch) := by
  dsimp only [channelBoundary]
  with_reducible
    repeat' first
      | assumption | exact orSub (by decide) hm | apply ev_applyChannel | apply ev_fieldStopped | apply Ev.ite | split
      | simp only [Ev.raw_outs (orSub (by decide) hm)]

/-! ## Machine/Hooks.lean -/

theorem ev_State_updWb {a s : State} (h : Ev m a s) (hm : 67108864 ||| m = m) (f) : Ev m a (State.updWb s f) := by
  dsimp only [State.updWb]
  with_reducible repeat' first | assumption | simp only [Ev.raw_wb (orSub (by decide) hm)]

theorem ev_hostDown {a s : State} (h : Ev m a s) (hm : 205324412 ||| m = m) : Ev m a (hostDown s) := by
  dsimp only [hostDown]
  with_reducible
    repeat' first
      | assumption | intro _ | exact orSub (by decide) hm | exact .inl (orSub (by decide) hm) | apply Ev.updHost
      | apply Ev.setF | apply ev_State_updJob | apply ev_jobStop | apply ev_logJob | apply Ev.resetPage | apply ev_raise
      | apply Ev.ite | apply Ev.foldl

theorem ev_aditDown {a s : State} (h : Ev m a s) (hm : 3703373828 ||| m = m) (k) : Ev m a (aditDown s k) := by
  dsimp only [aditDown]
  with_reducible repeat' first | assumption | apply ev_linkDown | apply Ev.ite

theorem ev_outputsOff {a s : State} (h : Ev m a s) (hm : 536870912 ||| m = m) : Ev m a (outputsOff s) := by
  dsimp only [outputsOff]
  with_reducible repeat' first | assumption | apply ev_dropOuts

theorem ev_blockLeavesRun {a s : State} (h : Ev m a s) (hm : 4257185916 ||| m = m) (r) : Ev m a (blockLeavesRun s r) := by
  dsimp only [blockLeavesRun]
  with_reducible
    repeat' first
      | assumption | exact orSub (by decide) hm | apply ev_hostDown | apply ev_aditDown | apply ev_sensorLook
      | apply ev_outputsOff | apply Ev.ite

theorem ev_zeroRange {a s : State} (h : Ev m a s) (hm : 2752516 ||| m = m) (r base len) :
    Ev m a (zeroRange s r base len) := by
  dsimp only [zeroRange]
  with_reducible
    repeat' first
      | assumption | intro _ | exact orSub (by decide) hm | apply Ev.updBed | apply bk_wearLine | apply ev_addF
      | apply ev_directorySelect | apply Ev.ite | apply bedFoldl | apply mclear_wf

theorem ev_showOwed {a s : State} (h : Ev m a s) (hm : 4 ||| m = m) : Ev m a (showOwed s) := by
  dsimp only [showOwed]
  with_reducible repeat' first | assumption | apply Ev.setF

theorem ev_zeroOwed {a s : State} (h : Ev m a s) (hm : 69861380 ||| m = m) (r) : Ev m a (zeroOwed s r) := by
  dsimp only [zeroOwed]
  with_reducible
    repeat' first
      | assumption | intro _ | exact orSub (by decide) hm | apply ev_zeroRange | apply ev_raise | apply ev_showOwed
      | apply Ev.foldl | simp only [Ev.raw_wb (orSub (by decide) hm)]

theorem ev_outputsOn {a s : State} (h : Ev m a s) (hm : 539492356 ||| m = m) : Ev m a (outputsOn s) := by
  dsimp only [outputsOn]
  with_reducible repeat' first | assumption | exact orSub (by decide) hm | apply ev_lookOuts | apply ev_putFlag

theorem ev_blockEntersRun {a s : State} (h : Ev m a s) (hm : 556695556 ||| m = m) (r) : Ev m a (blockEntersRun s r) := by
  dsimp only [blockEntersRun]
  with_reducible
    repeat' first
      | assumption | exact orSub (by decide) hm | apply ev_outputsOn | apply ev_putFlag | apply ev_sensorLook | apply Ev.ite

/-! ## Machine/RegionCore.lean -/

theorem ev_requestStop {a s : State} (h : Ev m a s) (hm : 2147491840 ||| m = m) (r force cause idle) :
    Ev m a (requestStop s r force cause idle) := by
  dsimp only [requestStop]
  with_reducible
    repeat' first
      | assumption | exact orSub (by decide) hm | apply ev_State_updRegion | apply Ev.ite | split
      | simp only [Ev.raw_stopQ (orSub (by decide) hm)]

theorem ev_putResult {a s : State} (h : Ev m a s) (hm : 4 ||| m = m) (r outcome x4 decider us) :
    Ev m a (putResult s r outcome x4 decider us) := by
  dsimp only [putResult]
  with_reducible repeat' first | assumption | apply Ev.setF

theorem ev_reinstall {a s : State} (h : Ev m a s) (hm : 32772 ||| m = m) (d old) : Ev m a (reinstall s d old) := by
  dsimp only [reinstall]
  with_reducible repeat' first | assumption | intro _ | apply ev_setRoute | apply ev_installRoutes | apply Ev.foldl

theorem ev_logPower {a s : State} (h : Ev m a s) (hm : 2621444 ||| m = m) (r cause hs trip) :
    Ev m a (logPower s r cause hs trip) := by
  dsimp only [logPower]
  with_reducible repeat' first | assumption | exact orSub (by decide) hm | apply ev_logRec | apply Ev.setF

theorem ev_endWithoutStop {a s : State} (h : Ev m a s) (hm : 2150146052 ||| m = m) (r outcome x4 decider) :
    Ev m a (endWithoutStop s r outcome x4 decider) := by
  dsimp only [endWithoutStop]
  with_reducible
    repeat' first
      | assumption | exact orSub (by decide) hm | apply ev_putResult | apply ev_State_updRegion | apply ev_reinstall
      | apply ev_raise | apply ev_addF | apply ev_logPower | apply Ev.ite | split
      | simp only [Ev.raw_stopQ (orSub (by decide) hm)]

theorem ev_nameWake {a s : State} (h : Ev m a s) (hm : 16384 ||| m = m) (r cause) : Ev m a (nameWake s r cause) := by
  dsimp only [nameWake]
  with_reducible repeat' first | assumption | simp only [Ev.raw_wakeQ (orSub (by decide) hm)]

theorem ev_queueStart {a s : State} (h : Ev m a s) (hm : 2150162436 ||| m = m) (e ws) : Ev m a (queueStart s e ws) := by
  dsimp only [queueStart]
  with_reducible
    repeat' first
      | assumption | exact orSub (by decide) hm | apply ev_endWithoutStop | apply Ev.ite | split
      | simp only [Ev.raw_wakeQ (orSub (by decide) hm)]

theorem ev_startRegion {a s : State} (h : Ev m a s) (hm : 2150162436 ||| m = m) (r cause named) :
    EvP m a (startRegion s r cause named) := by
  dsimp only [startRegion]
  with_reducible
    repeat' first
      | assumption | exact orSub (by decide) hm | apply ev_State_updRegion | apply ev_endWithoutStop | apply ev_nameWake
      | apply ev_queueStart | apply EvP.ite | split | simp only [EvP.mk_iff]
      | simp only [Ev.raw_queues (orSub (by decide) hm) (orSub (by decide) hm)]

theorem ev_wakeZeroing {a s : State} (h : Ev m a s) (hm : 2150162436 ||| m = m) : Ev m a (wakeZeroing s) := by
  dsimp only [wakeZeroing]
  with_reducible repeat' first | assumption | intro _ | apply ev_startRegion | apply Ev.foldl | apply EvP.fst | split

theorem ev_eraseBegin {a s : State} (h : Ev m a s) (hm : 3703431172 ||| m = m) (opens resumed) :
    Ev m a (eraseBegin s opens resumed) := by
  dsimp only [eraseBegin]
  with_reducible
    repeat' first
      | assumption | intro _ | exact orSub (by decide) hm | apply ev_raise | apply Ev.setF | apply ev_State_updWb
      | apply ev_linkDown | apply ev_wakeZeroing | apply Ev.ite | apply Ev.foldl

theorem ev_eraseAsk {a s : State} (h : Ev m a s) (hm : 3703431172 ||| m = m) (opens resumed) :
    Ev m a (eraseAsk s opens resumed) := by
  dsimp only [eraseAsk]
  with_reducible repeat' first | assumption | exact orSub (by decide) hm | apply ev_State_updWb | apply ev_eraseBegin | split

theorem ev_bar {a s : State} (h : Ev m a s) (hm : 4096 ||| m = m) (r) : Ev m a (bar s r) := by
  dsimp only [bar]
  with_reducible repeat' first | assumption | apply ev_State_updBoot

theorem ev_bootDrop {a s : State} (h : Ev m a s) (hm : 4096 ||| m = m) (r) : Ev m a (bootDrop s r) := by
  dsimp only [bootDrop]
  with_reducible repeat' first | assumption | apply ev_State_updBoot

theorem ev_hostFails {a s : State} (h : Ev m a s) (hm : 512 ||| m = m) (r) : Ev m a (hostFails s r) := by
  dsimp only [hostFails]
  with_reducible
    repeat' first
      | assumption | exact .inl (orSub (by decide) hm) | exact .inr (fun _ => rfl) | apply Ev.updCarrier | apply Ev.ite

theorem ev_releaseTransit {a s : State} (h : Ev m a s) (hm : 2147491840 ||| m = m) : Ev m a (releaseTransit s) := by
  dsimp only [releaseTransit]
  with_reducible
    repeat' first
      | assumption | intro _ | apply ev_requestStop | apply EvP.ite | apply EvP.fst | apply EvP.foldl
      | simp only [EvP.mk_iff]

theorem ev_restoreConnectivity {a s : State} (h : Ev m a s) (hm : 16384 ||| m = m) : Ev m a (restoreConnectivity s) := by
  dsimp only [restoreConnectivity]
  with_reducible
    repeat' first
      | assumption | intro _ | apply Ev.ite | apply Ev.foldl | split | simp only [Ev.raw_wakeQ (orSub (by decide) hm)]

theorem ev_strandRegion {a s : State} (h : Ev m a s) (hm : 2147497984 ||| m = m) (r) : Ev m a (strandRegion s r) := by
  dsimp only [strandRegion]
  with_reducible
    repeat' first
      | assumption | exact orSub (by decide) hm | apply ev_State_updEntry | apply ev_State_updBoot | apply ev_requestStop

theorem ev_strand {a s : State} (h : Ev m a s) (hm : 2147497984 ||| m = m) (was) : Ev m a (strand was s) := by
  dsimp only [strand]
  with_reducible repeat' first | assumption | intro _ | apply ev_strandRegion | apply Ev.ite | apply Ev.foldl

theorem ev_markBad {a s : State} (h : Ev m a s) (hm : 2631684 ||| m = m) (r mask) : Ev m a (markBad s r mask) := by
  dsimp only [markBad]
  with_reducible
    repeat' first
      | assumption | exact orSub (by decide) hm | apply ev_State_updEntry | apply ev_addF | apply ev_State_updRegion
      | apply ev_raise | apply Ev.ite

theorem ev_settleScans {a s : State} (h : Ev m a s) (hm : 2631684 ||| m = m) (r) : Ev m a (settleScans s r) := by
  dsimp only [settleScans]
  with_reducible repeat' first | assumption | apply ev_markBad | apply Ev.ite

theorem ev_failSyncs {a s : State} (h : Ev m a s) (hm : 3434938372 ||| m = m) (r st) : Ev m a (failSyncs s r st) := by
  dsimp only [failSyncs]
  with_reducible
    repeat' first
      | assumption | intro _ | exact orSub (by decide) hm | apply ev_State_updSync | apply ev_opFail | apply Ev.foldl

theorem ev_dropUsers {a s : State} (h : Ev m a s) (hm : 3434938372 ||| m = m) (r failed) :
    Ev m a (dropUsers s r failed) := by
  dsimp only [dropUsers]
  with_reducible
    repeat' first
      | assumption | intro _ | exact orSub (by decide) hm | apply ev_escFaceLost | apply ev_jobStop | apply Ev.ite
      | apply Ev.foldl | split

theorem ev_dropFaces {a s : State} (h : Ev m a s) (hm : 137297924 ||| m = m) (r lost) : Ev m a (dropFaces s r lost) := by
  dsimp only [dropFaces]
  with_reducible
    repeat' first
      | assumption | intro _ | exact orSub (by decide) hm | apply ev_abandonLock | apply ev_abandonLocks | apply ev_dropWaits
      | apply Ev.updBed | apply bk_flushWrites | apply bk_flushMarks | apply Ev.updFace | apply Ev.ite | apply Ev.foldl
      | apply bedIte | exact faceReset_wf

theorem ev_resetRegionPages {a s : State} (h : Ev m a s) (hm : 124 ||| m = m) (r) : Ev m a (resetRegionPages s r) := by
  dsimp only [resetRegionPages]
  with_reducible repeat' first | assumption | intro _ | apply Ev.resetPage | apply Ev.ite | apply Ev.foldl

theorem ev_leaveRun {a s : State} (h : Ev m a s) (hm : 4257196156 ||| m = m) (r lost forced failed) :
    Ev m a (leaveRun s r lost forced failed) := by
  dsimp only [leaveRun]
  with_reducible
    repeat' first
      | assumption | intro _ | exact orSub (by decide) hm | apply ev_settleScans | apply ev_addF | apply ev_copyShadows
      | apply ev_State_updRegion | apply ev_routesDead | apply ev_setRoute | apply ev_reroute | apply ev_dropTransfers
      | apply ev_failPackets | apply ev_failStores | apply ev_failSyncs | apply ev_dropUsers | apply ev_dropFaces
      | apply ev_blockLeavesRun | apply ev_State_updSync | apply ev_resetRegionPages | apply ev_jobCheckEnd | apply Ev.foldl
      | split | simp only [Ev.raw_wb (orSub (by decide) hm)]

theorem ev_tamperGoesOn {a s : State} (h : Ev m a s) (hm : 3703431172 ||| m = m) : Ev m a (tamperGoesOn s) := by
  dsimp only [tamperGoesOn]
  with_reducible
    repeat' first
      | assumption | exact orSub (by decide) hm | apply ev_eraseAsk | apply ev_State_updWb | apply Ev.ite

theorem ev_enterRun {a s : State} (h : Ev m a s) (hm : 623878268 ||| m = m) (r lockUs cause) :
    Ev m a (enterRun s r lockUs cause) := by
  dsimp only [enterRun]
  with_reducible
    repeat' first
      | assumption | intro _ | exact orSub (by decide) hm | apply ev_resetRegionPages | apply ev_State_updSync
      | apply Ev.updFace | apply ev_bedWake | apply Ev.setF | apply ev_addF | apply ev_zeroOwed | apply ev_State_updRegion
      | apply ev_blockEntersRun | apply ev_installRoutes | apply ev_raise | apply ev_logPower | apply Ev.foldl
      | exact faceReset_wf

theorem ev_failRegion {a s : State} (h : Ev m a s) (hm : 4257217148 ||| m = m) (r cause trip) :
    Ev m a (failRegion s r cause trip) := by
  dsimp only [failRegion]
  with_reducible
    repeat' first
      | assumption | exact orSub (by decide) hm | apply ev_State_updEntry | apply ev_bar | apply ev_bootDrop
      | apply ev_hostFails | apply ev_State_updRegion | apply ev_raise | apply ev_leaveRun | apply ev_logPower
      | apply ev_tamperGoesOn | apply ev_admitLost | apply ev_releaseTransit | apply ev_restoreConnectivity | apply ev_strand
      | apply Ev.ite | simp only [Ev.raw_queues (orSub (by decide) hm) (orSub (by decide) hm)]

theorem ev_flushFace {a s : State} (h : Ev m a s) (hm : 3435069444 ||| m = m) (eccs g) : Ev m a (flushFace eccs s g) := by
  dsimp only [flushFace]
  with_reducible
    repeat' first
      | assumption | intro _ | exact orSub (by decide) hm | apply ev_raise | apply ev_addF | apply ev_writeBackLine
      | apply Ev.updFace | apply ev_faceStop | apply Ev.ite | apply Ev.foldl | split

theorem ev_beginStop {a s : State} (h : Ev m a s) (hm : 3435110404 ||| m = m) (q eccs) : Ev m a (beginStop s q eccs) := by
  dsimp only [beginStop]
  with_reducible
    repeat' first
      | assumption | intro _ | exact orSub (by decide) hm | apply ev_putResult | apply ev_State_updRegion
      | apply ev_routesDead | apply ev_logPower | apply ev_flushFace | apply Ev.ite | apply Ev.foldl

theorem ev_forceStopNow {a s : State} (h : Ev m a s) (hm : 4257212540 ||| m = m) (r cause) :
    Ev m a (forceStopNow s r cause) := by
  dsimp only [forceStopNow]
  with_reducible
    repeat' first
      | assumption | exact orSub (by decide) hm | apply ev_putResult | apply ev_addF | apply ev_raise | apply ev_leaveRun
      | apply ev_logPower | apply ev_tamperGoesOn | apply ev_releaseTransit | apply ev_restoreConnectivity | apply Ev.ite

theorem ev_owePart {a s : State} (h : Ev m a s) (hm : 67108868 ||| m = m) (p) : Ev m a (owePart s p) := by
  dsimp only [owePart]
  with_reducible repeat' first | assumption | exact orSub (by decide) hm | apply ev_showOwed | apply ev_State_updWb

end Sys2Proof.Machine
end

