-- ==== Sys2Proof/Laws/Ev04.lean ====
section
/-! SUPPORT. Laws/Ev04.lean: `Ev` of every operation of Machine/Bringup.lean, Machine/Numerics.lean,
Machine/FaceIssue.lean. -/

namespace Sys2Proof.Machine

open Sys2Proof

/-! ## Machine/Bringup.lean -/

-- no state argument: State.shipped

theorem ev_setPhase {a s : State} (h : Ev m a s) (hm : 4 ||| m = m) (p) : Ev m a (setPhase s p) := by
  dsimp only [setPhase]
  with_reducible repeat' first | assumption | apply Ev.setF

theorem ev_beginRound {a s : State} (h : Ev m a s) (hm : 4100 ||| m = m) : Ev m a (beginRound s) := by
  dsimp only [beginRound]
  with_reducible
    repeat' first
      | assumption | exact orSub (by decide) hm | apply ev_setPhase | apply Ev.setF | apply ev_State_updBoot

theorem ev_restoreMap {a s : State} (h : Ev m a s) (hm : 10240 ||| m = m) : Ev m a (restoreMap s) := by
  dsimp only [restoreMap]
  with_reducible
    repeat' first
      | assumption | intro _ | exact orSub (by decide) hm | exact .inl (orSub (by decide) hm) | exact .inr (fun _ => rfl)
      | apply Ev.updMap | apply ev_State_updEntry | apply ev_setLinkFault | apply ev_State_updRegion | apply Ev.foldl

theorem ev_clearRounds {a s : State} (h : Ev m a s) (hm : 15364 ||| m = m) : Ev m a (clearRounds s) := by
  dsimp only [clearRounds]
  with_reducible
    repeat' first
      | assumption | intro _ | exact orSub (by decide) hm | exact .inl (orSub (by decide) hm) | apply ev_State_updRegion
      | apply ev_setPhase | apply Ev.updMap | apply ev_State_updBoot | apply ev_restoreMap | apply Ev.ite | apply Ev.foldl

theorem ev_closeSwitch {a s : State} (h : Ev m a s) (hm : 2633732 ||| m = m) (r) : Ev m a (closeSwitch s r) := by
  dsimp only [closeSwitch]
  with_reducible
    repeat' first
      | assumption | exact orSub (by decide) hm | apply ev_State_updBoot | apply ev_State_updRegion | apply ev_logPower

theorem ev_setVin {a s : State} (h : Ev m a s) (hm : 256 ||| m = m) (vin) : Ev m a (setVin s vin) := by
  dsimp only [setVin]
  with_reducible
    repeat' first
      | assumption | exact .inl (orSub (by decide) hm) | exact .inr (fun _ => rfl) | apply Ev.updCarrier

theorem ev_vinDo {a s : State} (h : Ev m a s) (hm : 256 ||| m = m) (vin c) (f : State → State) (hf : ∀ y, Ev m a y → Ev m a (f y)) :
    EvOut m a (vinDo vin c f s) := by
  dsimp only [vinDo]
  split
  · exact EvOut.fault _
  · exact EvOut.guardDo h _ _ (fun t ht => hf _ (ev_setVin ht (orSub (by decide) hm) _))

theorem ev_execBrownout {a s : State} (h : Ev m a s) (hm : 2150120708 ||| m = m) (vin) :
    EvOut m a (execBrownout vin s) := by
  dsimp only [execBrownout]
  with_reducible
    repeat' first
      | assumption | intro _ | exact orSub (by decide) hm | apply ev_vinDo | apply ev_raise | apply ev_clearRounds
      | apply ev_State_updBoot | apply ev_requestStop | apply Ev.ite | apply Ev.foldl

theorem ev_execCrystalFail {a s : State} (h : Ev m a s) (hm : 2150113540 ||| m = m) : EvOut m a (execCrystalFail s) := by
  dsimp only [execCrystalFail]
  with_reducible
    repeat' first
      | apply EvOut.guardDo | assumption | intro _ | exact orSub (by decide) hm | exact .inl (orSub (by decide) hm)
      | exact .inr (fun _ => rfl) | apply Ev.updCarrier | apply ev_raise | apply ev_requestStop | apply Ev.foldl

theorem ev_execCrystalRestored {a s : State} (h : Ev m a s) (hm : 256 ||| m = m) : EvOut m a (execCrystalRestored s) := by
  dsimp only [execCrystalRestored]
  with_reducible
    repeat' first
      | apply EvOut.guardDo | assumption | intro _ | exact .inl (orSub (by decide) hm) | exact .inr (fun _ => rfl)
      | apply Ev.updCarrier

theorem ev_execFuseConfirm {a s : State} (h : Ev m a s) (hm : 2304 ||| m = m) (r isOpen) :
    EvOut m a (execFuseConfirm r isOpen s) := by
  dsimp only [execFuseConfirm]
  with_reducible
    repeat' first
      | apply EvOut.guardDo | assumption | intro _ | exact orSub (by decide) hm | exact .inl (orSub (by decide) hm)
      | exact .inr (fun _ => rfl) | apply Ev.updCarrier | apply ev_State_updEntry | apply Ev.ite

theorem ev_isolate {a s : State} (h : Ev m a s) (hm : 4257217148 ||| m = m) (r c fused) : Ev m a (isolate s r c fused) := by
  dsimp only [isolate]
  with_reducible
    repeat' first
      | assumption | exact orSub (by decide) hm | apply ev_State_updEntry | apply ev_State_updRegion | apply ev_raise
      | apply ev_bar | apply ev_bootDrop | apply ev_hostFails | apply ev_releaseTransit | apply ev_restoreConnectivity
      | apply ev_strand | apply ev_logPower | apply ev_leaveRun | apply ev_tamperGoesOn | apply ev_admitLost | apply Ev.ite
      | simp only [Ev.raw_queues (orSub (by decide) hm) (orSub (by decide) hm)]

theorem ev_execFuseSelfOpen {a s : State} (h : Ev m a s) (hm : 4257217404 ||| m = m) (r) :
    EvOut m a (execFuseSelfOpen r s) := by
  dsimp only [execFuseSelfOpen]
  with_reducible
    repeat' first
      | apply EvOut.guardDo | assumption | intro _ | exact orSub (by decide) hm | exact .inl (orSub (by decide) hm)
      | apply ev_isolate | apply Ev.updCarrier

theorem ev_execHostLinkDown {a s : State} (h : Ev m a s) (hm : 205324668 ||| m = m) (perst) :
    EvOut m a (execHostLinkDown perst s) := by
  dsimp only [execHostLinkDown]
  with_reducible
    repeat' first
      | apply EvOut.guardDo | assumption | intro _ | exact orSub (by decide) hm | exact .inl (orSub (by decide) hm)
      | exact .inr (fun _ => rfl) | apply ev_addF | apply Ev.updCarrier | apply ev_hostDown | apply Ev.ite

theorem ev_execPcieLinkUp {a s : State} (h : Ev m a s) (hm : 3670020 ||| m = m) (speed width) :
    EvOut m a (execPcieLinkUp speed width s) := by
  dsimp only [execPcieLinkUp]
  with_reducible
    repeat' first
      | apply EvOut.guardDo | assumption | intro _ | exact orSub (by decide) hm | exact .inl (orSub (by decide) hm)
      | apply Ev.updHost | apply Ev.setF | apply ev_raise

theorem ev_hostReset {a s : State} (h : Ev m a s) (hm : 3426549884 ||| m = m) : Ev m a (hostReset s) := by
  dsimp only [hostReset]
  refine Ev.updHost ?_ _ (.inl (orSub (by decide) hm)) (.inl (orSub (by decide) hm)) ?_
  · refine Ev.clearFields ?_ (orSub (by decide) hm) _ _
    with_reducible
      repeat' first
        | assumption | intro _ | exact orSub (by decide) hm | apply Ev.setF | apply Ev.resetPage | apply ev_dropJob
        | apply Ev.foldl
  · intro _ hx
    exact hx

theorem ev_execPerstDeassert {a s : State} (h : Ev m a s) (hm : 3426550140 ||| m = m) :
    EvOut m a (execPerstDeassert s) := by
  dsimp only [execPerstDeassert]
  with_reducible
    repeat' first
      | apply EvOut.guardDo | assumption | intro _ | exact orSub (by decide) hm | exact .inl (orSub (by decide) hm)
      | exact .inr (fun _ => rfl) | apply ev_hostReset | apply Ev.updCarrier

theorem ev_publish {a s : State} (h : Ev m a s) (hm : 1028 ||| m = m) : Ev m a (publish s) := by
  dsimp only [publish]
  with_reducible
    repeat' first
      | assumption | exact orSub (by decide) hm | exact .inl (orSub (by decide) hm) | exact .inr (fun _ => rfl)
      | apply Ev.setF | apply Ev.updMap

theorem ev_mapSelect {a s : State} (h : Ev m a s) (hm : 2636804 ||| m = m) : Ev m a (mapSelect s) := by
  dsimp only [mapSelect]
  with_reducible
    repeat' first
      | assumption | exact orSub (by decide) hm | exact .inl (orSub (by decide) hm) | apply Ev.setF | apply Ev.updMap
      | apply ev_raise | apply ev_State_updBoot | apply ev_restoreMap | apply ev_publish | apply ev_setPhase | split

theorem ev_execQuarryMapSelect {a s : State} (h : Ev m a s) (hm : 2636804 ||| m = m) :
    EvOut m a (execQuarryMapSelect s) := by
  dsimp only [execQuarryMapSelect]
  with_reducible repeat' first | apply EvOut.guardDo | assumption | intro _ | apply ev_mapSelect

theorem ev_execRegionSwitchClose {a s : State} (h : Ev m a s) (hm : 2633732 ||| m = m) (r) :
    EvOut m a (execRegionSwitchClose r s) := by
  dsimp only [execRegionSwitchClose]
  with_reducible repeat' first | apply EvOut.guardDo | assumption | intro _ | apply ev_closeSwitch

theorem ev_failLink {a s : State} (h : Ev m a s) (hm : 34820 ||| m = m) (l) : Ev m a (failLink s l) := by
  dsimp only [failLink]
  with_reducible repeat' first | assumption | exact orSub (by decide) hm | apply ev_setLinkFault | apply ev_reroute | split

theorem ev_execSameRoundLinkTest {a s : State} (h : Ev m a s) (hm : 34820 ||| m = m) (failed) :
    EvOut m a (execSameRoundLinkTest failed s) := by
  dsimp only [execSameRoundLinkTest]
  with_reducible repeat' first | apply EvOut.guardDo | assumption | intro _ | apply ev_failLink | apply Ev.foldl

theorem ev_execSelfTestBegin {a s : State} (h : Ev m a s) (hm : 4096 ||| m = m) (r) :
    EvOut m a (execSelfTestBegin r s) := by
  dsimp only [execSelfTestBegin]
  with_reducible repeat' first | apply EvOut.guardDo | assumption | intro _ | apply ev_State_updBoot

theorem ev_testFaces {a s : State} (h : Ev m a s) (hm : 2631684 ||| m = m) (r t) : Ev m a (testFaces s r t) := by
  dsimp only [testFaces]
  with_reducible repeat' first | assumption | apply ev_markBad | apply Ev.ite

theorem ev_testOff {a s : State} (h : Ev m a s) (hm : 12288 ||| m = m) (r) : Ev m a (testOff s r) := by
  dsimp only [testOff]
  with_reducible repeat' first | assumption | exact orSub (by decide) hm | apply ev_State_updBoot | apply ev_State_updRegion

theorem ev_testFail {a s : State} (h : Ev m a s) (hm : 2636292 ||| m = m) (r c) : Ev m a (testFail s r c) := by
  dsimp only [testFail]
  with_reducible
    repeat' first
      | assumption | exact orSub (by decide) hm | apply ev_testOff | apply ev_hostFails | apply ev_State_updEntry
      | apply ev_State_updBoot | apply ev_State_updRegion | apply ev_logPower | apply ev_raise

theorem ev_testPass {a s : State} (h : Ev m a s) (hm : 623884924 ||| m = m) (r t) : Ev m a (testPass s r t) := by
  dsimp only [testPass]
  with_reducible
    repeat' first
      | assumption | exact orSub (by decide) hm | exact .inl (orSub (by decide) hm) | exact .inr (fun _ => rfl)
      | apply ev_State_updEntry | apply ev_State_updRegion | apply ev_State_updBoot | apply Ev.updCarrier | apply ev_enterRun
      | apply Ev.ite

theorem ev_selfTestEnd {a s : State} (h : Ev m a s) (hm : 623884924 ||| m = m) (r t) : Ev m a (selfTestEnd s r t) := by
  dsimp only [selfTestEnd]
  with_reducible
    repeat' first
      | assumption | intro _ | exact orSub (by decide) hm | apply ev_testFaces | apply ev_testFail | apply ev_setLinkFault
      | apply ev_testPass | apply ev_State_updBoot | apply ev_logPower | apply ev_testOff | apply Ev.ite | apply Ev.foldl
      | split

theorem ev_execSelfTestDone {a s : State} (h : Ev m a s) (hm : 623884924 ||| m = m) (r res) :
    EvOut m a (execSelfTestDone r res s) := by
  dsimp only [execSelfTestDone]
  with_reducible repeat' first | apply EvOut.guardDo | assumption | intro _ | apply ev_selfTestEnd

theorem ev_execStartResume {a s : State} (h : Ev m a s) (hm : 4352 ||| m = m) (vin) :
    EvOut m a (execStartResume vin s) := by
  dsimp only [execStartResume]
  with_reducible repeat' first | assumption | intro _ | exact orSub (by decide) hm | apply ev_vinDo | apply ev_State_updBoot

theorem ev_tripInTest {a s : State} (h : Ev m a s) (hm : 4257217148 ||| m = m) (r) : Ev m a (tripInTest s r) := by
  dsimp only [tripInTest]
  with_reducible
    repeat' first
      | assumption | exact orSub (by decide) hm | apply ev_State_updBoot | apply ev_State_updRegion | apply ev_logPower
      | apply ev_isolate | apply Ev.ite

theorem ev_execSwitchTrip {a s : State} (h : Ev m a s) (hm : 4257217148 ||| m = m) (r) :
    EvOut m a (execSwitchTrip r s) := by
  dsimp only [execSwitchTrip]
  with_reducible
    repeat' first
      | apply EvOut.guardDo | assumption | intro _ | apply ev_tripInTest | apply ev_failRegion | apply Ev.ite

theorem ev_execTestRoundBegin {a s : State} (h : Ev m a s) (hm : 4100 ||| m = m) : EvOut m a (execTestRoundBegin s) := by
  dsimp only [execTestRoundBegin]
  with_reducible repeat' first | apply EvOut.guardDo | assumption | intro _ | apply ev_beginRound

theorem ev_execTripRetry {a s : State} (h : Ev m a s) (hm : 12288 ||| m = m) (r) : EvOut m a (execTripRetry r s) := by
  dsimp only [execTripRetry]
  with_reducible
    repeat' first
      | apply EvOut.guardDo | assumption | intro _ | exact orSub (by decide) hm | apply ev_State_updRegion
      | apply ev_State_updBoot

theorem ev_execVaonInRegulation {a s : State} (h : Ev m a s) (hm : 256 ||| m = m) : EvOut m a (execVaonInRegulation s) := by
  dsimp only [execVaonInRegulation]
  with_reducible
    repeat' first
      | apply EvOut.guardDo | assumption | intro _ | exact .inl (orSub (by decide) hm) | exact .inr (fun _ => rfl)
      | apply Ev.updCarrier

theorem ev_powerGone {a s : State} (h : Ev m a s) (hm : 98304 ||| m = m) : Ev m a (powerGone s) := by
  dsimp only [powerGone]
  with_reducible
    repeat' first
      | assumption | intro _ | exact orSub (by decide) hm | apply ev_State_updRoad | apply ev_State_updSync | apply Ev.ite
      | apply Ev.foldl

theorem ev_vbusDown {a s : State} (h : Ev m a s) (hm : 4257218428 ||| m = m) (cause) : Ev m a (vbusDown cause s) := by
  dsimp only [vbusDown]
  with_reducible
    repeat' first
      | assumption | intro _ | exact orSub (by decide) hm | exact .inl (orSub (by decide) hm) | apply ev_powerGone
      | apply ev_logPower | apply ev_leaveRun | apply ev_State_updRegion | apply Ev.updCarrier | apply ev_outputsOff
      | apply ev_tamperGoesOn | apply ev_setPhase | apply ev_clearRounds | apply ev_State_updBoot | apply Ev.ite
      | apply Ev.foldl | simp only [Ev.raw_queues (orSub (by decide) hm) (orSub (by decide) hm)]

theorem ev_execVaonLoss {a s : State} (h : Ev m a s) (hm : 4257218428 ||| m = m) (vin) :
    EvOut m a (execVaonLoss vin s) := by
  dsimp only [execVaonLoss]
  with_reducible
    repeat' first
      | assumption | intro _ | exact orSub (by decide) hm | exact .inl (orSub (by decide) hm) | apply ev_vinDo
      | apply Ev.updCarrier | apply ev_vbusDown | apply Ev.ite

theorem ev_execVbusInRegulation {a s : State} (h : Ev m a s) (hm : 2633988 ||| m = m) :
    EvOut m a (execVbusInRegulation s) := by
  dsimp only [execVbusInRegulation]
  with_reducible
    repeat' first
      | apply EvOut.guardDo | assumption | intro _ | exact orSub (by decide) hm | exact .inl (orSub (by decide) hm)
      | exact .inr (fun _ => rfl) | apply Ev.updCarrier | apply ev_beginRound | apply ev_closeSwitch | apply Ev.ite

theorem ev_execVbusOff {a s : State} (h : Ev m a s) (hm : 4257218428 ||| m = m) (vin) : EvOut m a (execVbusOff vin s) := by
  dsimp only [execVbusOff]
  with_reducible repeat' first | assumption | intro _ | exact orSub (by decide) hm | apply ev_vinDo | apply ev_vbusDown

theorem ev_execVbusSoftStart {a s : State} (h : Ev m a s) (hm : 256 ||| m = m) (vin) :
    EvOut m a (execVbusSoftStart vin s) := by
  dsimp only [execVbusSoftStart]
  with_reducible
    repeat' first
      | assumption | intro _ | exact .inl (orSub (by decide) hm) | exact .inr (fun _ => rfl) | apply ev_vinDo
      | apply Ev.updCarrier

theorem ev_execVbusUndervoltage {a s : State} (h : Ev m a s) (hm : 2150113284 ||| m = m) :
    EvOut m a (execVbusUndervoltage s) := by
  dsimp only [execVbusUndervoltage]
  with_reducible
    repeat' first
      | apply EvOut.guardDo | assumption | intro _ | exact orSub (by decide) hm | apply ev_logRec | apply ev_requestStop
      | apply Ev.foldl

theorem ev_execVinOvervoltage {a s : State} (h : Ev m a s) (hm : 4257218428 ||| m = m) (vin) :
    EvOut m a (execVinOvervoltage vin s) := by
  dsimp only [execVinOvervoltage]
  with_reducible
    repeat' first
      | assumption | intro _ | exact orSub (by decide) hm | exact .inl (orSub (by decide) hm) | apply ev_vinDo
      | apply Ev.updCarrier | apply ev_vbusDown

/-! ## Machine/Numerics.lean -/

theorem ev_raiseNum {a s : State} (h : Ev m a s) (hm : 2621444 ||| m = m) (g evbit) : Ev m a (raiseNum s g evbit) := by
  dsimp only [raiseNum]
  with_reducible repeat' first | assumption | apply ev_raise | apply Ev.ite

theorem ev_logFail {a s : State} (h : Ev m a s) (hm : 2883588 ||| m = m) (g addr) : Ev m a (logFail s g addr) := by
  dsimp only [logFail]
  with_reducible
    repeat' first
      | assumption | intro _ | exact orSub (by decide) hm | apply Ev.setF | apply Ev.updFace | apply ev_raise
      | apply ev_recordErr

theorem ev_putSegment {a s : State} (h : Ev m a s) (hm : 3014660 ||| m = m) (g j seq) : Ev m a (putSegment s g j seq) := by
  dsimp only [putSegment]
  with_reducible
    repeat' first
      | assumption | intro _ | exact orSub (by decide) hm | apply ev_logFail | apply ev_denyBed | apply ev_bedWrite
      | apply Ev.updFace | apply Ev.ite

theorem ev_writeSegment {a s : State} (h : Ev m a s) (hm : 3014660 ||| m = m) (g) : Ev m a (writeSegment s g) := by
  dsimp only [writeSegment]
  with_reducible repeat' first | assumption | apply ev_putSegment

theorem ev_appendEntry {a s : State} (h : Ev m a s) (hm : 3014660 ||| m = m) (g step qd old new sats) :
    Ev m a (appendEntry s g step qd old new sats) := by
  dsimp only [appendEntry]
  with_reducible
    repeat' first
      | assumption | intro _ | exact orSub (by decide) hm | apply ev_writeSegment | apply ev_addF | apply Ev.updFace
      | apply Ev.setF | apply ev_raise | apply Ev.ite

theorem ev_changeAdj {a s : State} (h : Ev m a s) (hm : 3014660 ||| m = m) (g step qa new sats evbit) :
    Ev m a (changeAdj s g step qa new sats evbit) := by
  dsimp only [changeAdj]
  with_reducible
    repeat' first
      | assumption | exact orSub (by decide) hm | apply ev_addF | apply ev_sramWrite | apply ev_raiseNum
      | apply ev_appendEntry | apply Ev.ite

theorem ev_endQd {a s : State} (h : Ev m a s) (hm : 3014660 ||| m = m) (g step u) : Ev m a (endQd s g step u) := by
  dsimp only [endQd]
  with_reducible
    repeat' first
      | assumption | exact orSub (by decide) hm | apply ev_sramWrite | apply ev_raiseNum | apply ev_changeAdj | apply Ev.ite

theorem ev_endStep {a s : State} (h : Ev m a s) (hm : 3014660 ||| m = m) (g us) : Ev m a (endStep s g us) := by
  dsimp only [endStep]
  with_reducible
    repeat' first
      | assumption | intro _ | exact orSub (by decide) hm | apply ev_addF | apply ev_endQd | apply Ev.foldl

theorem ev_numLoad {a s : State} (h : Ev m a s) (hm : 262148 ||| m = m) (g cfg base segs) :
    Ev m a (numLoad s g cfg base segs) := by
  dsimp only [numLoad]
  with_reducible
    repeat' first
      | assumption | intro _ | exact orSub (by decide) hm | apply Ev.setF | apply Ev.updFace | apply Ev.foldl

theorem ev_logBegin {a s : State} (h : Ev m a s) (hm : 3014660 ||| m = m) (g) : Ev m a (logBegin s g) := by
  dsimp only [logBegin]
  with_reducible
    repeat' first
      | assumption | exact orSub (by decide) hm | apply ev_logFail | apply ev_denyBed | apply ev_putSegment
      | apply ev_bedWrite | apply Ev.ite

theorem ev_numRestore {a s : State} (h : Ev m a s) (hm : 3014660 ||| m = m) (g b) : Ev m a (numRestore s g b) := by
  dsimp only [numRestore]
  with_reducible
    repeat' first
      | assumption | intro _ | exact orSub (by decide) hm | apply Ev.setF | apply ev_putFlag | apply Ev.updFace
      | apply ev_logFail | apply ev_putSegment | apply Ev.ite | split

theorem ev_execScaleLogWrite {a s : State} (h : Ev m a s) (hm : 3014660 ||| m = m) (g ok) :
    EvOut m a (execScaleLogWrite g ok s) := by
  dsimp only [execScaleLogWrite]
  with_reducible
    repeat' first
      | apply EvOut.guardDo | assumption | intro _ | exact orSub (by decide) hm | apply ev_writeSegment | apply ev_logFail
      | apply Ev.ite

/-! ## Machine/FaceIssue.lean -/

theorem ev_stopAt {a s : State} (h : Ev m a s) (hm : 3434938372 ||| m = m) (g o x4) : Ev m a (stopAt s g o x4) := by
  dsimp only [stopAt]
  with_reducible repeat' first | assumption | exact orSub (by decide) hm | apply ev_faceStop | apply ev_recordErr | split

theorem ev_startIssue {a s : State} (h : Ev m a s) (hm : 262144 ||| m = m) (g o st) : Ev m a (startIssue s g o st) := by
  dsimp only [startIssue]
  with_reducible repeat' first | assumption | intro _ | apply Ev.updFace | apply fk_FaceSt_setToken | apply faceIte

theorem ev_countRetired {a s : State} (h : Ev m a s) (hm : 4 ||| m = m) (g) : Ev m a (countRetired s g) := by
  dsimp only [countRetired]
  with_reducible repeat' first | assumption | apply ev_addF | apply Ev.ite

theorem ev_finishNow {a s : State} (h : Ev m a s) (hm : 262148 ||| m = m) (g o) : Ev m a (finishNow s g o) := by
  dsimp only [finishNow]
  with_reducible
    repeat' first
      | assumption | intro _ | exact orSub (by decide) hm | apply ev_countRetired | apply Ev.updFace
      | apply fk_FaceSt_setToken | apply faceIte

theorem ev_issueRecord {a s : State} (h : Ev m a s) (hm : 3434938372 ||| m = m) (g o effect) (heffect : ∀ y0, Ev m a y0 → Ev m a (effect y0)) :
    Ev m a (issueRecord s g o effect) := by
  dsimp only [issueRecord]
  with_reducible
    repeat' first
      | assumption | exact orSub (by decide) hm | apply ev_stopAt | apply ev_finishNow | apply heffect | apply Ev.ite

theorem ev_recordCmd {a s : State} (h : Ev m a s) (hm : 3434938372 ||| m = m) (g fam sub effect) (heffect : ∀ y0 y1, Ev m a y1 → Ev m a (effect y0 y1)) :
    EvOut m a (recordCmd g fam sub effect s) := by
  dsimp only [recordCmd]
  with_reducible
    repeat' first
      | apply EvOut.guardDo | apply EvOut.next | assumption | intro _ | apply ev_issueRecord | apply heffect | split

theorem ev_withEcc {a s : State} (h : Ev m a s) (hm : 3434938372 ||| m = m) (g o ecc effect) (heffect : ∀ y0, Ev m a y0 → Ev m a (effect y0)) :
    Ev m a (withEcc s g o ecc effect) := by
  dsimp only [withEcc]
  with_reducible
    repeat' first
      | assumption | exact orSub (by decide) hm | apply ev_raise | apply ev_addF | apply ev_stopAt | apply heffect
      | apply Ev.ite | split

end Sys2Proof.Machine
end

