-- ==== Sys2Proof/Laws/Ev05.lean ====
section
/-! SUPPORT. Laws/Ev05.lean: `Ev` of every operation of Machine/Hoist.lean, Machine/Syn.lean. -/

namespace Sys2Proof.Machine

open Sys2Proof

/-! ## Machine/Hoist.lean -/

theorem ev_movStopAt {a s : State} (h : Ev m a s) (hm : 3434938372 ||| m = m) (g o x) : Ev m a (movStopAt s g o x) := by
  dsimp only [movStopAt]
  with_reducible
    repeat' first
      | assumption | exact orSub (by decide) hm | apply ev_recordErr | apply ev_stopAt | apply Ev.ite

theorem ev_sendFrameTo {a s : State} (h : Ev m a s) (hm : 134250496 ||| m = m) (g k f) : Ev m a (sendFrameTo s g k f) := by
  dsimp only [sendFrameTo]
  with_reducible
    repeat' first
      | assumption | exact orSub (by decide) hm | apply ev_queueData | apply ev_inject | apply Ev.ite

theorem ev_sendRemote {a s : State} (h : Ev m a s) (hm : 134512640 ||| m = m) (g o k cls desc dst ops) :
    Ev m a (sendRemote s g o k cls desc dst ops) := by
  dsimp only [sendRemote]
  with_reducible
    repeat' first
      | assumption | intro _ | exact orSub (by decide) hm | apply ev_startIssue | apply ev_State_updLink
      | apply ev_sendFrameTo | apply Ev.foldl

theorem ev_moveRemote {a s : State} (h : Ev m a s) (hm : 137134084 ||| m = m) (g o d) : Ev m a (moveRemote g o d s) := by
  dsimp only [moveRemote]
  with_reducible
    repeat' first
      | assumption | exact orSub (by decide) hm | apply ev_sendRemote | apply ev_xferSpoil | apply ev_hoistCount
      | apply ev_xferFail | apply ev_startIssue | split

theorem ev_spoilRest {a s : State} (h : Ev m a s) (hm : 262144 ||| m = m) (g d row off) :
    Ev m a (spoilRest s g d row off) := by
  dsimp only [spoilRest]
  with_reducible repeat' first | assumption | intro _ | apply ev_markSpoil | apply Ev.ite | apply Ev.foldl

theorem ev_moveFar {a s : State} (h : Ev m a s) (hm : 2916356 ||| m = m) (g o d) : Ev m a (moveFar g o d s) := by
  dsimp only [moveFar]
  with_reducible
    repeat' first
      | assumption | intro _ | exact orSub (by decide) hm | apply ev_xferFail | apply ev_spoilRest | apply ev_startIssue
      | apply ev_hoistCount | apply ev_denyBed | apply ev_inject | apply ev_xferStep | apply Ev.ite | apply Ev.foldl | split

theorem ev_runRows {a : State} (step : State → Nat → RowRes) (hf : ∀ t r, Ev m a t → Ev m a (step t r).st) (l : List Nat)
    {s : State} (h : Ev m a s) (sp : Bool) : Ev m a (runRows step l s sp).1.st := by
  induction l generalizing s sp with
  | nil => exact h
  | cons r rs ih =>
    unfold runRows
    dsimp only
    split
    · exact hf s r h
    · exact ih (hf s r h) _

theorem ev_runPieces {α : Type} {a : State} {step : State → α → RowRes} (hf : ∀ t r, Ev m a t → Ev m a (step t r).st)
    {s : State} (h : Ev m a s) (l : List α) (sp : Bool) : Ev m a (runPieces step l s sp).st := by
  induction l generalizing s sp with
  | nil => exact h
  | cons r rs ih =>
    unfold runPieces
    dsimp only
    split
    · exact hf s r h
    · exact ih (hf s r h) _

theorem ev_claimFail {a s : State} (h : Ev m a s) (hm : 2621444 ||| m = m) (g r x off) : Ev m a (claimFail s g r x off).st := by
  dsimp only [claimFail]
  with_reducible repeat' first | assumption | apply ev_denyBed

theorem ev_fillLine {a s : State} (h : Ev m a s) (hm : 3014660 ||| m = m) (g line home) :
    EvP m a (fillLine s g line home) := by
  dsimp only [fillLine]
  with_reducible
    repeat' first
      | assumption | intro _ | exact orSub (by decide) hm | apply ev_bedRead | apply Ev.updFace | apply ev_hoistCount
      | apply EvP.fst | apply mputs_wf | simp only [EvP.mk_iff]

theorem ev_putBack {a s : State} (h : Ev m a s) (hm : 393220 ||| m = m) (g line) : Ev m a (putBack s g line) := by
  dsimp only [putBack]
  with_reducible
    repeat' first
      | assumption | intro _ | exact orSub (by decide) hm | apply ev_writeBackLine | apply Ev.updFace | apply ev_hoistCount

theorem ev_fetchLine {a s : State} (h : Ev m a s) (hm : 3014660 ||| m = m) (g face far j) : Ev m a (fetchLine g face far s j).st := by
  dsimp only [fetchLine]
  with_reducible
    repeat' first
      | assumption | exact orSub (by decide) hm | apply ev_claimFail | apply ev_hoistCount | apply ev_fillLine
      | apply EvP.fst | apply ev_putBack | split

theorem ev_writeBackOne {a s : State} (h : Ev m a s) (hm : 3014660 ||| m = m) (g face j) : Ev m a (writeBackOne g face s j).st := by
  dsimp only [writeBackOne]
  with_reducible repeat' first | assumption | exact orSub (by decide) hm | apply ev_claimFail | apply ev_putBack | split

theorem ev_discardLine {a s : State} (h : Ev m a s) (hm : 393216 ||| m = m) (g face j) : Ev m a (discardLine g face s j).st := by
  dsimp only [discardLine]
  with_reducible
    repeat' first
      | assumption | intro _ | exact orSub (by decide) hm | apply Ev.updFace | apply Ev.updBed | apply bk_wearLine | split

-- no state argument: RowRes.st

theorem ev_loadRow {a s : State} (h : Ev m a s) (hm : 3014660 ||| m = m) (g d r) : Ev m a (loadRow g d s r).st := by
  dsimp only [loadRow]
  with_reducible
    repeat' first
      | assumption | intro _ | exact orSub (by decide) hm | apply ev_claimFail | apply ev_hoistCount | apply ev_markSpoil
      | apply ev_sramWrite | apply ev_readPieces | apply EvP.fst | apply Ev.foldl | split

theorem ev_storePiece {a s : State} (h : Ev m a s) (hm : 2752516 ||| m = m) (g region face p) : Ev m a (storePiece g region face s p).st := by
  dsimp only [storePiece]
  with_reducible
    repeat' first
      | assumption | exact orSub (by decide) hm | apply ev_claimFail | apply ev_hoistCount | apply ev_bedWrite | split

theorem ev_storeRow {a s : State} (h : Ev m a s) (hm : 2752516 ||| m = m) (g d r) : Ev m a (storeRow g d s r).st := by
  dsimp only [storeRow]
  with_reducible repeat' first | assumption | intro _ | apply ev_runPieces | apply ev_storePiece | split

theorem ev_copyRow {a s : State} (h : Ev m a s) (hm : 393220 ||| m = m) (g d r) : Ev m a (copyRow g d s r).st := by
  dsimp only [copyRow]
  with_reducible repeat' first | assumption | exact orSub (by decide) hm | apply ev_hoistCount | apply ev_writeLoad | split

theorem ev_moveRow {a s : State} (h : Ev m a s) (hm : 3014660 ||| m = m) (g d r) : Ev m a (moveRow g d s r).st := by
  dsimp only [moveRow]
  with_reducible
    repeat' first
      | assumption | intro _ | exact orSub (by decide) hm | apply ev_runPieces | apply ev_fetchLine | apply ev_writeBackOne
      | apply ev_discardLine | apply ev_loadRow | apply ev_storeRow | apply ev_copyRow | split

theorem ev_moveLocal {a s : State} (h : Ev m a s) (hm : 3014660 ||| m = m) (g o d) : Ev m a (moveLocal g o d s) := by
  dsimp only [moveLocal]
  have k := ev_runRows (moveRow g d) (fun t r ht => ev_moveRow ht (orSub (by decide) hm) g d r) (List.range d.rows)
    (ev_startIssue h (orSub (by decide) hm) g o (if (d.op == 1 || d.op == 4) = true then
      IssueSt.writes (if d.op = 1 then faceRegion g else d.region) d.op d.addr else IssueSt.done)) false
  split
  · exact ev_xferFail (ev_spoilRest k (orSub (by decide) hm) _ _ _ _) (orSub (by decide) hm) _ _ _ _ _ _
  · exact ev_xferSpoil k (orSub (by decide) hm) _ _

theorem ev_movEffect {a s : State} (h : Ev m a s) (hm : 3435102212 ||| m = m) (g ecc errs o) :
    Ev m a (movEffect g ecc errs o s) := by
  dsimp only [movEffect]
  with_reducible
    repeat' first
      | assumption | intro _ | exact orSub (by decide) hm | apply ev_movStopAt | apply ev_withEcc | apply ev_moveRemote
      | apply ev_ageLines | apply ev_moveFar | apply ev_moveLocal | apply Ev.ite | split

theorem ev_hoistCmd {a s : State} (h : Ev m a s) (hm : 3435102212 ||| m = m) (g op ecc errs) :
    EvOut m a (hoistCmd g op ecc errs s) := by
  dsimp only [hoistCmd]
  with_reducible
    repeat' first
      | apply EvOut.guardDo | apply EvOut.next | assumption | intro _ | exact orSub (by decide) hm | apply ev_issueRecord
      | apply ev_movEffect | split

theorem ev_execFetch {a s : State} (h : Ev m a s) (hm : 3435102212 ||| m = m) (g ecc errs) :
    EvOut m a (execFetch g ecc errs s) := by
  dsimp only [execFetch]
  with_reducible repeat' first | assumption | apply ev_hoistCmd

theorem ev_execWriteback {a s : State} (h : Ev m a s) (hm : 3435102212 ||| m = m) (g ecc) :
    EvOut m a (execWriteback g ecc s) := by
  dsimp only [execWriteback]
  with_reducible repeat' first | assumption | apply ev_hoistCmd

theorem ev_execDiscard {a s : State} (h : Ev m a s) (hm : 3435102212 ||| m = m) (g ecc) :
    EvOut m a (execDiscard g ecc s) := by
  dsimp only [execDiscard]
  with_reducible repeat' first | assumption | apply ev_hoistCmd

theorem ev_execLoad {a s : State} (h : Ev m a s) (hm : 3435102212 ||| m = m) (g ecc errs) :
    EvOut m a (execLoad g ecc errs s) := by
  dsimp only [execLoad]
  with_reducible repeat' first | assumption | apply ev_hoistCmd

theorem ev_execStore {a s : State} (h : Ev m a s) (hm : 3435102212 ||| m = m) (g ecc) : EvOut m a (execStore g ecc s) := by
  dsimp only [execStore]
  with_reducible repeat' first | assumption | apply ev_hoistCmd

theorem ev_execCopy {a s : State} (h : Ev m a s) (hm : 3435102212 ||| m = m) (g ecc) : EvOut m a (execCopy g ecc s) := by
  dsimp only [execCopy]
  with_reducible repeat' first | assumption | apply ev_hoistCmd

/-! ## Machine/Syn.lean -/

theorem ev_syncReset {a s : State} (h : Ev m a s) (hm : 3434938372 ||| m = m) (r) : Ev m a (syncReset s r) := by
  dsimp only [syncReset]
  with_reducible
    repeat' first
      | assumption | intro _ | exact orSub (by decide) hm | apply ev_State_updSync | apply ev_opFail | apply ev_jobStop
      | apply Ev.foldl

theorem ev_sigApply {a s : State} (h : Ev m a s) (hm : 65536 ||| m = m) (r src sub obj) :
    Ev m a (sigApply s r src sub obj) := by
  dsimp only [sigApply]
  with_reducible repeat' first | assumption | apply ev_State_updSync

theorem ev_snapBegin {a s : State} (h : Ev m a s) (hm : 65540 ||| m = m) (r save result seq addr) :
    Ev m a (snapBegin s r save result seq addr) := by
  dsimp only [snapBegin]
  with_reducible repeat' first | assumption | exact orSub (by decide) hm | apply Ev.setF | apply ev_State_updSync

theorem ev_snapSave {a s : State} (h : Ev m a s) (hm : 2818052 ||| m = m) (r j) : Ev m a (snapSave s r j) := by
  dsimp only [snapSave]
  with_reducible
    repeat' first
      | assumption | exact orSub (by decide) hm | apply ev_snapBegin | apply ev_bedWrite | apply Ev.ite

theorem ev_snapRestoreFrom {a s : State} (h : Ev m a s) (hm : 65536 ||| m = m) (r j x) : Ev m a (snapRestoreFrom s r j x).2.2 := by
  dsimp only [snapRestoreFrom]
  repeat' first
    | with_reducible assumption
    | with_reducible apply ev_State_updSync
    | exact orSub (by decide) hm
    | split

theorem ev_snapRestore {a s : State} (h : Ev m a s) (hm : 65540 ||| m = m) (r j) : Ev m a (snapRestore s r j) := by
  dsimp only [snapRestore]
  exact ev_snapBegin (ev_snapRestoreFrom h (orSub (by decide) hm) _ _ _) (orSub (by decide) hm) _ _ _ _ _

theorem ev_setObjOf {a s : State} (h : Ev m a s) (hm : 65536 ||| m = m) (r o x) : Ev m a (setObjOf s r o x) := by
  dsimp only [setObjOf]
  with_reducible repeat' first | assumption | apply ev_State_updSync

theorem ev_objCfgSet {a s : State} (h : Ev m a s) (hm : 65536 ||| m = m) (r o v) : Ev m a (objCfgSet s r o v) := by
  dsimp only [objCfgSet]
  with_reducible repeat' first | assumption | apply ev_setObjOf

theorem ev_noteRefusal {a s : State} (h : Ev m a s) (hm : 2621444 ||| m = m) (r obj sub reason src) :
    Ev m a (noteRefusal s r obj sub reason src) := by
  dsimp only [noteRefusal]
  with_reducible
    repeat' first
      | assumption | exact orSub (by decide) hm | apply Ev.setF | apply ev_addF | apply ev_raise | apply ev_recordErr

theorem ev_synRemote {a s : State} (h : Ev m a s) (hm : 3434971140 ||| m = m) (g o) : Ev m a (synRemote g o s) := by
  dsimp only [synRemote]
  with_reducible
    repeat' first
      | assumption | exact orSub (by decide) hm | apply ev_sendRemote | apply ev_noteRefusal | apply ev_startIssue
      | apply ev_syncFail | split

theorem ev_synLocal {a s : State} (h : Ev m a s) (hm : 3434971140 ||| m = m) (g sub o) : Ev m a (synLocal g sub o s) := by
  dsimp only [synLocal]
  with_reducible
    repeat' first
      | assumption | exact orSub (by decide) hm | apply ev_startIssue | apply ev_sendOp | apply ev_syncFail | apply Ev.ite

theorem ev_synEffect {a s : State} (h : Ev m a s) (hm : 3434971140 ||| m = m) (g sub o) : Ev m a (synEffect g sub o s) := by
  dsimp only [synEffect]
  with_reducible
    repeat' first
      | assumption | exact orSub (by decide) hm | apply ev_endAndCheck | apply ev_synRemote | apply ev_synLocal
      | apply Ev.ite

theorem ev_synCmd {a s : State} (h : Ev m a s) (hm : 3434971140 ||| m = m) (g sub) : EvOut m a (synCmd g sub s) := by
  dsimp only [synCmd]
  with_reducible
    repeat' first
      | apply EvOut.guardDo | apply EvOut.next | assumption | intro _ | exact orSub (by decide) hm | apply ev_issueRecord
      | apply ev_synEffect | split

theorem ev_execSynAdd {a s : State} (h : Ev m a s) (hm : 3434971140 ||| m = m) (g) : EvOut m a (execSynAdd g s) := by
  dsimp only [execSynAdd]
  with_reducible repeat' first | assumption | apply ev_synCmd

theorem ev_execSynWaitGe {a s : State} (h : Ev m a s) (hm : 3434971140 ||| m = m) (g) : EvOut m a (execSynWaitGe g s) := by
  dsimp only [execSynWaitGe]
  with_reducible repeat' first | assumption | apply ev_synCmd

theorem ev_execSynSet {a s : State} (h : Ev m a s) (hm : 3434971140 ||| m = m) (g) : EvOut m a (execSynSet g s) := by
  dsimp only [execSynSet]
  with_reducible repeat' first | assumption | apply ev_synCmd

theorem ev_execSynClear {a s : State} (h : Ev m a s) (hm : 3434971140 ||| m = m) (g) : EvOut m a (execSynClear g s) := by
  dsimp only [execSynClear]
  with_reducible repeat' first | assumption | apply ev_synCmd

theorem ev_execSynWaitSet {a s : State} (h : Ev m a s) (hm : 3434971140 ||| m = m) (g) :
    EvOut m a (execSynWaitSet g s) := by
  dsimp only [execSynWaitSet]
  with_reducible repeat' first | assumption | apply ev_synCmd

theorem ev_execSynAcquire {a s : State} (h : Ev m a s) (hm : 3434971140 ||| m = m) (g) :
    EvOut m a (execSynAcquire g s) := by
  dsimp only [execSynAcquire]
  with_reducible repeat' first | assumption | apply ev_synCmd

theorem ev_execSynRelease {a s : State} (h : Ev m a s) (hm : 3434971140 ||| m = m) (g) :
    EvOut m a (execSynRelease g s) := by
  dsimp only [execSynRelease]
  with_reducible repeat' first | assumption | apply ev_synCmd

theorem ev_execSynArrive {a s : State} (h : Ev m a s) (hm : 3434971140 ||| m = m) (g) : EvOut m a (execSynArrive g s) := by
  dsimp only [execSynArrive]
  with_reducible repeat' first | assumption | apply ev_synCmd

theorem ev_execSynArriveWait {a s : State} (h : Ev m a s) (hm : 3434971140 ||| m = m) (g) :
    EvOut m a (execSynArriveWait g s) := by
  dsimp only [execSynArriveWait]
  with_reducible repeat' first | assumption | apply ev_synCmd

theorem ev_execSynRead {a s : State} (h : Ev m a s) (hm : 3434971140 ||| m = m) (g) : EvOut m a (execSynRead g s) := by
  dsimp only [execSynRead]
  with_reducible repeat' first | assumption | apply ev_synCmd

theorem ev_verdictEffect {a s : State} (h : Ev m a s) (hm : 1074003968 ||| m = m) (g o) : Ev m a (verdictEffect g o s) := by
  dsimp only [verdictEffect]
  with_reducible repeat' first | assumption | exact orSub (by decide) hm | apply ev_startIssue | apply ev_post | apply Ev.ite

theorem ev_execSynVerdict {a s : State} (h : Ev m a s) (hm : 3434938372 ||| m = m) (g) :
    EvOut m a (execSynVerdict g s) := by
  dsimp only [execSynVerdict]
  with_reducible
    repeat' first
      | apply EvOut.next | apply EvOut.ite | assumption | intro _ | exact orSub (by decide) hm | apply ev_recordCmd
      | apply ev_verdictEffect

theorem ev_corruptObj {a s : State} (h : Ev m a s) (hm : 2686980 ||| m = m) (r o) : Ev m a (corruptObj s r o) := by
  dsimp only [corruptObj]
  with_reducible
    repeat' first
      | assumption | exact orSub (by decide) hm | apply ev_State_updSync | apply ev_raise | apply ev_recordErr

theorem ev_refuseOp {a s : State} (h : Ev m a s) (hm : 3434938372 ||| m = m) (r op reason) :
    Ev m a (refuseOp s r op reason) := by
  dsimp only [refuseOp]
  with_reducible
    repeat' first
      | assumption | exact orSub (by decide) hm | apply ev_noteRefusal | apply ev_syncFail | apply ev_signalReply | split

theorem ev_wakeWaiters {a s : State} (h : Ev m a s) (hm : 137166852 ||| m = m) (r p) : Ev m a (wakeWaiters s r p) := by
  dsimp only [wakeWaiters]
  with_reducible
    repeat' first
      | assumption | intro _ | exact orSub (by decide) hm | apply ev_State_updSync | apply ev_answer | apply Ev.foldl

theorem ev_countOp {a s : State} (h : Ev m a s) (hm : 4 ||| m = m) (r) : Ev m a (countOp s r) := by
  dsimp only [countOp]
  with_reducible repeat' first | assumption | apply ev_addF

theorem ev_enterWait {a s : State} (h : Ev m a s) (hm : 2949124 ||| m = m) (r op gen) : EvP m a (enterWait s r op gen) := by
  dsimp only [enterWait]
  with_reducible
    repeat' first
      | assumption | intro _ | exact orSub (by decide) hm | apply ev_raise | apply ev_addF | apply Ev.updFace
      | apply fk_FaceSt_setIssue | apply ev_State_updSync | apply EvP.ite | split | simp only [EvP.mk_iff]

theorem ev_applyWait {a s : State} (h : Ev m a s) (hm : 137166852 ||| m = m) (r op x sat) :
    Ev m a (applyWait s r op x sat) := by
  dsimp only [applyWait]
  with_reducible
    repeat' first
      | assumption | exact orSub (by decide) hm | apply ev_answer | apply ev_countOp | apply ev_setObjOf | apply ev_enterWait
      | apply Ev.ite | apply EvP.fst

theorem ev_applyAcquire {a s : State} (h : Ev m a s) (hm : 3434938372 ||| m = m) (r op x) :
    Ev m a (applyAcquire s r op x) := by
  dsimp only [applyAcquire]
  with_reducible
    repeat' first
      | assumption | exact orSub (by decide) hm | apply ev_answer | apply ev_countOp | apply ev_setObjOf | apply ev_refuseOp
      | apply ev_applyWait | apply Ev.ite | split

theorem ev_applyRelease {a s : State} (h : Ev m a s) (hm : 3434938372 ||| m = m) (r op x) :
    Ev m a (applyRelease s r op x) := by
  dsimp only [applyRelease]
  with_reducible
    repeat' first
      | assumption | exact orSub (by decide) hm | apply ev_setObjOf | apply ev_answer | apply ev_countOp | apply ev_handLock
      | apply ev_refuseOp | apply Ev.ite | split

theorem ev_applyArrive {a s : State} (h : Ev m a s) (hm : 3434938372 ||| m = m) (r op x fresh) :
    Ev m a (applyArrive s r op x fresh) := by
  dsimp only [applyArrive]
  with_reducible
    repeat' first
      | assumption | exact orSub (by decide) hm | apply ev_refuseOp | apply ev_setObjOf | apply ev_wakeWaiters
      | apply ev_answer | apply ev_countOp | apply ev_enterWait | apply Ev.ite | apply EvP.fst

theorem ev_applyEffect {a s : State} (h : Ev m a s) (hm : 3434938372 ||| m = m) (r op x fresh) :
    Ev m a (applyEffect s r op x fresh) := by
  dsimp only [applyEffect]
  with_reducible
    repeat' first
      | assumption | exact orSub (by decide) hm | apply ev_wakeWaiters | apply ev_setObjOf | apply ev_answer
      | apply ev_countOp | apply ev_applyWait | apply ev_applyAcquire | apply ev_applyRelease | apply ev_applyArrive | split

theorem ev_applyOp {a s : State} (h : Ev m a s) (hm : 3434938372 ||| m = m) (r op) : Ev m a (applyOp s r op) := by
  dsimp only [applyOp]
  with_reducible repeat' first | assumption | apply ev_refuseOp | apply ev_applyEffect | apply Ev.ite | split

theorem ev_execSyncOperationApply {a s : State} (h : Ev m a s) (hm : 3434938372 ||| m = m) (r bad) :
    EvOut m a (execSyncOperationApply r bad s) := by
  dsimp only [execSyncOperationApply]
  with_reducible
    repeat' first
      | apply EvOut.guardDo | apply EvOut.next | assumption | intro _ | exact orSub (by decide) hm | apply ev_State_updSync
      | apply ev_corruptObj | apply ev_applyOp | apply Ev.ite | split

theorem ev_execWaitRetry {a s : State} (h : Ev m a s) (hm : 3434971140 ||| m = m) (g i) :
    EvOut m a (execWaitRetry g i s) := by
  dsimp only [execWaitRetry]
  with_reducible
    repeat' first
      | apply EvOut.guardDo | apply EvOut.next | assumption | intro _ | exact orSub (by decide) hm | apply Ev.updFace
      | apply fk_FaceSt_setIssue | apply ev_sendOp | apply ev_syncFail | apply Ev.ite | split

theorem ev_snapEnd {a s : State} (h : Ev m a s) (hm : 2686980 ||| m = m) (r x) : Ev m a (snapEnd s r x) := by
  dsimp only [snapEnd]
  with_reducible
    repeat' first
      | assumption | exact orSub (by decide) hm | apply Ev.setF | apply ev_State_updSync | apply ev_raise
      | apply ev_recordErr | apply Ev.ite

theorem ev_execSnapComplete {a s : State} (h : Ev m a s) (hm : 2686980 ||| m = m) (r) :
    EvOut m a (execSnapComplete r s) := by
  dsimp only [execSnapComplete]
  with_reducible repeat' first | apply EvOut.guardDo | apply EvOut.next | assumption | intro _ | apply ev_snapEnd | split

end Sys2Proof.Machine
end

