-- ==== Sys2Proof/Laws/Ev06.lean ====
section
/-! SUPPORT. Laws/Ev06.lean: `Ev` of every operation of Machine/Admit.lean, Machine/RunStop.lean, Machine/Escalation.lean. -/

namespace Sys2Proof.Machine

open Sys2Proof

/-! ## Machine/Admit.lean -/

theorem ev_admitStart {a s : State} (h : Ev m a s) (hm : 1074790400 ||| m = m) (j) : Ev m a (admitStart s j) := by
  dsimp only [admitStart]
  with_reducible
    repeat' first
      | assumption | intro _ | exact orSub (by decide) hm | apply ev_post | apply ev_State_updJob | apply Ev.ite
      | apply Ev.foldl

theorem ev_admitNext {a s : State} (h : Ev m a s) (hm : 205324292 ||| m = m) (j step) : Ev m a (admitNext s j step) := by
  dsimp only [admitNext]
  with_reducible
    repeat' first
      | assumption | exact orSub (by decide) hm | apply ev_admitEnd | apply ev_State_updJob | apply Ev.ite

theorem ev_admitTicket {a s : State} (h : Ev m a s) (hm : 205324292 ||| m = m) (j) : Ev m a (admitTicket s j) := by
  dsimp only [admitTicket]
  with_reducible repeat' first | assumption | apply ev_admitNext | apply Ev.ite

theorem ev_admitLinks {a s : State} (h : Ev m a s) (hm : 205324292 ||| m = m) (j) : Ev m a (admitLinks s j) := by
  dsimp only [admitLinks]
  with_reducible
    repeat' first
      | assumption | intro _ | exact orSub (by decide) hm | apply ev_admitNext | apply ev_linkAddJob | apply Ev.ite
      | apply Ev.foldl

theorem ev_ownSyncs {a s : State} (h : Ev m a s) (hm : 65536 ||| m = m) (j) : Ev m a (ownSyncs s j) := by
  dsimp only [ownSyncs]
  with_reducible repeat' first | assumption | intro _ | apply ev_State_updSync | apply Ev.foldl

theorem ev_admitSyncs {a s : State} (h : Ev m a s) (hm : 205324292 ||| m = m) (j) : Ev m a (admitSyncs s j) := by
  dsimp only [admitSyncs]
  with_reducible
    repeat' first
      | assumption | exact orSub (by decide) hm | apply ev_admitNext | apply ev_ownSyncs | apply Ev.ite

theorem ev_admitImages {a s : State} (h : Ev m a s) (hm : 205324292 ||| m = m) (j) : Ev m a (admitImages s j) := by
  dsimp only [admitImages]
  with_reducible repeat' first | assumption | apply ev_admitNext | apply Ev.ite

theorem ev_installClaims {a s : State} (h : Ev m a s) (hm : 70778884 ||| m = m) (j) : Ev m a (installClaims s j) := by
  dsimp only [installClaims]
  with_reducible repeat' first | assumption | exact orSub (by decide) hm | apply ev_epochChange | apply ev_State_updJob

theorem ev_admitKeys {a s : State} (h : Ev m a s) (hm : 205324292 ||| m = m) (j) : Ev m a (admitKeys s j) := by
  dsimp only [admitKeys]
  with_reducible
    repeat' first
      | assumption | exact orSub (by decide) hm | apply ev_admitFail | apply ev_State_updWb | apply ev_raise
      | apply ev_admitNext | apply ev_installClaims | apply Ev.ite | split

theorem ev_admitRegions {a s : State} (h : Ev m a s) (hm : 205324292 ||| m = m) (j) : Ev m a (admitRegions s j) := by
  dsimp only [admitRegions]
  with_reducible repeat' first | assumption | apply ev_admitFail | apply ev_admitNext | apply Ev.ite | split

theorem ev_admitGo {a s : State} (h : Ev m a s) (hm : 1279066116 ||| m = m) (j) : Ev m a (admitGo s j) := by
  dsimp only [admitGo]
  with_reducible
    repeat' first
      | assumption | exact orSub (by decide) hm | apply ev_admitStart | apply ev_admitTicket | apply ev_admitLinks
      | apply ev_admitSyncs | apply ev_admitImages | apply ev_admitKeys | apply ev_admitRegions

theorem ev_admitAll {a s : State} (h : Ev m a s) (hm : 1279066116 ||| m = m) : Ev m a (admitAll s) := by
  dsimp only [admitAll]
  with_reducible repeat' first | assumption | intro _ | apply ev_admitGo | apply Ev.foldl

theorem ev_admitBegin {a s : State} (h : Ev m a s) (hm : 3426607108 ||| m = m) (j) : Ev m a (admitBegin s j) := by
  dsimp only [admitBegin]
  with_reducible
    repeat' first
      | assumption | intro _ | exact orSub (by decide) hm | apply ev_State_updJob | apply ev_startRegion | apply ev_admitFail
      | apply ev_admitGo | apply Ev.ite | apply Ev.foldl | apply EvP.fst

/-! ## Machine/RunStop.lean -/

theorem ev_wakeLost {a s : State} (h : Ev m a s) (hm : 3434938372 ||| m = m) (r) : Ev m a (wakeLost s r) := by
  dsimp only [wakeLost]
  with_reducible
    repeat' first
      | assumption | intro _ | exact orSub (by decide) hm | apply ev_admitLost | apply ev_escFaceLost | apply Ev.ite
      | apply Ev.foldl

theorem ev_wakeBegin {a s : State} (h : Ev m a s) (hm : 3434962948 ||| m = m) (r) : Ev m a (wakeBegin s r) := by
  dsimp only [wakeBegin]
  with_reducible
    repeat' first
      | assumption | exact orSub (by decide) hm | apply ev_State_updRegion | apply ev_logPower | apply ev_wakeLost
      | apply Ev.ite | split | simp only [Ev.raw_wakeQ (orSub (by decide) hm)]

theorem ev_execWakeCommand {a s : State} (h : Ev m a s) (hm : 3434962948 ||| m = m) (r) :
    EvOut m a (execWakeCommand r s) := by
  dsimp only [execWakeCommand]
  with_reducible repeat' first | apply EvOut.guardDo | assumption | intro _ | apply ev_wakeBegin

theorem ev_wakeEnd {a s : State} (h : Ev m a s) (hm : 3988775036 ||| m = m) (r lockUs) : Ev m a (wakeEnd s r lockUs) := by
  dsimp only [wakeEnd]
  with_reducible
    repeat' first
      | assumption | intro _ | exact orSub (by decide) hm | apply ev_enterRun | apply ev_State_updRegion | apply Ev.updBed
      | apply ev_requestStop | apply ev_admitAll | apply ev_escProgress | apply ev_restoreConnectivity | apply Ev.ite | split

theorem ev_execWakeComplete {a s : State} (h : Ev m a s) (hm : 3988775036 ||| m = m) (r lockUs) :
    EvOut m a (execWakeComplete r lockUs s) := by
  dsimp only [execWakeComplete]
  with_reducible repeat' first | apply EvOut.guardDo | assumption | intro _ | apply ev_wakeEnd

theorem ev_wakeFail {a s : State} (h : Ev m a s) (hm : 4257217148 ||| m = m) (r) : Ev m a (wakeFail s r) := by
  dsimp only [wakeFail]
  with_reducible
    repeat' first
      | assumption | exact orSub (by decide) hm | apply ev_State_updRegion | apply ev_restoreConnectivity | apply ev_wakeLost
      | apply ev_failRegion | apply Ev.ite

theorem ev_execWakeTimeout {a s : State} (h : Ev m a s) (hm : 4257217148 ||| m = m) (r) :
    EvOut m a (execWakeTimeout r s) := by
  dsimp only [execWakeTimeout]
  with_reducible repeat' first | apply EvOut.guardDo | assumption | intro _ | apply ev_wakeFail

theorem ev_execWakeRetry {a s : State} (h : Ev m a s) (hm : 8192 ||| m = m) (r) : EvOut m a (execWakeRetry r s) := by
  dsimp only [execWakeRetry]
  with_reducible repeat' first | apply EvOut.guardDo | assumption | intro _ | apply ev_State_updRegion

theorem ev_stopBegin {a s : State} (h : Ev m a s) (hm : 3435110404 ||| m = m) (r eccs) : Ev m a (stopBegin s r eccs) := by
  dsimp only [stopBegin]
  with_reducible repeat' first | assumption | apply ev_beginStop | split | simp only [Ev.raw_stopQ (orSub (by decide) hm)]

theorem ev_execStopHandshake {a s : State} (h : Ev m a s) (hm : 3435110404 ||| m = m) (r eccs) :
    EvOut m a (execStopHandshake r eccs s) := by
  dsimp only [execStopHandshake]
  with_reducible repeat' first | apply EvOut.guardDo | assumption | intro _ | apply ev_stopBegin

theorem ev_agentAnswers {a s : State} (h : Ev m a s) (hm : 2150146052 ||| m = m) (r agent) :
    Ev m a (agentAnswers s r agent) := by
  dsimp only [agentAnswers]
  with_reducible
    repeat' first
      | assumption | exact orSub (by decide) hm | apply ev_State_updRegion | apply ev_raise | apply ev_endWithoutStop
      | apply Ev.ite | split

theorem ev_execHandshakeAnswer {a s : State} (h : Ev m a s) (hm : 2150146052 ||| m = m) (r agent) :
    EvOut m a (execHandshakeAnswer r agent s) := by
  dsimp only [execHandshakeAnswer]
  with_reducible repeat' first | apply EvOut.guardDo | assumption | intro _ | apply ev_agentAnswers

theorem ev_answerNone {a s : State} (h : Ev m a s) (hm : 8192 ||| m = m) (r agent) : Ev m a (answerNone s r agent) := by
  dsimp only [answerNone]
  with_reducible repeat' first | assumption | apply ev_State_updRegion

theorem ev_execAnswerTimeout {a s : State} (h : Ev m a s) (hm : 8192 ||| m = m) (r agent) :
    EvOut m a (execAnswerTimeout r agent s) := by
  dsimp only [execAnswerTimeout]
  with_reducible repeat' first | apply EvOut.guardDo | assumption | intro _ | apply ev_answerNone

theorem ev_deadline {a s : State} (h : Ev m a s) (hm : 4257212540 ||| m = m) (r) : Ev m a (deadline s r) := by
  dsimp only [deadline]
  with_reducible
    repeat' first
      | assumption | exact orSub (by decide) hm | apply ev_putResult | apply ev_addF | apply ev_raise | apply ev_leaveRun
      | apply ev_logPower | apply ev_tamperGoesOn | apply ev_releaseTransit | apply ev_restoreConnectivity
      | apply ev_endWithoutStop | apply Ev.ite | split

theorem ev_execHandshakeDeadline {a s : State} (h : Ev m a s) (hm : 4257212540 ||| m = m) (r) :
    EvOut m a (execHandshakeDeadline r s) := by
  dsimp only [execHandshakeDeadline]
  with_reducible repeat' first | apply EvOut.guardDo | assumption | intro _ | apply ev_deadline

theorem ev_stopDone {a s : State} (h : Ev m a s) (hm : 4257212540 ||| m = m) (r) : Ev m a (stopDone s r) := by
  dsimp only [stopDone]
  with_reducible
    repeat' first
      | assumption | exact orSub (by decide) hm | apply ev_putResult | apply ev_addF | apply ev_raise | apply ev_leaveRun
      | apply ev_logPower | apply ev_tamperGoesOn | apply ev_releaseTransit | apply ev_restoreConnectivity | apply Ev.ite
      | split

theorem ev_execRegionStopped {a s : State} (h : Ev m a s) (hm : 4257212540 ||| m = m) (r) :
    EvOut m a (execRegionStopped r s) := by
  dsimp only [execRegionStopped]
  with_reducible repeat' first | apply EvOut.guardDo | assumption | intro _ | apply ev_stopDone

theorem ev_execIdleTimeout {a s : State} (h : Ev m a s) (hm : 2147491840 ||| m = m) (r) :
    EvOut m a (execIdleTimeout r s) := by
  dsimp only [execIdleTimeout]
  with_reducible repeat' first | apply EvOut.guardDo | assumption | intro _ | apply ev_requestStop

theorem ev_noSensor {a s : State} (h : Ev m a s) (hm : 4257217148 ||| m = m) (r) : Ev m a (noSensor s r) := by
  dsimp only [noSensor]
  with_reducible
    repeat' first
      | assumption | exact orSub (by decide) hm | apply ev_bootDrop | apply ev_State_updEntry | apply ev_strand
      | apply ev_failRegion | apply ev_forceStopNow

theorem ev_thermStop {a s : State} (h : Ev m a s) (hm : 4257212540 ||| m = m) (r) : Ev m a (thermStop s r) := by
  dsimp only [thermStop]
  with_reducible
    repeat' first
      | assumption | exact orSub (by decide) hm | apply ev_raise | apply ev_State_updRegion | apply ev_forceStopNow

theorem ev_throttle {a s : State} (h : Ev m a s) (hm : 4257217148 ||| m = m) (r ts) : Ev m a (throttle s r ts) := by
  dsimp only [throttle]
  with_reducible
    repeat' first
      | assumption | exact orSub (by decide) hm | apply ev_commitPage | apply Ev.setF | apply ev_raise | apply ev_noSensor
      | apply ev_thermStop | apply Ev.ite | split

theorem ev_execThrottleEvaluation {a s : State} (h : Ev m a s) (hm : 4257217148 ||| m = m) (r sensors) :
    EvOut m a (execThrottleEvaluation r sensors s) := by
  dsimp only [execThrottleEvaluation]
  with_reducible repeat' first | apply EvOut.guardDo | assumption | intro _ | apply ev_throttle

theorem ev_execLockLost {a s : State} (h : Ev m a s) (hm : 4257217148 ||| m = m) (r) : EvOut m a (execLockLost r s) := by
  dsimp only [execLockLost]
  with_reducible
    repeat' first
      | apply EvOut.guardDo | assumption | intro _ | exact orSub (by decide) hm | apply ev_addF | apply ev_raise
      | apply ev_failRegion

theorem ev_execRegionFail {a s : State} (h : Ev m a s) (hm : 4257217148 ||| m = m) (r cause) :
    EvOut m a (execRegionFail r cause s) := by
  dsimp only [execRegionFail]
  with_reducible repeat' first | apply EvOut.guardDo | assumption | intro _ | apply ev_failRegion

theorem ev_execRerouteRelease {a s : State} (h : Ev m a s) (hm : 32768 ||| m = m) (src dst) :
    EvOut m a (execRerouteRelease src dst s) := by
  dsimp only [execRerouteRelease]
  with_reducible repeat' first | apply EvOut.guardDo | assumption | intro _ | apply ev_State_updRoad

theorem ev_noteLink {a s : State} (h : Ev m a s) (hm : 4096 ||| m = m) (l) : Ev m a (noteLink s l) := by
  dsimp only [noteLink]
  with_reducible repeat' first | assumption | apply ev_State_updBoot

theorem ev_execMeshLinkFail {a s : State} (h : Ev m a s) (hm : 2147547140 ||| m = m) (link) :
    EvOut m a (execMeshLinkFail link s) := by
  dsimp only [execMeshLinkFail]
  with_reducible
    repeat' first
      | apply EvOut.guardDo | assumption | intro _ | exact orSub (by decide) hm | apply ev_restoreConnectivity
      | apply ev_strand | apply ev_failLink | apply ev_noteLink

theorem ev_execStrandedStopRetry {a s : State} (h : Ev m a s) (hm : 2147491840 ||| m = m) (r) :
    EvOut m a (execStrandedStopRetry r s) := by
  dsimp only [execStrandedStopRetry]
  with_reducible repeat' first | apply EvOut.guardDo | assumption | intro _ | apply ev_requestStop

theorem ev_forward {a s : State} (h : Ev m a s) (hm : 3451879428 ||| m = m) (r cls) : Ev m a (forward s r cls) := by
  dsimp only [forward]
  with_reducible
    repeat' first
      | assumption | exact orSub (by decide) hm | apply ev_State_updRoad | apply ev_losePacket | apply ev_landPacket
      | apply Ev.ite | split

theorem ev_execHaulRoadPacket {a s : State} (h : Ev m a s) (hm : 3451879428 ||| m = m) (r cls) :
    EvOut m a (execHaulRoadPacket r cls s) := by
  dsimp only [execHaulRoadPacket]
  with_reducible repeat' first | apply EvOut.guardDo | assumption | intro _ | apply ev_forward

theorem ev_execThermalLockoutEnd {a s : State} (h : Ev m a s) (hm : 24576 ||| m = m) (r) :
    EvOut m a (execThermalLockoutEnd r s) := by
  dsimp only [execThermalLockoutEnd]
  with_reducible
    repeat' first
      | apply EvOut.guardDo | assumption | intro _ | exact orSub (by decide) hm | apply ev_restoreConnectivity
      | apply ev_State_updRegion

/-! ## Machine/Escalation.lean -/

theorem ev_escReset {a s : State} (h : Ev m a s) (hm : 3232235524 ||| m = m) : Ev m a (escReset s) := by
  dsimp only [escReset]
  with_reducible
    repeat' first
      | assumption | intro _ | exact orSub (by decide) hm | apply ev_demoteTo | apply ev_State_updEsc | apply Ev.foldl

theorem ev_promoteTo {a s : State} (h : Ev m a s) (hm : 3434995716 ||| m = m) (c pos flags score source zeroAt) :
    Ev m a (promoteTo s c pos flags score source zeroAt) := by
  dsimp only [promoteTo]
  with_reducible
    repeat' first
      | assumption | intro _ | exact orSub (by decide) hm | apply ev_raise | apply ev_State_updChain | apply ev_addF
      | apply ev_startTimer | apply ev_startRegion | apply ev_wakeLost | apply ev_progressChain | apply Ev.ite
      | apply Ev.foldl | apply EvP.fst

theorem ev_promoteCmd {a s : State} (h : Ev m a s) (hm : 3434995716 ||| m = m) (c) : Ev m a (promoteCmd s c) := by
  dsimp only [promoteCmd]
  with_reducible repeat' first | assumption | apply ev_promoteTo

theorem ev_storeSave {a s : State} (h : Ev m a s) (hm : 8388612 ||| m = m) : Ev m a (storeSave s) := by
  dsimp only [storeSave]
  with_reducible
    repeat' first
      | assumption | exact orSub (by decide) hm | apply Ev.setF | apply ev_State_updEsc | apply Ev.ite

theorem ev_chainOff {a s : State} (h : Ev m a s) (hm : 3232235524 ||| m = m) (c) : Ev m a (chainOff s c) := by
  dsimp only [chainOff]
  with_reducible repeat' first | assumption | exact orSub (by decide) hm | apply ev_State_updChain | apply ev_demoteTo

theorem ev_judgeChain {a s : State} (h : Ev m a s) (hm : 3232235524 ||| m = m) (c) : Ev m a (judgeChain s c) := by
  dsimp only [judgeChain]
  with_reducible
    repeat' first
      | assumption | exact orSub (by decide) hm | apply ev_chainOff | apply ev_State_updChain | apply ev_raise
      | apply ev_recordErr | apply Ev.ite

theorem ev_judgeChains {a s : State} (h : Ev m a s) (hm : 3232235524 ||| m = m) : Ev m a (judgeChains s) := by
  dsimp only [judgeChains]
  with_reducible repeat' first | assumption | intro _ | apply ev_judgeChain | apply Ev.foldl

theorem ev_escCommit {a s : State} (h : Ev m a s) (hm : 3232235532 ||| m = m) : Ev m a (escCommit s) := by
  dsimp only [escCommit]
  with_reducible
    repeat' first
      | assumption | intro _ | exact orSub (by decide) hm | apply ev_demoteTo | apply ev_judgeChains | apply ev_commitPage
      | apply Ev.ite | apply Ev.foldl

theorem ev_loadWord {a s : State} (h : Ev m a s) (hm : 4 ||| m = m) (ref i fs v) : Ev m a (loadWord s ref i fs v) := by
  dsimp only [loadWord]
  with_reducible repeat' first | assumption | intro _ | apply Ev.setF | apply Ev.foldl

theorem ev_chainStoreLoad {a s : State} (h : Ev m a s) (hm : 3232235524 ||| m = m) : Ev m a (chainStoreLoad s) := by
  dsimp only [chainStoreLoad]
  with_reducible
    repeat' first
      | assumption | intro _ | exact orSub (by decide) hm | apply ev_loadWord | apply ev_putFlag | apply Ev.setF
      | apply ev_judgeChains | apply Ev.foldl | split

theorem ev_staleAnswer {a s : State} (h : Ev m a s) (hm : 1076363268 ||| m = m) (x2) : Ev m a (staleAnswer s x2) := by
  dsimp only [staleAnswer]
  with_reducible
    repeat' first
      | assumption | exact orSub (by decide) hm | apply ev_post | apply ev_raise | apply ev_addF | apply Ev.ite

theorem ev_refreshChain {a s : State} (h : Ev m a s) (hm : 8388608 ||| m = m) (x2) : Ev m a (refreshChain s x2) := by
  dsimp only [refreshChain]
  with_reducible repeat' first | assumption | apply ev_startTimer | apply ev_State_updChain | apply Ev.ite

theorem ev_triggerChain {a s : State} (h : Ev m a s) (hm : 3434995716 ||| m = m) (x2 restart) :
    Ev m a (triggerChain s x2 restart) := by
  dsimp only [triggerChain]
  with_reducible
    repeat' first
      | assumption | exact orSub (by decide) hm | apply ev_State_updChain | apply ev_promoteTo | apply Ev.ite

theorem ev_actOnPending {a s : State} (h : Ev m a s) (hm : 3434995716 ||| m = m) : Ev m a (actOnPending s) := by
  dsimp only [actOnPending]
  with_reducible
    repeat' first
      | assumption | intro _ | exact orSub (by decide) hm | apply ev_State_updEsc | apply ev_State_updChain
      | apply ev_staleAnswer | apply ev_refreshChain | apply ev_triggerChain | apply Ev.ite | apply Ev.foldl

theorem ev_warmChains {a s : State} (h : Ev m a s) (hm : 8388608 ||| m = m) : Ev m a (warmChains s) := by
  dsimp only [warmChains]
  with_reducible
    repeat' first
      | assumption | intro _ | apply ev_State_updChain | apply ev_State_updEsc | apply Ev.ite | apply Ev.foldl

theorem ev_takeListener {a s : State} (h : Ev m a s) (hm : 3434995716 ||| m = m) (x2) : Ev m a (takeListener s x2) := by
  dsimp only [takeListener]
  with_reducible
    repeat' first
      | assumption | exact orSub (by decide) hm | apply ev_post | apply ev_staleAnswer | apply ev_State_updChain
      | apply ev_refreshChain | apply ev_triggerChain | apply ev_raise | apply ev_State_updEsc | apply Ev.ite | split

theorem ev_recvListener {a s : State} (h : Ev m a s) (hm : 3434995716 ||| m = m) (k p lslot) :
    EvOut m a (recvListener k p lslot s) := by
  dsimp only [recvListener]
  with_reducible
    repeat' first
      | apply EvOut.guardDo | apply EvOut.next | assumption | intro _ | apply ev_takeListener | split
      | simp only [Ev.raw_ring (orSub (by decide) hm)]

theorem ev_execAFire {a s : State} (h : Ev m a s) (hm : 3434995716 ||| m = m) (p lslot) :
    EvOut m a (execAFire p lslot s) := by
  dsimp only [execAFire]
  with_reducible repeat' first | assumption | apply ev_recvListener

theorem ev_execTrigger {a s : State} (h : Ev m a s) (hm : 3434995716 ||| m = m) (p lslot) :
    EvOut m a (execTrigger p lslot s) := by
  dsimp only [execTrigger]
  with_reducible repeat' first | assumption | apply ev_recvListener

theorem ev_execRefresh {a s : State} (h : Ev m a s) (hm : 3434995716 ||| m = m) (p lslot) :
    EvOut m a (execRefresh p lslot s) := by
  dsimp only [execRefresh]
  with_reducible repeat' first | assumption | apply ev_recvListener

theorem ev_execDemoted {a s : State} (h : Ev m a s) (hm : 3434995716 ||| m = m) (p lslot) :
    EvOut m a (execDemoted p lslot s) := by
  dsimp only [execDemoted]
  with_reducible repeat' first | assumption | apply ev_recvListener

theorem ev_sendAlarm {a s : State} (h : Ev m a s) (hm : 1076363268 ||| m = m) (c no score) :
    Ev m a (sendAlarm s c no score) := by
  dsimp only [sendAlarm]
  with_reducible repeat' first | assumption | exact orSub (by decide) hm | apply ev_post | apply ev_raise

theorem ev_acceptVerdict {a s : State} (h : Ev m a s) (hm : 3434995716 ||| m = m) (g c pos v) :
    Ev m a (acceptVerdict s g c pos v) := by
  dsimp only [acceptVerdict]
  with_reducible
    repeat' first
      | assumption | exact orSub (by decide) hm | apply ev_addF | apply Ev.setF | apply ev_startTimer
      | apply ev_State_updChain | apply ev_promoteTo | apply ev_demoteTo | apply ev_sendAlarm | apply Ev.ite

theorem ev_takeVerdict {a s : State} (h : Ev m a s) (hm : 3434995716 ||| m = m) (g v) : Ev m a (takeVerdict s g v) := by
  dsimp only [takeVerdict]
  with_reducible
    repeat' first
      | assumption | exact orSub (by decide) hm | apply ev_acceptVerdict | apply ev_raise | apply ev_addF | apply Ev.ite

theorem ev_execVerdict {a s : State} (h : Ev m a s) (hm : 3434995716 ||| m = m) (g) : EvOut m a (execVerdict g s) := by
  dsimp only [execVerdict]
  with_reducible
    repeat' first
      | apply EvOut.guardDo | apply EvOut.next | assumption | intro _ | apply ev_takeVerdict | split
      | simp only [Ev.raw_ring (orSub (by decide) hm)]

theorem ev_execDemotionTimerExpiry {a s : State} (h : Ev m a s) (hm : 3232235524 ||| m = m) (c) :
    EvOut m a (execDemotionTimerExpiry c s) := by
  dsimp only [execDemotionTimerExpiry]
  with_reducible repeat' first | apply EvOut.guardDo | assumption | intro _ | apply ev_demote

theorem ev_takeAck {a s : State} (h : Ev m a s) (hm : 1084817412 ||| m = m) (g c pos) : Ev m a (takeAck s g c pos) := by
  dsimp only [takeAck]
  with_reducible repeat' first | assumption | exact orSub (by decide) hm | apply ev_State_updChain | apply ev_progressChain

theorem ev_execWakeAck {a s : State} (h : Ev m a s) (hm : 1084817412 ||| m = m) (g) : EvOut m a (execWakeAck g s) := by
  dsimp only [execWakeAck]
  with_reducible
    repeat' first
      | apply EvOut.guardDo | apply EvOut.next | assumption | intro _ | apply ev_takeAck | split
      | simp only [Ev.raw_ring (orSub (by decide) hm)]

theorem ev_storeEnds {a s : State} (h : Ev m a s) (hm : 11010052 ||| m = m) (r n ok) : Ev m a (storeEnds s r n ok) := by
  dsimp only [storeEnds]
  with_reducible
    repeat' first
      | assumption | exact orSub (by decide) hm | apply ev_State_updEsc | apply Ev.setF | apply ev_raise | apply ev_recordErr
      | apply Ev.ite

theorem ev_execStoreDone {a s : State} (h : Ev m a s) (hm : 11010052 ||| m = m) (readbackOk) :
    EvOut m a (execStoreDone readbackOk s) := by
  dsimp only [execStoreDone]
  with_reducible repeat' first | apply EvOut.guardDo | apply EvOut.next | assumption | intro _ | apply ev_storeEnds | split

end Sys2Proof.Machine
end

