-- ==== Sys2Proof/Laws/Ev07.lean ====
section
/-! SUPPORT. Laws/Ev07.lean: `Ev` of every operation of Machine/Jobs.lean, Machine/Faults.lean, Machine/Ctl.lean,
Machine/FaceStart.lean. -/

namespace Sys2Proof.Machine

open Sys2Proof

/-! ## Machine/Jobs.lean -/

theorem ev_eraseKeys {a s : State} (h : Ev m a s) (hm : 135266304 ||| m = m) (j) : Ev m a (eraseKeys s j) := by
  dsimp only [eraseKeys]
  with_reducible
    repeat' first
      | assumption | intro _ | exact orSub (by decide) hm | apply ev_State_updLink | apply ev_State_updJob | apply Ev.foldl

theorem ev_fenceFrees {a s : State} (h : Ev m a s) (hm : 135266304 ||| m = m) : Ev m a (fenceFrees s) := by
  dsimp only [fenceFrees]
  with_reducible repeat' first | assumption | intro _ | apply ev_eraseKeys | apply Ev.ite | apply Ev.foldl

theorem ev_jobqResetEnds {a s : State} (h : Ev m a s) (hm : 1048700 ||| m = m) : Ev m a (jobqResetEnds s) := by
  dsimp only [jobqResetEnds]
  with_reducible
    repeat' first
      | assumption | intro _ | exact orSub (by decide) hm | exact .inl (orSub (by decide) hm) | exact .inr (fun _ => rfl)
      | apply Ev.updHost | apply Ev.resetPage | apply Ev.ite

theorem ev_jobqReset {a s : State} (h : Ev m a s) (hm : 205324412 ||| m = m) : Ev m a (jobqReset s) := by
  dsimp only [jobqReset]
  with_reducible
    repeat' first
      | assumption | intro _ | exact orSub (by decide) hm | exact .inl (orSub (by decide) hm) | apply ev_jobStop
      | apply Ev.updHost | apply ev_jobqResetEnds | apply Ev.foldl

theorem ev_jobCmd {a s : State} (h : Ev m a s) (hm : 205324292 ||| m = m) (v) : Ev m a (jobCmd s v) := by
  dsimp only [jobCmd]
  with_reducible repeat' first | assumption | apply ev_jobStop | apply Ev.ite

theorem ev_usersFor {a s : State} (h : Ev m a s) (hm : 2 ||| m = m) (n us) : EvP m a (usersFor s n us) := by
  induction n generalizing s us with
  | zero => exact ⟨h⟩
  | succ n ih =>
    cases us with
    | nil => exact ⟨(ih (Ev.fresh h (orSub (by decide) hm)) _).fst⟩
    | cons u us => exact ⟨(ih h _).fst⟩

theorem ev_setPend {a s : State} (h : Ev m a s) (hm : 1048576 ||| m = m) (q l) : Ev m a (setPend s q l) := by
  dsimp only [setPend]
  with_reducible
    repeat' first
      | assumption | intro _ | exact .inl (orSub (by decide) hm) | exact .inr (fun _ => rfl) | apply Ev.updHost

theorem ev_queueCmd {a s : State} (h : Ev m a s) (hm : 1048578 ||| m = m) (v users) : Ev m a (queueCmd s v users) := by
  dsimp only [queueCmd]
  with_reducible
    repeat' first
      | assumption | intro _ | exact orSub (by decide) hm | exact .inl (orSub (by decide) hm) | exact .inr (fun _ => rfl)
      | apply ev_usersFor | apply Ev.updHost | apply ev_setPend | apply Ev.ite | apply EvP.fst

theorem ev_headWrite {a s : State} (h : Ev m a s) (hm : 4 ||| m = m) (ref off head tail v) :
    Ev m a (headWrite s ref off head tail v) := by
  dsimp only [headWrite]
  with_reducible repeat' first | assumption | apply Ev.setF | apply ev_portErr | apply Ev.ite

theorem ev_submit {a s : State} (h : Ev m a s) (hm : 3670020 ||| m = m) (q hi) : Ev m a (submit s q hi) := by
  dsimp only [submit]
  with_reducible
    repeat' first
      | assumption | exact orSub (by decide) hm | apply ev_addF | apply Ev.setF | apply ev_setPend | apply ev_raise
      | apply Ev.ite

theorem ev_execLinkJobEntryRemove {a s : State} (h : Ev m a s) (hm : 205062148 ||| m = m) (k j) :
    EvOut m a (execLinkJobEntryRemove k j s) := by
  dsimp only [execLinkJobEntryRemove]
  with_reducible
    repeat' first
      | apply EvOut.guardDo | apply EvOut.next | assumption | intro _ | exact orSub (by decide) hm | apply ev_retireOn
      | apply ev_linkDropJob | split

theorem ev_putJob {a s : State} (h : Ev m a s) (hm : 1048576 ||| m = m) (j x) : Ev m a (putJob s j x) := by
  dsimp only [putJob]
  with_reducible
    repeat' first
      | assumption | intro _ | exact .inl (orSub (by decide) hm) | exact .inr (fun _ => rfl) | apply Ev.updHost

theorem ev_hostDma {a s : State} (h : Ev m a s) (hm : 2621444 ||| m = m) (x2) : Ev m a (hostDma s x2) := by
  dsimp only [hostDma]
  with_reducible
    repeat' first
      | assumption | exact orSub (by decide) hm | apply ev_raise | apply ev_recordErr | apply ev_addF

theorem ev_fetched {a s : State} (h : Ev m a s) (hm : 205324294 ||| m = m) (q addr j d) :
    Ev m a (fetched s q addr j d) := by
  dsimp only [fetched]
  with_reducible
    repeat' first
      | assumption | exact orSub (by decide) hm | apply EvP.fresh | apply ev_putJob | apply ev_jobStop | apply ev_hostDma
      | apply EvP.fst | split

theorem ev_execDescriptorFetch {a s : State} (h : Ev m a s) (hm : 205324294 ||| m = m) (d) :
    EvOut m a (execDescriptorFetch d s) := by
  dsimp only [execDescriptorFetch]
  with_reducible
    repeat' first
      | apply EvOut.guardDo | apply EvOut.next | assumption | intro _ | exact orSub (by decide) hm
      | exact .inl (orSub (by decide) hm) | apply ev_setPend | apply Ev.updHost | apply ev_fetched | split

theorem ev_execAdmission {a s : State} (h : Ev m a s) (hm : 3426607108 ||| m = m) (j) : EvOut m a (execAdmission j s) := by
  dsimp only [execAdmission]
  with_reducible
    repeat' first
      | apply EvOut.guardDo | assumption | intro _ | exact orSub (by decide) hm | apply ev_jobStop | apply ev_admitBegin
      | apply Ev.ite | split

theorem ev_execAdmitTimeout {a s : State} (h : Ev m a s) (hm : 205324292 ||| m = m) (j) :
    EvOut m a (execAdmitTimeout j s) := by
  dsimp only [execAdmitTimeout]
  with_reducible
    repeat' first
      | apply EvOut.guardDo | assumption | intro _ | exact orSub (by decide) hm | apply ev_jobStop | apply ev_raise

theorem ev_imageCopied {a s : State} (h : Ev m a s) (hm : 1279197188 ||| m = m) (j x3 data) :
    Ev m a (imageCopied s j x3 data) := by
  dsimp only [imageCopied]
  with_reducible
    repeat' first
      | assumption | exact orSub (by decide) hm | apply ev_admitFail | apply ev_bedWrite | apply ev_admitGo
      | apply ev_State_updJob | apply Ev.ite

theorem ev_execImageCopy {a s : State} (h : Ev m a s) (hm : 1279197188 ||| m = m) (j data dmaFail) :
    EvOut m a (execImageCopy j data dmaFail s) := by
  dsimp only [execImageCopy]
  with_reducible
    repeat' first
      | apply EvOut.guardDo | apply EvOut.next | assumption | intro _ | exact orSub (by decide) hm | apply ev_admitFail
      | apply ev_hostDma | apply ev_imageCopied | apply Ev.ite | split

theorem ev_execClaimFenceDrained {a s : State} (h : Ev m a s) (hm : 137887748 ||| m = m) :
    EvOut m a (execClaimFenceDrained s) := by
  dsimp only [execClaimFenceDrained]
  with_reducible
    repeat' first
      | apply EvOut.guardDo | assumption | intro _ | exact orSub (by decide) hm | apply Ev.setF | apply ev_fenceFrees
      | apply ev_raise

theorem ev_freeEntry {a s : State} (h : Ev m a s) (hm : 2148532348 ||| m = m) (j) : Ev m a (freeEntry s j) := by
  dsimp only [freeEntry]
  with_reducible
    repeat' first
      | assumption | intro _ | exact orSub (by decide) hm | exact .inl (orSub (by decide) hm) | exact .inr (fun _ => rfl)
      | apply ev_jobqResetEnds | apply ev_heldStops | apply Ev.updHost

theorem ev_writeCompletion {a s : State} (h : Ev m a s) (hm : 524292 ||| m = m) (q bytes) :
    Ev m a (writeCompletion s q bytes) := by
  dsimp only [writeCompletion]
  with_reducible
    repeat' first
      | assumption | exact orSub (by decide) hm | apply ev_hostWrite | apply ev_sendMsix | apply Ev.setF

theorem ev_execCompletionWrite {a s : State} (h : Ev m a s) (hm : 2151153788 ||| m = m) (q j) :
    EvOut m a (execCompletionWrite q j s) := by
  dsimp only [execCompletionWrite]
  with_reducible
    repeat' first
      | apply EvOut.guardDo | apply EvOut.next | apply EvOut.ite | assumption | intro _ | exact orSub (by decide) hm
      | exact .inl (orSub (by decide) hm) | apply ev_freeEntry | apply ev_raise | apply ev_writeCompletion | apply Ev.updHost
      | apply Ev.ite | split

theorem ev_respawnSyncs {a s : State} (h : Ev m a s) (hm : 2686980 ||| m = m) (j slot) : EvP m a (respawnSyncs s j slot) := by
  dsimp only [respawnSyncs]
  with_reducible
    repeat' first
      | assumption | intro _ | exact orSub (by decide) hm | apply ev_snapEnd | apply ev_snapRestoreFrom | apply ev_ownSyncs
      | apply EvP.foldl | apply EvP.ite | apply EvP.fst | apply EvP.mk'

theorem ev_respawnJob {a s : State} (h : Ev m a s) (hm : 1279066116 ||| m = m) (j slot) : Ev m a (respawnJob s j slot) := by
  dsimp only [respawnJob]
  with_reducible
    repeat' first
      | assumption | intro _ | exact orSub (by decide) hm | apply ev_respawnSyncs | apply ev_retireJob | apply ev_post
      | apply ev_State_updJob | apply Ev.ite | apply Ev.foldl | apply EvP.fst

theorem ev_execRespawn {a s : State} (h : Ev m a s) (hm : 1279066116 ||| m = m) (j) : EvOut m a (execRespawn j s) := by
  dsimp only [execRespawn]
  with_reducible
    repeat' first
      | apply EvOut.guardDo | assumption | intro _ | exact orSub (by decide) hm | apply ev_respawnJob | apply ev_retireJob
      | split

theorem ev_copyOut {a s : State} (h : Ev m a s) (hm : 2752516 ||| m = m) (x2) : EvP m a (copyOut s x2) := by
  dsimp only [copyOut]
  with_reducible
    repeat' first
      | assumption | exact orSub (by decide) hm | apply ev_bedRead | apply ev_hostWrite | apply EvP.ite | apply EvP.fst
      | simp only [EvP.mk_iff]

theorem ev_copyOuts {a s : State} (h : Ev m a s) (hm : 3801092 ||| m = m) (j d) (ms : List RangeEnt) (i : Nat) : Ev m a (copyOuts j d ms i s) := by
  induction ms generalizing s i with
  | nil => exact h
  | cons m ms ih =>
    unfold copyOuts
    dsimp only
    apply ih
    refine ev_State_updJob ?_ (orSub (by decide) hm) _ _
    split
    · exact ev_hostDma h (orSub (by decide) hm) _
    · exact (ev_copyOut h (orSub (by decide) hm) _).fst

theorem ev_execOutputCopy {a s : State} (h : Ev m a s) (hm : 70975492 ||| m = m) (j errs dmaFail) :
    EvOut m a (execOutputCopy j errs dmaFail s) := by
  dsimp only [execOutputCopy]
  with_reducible
    repeat' first
      | apply EvOut.guardDo | assumption | intro _ | exact orSub (by decide) hm | apply ev_ageLines | apply ev_copyOuts
      | apply ev_retireOn | apply ev_State_updJob | apply Ev.foldl

/-! ## Machine/Faults.lean -/

theorem ev_loseFace {a s : State} (h : Ev m a s) (hm : 3434946564 ||| m = m) (g) : Ev m a (loseFace s g) := by
  dsimp only [loseFace]
  with_reducible
    repeat' first
      | assumption | intro _ | exact orSub (by decide) hm | apply ev_State_updRegion | apply ev_abandonLocks
      | apply ev_dropWaits | apply Ev.updFace | apply ev_jobStop | apply ev_State_updJob | apply ev_escFaceLost
      | apply Ev.foldl

theorem ev_pollFace {a s : State} (h : Ev m a s) (hm : 3434946564 ||| m = m) (silent g) : Ev m a (pollFace silent s g) := by
  dsimp only [pollFace]
  with_reducible
    repeat' first
      | assumption | intro _ | exact orSub (by decide) hm | apply ev_loseFace | apply Ev.updFace | apply Ev.ite

theorem ev_execLivenessPoll {a s : State} (h : Ev m a s) (hm : 3434946564 ||| m = m) (r silent) :
    EvOut m a (execLivenessPoll r silent s) := by
  dsimp only [execLivenessPoll]
  with_reducible repeat' first | apply EvOut.guardDo | assumption | intro _ | apply ev_pollFace | apply Ev.foldl

theorem ev_execFaceLost {a s : State} (h : Ev m a s) (hm : 3434946564 ||| m = m) (g) : EvOut m a (execFaceLost g s) := by
  dsimp only [execFaceLost]
  with_reducible repeat' first | apply EvOut.guardDo | assumption | intro _ | apply ev_loseFace

theorem bk_spoilHome {s : BedSt} (h : Memory.wf s.bytes = true) (r line) : Memory.wf (spoilHome r line s).bytes = true := by
  dsimp only [spoilHome]
  with_reducible repeat' first | assumption | apply bk_wearLine

theorem bk_scanTags {s : BedSt} (h : Memory.wf s.bytes = true) (g f) : Memory.wf (scanTags g f s).bytes = true := by
  dsimp only [scanTags]
  with_reducible repeat' first | assumption | intro _ | apply bk_writeMark | apply bk_spoilHome | apply bedFoldl

theorem ev_replaceFace {a s : State} (h : Ev m a s) (hm : 2893948 ||| m = m) (g) : Ev m a (replaceFace s g) := by
  dsimp only [replaceFace]
  with_reducible
    repeat' first
      | assumption | intro _ | exact orSub (by decide) hm | apply Ev.resetPage | apply Ev.updFace | apply ev_markBad
      | apply Ev.ite | apply Ev.foldl | exact faceReset_wf

theorem ev_scanDone {a s : State} (h : Ev m a s) (hm : 205465724 ||| m = m) (g) : Ev m a (scanDone s g) := by
  dsimp only [scanDone]
  with_reducible
    repeat' first
      | assumption | intro _ | exact orSub (by decide) hm | apply Ev.updBed | apply bk_scanTags | apply ev_replaceFace
      | apply ev_jobCheckEnd | apply Ev.foldl

theorem ev_execTagScanDone {a s : State} (h : Ev m a s) (hm : 4257217148 ||| m = m) (g ok) :
    EvOut m a (execTagScanDone g ok s) := by
  dsimp only [execTagScanDone]
  with_reducible
    repeat' first
      | apply EvOut.guardDo | assumption | intro _ | exact orSub (by decide) hm | apply ev_scanDone | apply ev_failRegion
      | apply Ev.ite

/-! ## Machine/Ctl.lean -/

theorem ev_ctlAdda {a s : State} (h : Ev m a s) (hm : 262148 ||| m = m) (g o) : Ev m a (ctlAdda g o s) := by
  dsimp only [ctlAdda]
  with_reducible
    repeat' first
      | assumption | intro _ | exact orSub (by decide) hm | apply Ev.updFace | apply ev_finishNow | apply fk_FaceSt_setA

theorem ev_ctlBranch {a s : State} (h : Ev m a s) (hm : 262148 ||| m = m) (g o) : Ev m a (ctlBranch g o s) := by
  dsimp only [ctlBranch]
  with_reducible repeat' first | assumption | intro _ | exact orSub (by decide) hm | apply Ev.updFace | apply ev_finishNow

theorem ev_ctlEnd {a s : State} (h : Ev m a s) (hm : 205324292 ||| m = m) (g o) : Ev m a (ctlEnd g o s) := by
  dsimp only [ctlEnd]
  with_reducible
    repeat' first
      | assumption | intro _ | exact orSub (by decide) hm | apply ev_endAndCheck | apply ev_finishNow | apply Ev.updFace
      | apply ev_raise | apply ev_jobCheckEnd | apply Ev.ite | split

theorem ev_ctlLda {a s : State} (h : Ev m a s) (hm : 3434938372 ||| m = m) (g o) : Ev m a (ctlLda g o s) := by
  dsimp only [ctlLda]
  with_reducible
    repeat' first
      | assumption | intro _ | exact orSub (by decide) hm | apply ev_stopAt | apply Ev.updFace | apply ev_finishNow
      | apply fk_FaceSt_setA | split

theorem ev_ctlLoop {a s : State} (h : Ev m a s) (hm : 3434938372 ||| m = m) (g o) : Ev m a (ctlLoop g o s) := by
  dsimp only [ctlLoop]
  with_reducible
    repeat' first
      | assumption | intro _ | exact orSub (by decide) hm | apply ev_stopAt | apply Ev.updFace | apply ev_finishNow
      | apply Ev.ite

theorem ev_ctlSaveCtx {a s : State} (h : Ev m a s) (hm : 3435069444 ||| m = m) (g o) : Ev m a (ctlSaveCtx g o s) := by
  dsimp only [ctlSaveCtx]
  with_reducible
    repeat' first
      | assumption | exact orSub (by decide) hm | apply ev_stopAt | apply ev_raise | apply ev_sramWrite | apply ev_finishNow
      | apply Ev.ite

theorem ev_ctlSeta {a s : State} (h : Ev m a s) (hm : 262148 ||| m = m) (g o) : Ev m a (ctlSeta g o s) := by
  dsimp only [ctlSeta]
  with_reducible
    repeat' first
      | assumption | intro _ | exact orSub (by decide) hm | apply Ev.updFace | apply ev_finishNow | apply fk_FaceSt_setA

theorem ev_ctlSetp {a s : State} (h : Ev m a s) (hm : 262148 ||| m = m) (g o) : Ev m a (ctlSetp g o s) := by
  dsimp only [ctlSetp]
  with_reducible
    repeat' first
      | assumption | intro _ | exact orSub (by decide) hm | apply Ev.updFace | apply ev_finishNow | apply fk_FaceSt_setP

theorem ev_ctlSta {a s : State} (h : Ev m a s) (hm : 3435069444 ||| m = m) (g o) : Ev m a (ctlSta g o s) := by
  dsimp only [ctlSta]
  with_reducible
    repeat' first
      | assumption | exact orSub (by decide) hm | apply ev_stopAt | apply ev_sramWrite | apply ev_finishNow | split

theorem ev_execAdda {a s : State} (h : Ev m a s) (hm : 3434938372 ||| m = m) (g) : EvOut m a (execAdda g s) := by
  dsimp only [execAdda]
  with_reducible repeat' first | assumption | intro _ | exact orSub (by decide) hm | apply ev_recordCmd | apply ev_ctlAdda

theorem ev_execBranch {a s : State} (h : Ev m a s) (hm : 3434938372 ||| m = m) (g) : EvOut m a (execBranch g s) := by
  dsimp only [execBranch]
  with_reducible repeat' first | assumption | intro _ | exact orSub (by decide) hm | apply ev_recordCmd | apply ev_ctlBranch

theorem ev_execCtlNop {a s : State} (h : Ev m a s) (hm : 3434938372 ||| m = m) (g) : EvOut m a (execCtlNop g s) := by
  dsimp only [execCtlNop]
  with_reducible repeat' first | assumption | intro _ | exact orSub (by decide) hm | apply ev_recordCmd | apply ev_finishNow

theorem ev_execEndProg {a s : State} (h : Ev m a s) (hm : 3434938372 ||| m = m) (g) : EvOut m a (execEndProg g s) := by
  dsimp only [execEndProg]
  with_reducible repeat' first | assumption | intro _ | exact orSub (by decide) hm | apply ev_recordCmd | apply ev_ctlEnd

theorem ev_execLda {a s : State} (h : Ev m a s) (hm : 3434938372 ||| m = m) (g ecc) : EvOut m a (execLda g ecc s) := by
  dsimp only [execLda]
  with_reducible repeat' first | assumption | intro _ | apply ev_recordCmd | apply ev_withEcc | apply ev_ctlLda

theorem ev_execLoop {a s : State} (h : Ev m a s) (hm : 3434938372 ||| m = m) (g) : EvOut m a (execLoop g s) := by
  dsimp only [execLoop]
  with_reducible
    repeat' first
      | apply EvOut.guardDo | apply EvOut.next | assumption | intro _ | exact orSub (by decide) hm | apply ev_issueRecord
      | apply ev_ctlLoop | apply Ev.updFace | apply Ev.ite | split

theorem ev_execSaveCtx {a s : State} (h : Ev m a s) (hm : 3435069444 ||| m = m) (g) : EvOut m a (execSaveCtx g s) := by
  dsimp only [execSaveCtx]
  with_reducible repeat' first | assumption | intro _ | exact orSub (by decide) hm | apply ev_recordCmd | apply ev_ctlSaveCtx

theorem ev_execSeta {a s : State} (h : Ev m a s) (hm : 3434938372 ||| m = m) (g) : EvOut m a (execSeta g s) := by
  dsimp only [execSeta]
  with_reducible repeat' first | assumption | intro _ | exact orSub (by decide) hm | apply ev_recordCmd | apply ev_ctlSeta

theorem ev_execSetp {a s : State} (h : Ev m a s) (hm : 3434938372 ||| m = m) (g) : EvOut m a (execSetp g s) := by
  dsimp only [execSetp]
  with_reducible repeat' first | assumption | intro _ | exact orSub (by decide) hm | apply ev_recordCmd | apply ev_ctlSetp

theorem ev_execSta {a s : State} (h : Ev m a s) (hm : 3435069444 ||| m = m) (g ecc) : EvOut m a (execSta g ecc s) := by
  dsimp only [execSta]
  with_reducible
    repeat' first
      | assumption | intro _ | exact orSub (by decide) hm | apply ev_recordCmd | apply ev_withEcc | apply ev_ctlSta

/-! ## Machine/FaceStart.lean -/

theorem ev_endArrives {a s : State} (h : Ev m a s) (hm : 205324292 ||| m = m) (g) : Ev m a (endArrives s g) := by
  dsimp only [endArrives]
  with_reducible repeat' first | assumption | apply ev_endAndCheck | apply Ev.ite

theorem ev_startArrives {a s : State} (h : Ev m a s) (hm : 1279066116 ||| m = m) (g fits w) {t : State} {x : RingMsg}
    (k : startArrives s g fits w = some (t, x)) : Ev m a t := by
  have ring : ∀ (u : State) (l : List RingMsg), Ev m a u → Ev m a { u with ring := l } :=
    fun u l hu => (Ev.raw_ring (orSub (by decide) hm) l).2 hu
  have e : ∀ (c : Bool) (l : List RingMsg), Ev m a (if c = true then endArrives { s with ring := l } g else s) := by
    intro c l
    split
    · exact ev_endArrives (ring s l h) (orSub (by decide) hm) _
    · exact h
  have hu := e (w && (takeMsg (· == .endFace g) s.ring).1.isSome) (takeMsg (· == .endFace g) s.ring).2
  unfold startArrives at k
  dsimp only at k
  generalize (if (w && (takeMsg (· == .endFace g) s.ring).1.isSome) = true then
    endArrives { s with ring := (takeMsg (· == .endFace g) s.ring).2 } g else s) = u at hu k
  split at k
  · split at k
    · injection k with k
      injection k with k _
      exact k ▸ ring _ _ hu
    · cases k
  · cases k

theorem ev_startRefused {a s : State} (h : Ev m a s) (hm : 3434938372 ||| m = m) (g x3) : Ev m a (startRefused s g x3) := by
  dsimp only [startRefused]
  with_reducible repeat' first | assumption | exact orSub (by decide) hm | apply ev_jobStop | apply ev_escFaceLost | split

theorem ev_startSwitch {a s : State} (h : Ev m a s) (hm : 262148 ||| m = m) (g o ack) : Ev m a (startSwitch s g o ack) := by
  dsimp only [startSwitch]
  with_reducible
    repeat' first
      | assumption | intro _ | exact orSub (by decide) hm | apply ev_addF | apply Ev.setF | apply Ev.updFace | apply Ev.ite
      | apply Ev.foldl

theorem ev_modelInvalid {a s : State} (h : Ev m a s) (hm : 3434938372 ||| m = m) (g model) :
    Ev m a (modelInvalid s g model) := by
  dsimp only [modelInvalid]
  with_reducible repeat' first | assumption | apply ev_faceStop

theorem fk_loadModel {s : FaceSt} (h : Memory.wf s.sram = true) (x1 x2) : Memory.wf (loadModel x1 x2 s).sram = true := by
  dsimp only [loadModel]
  assumption

theorem ev_startLoad {a s : State} (h : Ev m a s) (hm : 3435069444 ||| m = m) (g model) :
    EvP m a (startLoad s g model) := by
  dsimp only [startLoad]
  with_reducible
    repeat' first
      | assumption | intro _ | exact orSub (by decide) hm | apply Ev.setF | apply ev_modelInvalid | apply ev_bedRead
      | apply ev_denyBed | apply Ev.updFace | apply fk_loadModel | apply ev_numLoad | apply Ev.foldl | apply EvP.ite
      | apply EvP.fst | split | simp only [EvP.mk_iff]

theorem ev_startFace {a s : State} (h : Ev m a s) (hm : 3435069444 ||| m = m) (g model o ack wakeRec) :
    Ev m a (startFace s g model o ack wakeRec) := by
  dsimp only [startFace]
  with_reducible
    repeat' first
      | assumption | exact orSub (by decide) hm | apply ev_startRefused | apply ev_startSwitch | apply ev_sramWrite
      | apply ev_startLoad | apply ev_logBegin | apply Ev.ite | apply EvP.fst

theorem ev_execStartMessage {a s : State} (h : Ev m a s) (hm : 3435069444 ||| m = m) (g errs w) : EvOut m a (execStartMessage g errs w s) := by
  dsimp only [execStartMessage]
  split
  · next e => exact EvOut.next (ev_startFace (ev_ageLines (ev_startArrives h (orSub (by decide) hm) _ _ _ e) (orSub (by decide) hm) _ _) (orSub (by decide) hm) _ _ _ _ _)
  · next e => exact EvOut.next (ev_startFace (ev_ageLines (ev_startArrives h (orSub (by decide) hm) _ _ _ e) (orSub (by decide) hm) _ _) (orSub (by decide) hm) _ _ _ _ _)
  · exact EvOut.next h

theorem fk_loadContext {s : FaceSt} (h : Memory.wf s.sram = true) (x1 x2) :
    Memory.wf (loadContext x1 x2 s).sram = true := by
  dsimp only [loadContext]
  assumption

theorem ev_restartFace {a s : State} (h : Ev m a s) (hm : 3435069444 ||| m = m) (g j ctx) :
    Ev m a (restartFace s g j ctx) := by
  dsimp only [restartFace]
  with_reducible
    repeat' first
      | assumption | intro _ | exact orSub (by decide) hm | apply ev_startRefused | apply ev_startSwitch | apply ev_faceStop
      | apply ev_denyBed | apply ev_bedRead | apply ev_startLoad | apply ev_numRestore | apply Ev.updFace
      | apply fk_loadContext | apply Ev.ite | apply EvP.fst

theorem ev_execRestartMessage {a s : State} (h : Ev m a s) (hm : 3435069444 ||| m = m) (g errs w) : EvOut m a (execRestartMessage g errs w s) := by
  dsimp only [execRestartMessage]
  split
  · next e => exact EvOut.next (ev_restartFace (ev_ageLines (ev_startArrives h (orSub (by decide) hm) _ _ _ e) (orSub (by decide) hm) _ _) (orSub (by decide) hm) _ _ _)
  · exact EvOut.next h

theorem ev_switchDone {a s : State} (h : Ev m a s) (hm : 1279066116 ||| m = m) (g) : Ev m a (switchDone s g) := by
  dsimp only [switchDone]
  with_reducible
    repeat' first
      | assumption | intro _ | exact orSub (by decide) hm | apply Ev.updFace | apply ev_endAndCheck | apply Ev.setF
      | apply ev_raise | apply ev_post | apply Ev.ite | split

theorem ev_execSwitchComplete {a s : State} (h : Ev m a s) (hm : 1279066116 ||| m = m) (g) :
    EvOut m a (execSwitchComplete g s) := by
  dsimp only [execSwitchComplete]
  with_reducible repeat' first | apply EvOut.guardDo | assumption | intro _ | apply ev_switchDone

theorem ev_execEndMessage {a s : State} (h : Ev m a s) (hm : 1279066116 ||| m = m) (g) :
    EvOut m a (execEndMessage g s) := by
  dsimp only [execEndMessage]
  with_reducible
    repeat' first
      | apply EvOut.next | assumption | exact orSub (by decide) hm | apply ev_endArrives | split
      | simp only [Ev.raw_ring (orSub (by decide) hm)]

theorem ev_fetchNext {a s : State} (h : Ev m a s) (hm : 3435069444 ||| m = m) (g) : Ev m a (fetchNext s g) := by
  dsimp only [fetchNext]
  with_reducible
    repeat' first
      | assumption | intro _ | exact orSub (by decide) hm | apply ev_faceStop | apply ev_denyBed | apply ev_bedRead
      | apply Ev.updFace | apply ev_stopAt | apply Ev.ite | apply EvP.fst

theorem fk_loopEnd {f : FaceSt} (h : Memory.wf f.sram = true) (ls : List Loop) : Memory.wf (loopEnd ls f).sram = true := by
  induction ls generalizing f with
  | nil => exact h
  | cons l ls ih =>
    unfold loopEnd
    split
    · split
      · exact fk_FaceSt_setA h _ _
      · exact ih h
    · exact h

theorem ev_execOpRecordFetch {a s : State} (h : Ev m a s) (hm : 3435069444 ||| m = m) (g errs) :
    EvOut m a (execOpRecordFetch g errs s) := by
  dsimp only [execOpRecordFetch]
  with_reducible
    repeat' first
      | apply EvOut.guardDo | assumption | intro _ | exact orSub (by decide) hm | apply ev_ageLines | apply ev_fetchNext
      | apply Ev.updFace | apply fk_loopEnd

theorem ev_endsNow {a s : State} (h : Ev m a s) (hm : 205324292 ||| m = m) (g) : Ev m a (endsNow s g) := by
  dsimp only [endsNow]
  with_reducible repeat' first | assumption | apply ev_endAndCheck | apply Ev.ite

theorem ev_retire {a s : State} (h : Ev m a s) (hm : 262148 ||| m = m) (g i) : Ev m a (retire s g i) := by
  dsimp only [retire]
  with_reducible
    repeat' first
      | assumption | intro _ | exact orSub (by decide) hm | apply ev_countRetired | apply Ev.updFace
      | apply fk_FaceSt_setToken | apply faceIte

theorem ev_execRecordComplete {a s : State} (h : Ev m a s) (hm : 205324292 ||| m = m) (g i) :
    EvOut m a (execRecordComplete g i s) := by
  dsimp only [execRecordComplete]
  with_reducible
    repeat' first
      | apply EvOut.guardDo | apply EvOut.next | assumption | intro _ | exact orSub (by decide) hm | apply ev_endsNow
      | apply ev_retire | split

end Sys2Proof.Machine
end

