-- ==== Sys2Proof/Laws/Ev08.lean ====
section
/-! SUPPORT. Laws/Ev08.lean: `Ev` of every operation of Machine/Weigh.lean, Machine/Outs.lean, Machine/Listener.lean. -/

namespace Sys2Proof.Machine

open Sys2Proof

/-! ## Machine/Weigh.lean -/

theorem ev_wbReset {a s : State} (h : Ev m a s) (hm : 202375172 ||| m = m) : Ev m a (wbReset s) := by
  dsimp only [wbReset]
  with_reducible
    repeat' first
      | assumption | exact orSub (by decide) hm | apply ev_State_updWb | apply Ev.setF | apply ev_fenceFrees

theorem ev_mbStart {a s : State} (h : Ev m a s) (hm : 3703431172 ||| m = m) (op) : Ev m a (mbStart s op) := by
  dsimp only [mbStart]
  with_reducible
    repeat' first
      | assumption | exact orSub (by decide) hm | apply ev_startRegion | apply ev_eraseAsk | apply Ev.ite | apply EvP.fst
      | split

theorem ev_mbBegin {a s : State} (h : Ev m a s) (hm : 3703431172 ||| m = m) (op host) : Ev m a (mbBegin s op host) := by
  dsimp only [mbBegin]
  with_reducible
    repeat' first
      | assumption | exact orSub (by decide) hm | apply ev_State_updWb | apply Ev.setF | apply ev_mbStart | apply Ev.ite

theorem ev_setTap {a s : State} (h : Ev m a s) (hm : 67108864 ||| m = m) (i) : Ev m a (setTap s i) := by
  dsimp only [setTap]
  with_reducible repeat' first | assumption | apply ev_State_updWb

theorem ev_tamperAct {a s : State} (h : Ev m a s) (hm : 3703431172 ||| m = m) : Ev m a (tamperAct s) := by
  dsimp only [tamperAct]
  with_reducible
    repeat' first
      | assumption | intro _ | exact orSub (by decide) hm | apply ev_raise | apply ev_requestStop | apply ev_tamperGoesOn
      | apply ev_State_updWb | apply Ev.foldl

theorem ev_wbStart {a s : State} (h : Ev m a s) (hm : 3703431172 ||| m = m) (chk) : Ev m a (wbStart s chk) := by
  dsimp only [wbStart]
  with_reducible
    repeat' first
      | assumption | exact orSub (by decide) hm | apply Ev.setF | apply ev_State_updWb | apply ev_showOwed | apply ev_raise
      | apply ev_recordErr | apply ev_eraseBegin | apply ev_tamperAct | apply Ev.ite

theorem ev_execTamper {a s : State} (h : Ev m a s) (hm : 3703431172 ||| m = m) : EvOut m a (execTamper s) := by
  dsimp only [execTamper]
  with_reducible repeat' first | apply EvOut.guardDo | assumption | intro _ | apply ev_tamperAct

theorem ev_mbOutcome {a s : State} (h : Ev m a s) (hm : 67108864 ||| m = m) (result reason) :
    Ev m a (mbOutcome s result reason) := by
  dsimp only [mbOutcome]
  with_reducible repeat' first | assumption | apply ev_State_updWb

theorem ev_digestDone {a s : State} (h : Ev m a s) (hm : 205455364 ||| m = m) (r model ok) :
    Ev m a (digestDone s r model ok) := by
  dsimp only [digestDone]
  with_reducible
    repeat' first
      | assumption | intro _ | exact orSub (by decide) hm | apply Ev.updBed | apply ev_admitFail | apply ev_mbOutcome
      | apply Ev.ite | apply Ev.foldl | split

theorem ev_execModelDigestDone {a s : State} (h : Ev m a s) (hm : 205455364 ||| m = m) (r model ok) :
    EvOut m a (execModelDigestDone r model ok s) := by
  dsimp only [execModelDigestDone]
  with_reducible repeat' first | apply EvOut.guardDo | assumption | intro _ | apply ev_digestDone

theorem ev_openPort {a s : State} (h : Ev m a s) (hm : 3703431172 ||| m = m) : Ev m a (openPort s) := by
  dsimp only [openPort]
  with_reducible
    repeat' first
      | assumption | exact orSub (by decide) hm | apply ev_raise | apply Ev.setF | apply ev_eraseBegin | apply Ev.ite

theorem ev_execOpenDap {a s : State} (h : Ev m a s) (hm : 3703431172 ||| m = m) : EvOut m a (execOpenDap s) := by
  dsimp only [execOpenDap]
  with_reducible
    repeat' first
      | apply EvOut.guardDo | assumption | intro _ | exact orSub (by decide) hm | apply ev_openPort | apply ev_setTap

theorem ev_zeroParts {a s : State} (h : Ev m a s) (hm : 69861380 ||| m = m) (e) : Ev m a (zeroParts s e) := by
  dsimp only [zeroParts]
  with_reducible
    repeat' first
      | assumption | intro _ | exact orSub (by decide) hm | apply ev_zeroRange | apply ev_owePart | apply Ev.setF
      | apply ev_State_updWb | apply ev_raise | apply Ev.ite | apply Ev.foldl

theorem ev_execPartitionZeroDone {a s : State} (h : Ev m a s) (hm : 69861380 ||| m = m) :
    EvOut m a (execPartitionZeroDone s) := by
  dsimp only [execPartitionZeroDone]
  with_reducible repeat' first | apply EvOut.guardDo | apply EvOut.next | assumption | intro _ | apply ev_zeroParts | split

theorem ev_eraseEnd {a s : State} (h : Ev m a s) (hm : 69730308 ||| m = m) (e) : Ev m a (eraseEnd s e) := by
  dsimp only [eraseEnd]
  with_reducible
    repeat' first
      | assumption | exact orSub (by decide) hm | apply ev_State_updWb | apply Ev.setF | apply ev_raise | apply Ev.ite

theorem ev_execEraseComplete {a s : State} (h : Ev m a s) (hm : 69730308 ||| m = m) : EvOut m a (execEraseComplete s) := by
  dsimp only [execEraseComplete]
  with_reducible repeat' first | apply EvOut.guardDo | apply EvOut.next | assumption | intro _ | apply ev_eraseEnd | split

theorem ev_useNonces {a s : State} (h : Ev m a s) (hm : 2 ||| m = m) : Ev m a (useNonces s) := h.count hm 1001

theorem ev_admitTicketDone {a s : State} (h : Ev m a s) (hm : 1279066118 ||| m = m) (j) : Ev m a (admitTicketDone s j) := by
  dsimp only [admitTicketDone]
  with_reducible
    repeat' first
      | assumption | exact orSub (by decide) hm | apply ev_useNonces | apply ev_admitFail | apply ev_admitGo
      | apply ev_admitNext | apply ev_raise | apply ev_hostWrite | apply Ev.ite | split

theorem ev_putMbData {a s : State} (h : Ev m a s) (hm : 4 ||| m = m) (bs) : Ev m a (putMbData s bs) := by
  dsimp only [putMbData]
  with_reducible repeat' first | assumption | intro _ | apply Ev.setF | apply Ev.foldl

theorem ev_mbTicketDone {a s : State} (h : Ev m a s) (hm : 69730310 ||| m = m) (x2) : Ev m a (mbTicketDone s x2) := by
  dsimp only [mbTicketDone]
  with_reducible
    repeat' first
      | assumption | exact orSub (by decide) hm | apply ev_mbOutcome | apply ev_useNonces | apply ev_hostWrite
      | apply Ev.setF | apply ev_putMbData | apply ev_raise | apply Ev.ite | split

theorem ev_execTicketDone {a s : State} (h : Ev m a s) (hm : 1279066118 ||| m = m) (job) :
    EvOut m a (execTicketDone job s) := by
  dsimp only [execTicketDone]
  with_reducible
    repeat' first
      | apply EvOut.guardDo | apply EvOut.next | assumption | intro _ | exact orSub (by decide) hm | apply ev_admitTicketDone
      | apply ev_mbTicketDone | split

theorem ev_deletePart {a s : State} (h : Ev m a s) (hm : 69861380 ||| m = m) (i p) : Ev m a (deletePart s i p) := by
  dsimp only [deletePart]
  with_reducible
    repeat' first
      | assumption | exact orSub (by decide) hm | apply ev_State_updWb | apply ev_raise | apply ev_zeroRange
      | apply ev_owePart | apply Ev.ite

theorem ev_selfTestDone {a s : State} (h : Ev m a s) (hm : 69730308 ||| m = m) (failed) :
    Ev m a (selfTestDone s failed) := by
  dsimp only [selfTestDone]
  with_reducible
    repeat' first
      | assumption | exact orSub (by decide) hm | apply Ev.setF | apply ev_mbOutcome | apply ev_raise | apply ev_recordErr
      | apply ev_State_updWb | apply Ev.ite

theorem ev_mbWork {a s : State} (h : Ev m a s) (hm : 69861380 ||| m = m) (x2 failed) : Ev m a (mbWork s x2 failed) := by
  dsimp only [mbWork]
  with_reducible
    repeat' first
      | assumption | exact orSub (by decide) hm | apply ev_mbOutcome | apply Ev.setF | apply ev_putMbData
      | apply ev_deletePart | apply ev_selfTestDone | split

theorem ev_mbEnd {a s : State} (h : Ev m a s) (hm : 69861380 ||| m = m) (x2 failed) : Ev m a (mbEnd s x2 failed) := by
  dsimp only [mbEnd]
  with_reducible
    repeat' first
      | assumption | exact orSub (by decide) hm | apply ev_mbWork | apply Ev.setF | apply ev_raise | apply ev_State_updWb
      | apply Ev.ite

theorem ev_execMbDone {a s : State} (h : Ev m a s) (hm : 69861380 ||| m = m) (failed) :
    EvOut m a (execMbDone failed s) := by
  dsimp only [execMbDone]
  with_reducible repeat' first | apply EvOut.guardDo | apply EvOut.next | assumption | intro _ | apply ev_mbEnd | split

/-! ## Machine/Outs.lean -/

theorem ev_latchAlarm {a s : State} (h : Ev m a s) (hm : 539492356 ||| m = m) (no manual) :
    Ev m a (latchAlarm s no manual) := by
  dsimp only [latchAlarm]
  with_reducible
    repeat' first
      | assumption | exact orSub (by decide) hm | apply Ev.setF | apply ev_putFlag | apply ev_addF | apply ev_raise
      | apply ev_lookOuts

theorem ev_alarmCmd {a s : State} (h : Ev m a s) (hm : 539492356 ||| m = m) (v) : Ev m a (alarmCmd s v) := by
  dsimp only [alarmCmd]
  with_reducible repeat' first | assumption | intro _ | apply ev_latchAlarm | apply Ev.foldl

theorem ev_loopTick {a s : State} (h : Ev m a s) (hm : 539492356 ||| m = m) (n i v fullOn) :
    Ev m a (loopTick s n i v fullOn) := by
  dsimp only [loopTick]
  with_reducible
    repeat' first
      | assumption | exact orSub (by decide) hm | apply ev_setCh | apply ev_State_updLoop | apply ev_showLoop
      | apply ev_raise | apply Ev.ite

theorem ev_execRegulationTick {a s : State} (h : Ev m a s) (hm : 539492364 ||| m = m) (ch iUa vtMv fullOn) :
    EvOut m a (execRegulationTick ch iUa vtMv fullOn s) := by
  dsimp only [execRegulationTick]
  with_reducible
    repeat' first
      | apply EvOut.guardDo | assumption | intro _ | exact orSub (by decide) hm | apply ev_lookLoop
      | apply ev_channelBoundary | apply ev_loopTick | apply Ev.ite

theorem ev_execComplianceClear {a s : State} (h : Ev m a s) (hm : 536870916 ||| m = m) (ch) :
    EvOut m a (execComplianceClear ch s) := by
  dsimp only [execComplianceClear]
  with_reducible
    repeat' first
      | apply EvOut.guardDo | assumption | intro _ | exact orSub (by decide) hm | apply ev_showLoop | apply ev_State_updLoop

theorem ev_execLoopFallback {a s : State} (h : Ev m a s) (hm : 539492356 ||| m = m) (ch) :
    EvOut m a (execLoopFallback ch s) := by
  dsimp only [execLoopFallback]
  with_reducible
    repeat' first
      | apply EvOut.guardDo | assumption | intro _ | exact orSub (by decide) hm | apply ev_State_updLoop | apply ev_setCh
      | apply ev_raise | apply ev_showLoop

theorem ev_execLoopRetry {a s : State} (h : Ev m a s) (hm : 536870916 ||| m = m) (ch) : EvOut m a (execLoopRetry ch s) := by
  dsimp only [execLoopRetry]
  with_reducible
    repeat' first
      | apply EvOut.guardDo | assumption | intro _ | exact orSub (by decide) hm | apply ev_State_updLoop | apply ev_showLoop
      | apply ev_setCh

theorem ev_execLoopRetryEnd {a s : State} (h : Ev m a s) (hm : 536870916 ||| m = m) (ch) :
    EvOut m a (execLoopRetryEnd ch s) := by
  dsimp only [execLoopRetryEnd]
  with_reducible
    repeat' first
      | apply EvOut.guardDo | assumption | intro _ | exact orSub (by decide) hm | apply ev_showLoop | apply ev_State_updLoop
      | apply ev_setCh | apply Ev.ite

theorem ev_execLoopOpen {a s : State} (h : Ev m a s) (hm : 539492356 ||| m = m) (ch) : EvOut m a (execLoopOpen ch s) := by
  dsimp only [execLoopOpen]
  with_reducible
    repeat' first
      | apply EvOut.guardDo | assumption | intro _ | exact orSub (by decide) hm | apply ev_raise | apply ev_showLoop
      | apply ev_State_updLoop

theorem ev_execLoopOvervolt {a s : State} (h : Ev m a s) (hm : 539492356 ||| m = m) (ch vtMv) :
    EvOut m a (execLoopOvervolt ch vtMv s) := by
  dsimp only [execLoopOvervolt]
  with_reducible
    repeat' first
      | apply EvOut.guardDo | assumption | intro _ | exact orSub (by decide) hm | apply ev_setCh | apply ev_State_updLoop
      | apply ev_raise | apply ev_showLoop

theorem ev_execChannelFault {a s : State} (h : Ev m a s) (hm : 539492356 ||| m = m) (ch) :
    EvOut m a (execChannelFault ch s) := by
  dsimp only [execChannelFault]
  with_reducible
    repeat' first
      | apply EvOut.guardDo | apply EvOut.ite | assumption | intro _ | exact orSub (by decide) hm | apply ev_setCh
      | apply ev_State_updLoop | apply ev_raise | apply ev_recordErr | apply ev_showLoop | apply ev_showLamp
      | apply ev_State_updLamp

theorem ev_alarmEnds {a s : State} (h : Ev m a s) (hm : 2621444 ||| m = m) (no c score result) :
    Ev m a (alarmEnds s no c score result) := by
  dsimp only [alarmEnds]
  with_reducible repeat' first | assumption | apply ev_logRec

theorem ev_execAlarm {a s : State} (h : Ev m a s) (hm : 1613234180 ||| m = m) : EvOut m a (execAlarm s) := by
  dsimp only [execAlarm]
  with_reducible
    repeat' first
      | apply EvOut.next | assumption | exact orSub (by decide) hm | apply ev_latchAlarm | apply ev_alarmEnds | apply Ev.ite
      | split | simp only [Ev.raw_ring (orSub (by decide) hm)]

theorem ev_periodEnds {a s : State} (h : Ev m a s) (hm : 539492364 ||| m = m) (n) : Ev m a (periodEnds s n) := by
  dsimp only [periodEnds]
  with_reducible
    repeat' first
      | assumption | exact orSub (by decide) hm | apply ev_channelBoundary | apply ev_State_updLamp | apply ev_lookLamp
      | apply ev_beginPeriod | apply ev_showLamp | apply Ev.ite

theorem ev_execPwmPeriodEnd {a s : State} (h : Ev m a s) (hm : 539492364 ||| m = m) (ch) :
    EvOut m a (execPwmPeriodEnd ch s) := by
  dsimp only [execPwmPeriodEnd]
  with_reducible repeat' first | apply EvOut.guardDo | assumption | intro _ | apply ev_periodEnds

theorem ev_pulseEnds {a s : State} (h : Ev m a s) (hm : 539492356 ||| m = m) (n ma cv regulated) :
    Ev m a (pulseEnds s n ma cv regulated) := by
  dsimp only [pulseEnds]
  with_reducible
    repeat' first
      | assumption | exact orSub (by decide) hm | apply ev_setCh | apply ev_State_updLamp | apply ev_showLamp
      | apply ev_raise | apply Ev.ite

theorem ev_execDiagnosablePulseEnd {a s : State} (h : Ev m a s) (hm : 539492356 ||| m = m) (ch ma cv regulated) :
    EvOut m a (execDiagnosablePulseEnd ch ma cv regulated s) := by
  dsimp only [execDiagnosablePulseEnd]
  with_reducible repeat' first | apply EvOut.guardDo | assumption | intro _ | apply ev_pulseEnds

theorem ev_execProofPulse {a s : State} (h : Ev m a s) (hm : 539492356 ||| m = m) (ch) :
    EvOut m a (execProofPulse ch s) := by
  dsimp only [execProofPulse]
  with_reducible
    repeat' first
      | apply EvOut.guardDo | assumption | intro _ | exact orSub (by decide) hm | apply ev_State_updLamp | apply ev_showLamp
      | apply ev_setCh

theorem ev_execUnverified {a s : State} (h : Ev m a s) (hm : 539492356 ||| m = m) (ch) :
    EvOut m a (execUnverified ch s) := by
  dsimp only [execUnverified]
  with_reducible
    repeat' first
      | apply EvOut.guardDo | assumption | intro _ | exact orSub (by decide) hm | apply ev_showLamp | apply ev_State_updLamp

theorem ev_execLampOvercurrent {a s : State} (h : Ev m a s) (hm : 539492356 ||| m = m) (ch) :
    EvOut m a (execLampOvercurrent ch s) := by
  dsimp only [execLampOvercurrent]
  with_reducible
    repeat' first
      | apply EvOut.guardDo | assumption | intro _ | exact orSub (by decide) hm | apply ev_State_updLamp | apply ev_setCh
      | apply ev_raise | apply ev_showLamp

theorem ev_execLampRetry {a s : State} (h : Ev m a s) (hm : 536870912 ||| m = m) (ch) : EvOut m a (execLampRetry ch s) := by
  dsimp only [execLampRetry]
  with_reducible repeat' first | apply EvOut.guardDo | assumption | intro _ | apply ev_beginPeriod | apply ev_State_updLamp

/-! ## Machine/Listener.lean -/

theorem ev_listenerReset {a s : State} (h : Ev m a s) (hm : 1107296256 ||| m = m) (p) : Ev m a (listenerReset s p) := by
  dsimp only [listenerReset]
  with_reducible
    repeat' first
      | assumption | intro _ | exact orSub (by decide) hm | apply Ev.updListener
      | simp only [Ev.raw_ring (orSub (by decide) hm)]

theorem ev_State_updLslot {a s : State} (h : Ev m a s) (hm : 33554432 ||| m = m) (p k f) :
    Ev m a (State.updLslot s p k f) := by
  dsimp only [State.updLslot]
  with_reducible repeat' first | assumption | intro _ | apply Ev.updListener

theorem ev_setLis {a s : State} (h : Ev m a s) (hm : 4 ||| m = m) (p f v) : Ev m a (setLis s p f v) := by
  dsimp only [setLis]
  with_reducible repeat' first | assumption | apply Ev.setF

theorem ev_bAdvance {a s : State} (h : Ev m a s) (hm : 4 ||| m = m) (p) : Ev m a (bAdvance s p) := by
  dsimp only [bAdvance]
  with_reducible repeat' first | assumption | apply ev_setLis

theorem ev_bDataPut {a s : State} (h : Ev m a s) (hm : 33554436 ||| m = m) (p v) : Ev m a (bDataPut s p v) := by
  dsimp only [bDataPut]
  with_reducible
    repeat' first
      | assumption | intro _ | exact orSub (by decide) hm | apply ev_bAdvance | apply Ev.updListener | apply mputs_wf

theorem ev_State_updDet {a s : State} (h : Ev m a s) (hm : 33554432 ||| m = m) (p d f) : Ev m a (State.updDet s p d f) := by
  dsimp only [State.updDet]
  with_reducible repeat' first | assumption | intro _ | apply Ev.updListener

theorem ev_postMsg {a s : State} (h : Ev m a s) (hm : 1073741824 ||| m = m) (p k x4) : Ev m a (postMsg s p k x4) := by
  dsimp only [postMsg]
  with_reducible repeat' first | assumption | apply ev_post | simp only [Ev.raw_ring (orSub (by decide) hm)]

theorem ev_sendMsg {a s : State} (h : Ev m a s) (hm : 1107296260 ||| m = m) (p k c kind manual fb) :
    Ev m a (sendMsg s p k c kind manual fb) := by
  dsimp only [sendMsg]
  with_reducible
    repeat' first
      | assumption | exact orSub (by decide) hm | apply ev_addF | apply ev_State_updLslot | apply Ev.setF | apply ev_postMsg
      | apply Ev.ite | split | simp only [Ev.raw_ring (orSub (by decide) hm)]

theorem ev_toLevel0 {a s : State} (h : Ev m a s) (hm : 1109917700 ||| m = m) (p k c) : Ev m a (toLevel0 s p k c) := by
  dsimp only [toLevel0]
  with_reducible
    repeat' first
      | assumption | exact orSub (by decide) hm | apply ev_State_updLslot | apply ev_raise | apply ev_sendMsg

theorem ev_listenerTakes {a t : State} (s : State) (h : Ev m a t) (hm : 1109917700 ||| m = m) (p) : Ev m a (listenerTakes s t p) := by
  dsimp only [listenerTakes]
  with_reducible
    repeat' first
      | assumption | intro _ | exact orSub (by decide) hm | apply Ev.updListener | apply ev_State_updLslot
      | apply ev_toLevel0 | apply Ev.foldl | split

theorem ev_listenerCommit {a s : State} (h : Ev m a s) (hm : 1109917708 ||| m = m) (p) : Ev m a (listenerCommit s p) := by
  dsimp only [listenerCommit]
  with_reducible repeat' first | assumption | exact orSub (by decide) hm | apply ev_listenerTakes | apply ev_commitPage

theorem ev_listenerStarts {a t : State} (s : State) (h : Ev m a t) (hm : 1109917700 ||| m = m) (p) : Ev m a (listenerStarts s t p) := by
  dsimp only [listenerStarts]
  with_reducible
    repeat' first
      | assumption | intro _ | exact orSub (by decide) hm | apply Ev.updListener | apply ev_listenerTakes

theorem ev_bEnChanged {a s : State} (h : Ev m a s) (hm : 33554436 ||| m = m) (p on) : Ev m a (bEnChanged s p on) := by
  dsimp only [bEnChanged]
  with_reducible
    repeat' first
      | assumption | intro _ | exact orSub (by decide) hm | apply ev_putFlag | apply Ev.updListener | apply ev_setLis
      | apply Ev.ite

theorem ev_faultDemotes {a s : State} (h : Ev m a s) (hm : 1109917700 ||| m = m) (p) : Ev m a (faultDemotes s p) := by
  dsimp only [faultDemotes]
  with_reducible repeat' first | assumption | intro _ | apply ev_toLevel0 | apply Ev.ite | apply Ev.foldl

theorem ev_memEcc {a s : State} (h : Ev m a s) (hm : 1109917700 ||| m = m) (p off) : Ev m a (memEcc s p off) := by
  dsimp only [memEcc]
  with_reducible
    repeat' first
      | assumption | intro _ | exact orSub (by decide) hm | apply ev_setLis | apply Ev.updListener | apply ev_faultDemotes
      | apply ev_raise | apply ev_recordErr

theorem ev_bDataGet {a s : State} (h : Ev m a s) (hm : 1109917702 ||| m = m) (p corrected bad) :
    EvP m a (bDataGet s p corrected bad) := by
  dsimp only [bDataGet]
  with_reducible
    repeat' first
      | assumption | exact orSub (by decide) hm | apply ev_addF | apply EvP.fresh | apply ev_bAdvance | apply ev_memEcc
      | apply EvP.ite | apply EvP.fst | simp only [EvP.mk_iff]

theorem ev_putStatus {a s : State} (h : Ev m a s) (hm : 4 ||| m = m) (p d fired e r o fault idle blank) :
    Ev m a (putStatus s p d fired e r o fault idle blank) := by
  dsimp only [putStatus]
  with_reducible repeat' first | assumption | apply Ev.setF

theorem ev_detBlind {a s : State} (h : Ev m a s) (hm : 36175876 ||| m = m) (p d fault idle changed) :
    Ev m a (detBlind s p d fault idle changed) := by
  dsimp only [detBlind]
  with_reducible
    repeat' first
      | assumption | exact orSub (by decide) hm | apply ev_State_updDet | apply ev_raise | apply ev_putStatus | apply Ev.ite

theorem ev_detHop {a s : State} (h : Ev m a s) (hm : 33554436 ||| m = m) (p d ps count changed) :
    Ev m a (detHop s p d ps count changed) := by
  dsimp only [detHop]
  with_reducible
    repeat' first
      | assumption | exact orSub (by decide) hm | apply ev_State_updDet | apply ev_addF | apply Ev.setF | apply ev_putStatus
      | apply Ev.ite

theorem ev_hopDetectors {a s : State} (h : Ev m a s) (hm : 36175876 ||| m = m) (p) : Ev m a (hopDetectors s p) := by
  dsimp only [hopDetectors]
  with_reducible
    repeat' first
      | assumption | intro _ | exact orSub (by decide) hm | apply ev_putStatus | apply ev_State_updDet | apply ev_detBlind
      | apply ev_detHop | apply Ev.ite | apply Ev.foldl

theorem ev_newHop {x : ListenerSt} (h : Memory.wf x.image = true) : Memory.wf (newHop x).image = true := h

theorem ev_lingerSkipped {a s : State} (h : Ev m a s) (hm : 1109917700 ||| m = m) (p k) : Ev m a (lingerSkipped s p k) := by
  dsimp only [lingerSkipped]
  with_reducible
    repeat' first
      | assumption | exact orSub (by decide) hm | apply ev_State_updLslot | apply ev_toLevel0 | apply Ev.ite | split

theorem ev_toLevel2 {a s : State} (h : Ev m a s) (hm : 1109917700 ||| m = m) (p k c manual fb) :
    Ev m a (toLevel2 s p k c manual fb) := by
  dsimp only [toLevel2]
  with_reducible
    repeat' first
      | assumption | exact orSub (by decide) hm | apply ev_State_updLslot | apply ev_raise | apply ev_sendMsg

theorem ev_toLevel1 {a s : State} (h : Ev m a s) (hm : 1109917700 ||| m = m) (p k c) : Ev m a (toLevel1 s p k c) := by
  dsimp only [toLevel1]
  with_reducible
    repeat' first
      | assumption | exact orSub (by decide) hm | apply ev_State_updLslot | apply ev_raise | apply ev_sendMsg

theorem ev_slotHop {a s : State} (h : Ev m a s) (hm : 1109917700 ||| m = m) (p k) : Ev m a (slotHop s p k) := by
  dsimp only [slotHop]
  with_reducible
    repeat' first
      | assumption | exact orSub (by decide) hm | apply ev_State_updLslot | apply ev_postMsg | apply ev_toLevel2
      | apply ev_toLevel0 | apply ev_raise | apply ev_sendMsg | apply ev_toLevel1 | apply Ev.ite | split

theorem ev_beginEval {a s : State} (h : Ev m a s) (hm : 36175876 ||| m = m) (p) : Ev m a (beginEval s p) := by
  dsimp only [beginEval]
  with_reducible
    repeat' first
      | assumption | intro _ | exact orSub (by decide) hm | apply ev_raise | apply ev_addF | apply ev_setLis
      | apply Ev.updListener | apply Ev.ite

theorem ev_hopEnds {a s : State} (h : Ev m a s) (hm : 1109917708 ||| m = m) (p) : Ev m a (hopEnds s p) := by
  dsimp only [hopEnds]
  with_reducible
    repeat' first
      | assumption | intro _ | exact orSub (by decide) hm | apply Ev.updListener | apply ev_hopDetectors | apply ev_newHop
      | apply ev_lingerSkipped | apply ev_slotHop | apply ev_beginEval | apply ev_listenerCommit | apply ev_setLis
      | apply Ev.ite | apply Ev.foldl

theorem ev_execListenerHop {a s : State} (h : Ev m a s) (hm : 1109917708 ||| m = m) (p) :
    EvOut m a (execListenerHop p s) := by
  dsimp only [execListenerHop]
  with_reducible repeat' first | apply EvOut.guardDo | assumption | intro _ | apply ev_hopEnds

theorem ev_slotEval {a s : State} (h : Ev m a s) (hm : 1109917700 ||| m = m) (p k c) : Ev m a (slotEval s p k c) := by
  dsimp only [slotEval]
  with_reducible
    repeat' first
      | assumption | exact orSub (by decide) hm | apply ev_State_updLslot | apply ev_sendMsg | apply ev_toLevel2
      | apply ev_toLevel0 | apply Ev.ite

theorem ev_evalEnds {a s : State} (h : Ev m a s) (hm : 1109917700 ||| m = m) (p e) : Ev m a (evalEnds s p e) := by
  dsimp only [evalEnds]
  with_reducible
    repeat' first
      | assumption | intro _ | exact orSub (by decide) hm | apply Ev.setF | apply ev_addF | apply ev_raise
      | apply Ev.updListener | apply ev_slotEval | apply Ev.ite | apply Ev.foldl | split

theorem ev_execEvaluationDone {a s : State} (h : Ev m a s) (hm : 1109917700 ||| m = m) (p corrected badWord) :
    EvOut m a (execEvaluationDone p corrected badWord s) := by
  dsimp only [execEvaluationDone]
  with_reducible
    repeat' first
      | apply EvOut.guardDo | assumption | intro _ | exact orSub (by decide) hm | apply ev_addF | apply ev_memEcc
      | apply ev_evalEnds | split

theorem ev_checkEnds {a s : State} (h : Ev m a s) (hm : 1109917700 ||| m = m) (p) : Ev m a (checkEnds s p) := by
  dsimp only [checkEnds]
  with_reducible
    repeat' first
      | assumption | intro _ | exact orSub (by decide) hm | apply Ev.updListener | apply ev_setLis | apply ev_bEnChanged
      | apply ev_faultDemotes | apply ev_raise | apply ev_recordErr | apply Ev.ite

theorem ev_execImageCheckDone {a s : State} (h : Ev m a s) (hm : 1109917700 ||| m = m) (p corrected badWord) :
    EvOut m a (execImageCheckDone p corrected badWord s) := by
  dsimp only [execImageCheckDone]
  with_reducible
    repeat' first
      | apply EvOut.guardDo | assumption | intro _ | exact orSub (by decide) hm | apply ev_addF | apply ev_setLis
      | apply ev_memEcc | apply ev_checkEnds | split

theorem ev_ackArrives {a s : State} (h : Ev m a s) (hm : 1107296256 ||| m = m) (p k) : Ev m a (ackArrives s p k) := by
  dsimp only [ackArrives]
  with_reducible
    repeat' first
      | assumption | exact orSub (by decide) hm | apply ev_State_updLslot | apply Ev.ite | split
      | simp only [Ev.raw_ring (orSub (by decide) hm)]

theorem ev_execMessageAck {a s : State} (h : Ev m a s) (hm : 1107296256 ||| m = m) (p lslot) :
    EvOut m a (execMessageAck p lslot s) := by
  dsimp only [execMessageAck]
  with_reducible repeat' first | apply EvOut.guardDo | assumption | intro _ | apply ev_ackArrives

theorem ev_execAckTimeout {a s : State} (h : Ev m a s) (hm : 36175876 ||| m = m) (p lslot) :
    EvOut m a (execAckTimeout p lslot s) := by
  dsimp only [execAckTimeout]
  with_reducible
    repeat' first
      | apply EvOut.guardDo | assumption | intro _ | exact orSub (by decide) hm | apply ev_raise | apply ev_State_updLslot

theorem ev_reportArrives {a s : State} (h : Ev m a s) (hm : 1109917700 ||| m = m) (p k) : Ev m a (reportArrives s p k) := by
  dsimp only [reportArrives]
  with_reducible
    repeat' first
      | assumption | exact orSub (by decide) hm | apply ev_State_updLslot | apply ev_toLevel0 | apply ev_toLevel2
      | apply Ev.ite | simp only [Ev.raw_ring (orSub (by decide) hm)]

theorem ev_execDemotedReport {a s : State} (h : Ev m a s) (hm : 1109917700 ||| m = m) (p lslot) :
    EvOut m a (execDemotedReport p lslot s) := by
  dsimp only [execDemotedReport]
  with_reducible repeat' first | apply EvOut.guardDo | assumption | intro _ | apply ev_reportArrives

end Sys2Proof.Machine
end

