-- ==== Sys2Proof/Laws/Ev09.lean ====
section
/-! SUPPORT. Laws/Ev09.lean: `Ev` of every operation of Machine/Adit.lean, Machine/BedOps.lean, Machine/PageView.lean,
Machine/Access.lean. -/

namespace Sys2Proof.Machine

open Sys2Proof

/-! ## Machine/Adit.lean -/

theorem ev_beginSwap {a s : State} (h : Ev m a s) (hm : 134217732 ||| m = m) (k w) : Ev m a (beginSwap s k w) := by
  dsimp only [beginSwap]
  with_reducible
    repeat' first
      | assumption | exact orSub (by decide) hm | apply Ev.setF | apply ev_setLinkState | apply ev_State_updLink

theorem ev_requestSwap {a s : State} (h : Ev m a s) (hm : 134217732 ||| m = m) (k) : Ev m a (requestSwap s k) := by
  dsimp only [requestSwap]
  with_reducible repeat' first | assumption | exact orSub (by decide) hm | apply ev_queueCtl | apply ev_beginSwap

theorem ev_abortSwap {a s : State} (h : Ev m a s) (hm : 136839172 ||| m = m) (k fail) : Ev m a (abortSwap s k fail) := by
  dsimp only [abortSwap]
  with_reducible
    repeat' first
      | assumption | exact orSub (by decide) hm | apply ev_setLinkState | apply ev_endSwap | apply ev_raise | apply Ev.ite

theorem ev_acceptSwap {a s : State} (h : Ev m a s) (hm : 134217732 ||| m = m) (k) : Ev m a (acceptSwap s k) := by
  dsimp only [acceptSwap]
  with_reducible repeat' first | assumption | exact orSub (by decide) hm | apply ev_queueCtl | apply ev_beginSwap

theorem ev_authFail {a s : State} (h : Ev m a s) (hm : 3434938372 ||| m = m) (k j f) : Ev m a (authFail s k j f) := by
  dsimp only [authFail]
  with_reducible
    repeat' first
      | assumption | exact orSub (by decide) hm | apply ev_State_updLink | apply ev_queueCtl | apply ev_addF | apply ev_raise
      | apply ev_recordErr | apply ev_failRems | apply ev_jobStop

theorem ev_setRole {a s : State} (h : Ev m a s) (hm : 134217732 ||| m = m) (k follower) :
    Ev m a (setRole s k follower) := by
  dsimp only [setRole]
  with_reducible
    repeat' first
      | assumption | exact orSub (by decide) hm | apply ev_putFlag | apply Ev.setF | apply ev_State_updLink | apply Ev.ite

theorem ev_completeSwap {a s : State} (h : Ev m a s) (hm : 405274628 ||| m = m) (k) : Ev m a (completeSwap s k) := by
  dsimp only [completeSwap]
  with_reducible
    repeat' first
      | assumption | exact orSub (by decide) hm | apply ev_setLinkState | apply ev_endSwap | apply ev_putFlag
      | apply ev_setRole | apply ev_addF | apply ev_reselectTime | apply ev_raise

theorem ev_linkAcked {a s : State} (h : Ev m a s) (hm : 134217728 ||| m = m) (k x3) : Ev m a (linkAcked s k x3) := by
  dsimp only [linkAcked]
  with_reducible repeat' first | assumption | apply ev_State_updLink

theorem ev_coverAck {a s : State} (h : Ev m a s) (hm : 134217732 ||| m = m) (k x3) : Ev m a (coverAck s k x3) := by
  dsimp only [coverAck]
  with_reducible repeat' first | assumption | exact orSub (by decide) hm | apply ev_linkAcked | apply Ev.setF

theorem ev_takeCopy {a s : State} (h : Ev m a s) (hm : 154042372 ||| m = m) (k j f face addr bs spoil) :
    Ev m a (takeCopy s k j f face addr bs spoil) := by
  dsimp only [takeCopy]
  with_reducible
    repeat' first
      | assumption | exact orSub (by decide) hm | apply ev_linkReply | apply ev_landFace | apply ev_inject | apply Ev.ite

theorem ev_takeSignal {a s : State} (h : Ev m a s) (hm : 134316032 ||| m = m) (k j f region obj sub val) :
    Ev m a (takeSignal s k j f region obj sub val) := by
  dsimp only [takeSignal]
  with_reducible
    repeat' first
      | assumption | exact orSub (by decide) hm | apply ev_linkReply | apply ev_sendOp | apply Ev.ite

theorem ev_takeStatus {a s : State} (h : Ev m a s) (hm : 3434938372 ||| m = m) (k f code) :
    Ev m a (takeStatus s k f code) := by
  dsimp only [takeStatus]
  with_reducible repeat' first | assumption | apply ev_remAnswer | split

theorem ev_deliverData {a s : State} (h : Ev m a s) (hm : 3451879428 ||| m = m) (k j f) : Ev m a (deliverData s k j f) := by
  dsimp only [deliverData]
  with_reducible
    repeat' first
      | assumption | exact orSub (by decide) hm | apply ev_takeCopy | apply ev_takeSignal | apply ev_takeStatus | split

theorem ev_enterHold {a s : State} (h : Ev m a s) (hm : 405274628 ||| m = m) (k) : Ev m a (enterHold s k) := by
  dsimp only [enterHold]
  with_reducible
    repeat' first
      | assumption | exact orSub (by decide) hm | apply ev_endSwap | apply ev_setLinkState | apply Ev.setF
      | apply ev_State_updLink | apply ev_addF | apply ev_raise | apply ev_reselectTime | apply Ev.ite

theorem ev_takeData {a s : State} (h : Ev m a s) (hm : 3451879428 ||| m = m) (k f authOk) :
    Ev m a (takeData s k f authOk) := by
  dsimp only [takeData]
  with_reducible
    repeat' first
      | assumption | exact orSub (by decide) hm | apply ev_State_updLink | apply ev_queueCtl | apply ev_recordErr
      | apply ev_authFail | apply ev_deliverData | apply Ev.ite | split

theorem ev_execDataFrame {a s : State} (h : Ev m a s) (hm : 3451879428 ||| m = m) (k f ack crcOk authOk) :
    EvOut m a (execDataFrame k f ack crcOk authOk s) := by
  dsimp only [execDataFrame]
  with_reducible
    repeat' first
      | apply EvOut.guardDo | apply EvOut.ite | assumption | intro _ | exact orSub (by decide) hm | apply ev_queueCtl
      | apply ev_addF | apply ev_linkAcked | apply ev_takeData | apply ev_coverAck | apply Ev.ite

theorem ev_execEcho {a s : State} (h : Ev m a s) (hm : 134217732 ||| m = m) (k ns) : EvOut m a (execEcho k ns s) := by
  dsimp only [execEcho]
  with_reducible
    repeat' first
      | apply EvOut.guardDo | assumption | intro _ | exact orSub (by decide) hm | apply ev_trainFail | apply Ev.setF
      | apply Ev.ite

theorem ev_execHoldTimeout {a s : State} (h : Ev m a s) (hm : 3703373828 ||| m = m) (k) :
    EvOut m a (execHoldTimeout k s) := by
  dsimp only [execHoldTimeout]
  with_reducible repeat' first | apply EvOut.guardDo | assumption | intro _ | apply ev_linkFailed

theorem ev_onFrame {a s : State} (h : Ev m a s) (hm : 134217732 ||| m = m) (k ack f) (hf : ∀ y0, Ev m a y0 → Ev m a (f y0)) :
    EvOut m a (onFrame s k ack f) := by
  dsimp only [onFrame]
  with_reducible repeat' first | apply EvOut.guardDo | assumption | intro _ | apply ev_coverAck | apply hf

theorem ev_execIdleFrame {a s : State} (h : Ev m a s) (hm : 134217732 ||| m = m) (k ack) : EvOut m a (execIdleFrame k ack s) :=
  ev_onFrame h (orSub (by decide) hm) _ _ _ (fun _ hm => hm)

theorem ev_trainLanes {a s : State} (h : Ev m a s) (hm : 136839172 ||| m = m) (k lanes peerTwoLane) :
    Ev m a (trainLanes s k lanes peerTwoLane) := by
  dsimp only [trainLanes]
  with_reducible
    repeat' first
      | assumption | exact orSub (by decide) hm | apply ev_trainFail | apply Ev.setF | apply ev_raise | apply Ev.ite | split

theorem ev_execLanePllLock {a s : State} (h : Ev m a s) (hm : 136839172 ||| m = m) (k lanes peerTwoLane) :
    EvOut m a (execLanePllLock k lanes peerTwoLane s) := by
  dsimp only [execLanePllLock]
  with_reducible
    repeat' first
      | apply EvOut.guardDo | assumption | intro _ | exact orSub (by decide) hm | apply ev_setLinkState | apply ev_trainLanes
      | apply Ev.ite

theorem ev_putFrame {a s : State} (h : Ev m a s) (hm : 134217728 ||| m = m) (k key f) : Ev m a (putFrame s k key f) := by
  dsimp only [putFrame]
  with_reducible repeat' first | assumption | apply ev_State_updLink

theorem ev_sendControl {a s : State} (h : Ev m a s) (hm : 134217728 ||| m = m) (k op) : Ev m a (sendControl s k op) := by
  dsimp only [sendControl]
  with_reducible repeat' first | assumption | apply ev_putFrame | apply ev_State_updLink

theorem ev_sendAgain {a s : State} (h : Ev m a s) (hm : 134217732 ||| m = m) (k t) : Ev m a (sendAgain s k t) := by
  dsimp only [sendAgain]
  with_reducible repeat' first | assumption | exact orSub (by decide) hm | apply ev_State_updLink | apply ev_addF

theorem ev_sendNew {a s : State} (h : Ev m a s) (hm : 134217732 ||| m = m) (k t) : Ev m a (sendNew s k t) := by
  dsimp only [sendNew]
  with_reducible
    repeat' first
      | assumption | exact orSub (by decide) hm | apply ev_putFrame | apply ev_State_updLink | apply Ev.setF | apply ev_addF

theorem ev_sendClass {a s : State} (h : Ev m a s) (hm : 134217732 ||| m = m) (k c) : Ev m a (sendClass s k c) := by
  dsimp only [sendClass]
  with_reducible repeat' first | assumption | apply ev_sendAgain | apply ev_sendNew | split

theorem ev_sendFrame {a s : State} (h : Ev m a s) (hm : 134217732 ||| m = m) (k) : Ev m a (sendFrame s k) := by
  dsimp only [sendFrame]
  with_reducible
    repeat' first
      | assumption | exact orSub (by decide) hm | apply ev_putFrame | apply ev_sendControl | apply ev_sendClass
      | apply ev_State_updLink | apply Ev.ite | split

theorem ev_sendEcho {a s : State} (h : Ev m a s) (hm : 134217728 ||| m = m) (k) : Ev m a (sendEcho s k) := by
  dsimp only [sendEcho]
  with_reducible repeat' first | assumption | apply ev_sendControl | split

theorem ev_execLinkFrameSend {a s : State} (h : Ev m a s) (hm : 3703373836 ||| m = m) (k) :
    EvOut m a (execLinkFrameSend k s) := by
  dsimp only [execLinkFrameSend]
  with_reducible
    repeat' first
      | apply EvOut.guardDo | assumption | intro _ | exact orSub (by decide) hm | apply ev_sendFrame | apply ev_sendEcho
      | apply ev_reselectTime | apply ev_commitPage | apply ev_linkDown | apply ev_putFlag | apply Ev.ite

theorem ev_execLinkHold {a s : State} (h : Ev m a s) (hm : 405274628 ||| m = m) (k auth) :
    EvOut m a (execLinkHold k auth s) := by
  dsimp only [execLinkHold]
  with_reducible
    repeat' first
      | apply EvOut.guardDo | assumption | intro _ | exact orSub (by decide) hm | apply ev_enterHold | apply ev_addF
      | apply Ev.ite

theorem ev_trainRoles {a s : State} (h : Ev m a s) (hm : 136839172 ||| m = m) (k peerId peerFollower) :
    Ev m a (trainRoles s k peerId peerFollower) := by
  dsimp only [trainRoles]
  with_reducible
    repeat' first
      | assumption | exact orSub (by decide) hm | apply ev_setRole | apply ev_raise | apply Ev.setF | apply Ev.ite

theorem ev_linkComesUp {a s : State} (h : Ev m a s) (hm : 405274628 ||| m = m) (k peerId peerFollower) :
    Ev m a (linkComesUp s k peerId peerFollower) := by
  dsimp only [linkComesUp]
  with_reducible
    repeat' first
      | assumption | intro _ | exact orSub (by decide) hm | apply ev_State_updLink | apply Ev.setF | apply ev_trainRoles
      | apply ev_raise | apply ev_setLinkState | apply ev_reselectTime | apply Ev.foldl

theorem ev_execLinkUp {a s : State} (h : Ev m a s) (hm : 3703373828 ||| m = m) (k peerId peerFollower) :
    EvOut m a (execLinkUp k peerId peerFollower s) := by
  dsimp only [execLinkUp]
  with_reducible
    repeat' first
      | apply EvOut.guardDo | assumption | intro _ | exact orSub (by decide) hm | apply ev_linkFailed | apply Ev.setF
      | apply ev_linkComesUp | apply Ev.ite

theorem ev_takeNak {a s : State} (h : Ev m a s) (hm : 405274628 ||| m = m) (k cls seq) : Ev m a (takeNak s k cls seq) := by
  dsimp only [takeNak]
  with_reducible
    repeat' first
      | assumption | exact orSub (by decide) hm | apply ev_State_updLink | apply ev_addF | apply ev_enterHold | apply Ev.ite

theorem ev_execNak {a s : State} (h : Ev m a s) (hm : 405274628 ||| m = m) (k cls seq ack) :
    EvOut m a (execNak k cls seq ack s) := by
  dsimp only [execNak]
  with_reducible repeat' first | assumption | intro _ | exact orSub (by decide) hm | apply ev_onFrame | apply ev_takeNak

theorem ev_execProbe {a s : State} (h : Ev m a s) (hm : 134217728 ||| m = m) (k stamp) :
    EvOut m a (execProbe k stamp s) := by
  dsimp only [execProbe]
  with_reducible repeat' first | apply EvOut.guardDo | assumption | intro _ | apply ev_queueCtl

theorem ev_takeReject {a s : State} (h : Ev m a s) (hm : 3434938372 ||| m = m) (k tag cls seq reason) :
    Ev m a (takeReject s k tag cls seq reason) := by
  dsimp only [takeReject]
  with_reducible
    repeat' first
      | assumption | exact orSub (by decide) hm | apply ev_State_updLink | apply ev_failRems | apply Ev.ite

theorem ev_execReject {a s : State} (h : Ev m a s) (hm : 3434938372 ||| m = m) (k tag cls seq reason ack) :
    EvOut m a (execReject k tag cls seq reason ack s) := by
  dsimp only [execReject]
  with_reducible repeat' first | assumption | intro _ | exact orSub (by decide) hm | apply ev_onFrame | apply ev_takeReject

theorem ev_execSwapAbort {a s : State} (h : Ev m a s) (hm : 136839172 ||| m = m) (k reason ack) :
    EvOut m a (execSwapAbort k reason ack s) := by
  dsimp only [execSwapAbort]
  with_reducible
    repeat' first
      | assumption | intro _ | exact orSub (by decide) hm | apply ev_onFrame | apply ev_abortSwap | apply Ev.ite

theorem ev_execSwapAck {a s : State} (h : Ev m a s) (hm : 134217732 ||| m = m) (k ack) :
    EvOut m a (execSwapAck k ack s) := by
  dsimp only [execSwapAck]
  with_reducible
    repeat' first
      | assumption | intro _ | exact orSub (by decide) hm | apply ev_onFrame | apply ev_State_updLink | apply Ev.ite | split

theorem ev_execSwapDone {a s : State} (h : Ev m a s) (hm : 405274628 ||| m = m) (k ack) :
    EvOut m a (execSwapDone k ack s) := by
  dsimp only [execSwapDone]
  with_reducible
    repeat' first
      | assumption | intro _ | exact orSub (by decide) hm | apply ev_onFrame | apply ev_completeSwap | apply Ev.ite | split

theorem ev_execSwapDrainTimeout {a s : State} (h : Ev m a s) (hm : 136839172 ||| m = m) (k) :
    EvOut m a (execSwapDrainTimeout k s) := by
  dsimp only [execSwapDrainTimeout]
  with_reducible
    repeat' first
      | apply EvOut.guardDo | assumption | intro _ | exact orSub (by decide) hm | apply ev_queueCtl | apply ev_abortSwap

theorem ev_execSwapDrained {a s : State} (h : Ev m a s) (hm : 405274628 ||| m = m) (k) :
    EvOut m a (execSwapDrained k s) := by
  dsimp only [execSwapDrained]
  with_reducible
    repeat' first
      | apply EvOut.guardDo | assumption | intro _ | exact orSub (by decide) hm | apply ev_completeSwap | apply ev_queueCtl

theorem ev_takeSwapReq {a s : State} (h : Ev m a s) (hm : 136839172 ||| m = m) (k id) : Ev m a (takeSwapReq s k id) := by
  dsimp only [takeSwapReq]
  with_reducible
    repeat' first
      | assumption | exact orSub (by decide) hm | apply ev_acceptSwap | apply Ev.setF | apply ev_raise | apply ev_addF
      | apply ev_queueCtl | apply ev_abortSwap | apply ev_recordErr | apply Ev.ite | split

theorem ev_execSwapReq {a s : State} (h : Ev m a s) (hm : 136839172 ||| m = m) (k id ack) :
    EvOut m a (execSwapReq k id ack s) := by
  dsimp only [execSwapReq]
  with_reducible repeat' first | assumption | intro _ | exact orSub (by decide) hm | apply ev_onFrame | apply ev_takeSwapReq

theorem ev_takeTime {a s : State} (h : Ev m a s) (hm : 405274628 ||| m = m) (k t) : Ev m a (takeTime s k t) := by
  dsimp only [takeTime]
  with_reducible
    repeat' first
      | assumption | exact orSub (by decide) hm | apply Ev.setF | apply ev_State_updLink | apply ev_adoptOffset
      | apply Ev.ite

theorem ev_execTime {a s : State} (h : Ev m a s) (hm : 405274628 ||| m = m) (k t ack) : EvOut m a (execTime k t ack s) := by
  dsimp only [execTime]
  with_reducible
    repeat' first
      | assumption | intro _ | exact orSub (by decide) hm | apply ev_onFrame | apply ev_takeTime | apply Ev.ite

theorem ev_execTimeSend {a s : State} (h : Ev m a s) (hm : 134217728 ||| m = m) (k) : EvOut m a (execTimeSend k s) := by
  dsimp only [execTimeSend]
  with_reducible repeat' first | apply EvOut.guardDo | assumption | intro _ | apply ev_queueCtl

theorem ev_execTrainRetry {a s : State} (h : Ev m a s) (hm : 134217732 ||| m = m) (k) : EvOut m a (execTrainRetry k s) := by
  dsimp only [execTrainRetry]
  with_reducible
    repeat' first
      | apply EvOut.guardDo | assumption | intro _ | exact orSub (by decide) hm | apply ev_State_updLink
      | apply ev_setLinkState | apply Ev.ite

theorem ev_execTrainingAttemptFail {a s : State} (h : Ev m a s) (hm : 134217732 ||| m = m) (k) :
    EvOut m a (execTrainingAttemptFail k s) := by
  dsimp only [execTrainingAttemptFail]
  with_reducible repeat' first | apply EvOut.guardDo | assumption | intro _ | apply ev_trainFail

/-! ## Machine/BedOps.lean -/

theorem bk_commitReloc {s : BedSt} (h : Memory.wf s.bytes = true) (r x) : Memory.wf (commitReloc r x s).bytes = true := by
  dsimp only [commitReloc]
  with_reducible repeat' first | assumption | intro _ | apply bk_wearLine | apply bedFoldl | apply bedIte

theorem ev_writeFailed {a s : State} (h : Ev m a s) (hm : 205324292 ||| m = m) (r line x4) :
    Ev m a (writeFailed s r line x4) := by
  dsimp only [writeFailed]
  with_reducible
    repeat' first
      | assumption | intro _ | exact orSub (by decide) hm | apply ev_xferFail | apply Ev.updFace | apply fk_FaceSt_setIssue
      | apply ev_logFail | apply ev_State_updSync | apply ev_jobStop | split

theorem ev_lineLost {a s : State} (h : Ev m a s) (hm : 205455364 ||| m = m) (r w) : Ev m a (lineLost s r w) := by
  dsimp only [lineLost]
  with_reducible
    repeat' first
      | assumption | intro _ | exact orSub (by decide) hm | apply Ev.updBed | apply ev_raise | apply ev_recordErr
      | apply ev_writeFailed

theorem ev_endWrite {a s : State} (h : Ev m a s) (hm : 205455364 ||| m = m) (r i fails w) :
    Ev m a (endWrite s r i fails w) := by
  dsimp only [endWrite]
  with_reducible
    repeat' first
      | assumption | intro _ | exact orSub (by decide) hm | apply ev_addF | apply Ev.updBed | apply bk_wearLine
      | apply ev_lineLost | apply ev_directorySelect | apply Ev.ite | apply Ev.foldl | split
      | simp only [Ev.raw_wb (orSub (by decide) hm)]

theorem ev_execBlockRelocation {a s : State} (h : Ev m a s) (hm : 131072 ||| m = m) (r blk) :
    EvOut m a (execBlockRelocation r blk s) := by
  dsimp only [execBlockRelocation]
  with_reducible repeat' first | apply EvOut.guardDo | apply EvOut.next | assumption | intro _ | apply Ev.updBed | split

theorem ev_execLineWriteDurable {a s : State} (h : Ev m a s) (hm : 205455364 ||| m = m) (r i fails) :
    EvOut m a (execLineWriteDurable r i fails s) := by
  dsimp only [execLineWriteDurable]
  with_reducible repeat' first | apply EvOut.guardDo | apply EvOut.next | assumption | intro _ | apply ev_endWrite | split

theorem ev_execOutMarkDurable {a s : State} (h : Ev m a s) (hm : 131072 ||| m = m) (r) :
    EvOut m a (execOutMarkDurable r s) := by
  dsimp only [execOutMarkDurable]
  with_reducible
    repeat' first
      | apply EvOut.guardDo | apply EvOut.next | assumption | intro _ | apply Ev.updBed | apply bk_writeMark | split

theorem ev_spareEvents {a s : State} (h : Ev m a s) (hm : 2621444 ||| m = m) (r before) :
    Ev m a (spareEvents s r before) := by
  dsimp only [spareEvents]
  with_reducible repeat' first | assumption | apply ev_raise | apply Ev.ite

theorem ev_execRelocationCommit {a s : State} (h : Ev m a s) (hm : 2752516 ||| m = m) (r) :
    EvOut m a (execRelocationCommit r s) := by
  dsimp only [execRelocationCommit]
  with_reducible
    repeat' first
      | apply EvOut.guardDo | apply EvOut.next | assumption | intro _ | exact orSub (by decide) hm | apply ev_spareEvents
      | apply ev_raise | apply Ev.updBed | apply bk_commitReloc | split

theorem bk_scrubMark {s : BedSt} (h : Memory.wf s.bytes = true) (r line) : Memory.wf (scrubMark r line s).bytes = true := by
  dsimp only [scrubMark]
  with_reducible repeat' first | assumption | apply bk_wearLine | apply bedIte

theorem ev_scrubNext {a s : State} (h : Ev m a s) (hm : 2752516 ||| m = m) (r errs) : Ev m a (scrubNext s r errs) := by
  dsimp only [scrubNext]
  with_reducible
    repeat' first
      | assumption | intro _ | exact orSub (by decide) hm | apply ev_checkLine | apply ev_ageLines | apply Ev.updBed
      | apply bk_scrubMark

theorem ev_execScrubRead {a s : State} (h : Ev m a s) (hm : 2752516 ||| m = m) (r errs) :
    EvOut m a (execScrubRead r errs s) := by
  dsimp only [execScrubRead]
  with_reducible repeat' first | apply EvOut.guardDo | assumption | intro _ | apply ev_scrubNext

/-! ## Machine/PageView.lean -/

theorem ev_putSnap {a s : State} (h : Ev m a s) (hm : 96 ||| m = m) (sp key v) : Ev m a (putSnap s sp key v) := by
  dsimp only [putSnap]
  split
  · exact h.putSnapBk (orSub (by decide) hm) _ _
  · exact h.putSnapHost (orSub (by decide) hm) _ _

/-! ## Machine/Access.lean -/

theorem ev_faceReset {a s : State} (h : Ev m a s) (hm : 3434971140 ||| m = m) (g) : Ev m a (faceReset s g) := by
  dsimp only [faceReset]
  with_reducible
    repeat' first
      | assumption | intro _ | exact orSub (by decide) hm | apply ev_dropTransfers | apply ev_abandonLocks
      | apply ev_dropWaits | apply Ev.updFace | apply ev_jobCheckEnd | apply ev_jobStop | apply ev_escFaceLost | split

theorem ev_abandon {a s : State} (h : Ev m a s) (hm : 4290609276 ||| m = m) (ref k) : Ev m a (abandon s ref k) := by
  dsimp only [abandon]
  with_reducible
    repeat' first
      | assumption | exact orSub (by decide) hm | apply ev_sensorReset | apply ev_listenerReset | apply ev_escReset
      | apply ev_linkDown | apply ev_dropOuts | apply ev_syncReset | apply ev_faceReset | apply ev_wbReset
      | apply ev_jobqReset | split

theorem ev_peekPut {a s : State} (h : Ev m a s) (hm : 393220 ||| m = m) (g v) : Ev m a (peekPut s g v) := by
  dsimp only [peekPut]
  with_reducible repeat' first | assumption | exact orSub (by decide) hm | apply ev_sramWrite | apply ev_addF | apply Ev.ite

theorem ev_afterWrite {a s : State} (h : Ev m a s) (hm : 4290764806 ||| m = m) (sp ref k off v users) :
    Ev m a (afterWrite s sp ref k off v users) := by
  dsimp only [afterWrite]
  with_reducible
    repeat' first
      | assumption | exact orSub (by decide) hm | apply ev_requestStop | apply ev_headFollows | apply ev_cciBegin
      | apply ev_State_updLslot | apply ev_bDataPut | apply ev_State_updDet | apply ev_promoteCmd | apply ev_demote
      | apply ev_storeSave | apply ev_sigApply | apply ev_snapSave | apply ev_snapRestore | apply ev_objCfgSet
      | apply ev_requestSwap | apply ev_lookOuts | apply ev_alarmCmd | apply ev_mbBegin | apply ev_jobCmd | apply ev_queueCmd
      | apply ev_peekPut | apply Ev.ite | split

theorem ev_apertureGet {a s : State} (h : Ev m a s) (hm : 2752516 ||| m = m) (r off n errs) :
    EvP m a (apertureGet s r off n errs) := by
  dsimp only [apertureGet]
  with_reducible
    repeat' first
      | assumption | exact orSub (by decide) hm | apply ev_denyBed | apply ev_ageLines | apply ev_bedRead | apply ev_raise
      | apply ev_recordErr | apply EvP.ite | apply EvP.fst | split | simp only [EvP.mk_iff]

theorem ev_aperturePut {a s : State} (h : Ev m a s) (hm : 2752516 ||| m = m) (r off bs) :
    Ev m a (aperturePut s r off bs) := by
  dsimp only [aperturePut]
  with_reducible
    repeat' first
      | assumption | exact orSub (by decide) hm | apply ev_denyBed | apply ev_bedWrite | apply Ev.ite

theorem ev_linkChange {a s : State} (h : Ev m a s) (hm : 2621444 ||| m = m) (up ampHigh) :
    Ev m a (linkChange s up ampHigh) := by
  dsimp only [linkChange]
  with_reducible repeat' first | assumption | exact orSub (by decide) hm | apply ev_putFlag | apply ev_raise

theorem ev_applyCommit {a s : State} (h : Ev m a s) (hm : 4088299532 ||| m = m) (ref k) : Ev m a (applyCommit s ref k) := by
  dsimp only [applyCommit]
  with_reducible
    repeat' first
      | assumption | intro _ | exact orSub (by decide) hm | apply ev_sensorCommit | apply ev_listenerCommit
      | apply ev_escCommit | apply ev_reselectTime | apply ev_commitPage | apply ev_applyChannel | apply ev_linkChange
      | apply Ev.ite | apply Ev.foldl | split

theorem ev_armCommit {a s : State} (h : Ev m a s) (hm : 539492364 ||| m = m) (ref k v) : Ev m a (armCommit s ref k v) := by
  dsimp only [armCommit]
  with_reducible repeat' first | assumption | exact orSub (by decide) hm | apply Ev.setF | apply ev_armFields | apply Ev.ite

theorem ev_beginReset {a s : State} (h : Ev m a s) (hm : 4290609276 ||| m = m) (ref k) : Ev m a (beginReset s ref k) := by
  dsimp only [beginReset]
  with_reducible
    repeat' first
      | assumption | exact orSub (by decide) hm | apply ev_putFlag | apply ev_abandon | apply Ev.setF

theorem ev_endAccess {a s : State} (h : Ev m a s) (hm : 132 ||| m = m) (sp x3 v st) : Ev m a (endAccess s sp x3 v st) := by
  dsimp only [endAccess]
  with_reducible
    repeat' first
      | assumption | exact orSub (by decide) hm | apply ev_portErr | split | simp only [Ev.raw_bus (orSub (by decide) hm)]

theorem ev_startBlock {a s : State} (h : Ev m a s) (hm : 4088299532 ||| m = m) (ref k) : Ev m a (startBlock s ref k) := by
  dsimp only [startBlock]
  with_reducible
    repeat' first
      | assumption | exact orSub (by decide) hm | apply ev_putFlag | apply Ev.setF | apply ev_copyShadows
      | apply ev_sensorStarts | apply ev_listenerStarts | apply ev_judgeChains | apply ev_reselectTime | apply ev_lookOuts
      | split | simp only [Ev.raw_outs (orSub (by decide) hm)]

theorem ev_stopBlock {a s : State} (h : Ev m a s) (hm : 4088299532 ||| m = m) (ref k) : Ev m a (stopBlock s ref k) := by
  dsimp only [stopBlock]
  with_reducible
    repeat' first
      | assumption | intro _ | exact orSub (by decide) hm | apply ev_putFlag | apply ev_fieldStops | apply ev_applyCommit
      | apply ev_chainOff | apply Ev.ite | apply Ev.foldl | split

theorem ev_writeCtrl {a s : State} (h : Ev m a s) (hm : 4290740348 ||| m = m) (ref k v) : Ev m a (writeCtrl s ref k v) := by
  dsimp only [writeCtrl]
  with_reducible
    repeat' first
      | assumption | exact orSub (by decide) hm | apply ev_beginReset | apply ev_startBlock | apply ev_stopBlock
      | apply ev_bEnChanged | apply Ev.ite

theorem ev_resend {a s : State} (h : Ev m a s) (hm : 524292 ||| m = m) (ref) : Ev m a (resend s ref) := by
  dsimp only [resend]
  with_reducible repeat' first | assumption | apply ev_sendMsix | apply Ev.ite

theorem ev_writeEvtEn {a s : State} (h : Ev m a s) (hm : 2621444 ||| m = m) (ref k v) : Ev m a (writeEvtEn s ref k v) := by
  dsimp only [writeEvtEn]
  with_reducible
    repeat' first
      | assumption | intro _ | exact orSub (by decide) hm | apply Ev.setF | apply ev_resend | apply ev_deliver | apply Ev.ite
      | apply Ev.foldl

theorem ev_writeHeader {a s : State} (h : Ev m a s) (hm : 4290740348 ||| m = m) (ref k off v) :
    Ev m a (writeHeader s ref k off v) := by
  dsimp only [writeHeader]
  with_reducible
    repeat' first
      | assumption | exact orSub (by decide) hm | apply ev_writeCtrl | apply Ev.setF | apply ev_writeEvtEn | apply ev_resend
      | apply ev_armCommit | apply Ev.ite | split

theorem ev_writeField {a s : State} (h : Ev m a s) (hm : 28 ||| m = m) (ref k v x) : Ev m a (writeField s ref k v x) := by
  dsimp only [writeField]
  have kdel : ∀ f n, Ev m a { setF s ref f n with staged := tdel s.staged (fieldKey ref f) } := fun f n =>
    (Ev.setF h (orSub (by decide) hm) ref f n).delStaged (orSub (by decide) hm) _
  have kput : ∀ q n, Ev m a { s with staged := tput s.staged q n } := fun q n => h.putStaged (orSub (by decide) hm) q n
  repeat' first
    | with_reducible assumption
    | with_reducible apply Ev.setF
    | with_reducible apply Ev.setShadow
    | with_reducible apply kdel
    | with_reducible apply kput
    | with_reducible exact orSub (by decide) hm
    | split

theorem ev_writePage {a s : State} (h : Ev m a s) (hm : 4290764926 ||| m = m) (sp ref k off v users) :
    Ev m a (writePage s sp ref k off v users) := by
  dsimp only [writePage]
  with_reducible
    repeat' first
      | assumption | intro _ | exact orSub (by decide) hm | apply ev_recordErr | apply Ev.setF | apply ev_writeHeader
      | apply ev_afterWrite | apply ev_writeField | apply Ev.ite | apply Ev.foldl | split

theorem ev_unmasked {a s : State} (h : Ev m a s) (hm : 524292 ||| m = m) (v) : Ev m a (unmasked s v) := by
  dsimp only [unmasked]
  with_reducible repeat' first | assumption | exact orSub (by decide) hm | apply ev_sendMsix | apply Ev.setF | apply Ev.ite

theorem ev_writeBar2 {a s : State} (h : Ev m a s) (hm : 3670020 ||| m = m) (ref off v) :
    Ev m a (writeBar2 s ref off v) := by
  dsimp only [writeBar2]
  with_reducible
    repeat' first
      | assumption | exact orSub (by decide) hm | apply ev_unmasked | apply Ev.setF | apply ev_headWrite | apply ev_submit
      | apply Ev.ite | split

theorem ev_targetWrite {a s : State} (h : Ev m a s) (hm : 4290764926 ||| m = m) (sp x3 size v users) :
    Ev m a (targetWrite s sp x3 size v users) := by
  dsimp only [targetWrite]
  with_reducible
    repeat' first
      | assumption | exact orSub (by decide) hm | apply ev_writePage | apply ev_aperturePut | apply ev_writeBar2
      | apply Ev.ite | split

theorem ev_busWrite {a s : State} (h : Ev m a s) (hm : 4290765054 ||| m = m) (sp x3 t v users) :
    Ev m a (busWrite s sp x3 t v users) := by
  dsimp only [busWrite]
  with_reducible
    repeat' first
      | assumption | exact orSub (by decide) hm | apply ev_endAccess | apply ev_targetWrite | apply Ev.ite

theorem ev_refuseRead {a s : State} (h : Ev m a s) (hm : 4 ||| m = m) (sp ref off) : EvP m a (refuseRead s sp ref off) := by
  dsimp only [refuseRead]
  with_reducible repeat' first | assumption | apply ev_recordErr | simp only [EvP.mk_iff]

theorem ev_peekGet {a s : State} (h : Ev m a s) (hm : 3434938374 ||| m = m) (g ecc) : EvP m a (peekGet s g ecc) := by
  dsimp only [peekGet]
  with_reducible
    repeat' first
      | assumption | exact orSub (by decide) hm | apply ev_addF | apply ev_raise | apply EvP.fresh | apply ev_faceStop
      | apply EvP.ite | apply EvP.fst | split | simp only [EvP.mk_iff]

theorem ev_takeSnaps {a s : State} (h : Ev m a s) (hm : 96 ||| m = m) (sp ref k off) :
    Ev m a (takeSnaps s sp ref k off) := by
  dsimp only [takeSnaps]
  with_reducible repeat' first | assumption | intro _ | apply ev_putSnap | apply Ev.ite | apply Ev.foldl

theorem ev_readPage {a s : State} (h : Ev m a s) (hm : 3468492902 ||| m = m) (sp ref k off x6) :
    EvP m a (readPage s sp ref k off x6) := by
  dsimp only [readPage]
  with_reducible
    repeat' first
      | assumption | exact orSub (by decide) hm | apply ev_refuseRead | apply ev_peekGet | apply ev_takeSnaps
      | apply ev_bDataGet | apply EvP.ite | split | simp only [EvP.mk_iff]

theorem ev_targetRead {a s : State} (h : Ev m a s) (hm : 3468623974 ||| m = m) (sp x3 size x5) :
    EvP m a (targetRead s sp x3 size x5) := by
  dsimp only [targetRead]
  with_reducible
    repeat' first
      | assumption | exact orSub (by decide) hm | apply ev_readPage | apply ev_apertureGet | apply EvP.fst | split
      | simp only [EvP.mk_iff]

theorem ev_busRead {a s : State} (h : Ev m a s) (hm : 3468624102 ||| m = m) (sp x3 t x5) :
    EvP m a (busRead s sp x3 t x5) := by
  dsimp only [busRead]
  with_reducible
    repeat' first
      | assumption | exact orSub (by decide) hm | apply ev_targetRead | apply ev_endAccess | apply EvP.fst | split
      | simp only [EvP.mk_iff]

theorem ev_bridgeAccess {a s : State} (h : Ev m a s) (hm : 4290765054 ||| m = m) (write addr size value) :
    Ev m a (bridgeAccess s write addr size value) := by
  dsimp only [bridgeAccess]
  with_reducible
    repeat' first
      | assumption | exact orSub (by decide) hm | apply ev_busWrite | apply ev_busRead | apply Ev.ite | apply EvP.fst

theorem ev_endReset {a s : State} (h : Ev m a s) (hm : 1048700 ||| m = m) (ref k) : Ev m a (endReset s ref k) := by
  dsimp only [endReset]
  with_reducible
    repeat' first
      | assumption | exact orSub (by decide) hm | apply ev_jobqResetEnds | apply Ev.resetPage | apply Ev.ite

theorem ev_wordWrite {a s : State} (h : Ev m a s) (hm : 4290765054 ||| m = m) (sp x2 v c) :
    EvOut m a (wordWrite sp x2 v c s) := by
  dsimp only [wordWrite]
  with_reducible repeat' first | apply EvOut.guardDo | assumption | intro _ | apply ev_busWrite

theorem ev_execAlarmCmd {a s : State} (h : Ev m a s) (hm : 4290765054 ||| m = m) (sp value) :
    EvOut m a (execAlarmCmd sp value s) := by
  dsimp only [execAlarmCmd]
  with_reducible repeat' first | assumption | apply ev_wordWrite

theorem ev_execAlarmStatClear {a s : State} (h : Ev m a s) (hm : 4290765054 ||| m = m) (sp value setNow) :
    EvOut m a (execAlarmStatClear sp value setNow s) := by
  dsimp only [execAlarmStatClear]
  with_reducible repeat' first | assumption | apply ev_wordWrite

theorem ev_execApertureRead {a s : State} (h : Ev m a s) (hm : 3468624102 ||| m = m) (sp addr size errs fate) :
    EvOut m a (execApertureRead sp addr size errs fate s) := by
  dsimp only [execApertureRead]
  with_reducible repeat' first | apply EvOut.guardDo | apply EvP.fst | assumption | intro _ | apply ev_busRead

theorem ev_execApertureWrite {a s : State} (h : Ev m a s) (hm : 4290765054 ||| m = m) (sp addr size data fate) :
    EvOut m a (execApertureWrite sp addr size data fate s) := by
  dsimp only [execApertureWrite]
  with_reducible repeat' first | apply EvOut.guardDo | assumption | intro _ | apply ev_busWrite

theorem ev_wordRead {a s : State} (h : Ev m a s) (hm : 3468624102 ||| m = m) (sp x2 x3 c) :
    EvOut m a (wordRead sp x2 x3 c s) := by
  dsimp only [wordRead]
  with_reducible repeat' first | apply EvOut.guardDo | apply EvP.fst | assumption | intro _ | apply ev_busRead

theorem ev_execBDataRead {a s : State} (h : Ev m a s) (hm : 3468624102 ||| m = m) (sp p corrected badWord) :
    EvOut m a (execBDataRead sp p corrected badWord s) := by
  dsimp only [execBDataRead]
  with_reducible repeat' first | assumption | apply ev_wordRead

theorem ev_execBDataWrite {a s : State} (h : Ev m a s) (hm : 4290765054 ||| m = m) (sp p value) :
    EvOut m a (execBDataWrite sp p value s) := by
  dsimp only [execBDataWrite]
  with_reducible repeat' first | assumption | apply ev_wordWrite

theorem ev_execBEnWrite {a s : State} (h : Ev m a s) (hm : 4290765054 ||| m = m) (sp p value) :
    EvOut m a (execBEnWrite sp p value s) := by
  dsimp only [execBEnWrite]
  with_reducible repeat' first | assumption | apply ev_wordWrite

theorem ev_execBlockDisable {a s : State} (h : Ev m a s) (hm : 4290765054 ||| m = m) (sp ref value) :
    EvOut m a (execBlockDisable sp ref value s) := by
  dsimp only [execBlockDisable]
  with_reducible repeat' first | assumption | apply ev_wordWrite

theorem ev_execBlockEnable {a s : State} (h : Ev m a s) (hm : 4290765054 ||| m = m) (sp ref value) :
    EvOut m a (execBlockEnable sp ref value s) := by
  dsimp only [execBlockEnable]
  with_reducible repeat' first | assumption | apply ev_wordWrite

theorem ev_execCciGo {a s : State} (h : Ev m a s) (hm : 4290765054 ||| m = m) (sp p value) :
    EvOut m a (execCciGo sp p value s) := by
  dsimp only [execCciGo]
  with_reducible repeat' first | assumption | apply ev_wordWrite

theorem ev_execChainStoreSave {a s : State} (h : Ev m a s) (hm : 4290765054 ||| m = m) (sp value) :
    EvOut m a (execChainStoreSave sp value s) := by
  dsimp only [execChainStoreSave]
  with_reducible repeat' first | assumption | apply ev_wordWrite

theorem ev_execCommitApply {a s : State} (h : Ev m a s) (hm : 4088299532 ||| m = m) (ref) :
    EvOut m a (execCommitApply ref s) := by
  dsimp only [execCommitApply]
  with_reducible repeat' first | apply EvOut.guardDo | apply EvOut.next | assumption | intro _ | apply ev_applyCommit | split

theorem ev_execCommitArm {a s : State} (h : Ev m a s) (hm : 4290765054 ||| m = m) (sp ref) :
    EvOut m a (execCommitArm sp ref s) := by
  dsimp only [execCommitArm]
  with_reducible repeat' first | assumption | apply ev_wordWrite

theorem ev_execCounterLowRead {a s : State} (h : Ev m a s) (hm : 3468624102 ||| m = m) (sp addr size be fate) :
    EvOut m a (execCounterLowRead sp addr size be fate s) := by
  dsimp only [execCounterLowRead]
  with_reducible repeat' first | apply EvOut.guardDo | apply EvP.fst | assumption | intro _ | apply ev_busRead

theorem ev_execCqHeadWrite {a s : State} (h : Ev m a s) (hm : 4290765054 ||| m = m) (q value) :
    EvOut m a (execCqHeadWrite q value s) := by
  dsimp only [execCqHeadWrite]
  with_reducible repeat' first | assumption | apply ev_wordWrite

theorem ev_tapDo {a s : State} (h : Ev m a s) (hm : 4290765054 ||| m = m) (x2) : Ev m a (tapDo s x2) := by
  dsimp only [tapDo]
  with_reducible
    repeat' first
      | assumption | exact orSub (by decide) hm | apply ev_State_updWb | apply ev_setTap | apply ev_bridgeAccess | split

theorem ev_execDapAccess {a s : State} (h : Ev m a s) (hm : 4290765054 ||| m = m) (op) :
    EvOut m a (execDapAccess op s) := by
  dsimp only [execDapAccess]
  with_reducible repeat' first | apply EvOut.guardDo | assumption | intro _ | apply ev_tapDo

theorem ev_execDemote {a s : State} (h : Ev m a s) (hm : 4290765054 ||| m = m) (sp value) :
    EvOut m a (execDemote sp value s) := by
  dsimp only [execDemote]
  with_reducible repeat' first | assumption | apply ev_wordWrite

theorem ev_execErrinfoClear {a s : State} (h : Ev m a s) (hm : 4290765054 ||| m = m) (sp ref value setNow) :
    EvOut m a (execErrinfoClear sp ref value setNow s) := by
  dsimp only [execErrinfoClear]
  with_reducible repeat' first | assumption | apply ev_wordWrite

theorem ev_execEvqHeadWrite {a s : State} (h : Ev m a s) (hm : 4290765054 ||| m = m) (value) :
    EvOut m a (execEvqHeadWrite value s) := by
  dsimp only [execEvqHeadWrite]
  with_reducible repeat' first | assumption | apply ev_wordWrite

theorem ev_execEvtEnWrite {a s : State} (h : Ev m a s) (hm : 4290765054 ||| m = m) (sp ref value) :
    EvOut m a (execEvtEnWrite sp ref value s) := by
  dsimp only [execEvtEnWrite]
  with_reducible repeat' first | assumption | apply ev_wordWrite

theorem ev_execEvtStatClear {a s : State} (h : Ev m a s) (hm : 4290765054 ||| m = m) (sp ref value setNow) :
    EvOut m a (execEvtStatClear sp ref value setNow s) := by
  dsimp only [execEvtStatClear]
  with_reducible repeat' first | assumption | apply ev_wordWrite

theorem ev_execFloorReset {a s : State} (h : Ev m a s) (hm : 4290765054 ||| m = m) (sp p d value) :
    EvOut m a (execFloorReset sp p d value s) := by
  dsimp only [execFloorReset]
  with_reducible repeat' first | assumption | apply ev_wordWrite

theorem ev_mailbox {a s : State} (h : Ev m a s) (hm : 4290765054 ||| m = m) (sp op) : EvOut m a (mailbox sp op s) := by
  dsimp only [mailbox]
  with_reducible repeat' first | assumption | apply ev_wordWrite

theorem ev_execGetCert {a s : State} (h : Ev m a s) (hm : 4290765054 ||| m = m) (sp) : EvOut m a (execGetCert sp s) := by
  dsimp only [execGetCert]
  with_reducible repeat' first | assumption | apply ev_mailbox

theorem ev_execHeadCtrlWrite {a s : State} (h : Ev m a s) (hm : 4290765054 ||| m = m) (sp p value) :
    EvOut m a (execHeadCtrlWrite sp p value s) := by
  dsimp only [execHeadCtrlWrite]
  with_reducible repeat' first | assumption | apply ev_wordWrite

theorem ev_execHiWordWrite {a s : State} (h : Ev m a s) (hm : 4290765054 ||| m = m) (sp addr value) :
    EvOut m a (execHiWordWrite sp addr value s) := by
  dsimp only [execHiWordWrite]
  with_reducible repeat' first | assumption | apply ev_wordWrite

theorem ev_execIdleCfgWrite {a s : State} (h : Ev m a s) (hm : 4290765054 ||| m = m) (sp r value) :
    EvOut m a (execIdleCfgWrite sp r value s) := by
  dsimp only [execIdleCfgWrite]
  with_reducible repeat' first | assumption | apply ev_wordWrite

theorem ev_execJobStop {a s : State} (h : Ev m a s) (hm : 4290765054 ||| m = m) (sp value) :
    EvOut m a (execJobStop sp value s) := by
  dsimp only [execJobStop]
  with_reducible repeat' first | assumption | apply ev_wordWrite

theorem ev_execJobTicket {a s : State} (h : Ev m a s) (hm : 4290765054 ||| m = m) (sp) :
    EvOut m a (execJobTicket sp s) := by
  dsimp only [execJobTicket]
  with_reducible repeat' first | assumption | apply ev_mailbox

theorem ev_execLoWordWrite {a s : State} (h : Ev m a s) (hm : 4290765054 ||| m = m) (sp addr value) :
    EvOut m a (execLoWordWrite sp addr value s) := by
  dsimp only [execLoWordWrite]
  with_reducible repeat' first | assumption | apply ev_wordWrite

theorem ev_execModuleTicket {a s : State} (h : Ev m a s) (hm : 4290765054 ||| m = m) (sp) :
    EvOut m a (execModuleTicket sp s) := by
  dsimp only [execModuleTicket]
  with_reducible repeat' first | assumption | apply ev_mailbox

theorem ev_execObjCfgWrite {a s : State} (h : Ev m a s) (hm : 4290765054 ||| m = m) (sp r obj value) :
    EvOut m a (execObjCfgWrite sp r obj value s) := by
  dsimp only [execObjCfgWrite]
  with_reducible repeat' first | assumption | apply ev_wordWrite

theorem ev_execObjStateRead {a s : State} (h : Ev m a s) (hm : 3468624102 ||| m = m) (sp r obj) :
    EvOut m a (execObjStateRead sp r obj s) := by
  dsimp only [execObjStateRead]
  with_reducible repeat' first | assumption | apply ev_wordRead

theorem ev_execPartDelete {a s : State} (h : Ev m a s) (hm : 4290765054 ||| m = m) (sp) :
    EvOut m a (execPartDelete sp s) := by
  dsimp only [execPartDelete]
  with_reducible repeat' first | assumption | apply ev_mailbox

theorem ev_execPartList {a s : State} (h : Ev m a s) (hm : 4290765054 ||| m = m) (sp) : EvOut m a (execPartList sp s) := by
  dsimp only [execPartList]
  with_reducible repeat' first | assumption | apply ev_mailbox

theorem ev_execPeekDataRead {a s : State} (h : Ev m a s) (hm : 3468624102 ||| m = m) (sp g ecc) :
    EvOut m a (execPeekDataRead sp g ecc s) := by
  dsimp only [execPeekDataRead]
  with_reducible repeat' first | assumption | apply ev_wordRead

theorem ev_execPeekDataWrite {a s : State} (h : Ev m a s) (hm : 4290765054 ||| m = m) (sp g value) :
    EvOut m a (execPeekDataWrite sp g value s) := by
  dsimp only [execPeekDataWrite]
  with_reducible repeat' first | assumption | apply ev_wordWrite

theorem ev_execPromote {a s : State} (h : Ev m a s) (hm : 4290765054 ||| m = m) (sp value) :
    EvOut m a (execPromote sp value s) := by
  dsimp only [execPromote]
  with_reducible repeat' first | assumption | apply ev_wordWrite

theorem ev_execQueueFlush {a s : State} (h : Ev m a s) (hm : 4290765054 ||| m = m) (sp value users) :
    EvOut m a (execQueueFlush sp value users s) := by
  dsimp only [execQueueFlush]
  with_reducible repeat' first | apply EvOut.guardDo | assumption | intro _ | apply ev_busWrite

theorem ev_execRegisterWrite {a s : State} (h : Ev m a s) (hm : 4290765054 ||| m = m) (sp addr size be value setNow fate) :
    EvOut m a (execRegisterWrite sp addr size be value setNow fate s) := by
  dsimp only [execRegisterWrite]
  with_reducible repeat' first | apply EvOut.guardDo | assumption | intro _ | apply ev_busWrite

theorem ev_execRoleSwap {a s : State} (h : Ev m a s) (hm : 4290765054 ||| m = m) (sp k value) :
    EvOut m a (execRoleSwap sp k value s) := by
  dsimp only [execRoleSwap]
  with_reducible repeat' first | assumption | apply ev_wordWrite

theorem ev_execSelfTest {a s : State} (h : Ev m a s) (hm : 4290765054 ||| m = m) (sp) : EvOut m a (execSelfTest sp s) := by
  dsimp only [execSelfTest]
  with_reducible repeat' first | assumption | apply ev_mailbox

theorem ev_sigCmd {a s : State} (h : Ev m a s) (hm : 4290765054 ||| m = m) (sp r v sub) :
    EvOut m a (sigCmd sp r v sub s) := by
  dsimp only [sigCmd]
  with_reducible repeat' first | assumption | apply ev_wordWrite

theorem ev_execSigCmdAdd {a s : State} (h : Ev m a s) (hm : 4290765054 ||| m = m) (sp r value) :
    EvOut m a (execSigCmdAdd sp r value s) := by
  dsimp only [execSigCmdAdd]
  with_reducible repeat' first | assumption | apply ev_sigCmd

theorem ev_execSigCmdClear {a s : State} (h : Ev m a s) (hm : 4290765054 ||| m = m) (sp r value) :
    EvOut m a (execSigCmdClear sp r value s) := by
  dsimp only [execSigCmdClear]
  with_reducible repeat' first | assumption | apply ev_sigCmd

theorem ev_execSigCmdSet {a s : State} (h : Ev m a s) (hm : 4290765054 ||| m = m) (sp r value) :
    EvOut m a (execSigCmdSet sp r value s) := by
  dsimp only [execSigCmdSet]
  with_reducible repeat' first | assumption | apply ev_sigCmd

theorem ev_execSnapRestore {a s : State} (h : Ev m a s) (hm : 4290765054 ||| m = m) (sp r value) :
    EvOut m a (execSnapRestore sp r value s) := by
  dsimp only [execSnapRestore]
  with_reducible repeat' first | assumption | apply ev_wordWrite

theorem ev_execSnapSave {a s : State} (h : Ev m a s) (hm : 4290765054 ||| m = m) (sp r value) :
    EvOut m a (execSnapSave sp r value s) := by
  dsimp only [execSnapSave]
  with_reducible repeat' first | assumption | apply ev_wordWrite

theorem ev_execSoftReset {a s : State} (h : Ev m a s) (hm : 4290765054 ||| m = m) (sp ref value) :
    EvOut m a (execSoftReset sp ref value s) := by
  dsimp only [execSoftReset]
  with_reducible repeat' first | assumption | apply ev_wordWrite

theorem ev_execSoftResetDone {a s : State} (h : Ev m a s) (hm : 1048700 ||| m = m) (ref) :
    EvOut m a (execSoftResetDone ref s) := by
  dsimp only [execSoftResetDone]
  with_reducible repeat' first | apply EvOut.guardDo | apply EvOut.next | assumption | intro _ | apply ev_endReset | split

theorem ev_execStopCmd {a s : State} (h : Ev m a s) (hm : 4290765054 ||| m = m) (sp r value) :
    EvOut m a (execStopCmd sp r value s) := by
  dsimp only [execStopCmd]
  with_reducible repeat' first | assumption | apply ev_wordWrite

theorem ev_execSubmitHi {a s : State} (h : Ev m a s) (hm : 4290765054 ||| m = m) (q value) :
    EvOut m a (execSubmitHi q value s) := by
  dsimp only [execSubmitHi]
  with_reducible repeat' first | assumption | apply ev_wordWrite

theorem ev_execSubmitLo {a s : State} (h : Ev m a s) (hm : 4290765054 ||| m = m) (q value) :
    EvOut m a (execSubmitLo q value s) := by
  dsimp only [execSubmitLo]
  with_reducible repeat' first | assumption | apply ev_wordWrite

theorem ev_execTrigCmd {a s : State} (h : Ev m a s) (hm : 4290765054 ||| m = m) (sp p value) :
    EvOut m a (execTrigCmd sp p value s) := by
  dsimp only [execTrigCmd]
  with_reducible repeat' first | assumption | apply ev_wordWrite

theorem ev_execZeroise {a s : State} (h : Ev m a s) (hm : 4290765054 ||| m = m) (sp) : EvOut m a (execZeroise sp s) := by
  dsimp only [execZeroise]
  with_reducible repeat' first | assumption | apply ev_mailbox

end Sys2Proof.Machine
end

