-- ==== Sys2Proof/Laws/Ev10.lean ====
section
/-! SUPPORT. Laws/Ev10.lean: `Ev` of every operation of Machine/Mat.lean, Machine/Recur.lean, Machine/Attend.lean,
Machine/Elt.lean, Machine/Mgmt.lean. -/

namespace Sys2Proof.Machine

open Sys2Proof

/-! ## Machine/Mat.lean -/

theorem ev_countCycles {a s : State} (h : Ev m a s) (hm : 6 ||| m = m) (g fld) : Ev m a (countCycles s g fld) := by
  dsimp only [countCycles]
  with_reducible
    repeat' first
      | assumption | exact orSub (by decide) hm | apply EvP.fresh | apply ev_addF | apply Ev.ite | apply EvP.fst

theorem ev_matExec {a s : State} (h : Ev m a s) (hm : 3435069446 ||| m = m) (g o) : Ev m a (matExec g o s) := by
  dsimp only [matExec]
  with_reducible
    repeat' first
      | assumption | intro _ | exact orSub (by decide) hm | apply ev_stopAt | apply ev_countCycles | apply ev_startIssue
      | apply ev_sramWrite | apply ev_addF | apply ev_endStep | apply Ev.ite | apply Ev.foldl | split

theorem ev_execMat {a s : State} (h : Ev m a s) (hm : 3435069446 ||| m = m) (g ecc) : EvOut m a (execMat g ecc s) := by
  dsimp only [execMat]
  with_reducible
    repeat' first
      | assumption | intro _ | exact orSub (by decide) hm | apply ev_recordCmd | apply ev_withEcc | apply ev_matExec

/-! ## Machine/Recur.lean -/

theorem ev_sramPuts {a s : State} (h : Ev m a s) (hm : 393216 ||| m = m) (g ws spoil) : Ev m a (sramPuts s g ws spoil) := by
  dsimp only [sramPuts]
  with_reducible repeat' first | assumption | intro _ | apply ev_sramWrite | apply Ev.foldl

theorem ev_seqCmd {a s : State} (h : Ev m a s) (hm : 3434938372 ||| m = m) (g fam sub ecc exec) (hexec : ∀ y0 y1 y2 y3, Ev m a y3 → Ev m a (exec y0 y1 y2 y3)) :
    EvOut m a (seqCmd g fam sub ecc exec s) := by
  dsimp only [seqCmd]
  with_reducible repeat' first | assumption | intro _ | apply ev_recordCmd | apply ev_withEcc | apply hexec

-- no state argument: RecSt.s

theorem ev_recTile {a : State} {t : RecSt} (h : Ev m a t.s) (hm : 393216 ||| m = m) (g o x spoil k) : Ev m a (recTile g o x spoil t k).s := by
  dsimp only [recTile]
  with_reducible repeat' first | assumption | apply ev_sramPuts

theorem recFoldl {β : Type} {a : State} {x : RecSt} (h : Ev m a x.s) (l : List β) (f : RecSt → β → RecSt)
    (hf : ∀ t y, Ev m a t.s → Ev m a (f t y).s) : Ev m a (l.foldl f x).s := by
  induction l generalizing x with
  | nil => exact h
  | cons y l ih => exact ih (hf x y h)

theorem ev_recExec {a s : State} (h : Ev m a s) (hm : 3435069446 ||| m = m) (g bad o) : Ev m a (recExec g bad o s) := by
  dsimp only [recExec]
  with_reducible
    repeat' first
      | assumption | intro _ | exact orSub (by decide) hm | apply recFoldl | apply ev_recTile | apply ev_stopAt
      | apply ev_endStep | apply ev_sramWrite | apply ev_countCycles | apply ev_startIssue | split

theorem ev_execGru {a s : State} (h : Ev m a s) (hm : 3435069446 ||| m = m) (g ecc) : EvOut m a (execGru g ecc s) := by
  dsimp only [execGru]
  with_reducible repeat' first | assumption | intro _ | exact orSub (by decide) hm | apply ev_seqCmd | apply ev_recExec

theorem ev_execLstm {a s : State} (h : Ev m a s) (hm : 3435069446 ||| m = m) (g ecc) : EvOut m a (execLstm g ecc s) := by
  dsimp only [execLstm]
  with_reducible repeat' first | assumption | intro _ | exact orSub (by decide) hm | apply ev_seqCmd | apply ev_recExec

/-! ## Machine/Attend.lean -/

theorem ev_blockExec {a s : State} (h : Ev m a s) (hm : 3435069446 ||| m = m) (g bad o) : Ev m a (blockExec g bad o s) := by
  dsimp only [blockExec]
  with_reducible
    repeat' first
      | assumption | exact orSub (by decide) hm | apply ev_stopAt | apply ev_sramPuts | apply ev_countCycles
      | apply ev_startIssue | apply ev_endStep | apply ev_sramWrite | split

theorem ev_execBlock {a s : State} (h : Ev m a s) (hm : 3435069446 ||| m = m) (g ecc) : EvOut m a (execBlock g ecc s) := by
  dsimp only [execBlock]
  with_reducible repeat' first | assumption | intro _ | exact orSub (by decide) hm | apply ev_seqCmd | apply ev_blockExec

theorem ev_finishExec {a s : State} (h : Ev m a s) (hm : 3435069446 ||| m = m) (g bad o) :
    Ev m a (finishExec g bad o s) := by
  dsimp only [finishExec]
  with_reducible
    repeat' first
      | assumption | exact orSub (by decide) hm | apply ev_stopAt | apply ev_sramPuts | apply ev_countCycles
      | apply ev_startIssue | apply ev_endStep | apply ev_sramWrite | split

theorem ev_execFinish {a s : State} (h : Ev m a s) (hm : 3435069446 ||| m = m) (g ecc) :
    EvOut m a (execFinish g ecc s) := by
  dsimp only [execFinish]
  with_reducible repeat' first | assumption | intro _ | exact orSub (by decide) hm | apply ev_seqCmd | apply ev_finishExec

/-! ## Machine/Elt.lean -/

-- no state argument: EltSt.s

theorem ev_loadLane {a : State} {x : EltSt} (h : Ev m a x.s) (g w t gr lane) : Ev m a (loadLane g w t gr x lane).s := by
  dsimp only [loadLane]
  with_reducible repeat' first | assumption | split

theorem ev_storeLane {a : State} {x : EltSt} (h : Ev m a x.s) (hm : 393216 ||| m = m) (g w p t gr lane) : Ev m a (storeLane g w p t gr x lane).s := by
  dsimp only [storeLane]
  with_reducible repeat' first | assumption | apply ev_sramWrite | split

theorem ev_compareLane {a : State} {x : EltSt} (h : Ev m a x.s) (w gr lane) : Ev m a (compareLane w gr x lane).s := by
  dsimp only [compareLane]
  with_reducible repeat' first | assumption | split

theorem ev_valueLane {a : State} {x : EltSt} (h : Ev m a x.s) (f w gr lane) : Ev m a (valueLane f w gr x lane).s := by
  dsimp only [valueLane]
  with_reducible repeat' first | assumption | split

theorem eltFoldl {β : Type} {a : State} {x : EltSt} (h : Ev m a x.s) (l : List β) (f : EltSt → β → EltSt)
    (hf : ∀ t y, Ev m a t.s → Ev m a (f t y).s) : Ev m a (l.foldl f x).s := by
  induction l generalizing x with
  | nil => exact h
  | cons y l ih => exact ih (hf x y h)

theorem ev_eltInstr {a : State} {x : EltSt} (h : Ev m a x.s) (hm : 393216 ||| m = m) (g o spoil gr w) : Ev m a (eltInstr g o spoil gr x w).s := by
  dsimp only [eltInstr]
  with_reducible
    repeat' first
      | assumption | intro _ | apply eltFoldl | apply ev_loadLane | apply ev_storeLane | apply ev_compareLane
      | apply ev_valueLane | split

theorem ev_eltRun {a s : State} (h : Ev m a s) (hm : 393216 ||| m = m) (g o spoil) : Ev m a (eltRun s g o spoil).s := by
  dsimp only [eltRun]
  with_reducible repeat' first | assumption | intro _ | apply eltFoldl | apply ev_eltInstr

theorem ev_eltExec {a s : State} (h : Ev m a s) (hm : 3435069446 ||| m = m) (g o) : Ev m a (eltExec g o s) := by
  dsimp only [eltExec]
  with_reducible
    repeat' first
      | assumption | exact orSub (by decide) hm | apply ev_addF | apply ev_eltRun | apply ev_countCycles
      | apply ev_startIssue | apply ev_stopAt | split

theorem ev_execElt {a s : State} (h : Ev m a s) (hm : 3435069446 ||| m = m) (g ecc) : EvOut m a (execElt g ecc s) := by
  dsimp only [execElt]
  with_reducible
    repeat' first
      | assumption | intro _ | exact orSub (by decide) hm | apply ev_recordCmd | apply ev_withEcc | apply ev_eltExec

/-! ## Machine/Mgmt.lean -/

theorem ev_logSession {a s : State} (h : Ev m a s) (hm : 2621444 ||| m = m) (code peer role) :
    Ev m a (logSession s code peer role) := by
  dsimp only [logSession]
  with_reducible repeat' first | assumption | apply ev_logRec

theorem ev_openSession {a s : State} (h : Ev m a s) (hm : 6815748 ||| m = m) (peer operator) :
    Ev m a (openSession s peer operator) := by
  dsimp only [openSession]
  with_reducible
    repeat' first
      | assumption | exact orSub (by decide) hm | exact .inl (orSub (by decide) hm) | apply Ev.updMgmt | apply ev_logSession
      | apply ev_raise

theorem ev_failSession {a s : State} (h : Ev m a s) (hm : 2621446 ||| m = m) (peer) : Ev m a (failSession s peer) := by
  dsimp only [failSession]
  with_reducible
    repeat' first
      | assumption | exact orSub (by decide) hm | apply EvP.fresh | apply ev_logSession | apply ev_raise | apply EvP.fst

theorem ev_handshake {a s : State} (h : Ev m a s) (hm : 6815750 ||| m = m) (peer slot valid) :
    Ev m a (handshake s peer slot valid) := by
  dsimp only [handshake]
  with_reducible
    repeat' first
      | assumption | exact orSub (by decide) hm | apply ev_openSession | apply ev_failSession | apply Ev.ite | split

theorem ev_execSessionHandshake {a s : State} (h : Ev m a s) (hm : 6815750 ||| m = m) (peer anchor valid) :
    EvOut m a (execSessionHandshake peer anchor valid s) := by
  dsimp only [execSessionHandshake]
  with_reducible repeat' first | apply EvOut.guardDo | assumption | intro _ | apply ev_handshake

theorem ev_closeSession {a s : State} (h : Ev m a s) (hm : 6815748 ||| m = m) (x) : Ev m a (closeSession s x) := by
  dsimp only [closeSession]
  with_reducible
    repeat' first
      | assumption | exact orSub (by decide) hm | exact .inl (orSub (by decide) hm) | apply Ev.updMgmt | apply ev_logSession

theorem ev_execSessionIdleTimeout {a s : State} (h : Ev m a s) (hm : 6815748 ||| m = m) (session) :
    EvOut m a (execSessionIdleTimeout session s) := by
  dsimp only [execSessionIdleTimeout]
  with_reducible
    repeat' first
      | apply EvOut.guardDo | apply EvOut.next | assumption | intro _ | apply ev_closeSession | split

theorem ev_dropPartial {a s : State} (h : Ev m a s) (hm : 4194304 ||| m = m) (session reqId) :
    Ev m a (dropPartial s session reqId) := by
  dsimp only [dropPartial]
  with_reducible
    repeat' first
      | assumption | exact .inl (orSub (by decide) hm) | exact .inr (fun _ => rfl) | apply Ev.updMgmt

theorem ev_execFragmentTimeout {a s : State} (h : Ev m a s) (hm : 4194304 ||| m = m) (session reqId) :
    EvOut m a (execFragmentTimeout session reqId s) := by
  dsimp only [execFragmentTimeout]
  with_reducible repeat' first | apply EvOut.guardDo | assumption | intro _ | apply ev_dropPartial

theorem ev_sendMgmt {a s : State} (h : Ev m a s) (hm : 2097152 ||| m = m) (x) : Ev m a (sendMgmt s x) := by
  dsimp only [sendMgmt]
  with_reducible
    repeat' first
      | assumption | exact .inl (orSub (by decide) hm) | exact .inr (fun _ => rfl) | apply Ev.updMgmt

theorem ev_replyAgain {a s : State} (h : Ev m a s) (hm : 2097152 ||| m = m) (session k) :
    Ev m a (replyAgain s session k) := by
  dsimp only [replyAgain]
  with_reducible repeat' first | assumption | apply ev_sendMgmt

/-- What `Ev` asks of the gathering of a request. -/
structure EvG (m : Nat) (a : State) (x : Gathered) : Prop where
  wait : ∀ t, x = .wait t → Ev m a t
  whole : ∀ ps t, x = .whole ps t → Ev m a t

theorem ev_gather {a s : State} (h : Ev m a s) (hm : 4194304 ||| m = m) (op d) : EvG m a (gather s op d) := by
  have k1 : EvG m a .bad := ⟨fun _ e => (nomatch e), fun _ _ e => (nomatch e)⟩
  have k2 : ∀ t, Ev m a t → EvG m a (.wait t) := fun t ht => ⟨fun _ e => Gathered.wait.inj e ▸ ht, fun _ _ e => (nomatch e)⟩
  have k3 : ∀ ps t, Ev m a t → EvG m a (.whole ps t) := fun ps t ht =>
    ⟨fun _ e => (nomatch e), fun _ _ e => (Gathered.whole.inj e).2 ▸ ht⟩
  dsimp only [gather]
  repeat' first
    | with_reducible assumption
    | with_reducible apply k2
    | with_reducible apply k3
    | with_reducible apply Ev.updMgmt
    | exact .inl (orSub (by decide) hm)
    | exact .inr (fun _ => rfl)
    | with_reducible apply ev_dropPartial
    | exact orSub (by decide) hm
    | split

theorem ev_State_updSession {a s : State} (h : Ev m a s) (hm : 4194304 ||| m = m) (id f) :
    Ev m a (State.updSession s id f) := by
  dsimp only [State.updSession]
  with_reducible
    repeat' first
      | assumption | exact .inl (orSub (by decide) hm) | exact .inr (fun _ => rfl) | apply Ev.updMgmt

theorem ev_reply {a s : State} (h : Ev m a s) (hm : 6291456 ||| m = m) (session op reqId status payload) :
    Ev m a (reply s session op reqId status payload) := by
  dsimp only [reply]
  with_reducible repeat' first | assumption | exact orSub (by decide) hm | apply ev_State_updSession | apply ev_sendMgmt

theorem ev_logCommand {a s : State} (h : Ev m a s) (hm : 2621444 ||| m = m) (op region reqId status payload) :
    Ev m a (logCommand s op region reqId status payload) := by
  dsimp only [logCommand]
  with_reducible repeat' first | assumption | apply ev_logRec

theorem ev_runReq {a s : State} (h : Ev m a s) (hm : 6815748 ||| m = m) (k : ReqRule) (hk : ∀ x ps t, Ev m a t → EvP m a (k.eff x ps t)) (x reqId ps) :
    Ev m a (runReq k x reqId ps s) := by
  dsimp only [runReq]
  with_reducible
    repeat' first
      | assumption | exact orSub (by decide) hm | apply ev_reply | apply ev_logCommand | apply hk | apply EvP.fst
      | apply EvP.ite | apply EvP.mk' | split

theorem ev_takeReq {a s : State} (h : Ev m a s) (hm : 6815748 ||| m = m) (k : ReqRule) (hk : ∀ x ps t, Ev m a t → EvP m a (k.eff x ps t)) (d x) :
    Ev m a (takeReq k d x s) := by
  dsimp only [takeReq]
  have kg := ev_gather h (orSub (by decide) hm) k.op d
  split
  · split
    · exact ev_replyAgain h (orSub (by decide) hm) _ _
    · exact h
  · split
    · with_reducible
        repeat' first
          | assumption | exact orSub (by decide) hm | apply ev_reply | apply ev_logCommand | apply ev_dropPartial | split
    · rename_i t ht
      exact kg.wait _ ht
    · rename_i ps t ht
      split
      · exact ev_runReq (kg.whole _ _ ht) (orSub (by decide) hm) k hk _ _ _
      · exact h

theorem ev_serve {a s : State} (h : Ev m a s) (hm : 6815748 ||| m = m) (k : ReqRule) (hk : ∀ x ps t, Ev m a t → EvP m a (k.eff x ps t)) (d) :
    EvOut m a (serve k d s) := by
  dsimp only [serve]
  split
  · exact EvOut.guardDo h _ _ (fun t ht => ev_takeReq ht (orSub (by decide) hm) k hk _ _)
  · exact EvOut.next h

theorem ev_execPing {a s : State} (h : Ev m a s) (hm : 6815748 ||| m = m) (d) : EvOut m a (execPing d s) := by
  refine ev_serve h (orSub (by decide) hm) _ (fun x ps t ht => ?_) _
  dsimp only [pingRule, regionCmd, ReqRule.open, ReqRule.operator]
  with_reducible repeat' first | assumption | apply EvP.mk'

theorem ev_readRun {a s : State} (n x : Nat) (h : Ev m a s) (hm : 3468624102 ||| m = m) : EvP m a (readRun n x s) := by
  induction n generalizing s x with
  | zero => exact ⟨h⟩
  | succ n ih =>
    unfold readRun
    have k := (ev_busRead h (orSub (by decide) hm) .banksman x .word ReadHint.clean).fst
    dsimp only
    split
    · exact ⟨(ih _ k).fst⟩
    · exact ⟨k⟩

theorem ev_readEff {a s : State} (h : Ev m a s) (hm : 3468624102 ||| m = m) (ps) : EvP m a (readEff ps s) := by
  dsimp only [readEff]
  with_reducible repeat' first | assumption | apply ev_readRun | apply EvP.fst | simp only [EvP.mk_iff]

theorem ev_execRead {a s : State} (h : Ev m a s) (hm : 3472818406 ||| m = m) (d) : EvOut m a (execRead d s) := by
  refine ev_serve h (orSub (by decide) hm) _ (fun x ps t ht => ?_) _
  dsimp only [readRule, regionCmd, ReqRule.open, ReqRule.operator]
  with_reducible repeat' first | assumption | exact orSub (by decide) hm | apply ev_readEff

theorem ev_writeRun {a s : State} (vs : List Nat) (x : Nat) (h : Ev m a s) (hm : 4290765054 ||| m = m) : EvP m a (writeRun vs x s) := by
  induction vs generalizing s x with
  | nil => exact ⟨h⟩
  | cons v vs ih =>
    unfold writeRun
    have k := ev_busWrite h (orSub (by decide) hm) .banksman x .word v []
    dsimp only
    split
    · exact ⟨(ih _ k).fst⟩
    · exact ⟨k⟩

theorem ev_writeEff {a s : State} (h : Ev m a s) (hm : 4290765054 ||| m = m) (ps) : EvP m a (writeEff ps s) := by
  dsimp only [writeEff]
  with_reducible repeat' first | assumption | apply ev_writeRun | apply EvP.fst | simp only [EvP.mk_iff]

theorem ev_execWrite {a s : State} (h : Ev m a s) (hm : 4294959358 ||| m = m) (d) : EvOut m a (execWrite d s) := by
  refine ev_serve h (orSub (by decide) hm) _ (fun x ps t ht => ?_) _
  dsimp only [writeRule, regionCmd, ReqRule.open, ReqRule.operator]
  with_reducible repeat' first | assumption | exact orSub (by decide) hm | apply ev_writeEff

theorem ev_execQmapRead {a s : State} (h : Ev m a s) (hm : 6815748 ||| m = m) (d) : EvOut m a (execQmapRead d s) := by
  refine ev_serve h (orSub (by decide) hm) _ (fun x ps t ht => ?_) _
  dsimp only [qmapReadRule, regionCmd, ReqRule.open, ReqRule.operator]
  with_reducible repeat' first | assumption | apply EvP.mk'

theorem ev_execBringupRead {a s : State} (h : Ev m a s) (hm : 6815748 ||| m = m) (d) : EvOut m a (execBringupRead d s) := by
  refine ev_serve h (orSub (by decide) hm) _ (fun x ps t ht => ?_) _
  dsimp only [bringupReadRule, regionCmd, ReqRule.open, ReqRule.operator]
  with_reducible repeat' first | assumption | apply EvP.mk'

theorem ev_execLogRead {a s : State} (h : Ev m a s) (hm : 6815748 ||| m = m) (d) : EvOut m a (execLogRead d s) := by
  refine ev_serve h (orSub (by decide) hm) _ (fun x ps t ht => ?_) _
  dsimp only [logReadRule, regionCmd, ReqRule.open, ReqRule.operator]
  with_reducible repeat' first | assumption | apply EvP.mk'

theorem ev_execSubscribe {a s : State} (h : Ev m a s) (hm : 6815748 ||| m = m) (d) : EvOut m a (execSubscribe d s) := by
  refine ev_serve h (orSub (by decide) hm) _ (fun x ps t ht => ?_) _
  dsimp only [subscribeRule, regionCmd, ReqRule.open, ReqRule.operator]
  with_reducible repeat' first | assumption | exact orSub (by decide) hm | apply ev_State_updSession | apply EvP.mk'

theorem ev_wakeCmd {a s : State} (h : Ev m a s) (hm : 2150162436 ||| m = m) (r) : EvP m a (wakeCmd r s) := by
  dsimp only [wakeCmd]
  with_reducible repeat' first | assumption | apply ev_startRegion | apply EvP.ite | apply EvP.fst | simp only [EvP.mk_iff]

theorem ev_execWake {a s : State} (h : Ev m a s) (hm : 2154356740 ||| m = m) (d) : EvOut m a (execWake d s) := by
  refine ev_serve h (orSub (by decide) hm) _ (fun x ps t ht => ?_) _
  dsimp only [wakeRule, regionCmd, ReqRule.open, ReqRule.operator]
  with_reducible repeat' first | assumption | exact orSub (by decide) hm | apply ev_wakeCmd

theorem ev_execStop {a s : State} (h : Ev m a s) (hm : 2154307588 ||| m = m) (d) : EvOut m a (execStop d s) := by
  refine ev_serve h (orSub (by decide) hm) _ (fun x ps t ht => ?_) _
  dsimp only [stopRule, regionCmd, ReqRule.open, ReqRule.operator]
  with_reducible repeat' first | assumption | exact orSub (by decide) hm | apply ev_requestStop | apply EvP.mk'

theorem ev_execStopForce {a s : State} (h : Ev m a s) (hm : 2154307588 ||| m = m) (d) : EvOut m a (execStopForce d s) := by
  refine ev_serve h (orSub (by decide) hm) _ (fun x ps t ht => ?_) _
  dsimp only [stopForceRule, regionCmd, ReqRule.open, ReqRule.operator]
  with_reducible repeat' first | assumption | exact orSub (by decide) hm | apply ev_requestStop | apply EvP.mk'

theorem ev_holdRegion {a s : State} (h : Ev m a s) (hm : 2150129668 ||| m = m) (r force) :
    Ev m a (holdRegion s r force) := by
  dsimp only [holdRegion]
  with_reducible
    repeat' first
      | assumption | exact orSub (by decide) hm | apply ev_State_updRegion | apply ev_logPower | apply ev_requestStop
      | apply Ev.ite | simp only [Ev.raw_wakeQ (orSub (by decide) hm)]

theorem ev_holdCmd {a s : State} (h : Ev m a s) (hm : 2150129668 ||| m = m) (force r) : EvP m a (holdCmd force r s) := by
  dsimp only [holdCmd]
  with_reducible repeat' first | assumption | apply ev_holdRegion | apply EvP.ite | simp only [EvP.mk_iff]

theorem ev_execHold {a s : State} (h : Ev m a s) (hm : 2154323972 ||| m = m) (d) : EvOut m a (execHold d s) := by
  refine ev_serve h (orSub (by decide) hm) _ (fun x ps t ht => ?_) _
  dsimp only [holdRule, regionCmd, ReqRule.open, ReqRule.operator]
  with_reducible repeat' first | assumption | exact orSub (by decide) hm | apply ev_holdCmd

theorem ev_execHoldForce {a s : State} (h : Ev m a s) (hm : 2154323972 ||| m = m) (d) : EvOut m a (execHoldForce d s) := by
  refine ev_serve h (orSub (by decide) hm) _ (fun x ps t ht => ?_) _
  dsimp only [holdForceRule, regionCmd, ReqRule.open, ReqRule.operator]
  with_reducible repeat' first | assumption | exact orSub (by decide) hm | apply ev_holdCmd

theorem ev_releaseCmd {a s : State} (h : Ev m a s) (hm : 2646020 ||| m = m) (r) : EvP m a (releaseCmd r s) := by
  dsimp only [releaseCmd]
  with_reducible
    repeat' first
      | assumption | exact orSub (by decide) hm | apply ev_State_updRegion | apply ev_logPower | apply ev_restoreConnectivity
      | apply EvP.ite | split | simp only [EvP.mk_iff]

theorem ev_execRelease {a s : State} (h : Ev m a s) (hm : 6840324 ||| m = m) (d) : EvOut m a (execRelease d s) := by
  refine ev_serve h (orSub (by decide) hm) _ (fun x ps t ht => ?_) _
  dsimp only [releaseRule, regionCmd, ReqRule.open, ReqRule.operator]
  with_reducible repeat' first | assumption | exact orSub (by decide) hm | apply ev_releaseCmd

theorem ev_retestCmd {a s : State} (h : Ev m a s) (hm : 7168 ||| m = m) (on r) : EvP m a (retestCmd on r s) := by
  dsimp only [retestCmd]
  with_reducible
    repeat' first
      | assumption | exact orSub (by decide) hm | exact .inl (orSub (by decide) hm) | apply ev_State_updBoot
      | apply Ev.updMap | apply ev_State_updEntry | apply EvP.ite | split | simp only [EvP.mk_iff]

theorem ev_execRetestSet {a s : State} (h : Ev m a s) (hm : 6822916 ||| m = m) (d) : EvOut m a (execRetestSet d s) := by
  refine ev_serve h (orSub (by decide) hm) _ (fun x ps t ht => ?_) _
  dsimp only [retestSetRule, regionCmd, ReqRule.open, ReqRule.operator]
  with_reducible repeat' first | assumption | exact orSub (by decide) hm | apply ev_retestCmd

theorem ev_execRetestClear {a s : State} (h : Ev m a s) (hm : 6822916 ||| m = m) (d) : EvOut m a (execRetestClear d s) := by
  refine ev_serve h (orSub (by decide) hm) _ (fun x ps t ht => ?_) _
  dsimp only [retestClearRule, regionCmd, ReqRule.open, ReqRule.operator]
  with_reducible repeat' first | assumption | exact orSub (by decide) hm | apply ev_retestCmd

theorem ev_execModuleReset {a s : State} (h : Ev m a s) (hm : 4261412732 ||| m = m) (d) : EvOut m a (execModuleReset d s) := by
  refine ev_serve h (orSub (by decide) hm) _ (fun x ps t ht => ?_) _
  dsimp only [moduleResetRule, regionCmd, ReqRule.open, ReqRule.operator]
  with_reducible repeat' first | assumption | exact orSub (by decide) hm | apply ev_vbusDown | apply EvP.mk' | split

theorem ev_trustEff {a s : State} (h : Ev m a s) (hm : 4194304 ||| m = m) (ps) : EvP m a (trustEff ps s) := by
  dsimp only [trustEff]
  with_reducible
    repeat' first
      | assumption | exact .inl (orSub (by decide) hm) | exact .inr (fun _ => rfl) | apply Ev.updMgmt | split
      | simp only [EvP.mk_iff]

theorem ev_execTrust {a s : State} (h : Ev m a s) (hm : 6815748 ||| m = m) (d) : EvOut m a (execTrust d s) := by
  refine ev_serve h (orSub (by decide) hm) _ (fun x ps t ht => ?_) _
  dsimp only [trustRule, regionCmd, ReqRule.open, ReqRule.operator]
  with_reducible repeat' first | assumption | exact orSub (by decide) hm | apply ev_trustEff

theorem ev_execNet {a s : State} (h : Ev m a s) (hm : 6815748 ||| m = m) (d) : EvOut m a (execNet d s) := by
  refine ev_serve h (orSub (by decide) hm) _ (fun x ps t ht => ?_) _
  dsimp only [netRule, regionCmd, ReqRule.open, ReqRule.operator]
  with_reducible repeat' first | assumption | exact .inl (orSub (by decide) hm) | apply Ev.updMgmt | apply EvP.mk'

theorem ev_execHoldStopRetry {a s : State} (h : Ev m a s) (hm : 2147491840 ||| m = m) (r) :
    EvOut m a (execHoldStopRetry r s) := by
  dsimp only [execHoldStopRetry]
  with_reducible repeat' first | apply EvOut.guardDo | assumption | intro _ | apply ev_requestStop

theorem ev_pokeRoute {a s : State} (h : Ev m a s) (hm : 32768 ||| m = m) (r x) : Ev m a (pokeRoute s r x) := by
  dsimp only [pokeRoute]
  with_reducible repeat' first | assumption | apply ev_State_updRoad

theorem ev_convertersOff {a s : State} (h : Ev m a s) (hm : 4257212540 ||| m = m) (d st) :
    Ev m a (convertersOff s d st) := by
  dsimp only [convertersOff]
  with_reducible
    repeat' first
      | assumption | exact orSub (by decide) hm | apply ev_tamperGoesOn | apply ev_releaseTransit
      | apply ev_restoreConnectivity | apply ev_logPower | apply ev_leaveRun | apply ev_wakeLost | apply ev_State_updRegion
      | apply Ev.ite | split

theorem ev_putLastDis {a s : State} (h : Ev m a s) (hm : 4 ||| m = m) (d st view router action) :
    Ev m a (putLastDis s d st view router action) := by
  dsimp only [putLastDis]
  with_reducible repeat' first | assumption | apply Ev.setF

theorem ev_disagreeHost {a s : State} (h : Ev m a s) (hm : 2621444 ||| m = m) : Ev m a (disagreeHost s) := by
  dsimp only [disagreeHost]
  with_reducible
    repeat' first
      | assumption | exact orSub (by decide) hm | apply ev_hostEventRaw | apply ev_followUp | apply ev_sendMsix
      | apply Ev.ite | apply EvP.fst

theorem ev_disagree {a s : State} (h : Ev m a s) (hm : 4257212540 ||| m = m) (d view router powered) :
    Ev m a (disagree s d view router powered) := by
  dsimp only [disagree]
  with_reducible
    repeat' first
      | assumption | exact orSub (by decide) hm | apply ev_routesDead | apply ev_convertersOff | apply ev_logRec
      | apply ev_putLastDis | apply ev_addF | apply ev_recordErr | apply ev_disagreeHost | apply ev_raise | apply Ev.ite

theorem ev_judgeRoute {a s : State} (h : Ev m a s) (hm : 4257212540 ||| m = m) (r x) : Ev m a (judgeRoute r s x) := by
  dsimp only [judgeRoute]
  with_reducible
    repeat' first
      | assumption | exact orSub (by decide) hm | apply ev_setRoute | apply ev_logRec | apply ev_disagree | apply Ev.ite

theorem ev_report {a s : State} (h : Ev m a s) (hm : 4257212540 ||| m = m) (r routes powered) :
    Ev m a (report s r routes powered) := by
  dsimp only [report]
  with_reducible
    repeat' first
      | assumption | intro _ | exact orSub (by decide) hm | apply ev_pokeRoute | apply ev_putFlag | apply ev_raise
      | apply ev_judgeRoute | apply ev_disagree | apply Ev.ite | apply Ev.foldl

theorem ev_execBanksmanReport {a s : State} (h : Ev m a s) (hm : 4257212540 ||| m = m) (r routes powered) :
    EvOut m a (execBanksmanReport r routes powered s) := by
  dsimp only [execBanksmanReport]
  with_reducible repeat' first | apply EvOut.guardDo | assumption | intro _ | apply ev_report

theorem ev_execBanksmanLost {a s : State} (h : Ev m a s) (hm : 4257217148 ||| m = m) (r) :
    EvOut m a (execBanksmanLost r s) := by
  dsimp only [execBanksmanLost]
  with_reducible
    repeat' first
      | apply EvOut.guardDo | assumption | intro _ | exact orSub (by decide) hm | apply ev_failRegion | apply ev_raise

theorem ev_silence {a s : State} (h : Ev m a s) (hm : 4257212540 ||| m = m) (r) : Ev m a (silence s r) := by
  dsimp only [silence]
  with_reducible
    repeat' first
      | assumption | exact orSub (by decide) hm | apply ev_tamperGoesOn | apply ev_admitLost | apply ev_releaseTransit
      | apply ev_restoreConnectivity | apply ev_logPower | apply ev_leaveRun | apply ev_wakeLost | apply ev_State_updRegion
      | apply Ev.ite

theorem ev_execForemanSilence {a s : State} (h : Ev m a s) (hm : 4257212540 ||| m = m) (r) :
    EvOut m a (execForemanSilence r s) := by
  dsimp only [execForemanSilence]
  with_reducible repeat' first | apply EvOut.guardDo | assumption | intro _ | apply ev_silence

theorem ev_ringError {a s : State} (h : Ev m a s) (hm : 6 ||| m = m) (r) : Ev m a (ringError s r) := by
  dsimp only [ringError]
  with_reducible repeat' first | assumption | exact orSub (by decide) hm | apply EvP.fresh | apply ev_addF | apply EvP.fst

theorem ev_unreach {a s : State} (h : Ev m a s) (hm : 2147510272 ||| m = m) (r) : Ev m a (unreach s r) := by
  dsimp only [unreach]
  with_reducible
    repeat' first
      | assumption | exact orSub (by decide) hm | apply ev_State_updRegion | apply ev_State_updEntry | apply Ev.ite
      | simp only [Ev.raw_queues (orSub (by decide) hm) (orSub (by decide) hm)]

theorem ev_ringBreak {a s : State} (h : Ev m a s) (hm : 2150131718 ||| m = m) (cw unreached) :
    Ev m a (ringBreak s cw unreached) := by
  dsimp only [ringBreak]
  with_reducible
    repeat' first
      | assumption | intro _ | exact orSub (by decide) hm | apply Ev.setF | apply ev_ringError | apply ev_raise
      | apply ev_unreach | apply Ev.ite | apply Ev.foldl

theorem ev_execRingFault {a s : State} (h : Ev m a s) (hm : 2150131718 ||| m = m) (cw unreached) :
    EvOut m a (execRingFault cw unreached s) := by
  dsimp only [execRingFault]
  with_reducible repeat' first | apply EvOut.guardDo | assumption | intro _ | apply ev_ringBreak

theorem ev_execMgmtLinkChange {a s : State} (h : Ev m a s) (hm : 2621444 ||| m = m) (up ampHigh) :
    EvOut m a (execMgmtLinkChange up ampHigh s) := by
  dsimp only [execMgmtLinkChange]
  with_reducible repeat' first | apply EvOut.guardDo | assumption | intro _ | apply ev_linkChange

theorem ev_sendTelemetry {a s : State} (h : Ev m a s) (hm : 2097152 ||| m = m) (ms busy) :
    Ev m a (sendTelemetry s ms busy) := by
  dsimp only [sendTelemetry]
  with_reducible repeat' first | assumption | intro _ | apply ev_sendMgmt | apply Ev.foldl

theorem ev_execTelemetryPeriod {a s : State} (h : Ev m a s) (hm : 2097152 ||| m = m) (items busy) :
    EvOut m a (execTelemetryPeriod items busy s) := by
  dsimp only [execTelemetryPeriod]
  with_reducible repeat' first | apply EvOut.guardDo | assumption | intro _ | apply ev_sendTelemetry

theorem ev_execBackgroundWake {a s : State} (h : Ev m a s) (hm : 2150162436 ||| m = m) (vinLow) :
    EvOut m a (execBackgroundWake vinLow s) := by
  dsimp only [execBackgroundWake]
  with_reducible
    repeat' first
      | apply EvOut.guardDo | apply EvOut.next | apply EvP.fst | assumption | intro _ | exact orSub (by decide) hm
      | apply ev_addF | apply ev_startRegion | split

theorem ev_passEnd {a s : State} (h : Ev m a s) (hm : 2150244356 ||| m = m) (r) : Ev m a (passEnd s r) := by
  dsimp only [passEnd]
  with_reducible
    repeat' first
      | assumption | intro _ | exact orSub (by decide) hm | apply Ev.updBed | apply ev_raise | apply ev_State_updRegion
      | apply ev_requestStop | apply Ev.ite

theorem ev_execScrubPassEnd {a s : State} (h : Ev m a s) (hm : 2150244356 ||| m = m) (r) :
    EvOut m a (execScrubPassEnd r s) := by
  dsimp only [execScrubPassEnd]
  with_reducible repeat' first | apply EvOut.guardDo | assumption | intro _ | apply ev_passEnd

theorem ev_overdue {a s : State} (h : Ev m a s) (hm : 2621444 ||| m = m) : Ev m a (overdue s) := by
  dsimp only [overdue]
  with_reducible repeat' first | assumption | apply ev_raise | apply ev_logRec | apply Ev.ite

theorem ev_ageHour {a s : State} (h : Ev m a s) (hm : 2629636 ||| m = m) (r) : Ev m a (ageHour s r) := by
  dsimp only [ageHour]
  with_reducible
    repeat' first
      | assumption | exact orSub (by decide) hm | apply ev_State_updRegion | apply ev_overdue | apply Ev.ite

theorem ev_execScrubAgeHour {a s : State} (h : Ev m a s) (hm : 2629636 ||| m = m) (r) :
    EvOut m a (execScrubAgeHour r s) := by
  dsimp only [execScrubAgeHour]
  with_reducible repeat' first | apply EvOut.guardDo | assumption | intro _ | apply ev_ageHour

theorem ev_coldPlate {a s : State} (h : Ev m a s) (hm : 2621700 ||| m = m) (t) : Ev m a (coldPlate s t) := by
  dsimp only [coldPlate]
  with_reducible
    repeat' first
      | assumption | exact orSub (by decide) hm | exact .inl (orSub (by decide) hm) | exact .inr (fun _ => rfl)
      | apply Ev.updCarrier | apply ev_logRec | apply Ev.ite

theorem ev_execColdPlateSensorFault {a s : State} (h : Ev m a s) (hm : 2621700 ||| m = m) (reading) :
    EvOut m a (execColdPlateSensorFault reading s) := by
  dsimp only [execColdPlateSensorFault]
  with_reducible repeat' first | apply EvOut.guardDo | assumption | intro _ | apply ev_coldPlate

end Sys2Proof.Machine
end

