-- ==== Sys2Proof/Laws/Ev11.lean ====
section
/-! SUPPORT. Laws/Ev11.lean: `Ev` of every operation of Machine/PowerUp.lean, Machine/Step.lean. -/

namespace Sys2Proof.Machine

open Sys2Proof

/-! ## Machine/PowerUp.lean -/

theorem tget_map_wf {α β : Type} (d : α) (e : β) (f : α → β) (m : Tab α) (P : α → Prop) (Q : β → Prop) (hf : ∀ x, P x → Q (f x))
    (he : Q e) (k : Nat) (h : P (tget d m k)) : Q (tget e (m.map (fun p => (p.1, f p.2))) k) := by
  unfold tget at h ⊢
  rw [tfind_map]
  cases hk : tfind m k with
  | none => exact he
  | some x => rw [hk] at h; exact hf _ h

theorem ev_coldReset {a s : State} (h : Ev m a s) (hm : 4294967293 ||| m = m) : Ev m a (coldReset s) := by
  refine h.trans ⟨rfl, Nat.le_refl _, fun c => ⟨⟨rfl, rfl, rfl, rfl, rfl⟩, ⟨c.memories.host, ?_, ?_, ?_⟩⟩, fun p hp => ?_⟩
  · intro q
    exact tget_map_wf BedSt.reset BedSt.reset (fun b => { b with digests := [], unpaced := false }) s.beds
      (fun b => Memory.wf b.bytes = true) (fun b => Memory.wf b.bytes = true) (fun _ hx => hx) rfl q (c.memories.beds q)
  · intro q
    rfl
  · intro q
    exact tget_map_wf ListenerSt.reset ListenerSt.reset (fun b => { ListenerSt.reset with image := b.image }) s.listeners
      (fun b => Memory.wf b.image = true) (fun b => Memory.wf b.image = true) (fun _ hx => hx) rfl q (c.memories.listeners q)
  · cases p <;> first | rfl | exact absurd ((orBit (orSub (x := 2 ^ _) (by decide) hm)).symm.trans hp) (by decide)

theorem ev_coldStart {a s : State} (h : Ev m a s) (hm : 4294967293 ||| m = m) : Ev m a (coldStart s) := by
  dsimp only [coldStart]
  with_reducible
    repeat' first
      | assumption | exact orSub (by decide) hm | exact .inl (orSub (by decide) hm) | apply Ev.updCarrier
      | apply ev_coldReset | apply ev_State_updBoot | apply ev_setPhase

theorem ev_execColdStart {a s : State} (h : Ev m a s) (hm : 4294967293 ||| m = m) (vin) :
    EvOut m a (execColdStart vin s) := by
  dsimp only [execColdStart]
  with_reducible repeat' first | assumption | intro _ | exact orSub (by decide) hm | apply ev_vinDo | apply ev_coldStart

theorem ev_logStart {a s : State} (h : Ev m a s) (hm : 2621444 ||| m = m) (code) : Ev m a (logStart s code) := by
  dsimp only [logStart]
  with_reducible repeat' first | assumption | apply ev_logRec

theorem ev_crystalUp {a s : State} (h : Ev m a s) (hm : 3703431429 ||| m = m) (chk) : Ev m a (crystalUp s chk) := by
  dsimp only [crystalUp]
  with_reducible
    repeat' first
      | assumption | exact orSub (by decide) hm | exact .inl (orSub (by decide) hm) | exact .inr (fun _ => rfl)
      | apply Ev.updCarrier | apply ev_setPhase | apply Ev.setF | apply ev_logStart | apply ev_wbStart
      | apply ev_chainStoreLoad | simp only [Ev.raw_time (orSub (by decide) hm)]

theorem ev_execCrystalStable {a s : State} (h : Ev m a s) (hm : 3703431429 ||| m = m) (chk) :
    EvOut m a (execCrystalStable chk s) := by
  dsimp only [execCrystalStable]
  with_reducible repeat' first | apply EvOut.guardDo | assumption | intro _ | apply ev_crystalUp

theorem ev_applyRetests {a s : State} (h : Ev m a s) (hm : 2048 ||| m = m) : Ev m a (applyRetests s) := by
  dsimp only [applyRetests]
  with_reducible repeat' first | assumption | intro _ | apply ev_State_updEntry | apply Ev.foldl

theorem ev_coldRecord {a s : State} (h : Ev m a s) (hm : 2048 ||| m = m) : Ev m a (coldRecord s) := by
  dsimp only [coldRecord]
  with_reducible
    repeat' first
      | assumption | intro _ | exact .inl (orSub (by decide) hm) | exact .inr (fun _ => rfl) | apply ev_applyRetests
      | apply ev_State_updEntry | apply Ev.updMap | apply Ev.foldl

theorem ev_putElapsed {a s : State} (h : Ev m a s) (hm : 4 ||| m = m) : Ev m a (putElapsed s) := by
  dsimp only [putElapsed]
  with_reducible repeat' first | assumption | apply Ev.setF

theorem ev_setAnchor {a s : State} (h : Ev m a s) (hm : 1024 ||| m = m) (q) : Ev m a (setAnchor s q) := by
  dsimp only [setAnchor]
  with_reducible repeat' first | assumption | exact .inl (orSub (by decide) hm) | exact .inr (fun _ => rfl) | apply Ev.updMap

theorem ev_ready {a s : State} (h : Ev m a s) (hm : 3435000836 ||| m = m) : Ev m a (ready s) := by
  dsimp only [ready]
  with_reducible
    repeat' first
      | assumption | intro _ | exact orSub (by decide) hm | apply ev_putElapsed | apply ev_setPhase | apply ev_State_updBoot
      | apply ev_setAnchor | apply ev_raise | apply ev_requestStop | apply ev_actOnPending | apply ev_wakeZeroing
      | apply ev_startRegion | apply Ev.ite | apply Ev.foldl | apply EvP.fst

theorem ev_beginWrite {a s : State} (h : Ev m a s) (hm : 1024 ||| m = m) (atReady) : Ev m a (beginWrite s atReady) := by
  dsimp only [beginWrite]
  refine Ev.updMap h _ (.inl (orSub (by decide) hm)) (.inr (fun x => ?_))
  by_cases hx : x.selB = true <;> simp [hx]

theorem ev_roundsOver {a s : State} (h : Ev m a s) (hm : 3435002884 ||| m = m) : Ev m a (roundsOver s) := by
  dsimp only [roundsOver]
  with_reducible
    repeat' first
      | assumption | intro _ | exact orSub (by decide) hm | apply ev_State_updEntry | apply ev_applyRetests
      | apply ev_coldRecord | apply ev_ready | apply ev_beginWrite | apply ev_setPhase | apply Ev.ite | apply Ev.foldl

theorem ev_roundEnds {a s : State} (h : Ev m a s) (hm : 3435002884 ||| m = m) : Ev m a (roundEnds s) := by
  dsimp only [roundEnds]
  with_reducible
    repeat' first
      | assumption | exact orSub (by decide) hm | apply ev_State_updBoot | apply ev_roundsOver | apply Ev.ite

theorem ev_execRoundComplete {a s : State} (h : Ev m a s) (hm : 3435002884 ||| m = m) :
    EvOut m a (execRoundComplete s) := by
  dsimp only [execRoundComplete]
  with_reducible repeat' first | apply EvOut.guardDo | assumption | intro _ | apply ev_roundEnds

theorem ev_logStates {a s : State} (h : Ev m a s) (hm : 2621444 ||| m = m) (old) : Ev m a (logStates s old) := by
  dsimp only [logStates]
  with_reducible repeat' first | assumption | intro _ | apply ev_logPower | apply Ev.ite | apply Ev.foldl

theorem ev_commitMap {a s : State} (h : Ev m a s) (hm : 2624516 ||| m = m) (q) : Ev m a (commitMap s q) := by
  dsimp only [commitMap]
  with_reducible
    repeat' first
      | assumption | exact orSub (by decide) hm | exact .inl (orSub (by decide) hm) | apply Ev.updMap | apply ev_setAnchor
      | apply ev_raise | apply ev_publish | apply ev_logRec | apply ev_logStates

theorem ev_halt {a s : State} (h : Ev m a s) (hm : 2150134788 ||| m = m) : Ev m a (halt s) := by
  dsimp only [halt]
  with_reducible
    repeat' first
      | assumption | intro _ | exact orSub (by decide) hm | exact .inl (orSub (by decide) hm) | exact .inr (fun _ => rfl)
      | apply Ev.updMap | apply ev_putElapsed | apply ev_setPhase | apply ev_State_updBoot | apply ev_raise
      | apply ev_State_updRegion | apply ev_requestStop | apply Ev.ite | apply Ev.foldl
      | simp only [Ev.raw_wakeQ (orSub (by decide) hm)]

theorem ev_writeEnds {a s : State} (h : Ev m a s) (hm : 3435002884 ||| m = m) (q n ok) : Ev m a (writeEnds s q n ok) := by
  dsimp only [writeEnds]
  with_reducible
    repeat' first
      | assumption | exact orSub (by decide) hm | exact .inl (orSub (by decide) hm) | apply ev_commitMap | apply ev_ready
      | apply ev_restoreConnectivity | apply ev_strand | apply Ev.updMap | apply ev_halt | apply Ev.ite

theorem ev_execQmapWriteDone {a s : State} (h : Ev m a s) (hm : 3435002884 ||| m = m) (ok) :
    EvOut m a (execQmapWriteDone ok s) := by
  dsimp only [execQmapWriteDone]
  with_reducible repeat' first | apply EvOut.guardDo | apply EvOut.next | assumption | intro _ | apply ev_writeEnds | split

theorem ev_execQmapCommit {a s : State} (h : Ev m a s) (hm : 1024 ||| m = m) : EvOut m a (execQmapCommit s) := by
  dsimp only [execQmapCommit]
  with_reducible repeat' first | apply EvOut.guardDo | assumption | intro _ | apply ev_beginWrite

theorem ev_warmStart {a s : State} (h : Ev m a s) (hm : 3434954108 ||| m = m) : Ev m a (warmStart s) := by
  dsimp only [warmStart]
  with_reducible
    repeat' first
      | assumption | exact orSub (by decide) hm | exact .inl (orSub (by decide) hm) | exact .inr (fun _ => rfl)
      | apply Ev.updCarrier | apply Ev.setF | apply ev_warmChains | apply ev_hostReset | apply ev_mapSelect
      | apply ev_logStart | simp only [Ev.raw_boot (orSub (by decide) hm)]

theorem ev_execWarmStart {a s : State} (h : Ev m a s) (hm : 3434954108 ||| m = m) (vin) :
    EvOut m a (execWarmStart vin s) := by
  dsimp only [execWarmStart]
  with_reducible repeat' first | assumption | intro _ | exact orSub (by decide) hm | apply ev_vinDo | apply ev_warmStart

/-! ## Machine/Step.lean -/

theorem ev_idle {a s : State} (h : Ev m a s) (hm : 1 ||| m = m) : Ev m a (idle s) := by
  dsimp only [idle]
  with_reducible repeat' first | assumption | apply Ev.ite | simp only [Ev.raw_time (orSub (by decide) hm)]

end Sys2Proof.Machine
end

