-- ==== Sys2Proof/WellFormed.lean ====
section
/-! DEFINITION. WellFormed.lean: the operands that the spec gives each command: regions that exist (R8, R9), faces that R10
assigns, ports, links, queues, jobs, pages, and the widths of what a message carries. A command that is not well formed
names something the module does not have. -/

namespace Sys2Proof

open Sys2Proof.Machine

/-- A region that exists (R8, R9). -/
def isRegion (r : Nat) : Bool := present r
/-- A face number that R10 assigns. -/
def isFace (g : Nat) : Bool := faceAssigned g
/-- A sensor port (R13). -/
def isPort (p : Nat) : Bool := p < 6
/-- One of four: a link, a virtual channel, a listener slot, a class, an anchor. -/
def isQuad (n : Nat) : Bool := n < 4
/-- One of sixteen: a stream slot, a chain, a detector, a face slot, a mask of lanes. -/
def isSlot (n : Nat) : Bool := n < 16
/-- A field output: loops 0 to 3 (R940). -/
def isChannel (n : Nat) : Bool := n < 4
/-- A field output, lamps counted from 4 (R977). -/
def isOutput (n : Nat) : Bool := n < 8
/-- A submission queue. -/
def isQueue (q : Nat) : Bool := q < 64
/-- A job table entry. -/
def isJob (j : Nat) : Bool := j < 1024
def isJobOpt : Option Nat → Bool
  | some j => isJob j
  | none => true
/-- A register page (Table 4-2). -/
def isPage (ref : Nat) : Bool := (pageKind ref).isSome
def isByte (n : Nat) : Bool := n < 256
def isBytes (bs : List Nat) : Bool := bs.all isByte
def isU16 (n : Nat) : Bool := n < 2 ^ 16
def isU32 (n : Nat) : Bool := n < 2 ^ 32
def isU64 (n : Nat) : Bool := n < 2 ^ 64
/-- The four junction sensors of a region (R174). -/
def isFour (ts : List Int) : Bool := ts.length == 4
/-- A mesh link between two regions that exist. -/
def isLink (l : LinkName) : Bool := present l.region && (neighbour l.region (if l.east then 2 else 3)).isSome
/-- A route table entry: destination and next hop (R29). -/
def isRoute (x : Nat × Nat) : Bool := isRegion x.1 && x.2 < 8
/-- The fields of a datagram fit Table 16-2. -/
def isDatagram (m : Datagram) : Bool :=
  isU32 m.reqId && isByte m.version && isByte m.type && isU16 m.status && isSlot m.frag && isSlot m.count && isU16 m.len
    && m.zero < 2 ^ 24 && isBytes m.bytes
/-- The fields of a DATA frame fit Table 13-2. -/
def isFrame (f : DataFrame) : Bool := isQuad f.cls && isU16 f.seq && isSlot f.rank && isU16 f.tag
/-- CR_CLASS and ACK fit a link frame. -/
def isAck (a : LinkAck) : Bool := isQuad a.cls && isU16 a.ack

/-- The command's operands are ones that the spec gives it. -/
def Instr.wf (i : Instr) : Bool :=
  match i with
  | .coldStart _ => true
  | .vaonInRegulation => true
  | .crystalStable chk => isU16 chk.failedTests
  | .quarryMapSelect => true
  | .vbusSoftStart _ => true
  | .vbusInRegulation => true
  | .testRoundBegin => true
  | .regionSwitchClose r => isRegion r
  | .selfTestBegin r => isRegion r
  | .selfTestDone r _ => isRegion r
  | .sameRoundLinkTest failed => failed.all isLink
  | .roundComplete => true
  | .qmapWriteDone _ => true
  | .qmapCommit => true
  | .switchTrip r => isRegion r
  | .tripRetry r => isRegion r
  | .fuseConfirm r _ => isRegion r
  | .fuseSelfOpen r => isRegion r
  | .brownout _ => true
  | .startResume _ => true
  | .vbusOff _ => true
  | .vaonLoss _ => true
  | .warmStart _ => true
  | .vinOvervoltage _ => true
  | .vbusUndervoltage => true
  | .crystalFail => true
  | .crystalRestored => true
  | .perstDeassert => true
  | .pcieLinkUp _ _ => true
  | .hostLinkDown _ => true
  | .tamper => true
  | .wakeCommand r => isRegion r
  | .wakeComplete r _ => isRegion r
  | .wakeTimeout r => isRegion r
  | .wakeRetry r => isRegion r
  | .stopHandshake r eccs => isRegion r && eccs.all (fun e => isSlot e.1)
  | .handshakeAnswer r _ => isRegion r
  | .answerTimeout r _ => isRegion r
  | .handshakeDeadline r => isRegion r
  | .regionStopped r => isRegion r
  | .stopCmd _ r _ => isRegion r
  | .idleTimeout r => isRegion r
  | .idleCfgWrite _ r _ => isRegion r
  | .throttleEvaluation r sensors => isRegion r && isFour sensors
  | .lockLost r => isRegion r
  | .regionFail r _ => isRegion r
  | .rerouteRelease src dst => isRegion src && isRegion dst
  | .meshLinkFail link => isLink link
  | .strandedStopRetry r => isRegion r
  | .haulRoadPacket r cls => isRegion r && isQuad cls
  | .registerWrite _ _ _ _ _ _ _ => true
  | .blockEnable _ ref _ => isPage ref
  | .blockDisable _ ref _ => isPage ref
  | .softReset _ ref _ => isPage ref
  | .softResetDone ref => isPage ref
  | .commitArm _ ref => isPage ref
  | .commitApply ref => isPage ref
  | .evtStatClear _ ref _ _ => isPage ref
  | .evtEnWrite _ ref _ => isPage ref
  | .errinfoClear _ ref _ _ => isPage ref
  | .loWordWrite _ _ _ => true
  | .hiWordWrite _ _ _ => true
  | .counterLowRead _ _ _ _ _ => true
  | .portFrame p _ => isPort p
  | .calibrationWindow p => isPort p
  | .csiLongPacket p vc _ => isPort p && isQuad vc
  | .frameStart p vc => isPort p && isQuad vc
  | .frameEnd p vc => isPort p && isQuad vc
  | .cameraFrameWritten p slot => isPort p && isSlot slot
  | .recordWritten p slot => isPort p && isSlot slot
  | .streamFault p slot _ => isPort p && isSlot slot
  | .streamClear p slot => isPort p && isSlot slot
  | .headTrip p => isPort p
  | .headRetry p => isPort p
  | .headCtrlWrite _ p _ => isPort p
  | .cciGo _ p _ => isPort p
  | .cciDone p _ _ => isPort p
  | .listenerHop p => isPort p
  | .evaluationDone p _ _ => isPort p
  | .bEnWrite _ p _ => isPort p
  | .imageCheckDone p _ _ => isPort p
  | .bDataWrite _ p _ => isPort p
  | .bDataRead _ p _ _ => isPort p
  | .trigCmd _ p _ => isPort p
  | .floorReset _ p d _ => isPort p && isSlot d
  | .messageAck p lslot => isPort p && isQuad lslot
  | .ackTimeout p lslot => isPort p && isQuad lslot
  | .demotedReport p lslot => isPort p && isQuad lslot
  | .aFire p lslot => isPort p && isQuad lslot
  | .trigger p lslot => isPort p && isQuad lslot
  | .refresh p lslot => isPort p && isQuad lslot
  | .demoted p lslot => isPort p && isQuad lslot
  | .verdict g => isFace g
  | .demotionTimerExpiry c => isSlot c
  | .wakeAck g => isFace g
  | .promote _ _ => true
  | .demote _ _ => true
  | .chainStoreSave _ _ => true
  | .storeDone _ => true
  | .startMessage g _ _ => isFace g
  | .restartMessage g _ _ => isFace g
  | .switchComplete g => isFace g
  | .endMessage g => isFace g
  | .opRecordFetch g _ => isFace g
  | .recordComplete g _ => isFace g
  | .scaleLogWrite g _ => isFace g
  | .mat g _ => isFace g
  | .elt g _ => isFace g
  | .fetch g _ _ => isFace g
  | .writeback g _ => isFace g
  | .discard g _ => isFace g
  | .load g _ _ => isFace g
  | .store g _ => isFace g
  | .copy g _ => isFace g
  | .synAdd g => isFace g
  | .synWaitGe g => isFace g
  | .synSet g => isFace g
  | .synClear g => isFace g
  | .synWaitSet g => isFace g
  | .synAcquire g => isFace g
  | .synRelease g => isFace g
  | .synArrive g => isFace g
  | .synArriveWait g => isFace g
  | .synRead g => isFace g
  | .synVerdict g => isFace g
  | .endProg g => isFace g
  | .loop g => isFace g
  | .branch g => isFace g
  | .setp g => isFace g
  | .seta g => isFace g
  | .adda g => isFace g
  | .lda g _ => isFace g
  | .sta g _ => isFace g
  | .ctlNop g => isFace g
  | .saveCtx g => isFace g
  | .gru g _ => isFace g
  | .lstm g _ => isFace g
  | .block g _ => isFace g
  | .finish g _ => isFace g
  | .peekDataRead _ g _ => isFace g
  | .peekDataWrite _ g _ => isFace g
  | .outMarkDurable r => isRegion r
  | .lineWriteDurable r _ _ => isRegion r
  | .scrubRead r _ => isRegion r
  | .blockRelocation r _ => isRegion r
  | .relocationCommit r => isRegion r
  | .apertureRead _ _ _ _ _ => true
  | .apertureWrite _ _ _ data _ => isBytes data
  | .syncOperationApply r _ => isRegion r
  | .waitRetry g _ => isFace g
  | .sigCmdAdd _ r _ => isRegion r
  | .sigCmdSet _ r _ => isRegion r
  | .sigCmdClear _ r _ => isRegion r
  | .snapSave _ r _ => isRegion r
  | .snapRestore _ r _ => isRegion r
  | .snapComplete r => isRegion r
  | .objCfgWrite _ r obj _ => isRegion r && isByte obj
  | .objStateRead _ r obj => isRegion r && isByte obj
  | .lanePllLock k lanes _ => isQuad k && isSlot lanes
  | .linkUp k peerId _ => isQuad k && isU64 peerId
  | .trainRetry k => isQuad k
  | .linkFrameSend k => isQuad k
  | .timeSend k => isQuad k
  | .dataFrame k f ack _ _ => isQuad k && isFrame f && isAck ack
  | .idleFrame k ack => isQuad k && isAck ack
  | .nak k cls seq ack => isQuad k && isQuad cls && isU16 seq && isAck ack
  | .swapReq k id ack => isQuad k && isU64 id && isAck ack
  | .swapAck k ack => isQuad k && isAck ack
  | .swapDone k ack => isQuad k && isAck ack
  | .swapAbort k _ ack => isQuad k && isAck ack
  | .reject k tag cls seq _ ack => isQuad k && isU16 tag && isQuad cls && isU16 seq && isAck ack
  | .time k t ack => isQuad k && isU64 t && isAck ack
  | .probe k stamp => isQuad k && isU64 stamp
  | .echo k _ => isQuad k
  | .roleSwap _ k _ => isQuad k
  | .swapDrained k => isQuad k
  | .swapDrainTimeout k => isQuad k
  | .linkHold k _ => isQuad k
  | .holdTimeout k => isQuad k
  | .linkJobEntryRemove k j => isQuad k && isJob j
  | .submitLo q _ => isQueue q
  | .submitHi q _ => isQueue q
  | .descriptorFetch d => d.desc.all isByte
  | .admission j => isJob j
  | .admitTimeout j => isJob j
  | .imageCopy j data _ => isJob j && isBytes data
  | .jobStop _ _ => true
  | .queueFlush _ _ _ => true
  | .claimFenceDrained => true
  | .completionWrite q j => isQueue q && isJob j
  | .cqHeadWrite q _ => isQueue q
  | .evqHeadWrite _ => true
  | .respawn j => isJob j
  | .getCert _ => true
  | .moduleTicket _ => true
  | .jobTicket _ => true
  | .partList _ => true
  | .partDelete _ => true
  | .zeroise _ => true
  | .selfTest _ => true
  | .modelDigestDone r model _ => isRegion r && isU16 model
  | .openDap => true
  | .partitionZeroDone => true
  | .eraseComplete => true
  | .dapAccess _ => true
  | .sessionHandshake _ anchor _ => isQuad anchor
  | .sessionIdleTimeout _ => true
  | .fragmentTimeout _ reqId => isU32 reqId
  | .ping m => isDatagram m
  | .read m => isDatagram m
  | .write m => isDatagram m
  | .qmapRead m => isDatagram m
  | .bringupRead m => isDatagram m
  | .logRead m => isDatagram m
  | .subscribe m => isDatagram m
  | .wake m => isDatagram m
  | .stop m => isDatagram m
  | .stopForce m => isDatagram m
  | .hold m => isDatagram m
  | .holdForce m => isDatagram m
  | .release m => isDatagram m
  | .retestSet m => isDatagram m
  | .retestClear m => isDatagram m
  | .moduleReset m => isDatagram m
  | .trust m => isDatagram m
  | .net m => isDatagram m
  | .holdStopRetry r => isRegion r
  | .banksmanReport r routes _ => isRegion r && routes.all isRoute
  | .banksmanLost r => isRegion r
  | .foremanSilence r => isRegion r
  | .ringFault _ unreached => unreached.all isRegion
  | .mgmtLinkChange _ _ => true
  | .telemetryPeriod _ _ => true
  | .backgroundWake _ => true
  | .scrubPassEnd r => isRegion r
  | .scrubAgeHour r => isRegion r
  | .regulationTick ch _ _ _ => isChannel ch
  | .complianceClear ch => isChannel ch
  | .loopFallback ch => isChannel ch
  | .loopRetry ch => isChannel ch
  | .loopRetryEnd ch => isChannel ch
  | .loopOpen ch => isChannel ch
  | .loopOvervolt ch _ => isChannel ch
  | .channelFault ch => isOutput ch
  | .alarm => true
  | .alarmCmd _ _ => true
  | .alarmStatClear _ _ _ => true
  | .pwmPeriodEnd ch => isChannel ch
  | .diagnosablePulseEnd ch _ _ _ => isChannel ch
  | .proofPulse ch => isChannel ch
  | .unverified ch => isChannel ch
  | .lampOvercurrent ch => isChannel ch
  | .lampRetry ch => isChannel ch
  | .livenessPoll r silent => isRegion r && silent.all isSlot
  | .faceLost g => isFace g
  | .tagScanDone g _ => isFace g
  | .trainingAttemptFail k => isQuad k
  | .thermalLockoutEnd r => isRegion r
  | .coldPlateSensorFault _ => true
  | .ticketDone job => isJobOpt job
  | .mbDone failed => isU16 failed
  | .outputCopy j _ _ => isJob j

end Sys2Proof
end

