-- ==== Sys2Proof/Tests/Slice0.lean ====
section
/-! SUPPORT. Tests/Slice0.lean: for every obligation with hypotheses a theorem that shows states and operands which meet
them, clause by clause; ill-formed commands that WellFormed.lean turns down; and values and steps from the spec's worked
examples. -/

namespace Sys2Proof.Tests

set_option Elab.async false

open Sys2Proof Sys2Proof.Machine

/-! ## Small states -/

/-- A region in Run with its faces backed. -/
def ran (r : Nat) (s : State) : State :=
  s.updRegion r (fun x => { x with power := .run, slots := (List.range (logicalSlots r)).map (· + 128) })

/-- Supplies and crystal up, nothing started. -/
def powered : State :=
  { State.reset with carrier := ⟨48000, .up, .on, false, true, false, true, false, [], true, 400⟩ }

/-- READY with the host and management links up and these regions in Run: a sensor port, a link, the field outputs, the host
port, two inner regions and the management port. -/
def live : State :=
  let s := [2, 4, 5, 30, 33, 34, 69].foldl (fun s r => ran r s) powered
  let s := setF (setF s bringupPg BRINGUP_PHASE PHASE_READY) mgmtPg MGMT_MGMT_STATUS_LINK_UP 1
  s.updHost (fun h => { h with linkUp := true })

/-- A start in progress, with the map read. -/
def starting : State := powered.updBoot (fun b => { b with active := true, mapRead := true })

/-- An access that reaches a page, as one check. -/
def reaches (s : State) (sp : Space) (a ref off : Nat) (k : PageKind) (t : Travel) : Bool :=
  canAccess s sp && decide (target sp a = .page ref off) && decide (judge s sp a t = .ok) && decide (pageKind ref = some k)

theorem reached_of {s : State} {sp : Space} {a ref off : Nat} {k : PageKind} {t : Travel}
    (h : reaches s sp a ref off k t = true) : Reached s sp a ref off k t := by
  simp only [reaches, Bool.and_eq_true, decide_eq_true_eq] at h
  exact ⟨h.1.1.1, h.1.1.2, h.1.2, h.2⟩

theorem taken_of {s : State} {sp : Space} {a v ref off : Nat} {k : PageKind} {t : Travel} (h : (reaches s sp a ref off k t &&
    decide (refusal (commonCodes s sp ref k off v ++ blockCodes s sp ref k off v) = none)) = true) :
    Taken s sp a v ref off k t := by
  simp only [Bool.and_eq_true, decide_eq_true_eq] at h
  exact ⟨reached_of h.1, h.2⟩

/-- A handshake with FORCE and the agents at ACCEPT. -/
def shake (force : Bool) (accepted : List Nat) : Handshake := ⟨force, false, 3, 0, 0, 0, [], accepted, []⟩

def shaking (r : Nat) (h : Handshake) (s : State) : State := s.updRegion r (fun x => { x with hs := some h })

/-- A region that wakes. -/
def waking (r : Nat) (s : State) : State := s.updRegion r (fun x => { x with power := .waking })

/-- An operation for a sync block, and its packet from region 33 to 34. -/
def addOp : SyncOp := ⟨3, .add, 5, .banksman, 0⟩
def addPacket : Packet := ⟨1, 33, 34, 33, 0, .sync addOp⟩

/-- A face of region 33, and a record of a FAMILY and SUBOP with its further words. -/
def gr : Nat := 33 * 32
def record (fam sub : Nat) (ws : List Nat) : OpRec := ⟨0x10000, (fam + 16 * sub) :: ws⟩

/-- The face runs, with one record to issue. -/
def issuing (o : OpRec) : State :=
  live.updFace gr (fun f => { f with run := .running, tokens := 255, pc := 0x10000, queue := [o] })

/-- Sensor port 0 and its listener enabled, with a route to region 33. -/
def sensing : State :=
  let s := { live with road := ⟨[(233, 2)], [], [], []⟩ }
  setF (setF (setF s (sensorPg 0) STATUS_ENABLED 1) (sensorPg 0) SENSOR_PORT_CFG_CSI_EN 1) (listenerPg 0) STATUS_ENABLED 1

/-- A field of a stream slot of port 0. -/
def str (k : Nat) (f : Fld) (v : Nat) (s : State) : State := setF s (sensorPg 0) (f.ix k) v

/-- A camera frame for the face. -/
def frame : CamFrame := ⟨gr, 0, 1024, 1, 0, 0, 0, 0, false, false, false, false, none⟩

/-- The escalation controller on, with chain 0 enabled at a depth. -/
def chained (d : Nat) : State :=
  (setF (setF live escPg STATUS_ENABLED 1) escPg (ESC_CH_CFG_EN.ix 0) 1).updChain 0 (fun x => { x with depth := d })

def message (k : MsgKind) : ListenerMsg := ⟨k, 0, 0, 0, false, false, 7, 1, 0, 1, 0⟩

/-- A record issues, as one check. -/
def issues (s : State) (g fam sub : Nat) (o : OpRec) : Bool :=
  decide (headReady s g = some o) && !o.illegal && !(s.faceAt g).skips o && o.family == fam && o.subop == sub

theorem issues_of {s : State} {g fam sub : Nat} {o : OpRec} (h : issues s g fam sub o = true) : Issues s g fam sub o := by
  simp only [issues, Bool.and_eq_true, decide_eq_true_eq, Bool.not_eq_true', beq_iff_eq] at h
  exact ⟨h.1.1.1.1, h.1.1.1.2, h.1.1.2, h.1.2, h.2⟩

/-- Bytes in the face's SRAM. -/
def sram (a : Nat) (bs : List Nat) (s : State) : State := s.updFace gr (fun f => { f with sram := mputs f.sram a bs })

/-- A REC descriptor (Table 10-2) of one unit and one input, with the LSTM's cell area; its two tables are loaded. -/
def recurring (sub cell pitch : Nat) : State :=
  let s := sram 64 ([1, 0, 1, 0, 0, 0, 0, 0] ++ leBytes 4 0x1000 ++ leBytes 4 1 ++ leBytes 4 0x2000 ++ leBytes 4 0x3000
    ++ leBytes 4 0x4000 ++ leBytes 4 0x5000 ++ leBytes 4 0x5000 ++ leBytes 4 2 ++ leBytes 4 cell ++ leBytes 4 cell
    ++ leBytes 4 pitch) (issuing (record 5 sub [1, 1]))
  s.updFace gr (fun f => { f with tables := [(0, { FTable.reset with loaded := true })] })

/-- An ATT descriptor (Table 10-5) of one dimension and one row, its QD and its table. -/
def attending (sub : Nat) : State :=
  let s := sram 64 ([1, 0, 1, 0, 1, 0, 0, 0, 0, 0, 0, 0] ++ leBytes 4 0 ++ leBytes 4 0x1000 ++ leBytes 4 1 ++ leBytes 4 0x2000
    ++ leBytes 4 1 ++ leBytes 4 0 ++ leBytes 4 0x3000 ++ leBytes 4 1 ++ leBytes 4 0 ++ leBytes 4 0x4000 ++ leBytes 4 0x5000
    ++ leBytes 4 32 ++ leBytes 4 0x3F800000 ++ leBytes 4 0x6000 ++ leBytes 4 1 ++ leBytes 2 448)
    (issuing (record 6 sub [1, 0x10001]))
  let s := sram 0x7040 (leBytes 4 0x3F800000) (sram 0x7000 [1, 0, 4, 0, 1, 0, 1, 0, 0, 0] s)
  s.updFace gr (fun f => { f with tables := [(0, { FTable.reset with loaded := true })] })

/-- A hoist descriptor at 32, and the MOV record that names it. -/
def moving (words : List Nat) : State := sram 32 (words.flatMap (leBytes 4)) (issuing (record 2 0 [1]))

/-- Link 0 enabled, in a state of Table 13-1. -/
def linked (st : Nat) : State :=
  setF (setF (setF live (aditPg 0) CTRL_EN 1) (aditPg 0) STATUS_ENABLED 1) (aditPg 0) ADIT_LINK_STATE_STATE st

def ack0 : LinkAck := ⟨0, 0, 0⟩
def data0 (op : AditOp) : DataFrame := ⟨3, 0, 0, 9, 0, 0, 0, op⟩

/-- Link 0 with job 0 in its table under tag 9. -/
def tagged (x : JobSt) : State :=
  ({ linked 2 with road := ⟨[(433, 2)], [], [], []⟩ }.updLink 0 (fun l => { l with jobs := [(0, (9, 0))] })).updJob 0 (fun _ => x)

/-- A job at an admission step, with a cut of one face. -/
def admitting (step : Nat) : JobSt := { JobSt.reset with state := .admitting, step := step, cut := [⟨gr, 0, 0⟩] }

/-- Region 33's directory names model 0. -/
def directory (s : State) : State := s.updBed 33 (fun b => { b with dirSel := 1, dirCount := 1 })

/-- A session of an operator or a monitor, and a request in one fragment. -/
def session (oper : Bool) (kept : List (Nat × Nat × List Nat)) : State :=
  live.updMgmt (fun m => { m with sessions := [⟨3, oper, 0, false, false, kept⟩] })
def request (bs : List Nat) : Datagram := ⟨3, 1, 0, 77, 0, bs.length, 0, 1, 0, bs⟩

/-- The field outputs on, with channel 3 of each kind enabled. -/
def outputs (x : LoopSt) (y : LampSt) : State :=
  let s := setF (setF (setF live fieldPg STATUS_ENABLED 1) fieldPg (FIELD_LOOP_CFG_EN.ix 3) 1) fieldPg (FIELD_LAMP_CFG_EN.ix 3) 1
  (s.updLoop 3 (fun _ => x)).updLamp 3 (fun _ => y)
def loop1 : LoopSt := { LoopSt.reset with on := true }
def lamp1 : LampSt := { LampSt.reset with on := true, ma := 20, duty := 4095, hz := 1000 }

/-- A fresh request in one fragment, as one check. -/
def asks (s : State) (m : Datagram) (x : Session) : Bool :=
  decide (s.session m.session = some x) && mgmtUp s && decide (x.kept.find? (·.1 == m.reqId) = none)
    && Datagram.headerOk m && m.count == 1 && m.bytes.length == m.len

theorem asked_of {s : State} {m : Datagram} {x : Session} (h : asks s m x = true) : Asked s m x := by
  simp only [asks, Bool.and_eq_true, decide_eq_true_eq, beq_iff_eq] at h
  exact ⟨⟨h.1.1.1.1.1, h.1.1.1.1.2, h.1.1.1.2⟩, h.1.1.2, h.1.2, h.2⟩

/-- A delivery in progress, and an evaluation in progress. -/
def going (f : Flight) : Delivery := ⟨0, gr, none, 0, f⟩
def scored : EvalSt := ⟨[], 0, 0, [], false⟩

/-- An operation for object 5. -/
def toFive : SyncOp := ⟨5, .add, 5, .banksman, 0⟩

/-- The module has keys. -/
def provided (s : State) : State := s.updWb (fun w => { w with provisioned := true })

def atTime (t : Nat) (s : State) : State := { s with time := t }

/-! ## WellFormed: an ill-formed command for each check, and well-formed ones -/

theorem test_wf_region : Instr.wf (.selfTestBegin 0) = false := by decide +kernel
theorem test_wf_face : Instr.wf (.synAdd 33) = false := by decide +kernel
theorem test_wf_port : Instr.wf (.headTrip 6) = false := by decide +kernel
theorem test_wf_quad : Instr.wf (.trigger 0 4) = false := by decide +kernel
theorem test_wf_slot : Instr.wf (.demotionTimerExpiry 16) = false := by decide +kernel
theorem test_wf_channel : Instr.wf (.loopOpen 4) = false := by decide +kernel
theorem test_wf_output : Instr.wf (.channelFault 8) = false := by decide +kernel
theorem test_wf_queue : Instr.wf (.cqHeadWrite 64 0) = false := by decide +kernel
theorem test_wf_job : Instr.wf (.admission 1024) = false := by decide +kernel
theorem test_wf_job_option : Instr.wf (.ticketDone (some 1024)) = false := by decide +kernel
theorem test_wf_page : Instr.wf (.softResetDone 0x64000) = false := by decide +kernel
theorem test_wf_byte : Instr.wf (.objStateRead .bar0 30 256) = false := by decide +kernel
theorem test_wf_bytes : Instr.wf (.apertureWrite .bar0 0 4 [256] .arrives) = false := by decide +kernel
theorem test_wf_u16 : Instr.wf (.mbDone 0x10000) = false := by decide +kernel
theorem test_wf_u32 : Instr.wf (.fragmentTimeout 0 (2 ^ 32)) = false := by decide +kernel
theorem test_wf_u64 : Instr.wf (.probe 0 (2 ^ 64)) = false := by decide +kernel
theorem test_wf_four_sensors : Instr.wf (.throttleEvaluation 30 [200]) = false := by decide +kernel
theorem test_wf_link : Instr.wf (.meshLinkFail ⟨30, false⟩) = true ∧ Instr.wf (.meshLinkFail ⟨39, true⟩) = false := by
  decide +kernel
theorem test_wf_route : Instr.wf (.banksmanReport 30 [(33, 8)] true) = false := by decide +kernel
theorem test_wf_datagram : Instr.wf (.ping ⟨0, 256, 0, 0, 0, 0, 0, 1, 0, []⟩) = false := by decide +kernel
theorem test_wf_frame : Instr.wf (.dataFrame 0 ⟨4, 0, 0, 0, 0, 0, 0, .status 0⟩ ⟨0, 0, 0⟩ true true) = false := by
  decide +kernel
theorem test_wf_ack : Instr.wf (.idleFrame 0 ⟨4, 0, 0⟩) = false := by decide +kernel
theorem test_wf_start_checks : Instr.wf (.crystalStable ⟨true, 0x10000, true⟩) = false := by decide +kernel
theorem test_wf_accepted : Instr.wf (.wakeCommand 30) = true ∧ Instr.wf (.synAdd 1056) = true
    ∧ Instr.wf (.ping ⟨0, 1, 0, 7, 0, 4, 0, 1, 0, [1, 2, 3, 4]⟩) = true := by decide +kernel

/-! ## Values from the spec's worked examples and tables, and single steps -/

/-- The next state, or the state itself where the command stops. -/
def after (i : Instr) (s : State) : State :=
  match exec i s with
  | .next t => t
  | _ => s

def completes (i : Instr) (s : State) : Bool :=
  match exec i s with
  | .next _ => true
  | _ => false

/-- Chapter 0's worked example: face slot 7 of region (4,5). -/
theorem test_face_address : target .bar0 0x36170004 = .page 0x36170 4 ∧ pageKind 0x36170 = some .face
    ∧ refRegion 0x36170 = 54 ∧ target .banksman 0x36170000 = .page 0x36170 0 := by decide +kernel

/-- Chapter 1's worked example: (2,1) runs as a transit region with (2,0) and (2,2) in Run. -/
def transitRun : State := ran 2 (ran 12 (ran 22 live))
theorem test_region_info : (busRead transitRun .banksman 0x0C000040 .word ReadHint.clean).2 = 0x0001120C := by decide +kernel
theorem test_face_count : (busRead transitRun .banksman 0x0C000044 .word ReadHint.clean).2 = 0x02101210 := by decide +kernel
theorem test_neighbour : (busRead transitRun .banksman 0x0C000058 .word ReadHint.clean).2 = 0x7F968D82 := by decide +kernel

/-- Chapter 1's worked example: the transit path of region 2 to region 30, of several with 5 hops. -/
theorem test_transit_path : joinPath (ran 30 powered) 2 = some [12, 22, 21, 20, 30] := by decide +kernel

/-- Chapter 9's worked example: entry 5 of its QD has M = 3 · 2^29, BIAS −4,096, SHIFT 12 and ZP_OUT −3; by R520 an
accumulator 2^14 + 4,096 gives −3 + 3 = 0, and 1,365 less gives −3 + rhe(2.75) = 0. -/
def exampleQd : Tab Byte :=
  mputs (mputs [] 0 (leBytes 4 0x00030040 ++ leBytes 4 0x03C80010)) 0x90
    (leBytes 4 0x60000000 ++ leBytes 4 0xFFFFF000 ++ leBytes 4 0xFD0C)
theorem test_requant : (requantInt exampleQd 0 5 (2 ^ 14 + 4096)).y = 0 := by decide +kernel
/-- The same with ADJ 1: 1.5 goes to 2, the even one; and the far end saturates at 127. -/
theorem test_requant_adj : (requantInt (mput exampleQd 8 1) 0 5 (2 ^ 14 + 4096)).y = 255
    ∧ (requantInt exampleQd 0 5 (2 ^ 30)).y = 127 ∧ (requantInt exampleQd 0 5 (2 ^ 30)).sat = true := by decide +kernel
theorem test_qd_fields : qdCount exampleQd 0 = 64 ∧ qdSatTh exampleQd 0 = 16 ∧ qdRelax exampleQd 0 = 200
    ∧ qdAdjMax exampleQd 0 = 3 := by decide +kernel

/-- The check value of the CRC-32 of Table 2-4 (IEEE 802.3), over the digits 1 to 9. -/
theorem test_crc : crc32 [0x31, 0x32, 0x33, 0x34, 0x35, 0x36, 0x37, 0x38, 0x39] = 0xCBF43926 := by decide +kernel

/-- Chapter 12's worked example: record P1 is a SYN WAIT_GE on object 0x30 of region 2, behind no token. -/
theorem test_record_fields : (⟨0, [0x00080013, 0x16003002, 0]⟩ : OpRec).family = 3
    ∧ (⟨0, [0x00080013, 0x16003002, 0]⟩ : OpRec).subop = 1 := by decide +kernel

/-- R76: 22.0 V starts the cold start, a lower VIN does not. -/
theorem test_cold_start : (after (.coldStart 22000) State.reset).carrier.vaon = .rising
    ∧ (after (.coldStart 21999) State.reset).carrier.vaon = .off := by decide +kernel
/-- R1041: a VIN above 70 V is beyond the rating. -/
theorem test_absolute_maximum : completes (.coldStart 70001) State.reset = false
    ∧ completes (.coldStart 70000) State.reset = true := by decide +kernel

/-- A write that nothing refuses. -/
def accepts (s : State) (sp : Space) (a v : Nat) : Bool :=
  match target sp a with
  | .page ref off =>
    match pageKind ref with
    | some k => decide (judge s sp a .word = .ok)
        && decide (refusal (commonCodes s sp ref k off v ++ blockCodes s sp ref k off v) = none)
    | none => false
  | _ => false

/-- Writes in order: whether each is accepted, and the state after the last. -/
def writes (sp : Space) (s : State) : List (Nat × Nat) → Bool × State
  | [] => (true, s)
  | (a, v) :: l => let x := writes sp (busWrite s sp a .word v []) l; (accepts s sp a v && x.1, x.2)

def readAt (s : State) (sp : Space) (a : Nat) : Nat := (busRead s sp a .word ReadHint.clean).2

/-- The regions of the worked examples in Run. -/
def site : State := ran 5 (ran 59 (ran 40 live))

/-- Chapter 5's worked example: the port, a microphone, a contact and the camera slot. -/
def exampleSensor : Bool × State := writes .banksman site
  [(0x02010040, 0x117), (0x02010048, 0x103), (0x02010050, 0x001E3C05), (0x02010054, 0x00320A14), (0x02010100, 0x181),
   (0x02010104, 0x01000040), (0x0201010C, 0x400), (0x02010110, 0x1F4), (0x02010300, 0x183), (0x02010304, 0x01010041),
   (0x0201030C, 0x800), (0x02010310, 0x1F4), (0x02010400, 0x002B0103), (0x02010404, 0x01020042), (0x0201040C, 0xE102),
   (0x02010434, 0x7081), (0x02010008, 1)]
theorem test_sensor_writes : exampleSensor.1 = true ∧ readAt exampleSensor.2 .banksman 0x02010400 = 0x002B0103 := by
  decide +kernel

/-- Chapter 6's worked example. -/
def exampleListener : Bool × State := writes .banksman site
  [(0x02011040, 0x10), (0x02011050, 0x3452), (0x02011054, 0x27131428), (0x02011070, 0x08020315), (0x02011100, 0x10066061),
   (0x02011104, 0x01000C10), (0x02011160, 0x10007031), (0x02011164, 0x0100000C), (0x020110B0, 0), (0x02011008, 1)]
theorem test_listener_writes : exampleListener.1 = true ∧ readAt exampleListener.2 .banksman 0x02011054 = 0x27131428 := by
  decide +kernel

/-- Chapter 7's worked example: chain 2 and its descriptors 8 and 10. -/
def exampleChain : Bool × State := writes .banksman site
  [(0x45012120, 0x871), (0x45012900, 0), (0x45012940, 0x00FF000A), (0x45012944, 0x00100021), (0x45012948, 0x00300060),
   (0x4501294C, 0x00024E20)]
theorem test_chain_writes : exampleChain.1 = true ∧ readAt exampleChain.2 .banksman 0x45012944 = 0x00100021 := by
  decide +kernel

/-- Chapter 13's worked example: the two links of rank 1. -/
theorem test_link_writes : (writes .banksman site
    [(0x3B014040, 0x1406), (0x28014040, 0x1407), (0x3B014008, 1), (0x28014008, 1)]).1 = true := by decide +kernel

/-- Chapter 14's worked example: queue 3. -/
def exampleQueue : Bool × State := writes .bar0 site
  [(0x7FFE1134, 0x20000000), (0x7FFE1138, 4), (0x7FFE1130, 0x06030805), (0x7FFE1008, 1)]
theorem test_queue_writes : exampleQueue.1 = true ∧ readAt exampleQueue.2 .bar0 0x7FFE1134 = 0x20000000 := by
  decide +kernel

/-- Chapter 17's worked example: loop 0 regulates. -/
def exampleOutputs : Bool × State := writes .banksman site
  [(0x05016100, 0x14B), (0x05016104, 0x4E200FA0), (0x05016200, 0x000C010B), (0x05016204, 0x005203E8), (0x05016208, 0x3E8),
   (0x0501620C, 0x0FFF03E8), (0x05016008, 1)]
theorem test_output_writes : exampleOutputs.1 = true ∧ readAt exampleOutputs.2 .banksman 0x05016108 = 1 := by
  decide +kernel

/-- Chapter 16's worked example: region 36 held, its scrub age 10 hours. -/
theorem test_region_view : readAt (site.updRegion 36 (fun x => { x with hold := true, age := 10 })) .banksman 0x45013190
    = 0x0A45 := by decide +kernel

/-- Chapter 2's worked example: the mirror of a map with a spare in use and a failed region. -/
def exampleMap : State :=
  { live with map := { live.map with mirror := some { QRec.shipped with
      seq := 30, bootCount := 212
      entries := [(12, { QRec.shipped.entry 12 with
          physBad := 0x20, slots := (List.range 16).map (fun k => if k = 5 then 0x90 else 0x80 + k) }),
        (34, { QRec.shipped.entry 34 with state := .failed, cause := .router, factory := true })] } } }
theorem test_map_entries : readAt exampleMap .bar0 0x7FFF01A0 = 1 ∧ readAt exampleMap .bar0 0x7FFF01A4 = 0x20
    ∧ readAt exampleMap .bar0 0x7FFF01B4 = 0x87869084 ∧ readAt exampleMap .bar0 0x7FFF0460 = 0x00080102 := by decide +kernel
theorem test_map_commit : readAt exampleMap .bar0 0x7FFF0CA4 = 0xFFFFFFE1 := by decide +kernel


/-- The CRC of a record's body, piece by piece. -/
def crcPieces : List Nat → Nat → List Nat → Bool
  | _, _, [] => true
  | body, a, c :: cs => (body.take 101).foldl crcStep a == c && crcPieces (body.drop 101) c cs

/-- The CRC that the shipped copy holds is that of its record (R106, R107). -/
theorem test_shipped_crc : crcPieces QRec.shipped.body 0xFFFFFFFF
    [3871667030, 1795936864, 373350768, 3141350742, 667902756, 1728528332, 1682212694, 2394655316, 4107460182, 1152105969,
     3423404776, 1638157846, 3253902690, 1926421272, 1898493915, 1163820808, 3464600086, 3360879650, 3117935679, 3612362364,
     2068425452, 3200881062, 4023661547, 2355934618, 3992165526, 4229730144, 1391664960, 3777669763, 3530815419, 3229544458,
     1280800529, 2416519839] = true
    ∧ 2416519839 ^^^ 0xFFFFFFFF = QCopy.shipped.crc ∧ QRec.shipped.shipOk = true := by decide +kernel

/-- A record that a STD-PLP-W1C module may ship with: a region failed and a link fault (R1037, R1038); two link faults in a
W1A record are none. -/
def shippedC : QRec := ⟨9, 0, 0x1C, [(12, { QEntry.initial 12 with linkE := true, factory := true }),
  (33, { QEntry.initial 33 with state := .failed, cause := .router, factory := true })]⟩
theorem test_shipped_c : shippedC.shipOk = true ∧ { shippedC with orderCode := 0x1A }.shipOk = false
    ∧ (State.shipped shippedC).map.committed = shippedC := by decide +kernel

/-! ## The hypotheses of the obligations are met -/

/-- States and operands that meet the hypotheses of StepRunsFront, clause by clause. -/
theorem witness_StepRunsFront :
    (∃ (s : State) (c : Instr) (rest : List Instr), s.pending = c :: rest) :=
  ⟨{ State.reset with pending := [.tamper] }, .tamper, [], rfl⟩

/-- States and operands that meet the hypotheses of StepIdle, clause by clause. -/
theorem witness_StepIdle :
    (∃ (s : State), s.pending = []) :=
  ⟨State.reset, rfl⟩

/-- States and operands that meet the hypotheses of StepKeepsCanonical, clause by clause. -/
theorem witness_StepKeepsCanonical :
    (∃ (s : State) (t : State), Canonical s ∧ step s = .next t) :=
  ⟨powered, { powered with time := 1 }, ⟨⟨rfl, rfl, rfl, rfl, rfl⟩, ⟨rfl, fun _ => rfl, fun _ => rfl, fun _ => rfl⟩⟩, rfl⟩

/-- States and operands that meet the hypotheses of ExecKeepsQueue, clause by clause. -/
theorem witness_ExecKeepsQueue :
    (∃ (c : Instr) (s : State) (t : State), exec c s = .next t) :=
  ⟨.tamper, State.reset, State.reset, rfl⟩

/-- States and operands that meet the hypotheses of CommandFootprint, clause by clause. -/
theorem witness_CommandFootprint :
    (∃ (c : Instr) (s : State) (t : State) (p : StatePart), exec c s = .next t ∧ p ∉ footprint c) :=
  ⟨.tamper, State.reset, State.reset, .time, rfl, by decide +kernel⟩

/-- States and operands that meet the hypotheses of AbsoluteMaximum, clause by clause. -/
theorem witness_AbsoluteMaximum :
    (∃ (vin : Nat) (c : Instr), c ∈ [Instr.coldStart vin, .vbusSoftStart vin, .brownout vin, .startResume vin, .vbusOff vin, .vaonLoss vin, .warmStart vin, .vinOvervoltage vin]) :=
  ⟨70001, .coldStart 70001, by simp⟩

/-- States and operands that meet the hypotheses of FusesStayOpen, clause by clause. -/
theorem witness_FusesStayOpen :
    (∃ (c : Instr) (s : State) (t : State) (r : Nat), exec c s = .next t ∧ r ∈ s.carrier.fusesOpen) ∧
    (∃ (s : State) (r : Nat), r ∈ s.carrier.fusesOpen) :=
  ⟨⟨.tamper, { State.reset with carrier := { Carrier.reset with fusesOpen := [33] } }, { State.reset with carrier := { Carrier.reset with fusesOpen := [33] } }, 33, rfl, by decide +kernel⟩,
    ⟨{ State.reset with carrier := { Carrier.reset with fusesOpen := [33] } }, 33, by decide +kernel⟩⟩

/-- States and operands that meet the hypotheses of StartSupplies, clause by clause. -/
theorem witness_StartSupplies :
    (∃ (s : State) (vin : Nat), s.carrier.vaon = .off ∧ 22000 ≤ vin ∧ vin ≤ 70000) ∧
    (∃ (s : State), s.carrier.vaon = .rising) ∧
    (∃ (s : State), s.carrier.vaon = .crystalStarting) ∧
    (∃ (s : State) (vin : Nat), 36000 ≤ vin ∧ vin ≤ 70000 ∧ s.carrier.vbus = .off ∧ s.carrier.vaon ≠ .off ∧ s.boot.active = true) ∧
    (∃ (s : State), s.carrier.vbus = .rising ∧ s.boot.active = true ∧ s.boot.mapRead = true) :=
  ⟨⟨State.reset, 22000, by decide +kernel⟩,
    ⟨{ State.reset with carrier := { Carrier.reset with vaon := .rising } }, by decide +kernel⟩,
    ⟨{ State.reset with carrier := { Carrier.reset with vaon := .crystalStarting } }, by decide +kernel⟩,
    ⟨{ starting with carrier := { starting.carrier with vbus := .off } }, 70000, by decide +kernel⟩,
    ⟨{ starting with carrier := { starting.carrier with vbus := .rising } }, by decide +kernel⟩⟩

/-- States and operands that meet the hypotheses of MapAndRounds, clause by clause. -/
theorem witness_MapAndRounds :
    (∃ (s : State), s.boot.active = true ∧ s.boot.mapRead = false ∧ s.carrier.vaon = .up) ∧
    (∃ (s : State), s.boot.active = true ∧ s.boot.paused = false ∧ s.carrier.vbus = .on ∧ s.boot.mapRead = true ∧ s.boot.roundOpen = false ∧ (phase s = PHASE_ROUND ∨ phase s = PHASE_MAP) ∧ roundSet s ≠ []) ∧
    (∃ (s : State) (r : Nat), s.boot.toClose.head? = some r ∧ r ∉ s.carrier.fusesOpen) ∧
    (∃ (s : State), roundTested s = true) ∧
    (∃ (s : State), roundTested s = true) :=
  ⟨⟨powered.updBoot (fun b => { b with active := true }), by decide +kernel⟩,
    ⟨setF starting bringupPg BRINGUP_PHASE PHASE_ROUND, by decide +kernel⟩,
    ⟨starting.updBoot (fun b => { b with toClose := [30] }), 30, by decide +kernel⟩,
    ⟨starting.updBoot (fun b => { b with roundOpen := true }), by decide +kernel⟩,
    ⟨starting.updBoot (fun b => { b with roundOpen := true }), by decide +kernel⟩⟩

/-- States and operands that meet the hypotheses of SelfTestResult, clause by clause. -/
theorem witness_SelfTestResult :
    (∃ (s : State) (r : Nat), r ∈ s.boot.testing ∧ (s.region r).switchOn = true ∧ r ∉ s.boot.running) ∧
    (∃ (s : State) (r : Nat), r ∈ s.boot.running) :=
  ⟨⟨(starting.updBoot (fun b => { b with testing := [30] })).updRegion 30 (fun x => { x with switchOn := true }), 30, by decide +kernel⟩,
    ⟨starting.updBoot (fun b => { b with testing := [30], running := [30] }), 30, by decide +kernel⟩⟩

/-- States and operands that meet the hypotheses of QuarryMapWrites, clause by clause. -/
theorem witness_QuarryMapWrites :
    (∃ (s : State), s.carrier.vaon = .up ∧ s.boot.active = false ∧ phase s = PHASE_READY ∧ s.map.writing = none ∧ s.map.changed ≠ []) ∧
    (∃ (s : State) (q : QRec), s.carrier.vaon = .up ∧ s.map.writing = some (q, 1)) ∧
    (∃ (s : State) (q : QRec), s.carrier.vaon = .up ∧ s.map.writing = some (q, 2)) ∧
    (∃ (s : State) (q : QRec) (n : Nat), s.carrier.vaon = .up ∧ s.map.writing = some (q, n)) :=
  ⟨⟨live.updEntry 33 (fun e => { e with state := .failed }), by decide +kernel⟩,
    ⟨{ live with map := { MapSt.reset with writing := some (QRec.shipped, 1) } }, QRec.shipped, by decide +kernel⟩,
    ⟨{ live with map := { MapSt.reset with writing := some (QRec.shipped, 2) } }, QRec.shipped, by decide +kernel⟩,
    ⟨{ live with map := { MapSt.reset with writing := some (QRec.shipped, 2) } }, QRec.shipped, 2, by decide +kernel⟩⟩

/-- States and operands that meet the hypotheses of TripsAndFuses, clause by clause. -/
theorem witness_TripsAndFuses :
    (∃ (s : State) (r : Nat), present r = true ∧ (s.region r).switchOn = true ∧ r ∈ s.boot.testing ∧ tget 0 s.boot.trips r = 0) ∧
    (∃ (s : State) (r : Nat), present r = true ∧ (s.region r).switchOn = true ∧ r ∈ s.boot.testing ∧ tget 0 s.boot.trips r = 1) ∧
    (∃ (s : State) (r : Nat), present r = true ∧ (s.region r).switchOn = true ∧ r ∉ s.boot.testing) ∧
    (∃ (s : State) (r : Nat), r ∈ s.boot.retrying) ∧
    (∃ (s : State) (r : Nat), (s.entry r).state = .isolated ∧ (s.entry r).cause = .overcurrent ∧ 2 ≤ tget 0 s.boot.trips r) ∧
    (∃ (s : State) (r : Nat), present r = true ∧ r ∉ s.carrier.fusesOpen) :=
  ⟨⟨(starting.updBoot (fun b => { b with testing := [30] })).updRegion 30 (fun x => { x with switchOn := true }), 30, by decide +kernel⟩,
    ⟨(starting.updBoot (fun b => { b with testing := [30], trips := [(30, 1)] })).updRegion 30 (fun x => { x with switchOn := true }), 30, by decide +kernel⟩,
    ⟨live.updRegion 33 (fun x => { x with switchOn := true }), 33, by decide +kernel⟩,
    ⟨starting.updBoot (fun b => { b with retrying := [30] }), 30, by decide +kernel⟩,
    ⟨(starting.updBoot (fun b => { b with trips := [(30, 2)] })).updEntry 30 (fun e => { e with state := .isolated, cause := .overcurrent }), 30, by decide +kernel⟩,
    ⟨starting, 30, by decide +kernel⟩⟩

/-- States and operands that meet the hypotheses of VinAndVbus, clause by clause. -/
theorem witness_VinAndVbus :
    (∃ (s : State) (vin : Nat), vin < 34000 ∧ s.carrier.vbus = .on) ∧
    (∃ (s : State) (vin : Nat), 36000 ≤ vin ∧ vin ≤ 70000 ∧ s.carrier.vbus = .on ∧ s.boot.active = true ∧ s.boot.paused = true) ∧
    (∃ (s : State) (vin : Nat) (c : Instr), s.carrier.vbus ≠ .off ∧ ((c = .vbusOff vin ∧ vin < 32000) ∨ (c = .vinOvervoltage vin ∧ 62000 < vin ∧ vin ≤ 70000))) ∧
    (∃ (s : State), s.carrier.vbus = .on) ∧
    (∃ (s : State) (vin : Nat), 36000 ≤ vin ∧ vin ≤ 70000 ∧ (s.carrier.overvolt = true → vin < 61000) ∧ s.carrier.vaon = .up ∧ s.carrier.vbus = .off ∧ s.boot.active = false ∧ s.map.writing = none ∧ s.map.changed = [] ∧ phase s ≠ PHASE_HALTED) :=
  ⟨⟨starting, 33999, by decide +kernel⟩,
    ⟨starting.updBoot (fun b => { b with paused := true }), 36000, by decide +kernel⟩,
    ⟨live, 31999, .vbusOff 31999, by decide +kernel⟩,
    ⟨live, by decide +kernel⟩,
    ⟨{ powered with carrier := { powered.carrier with vbus := .off, overvolt := true } }, 60999, by decide +kernel⟩⟩

/-- States and operands that meet the hypotheses of VaonLoss, clause by clause. -/
theorem witness_VaonLoss :
    (∃ (s : State) (vin : Nat), vin < 20000 ∧ s.carrier.vaon ≠ .off) :=
  ⟨live, 19999, by decide +kernel⟩

/-- States and operands that meet the hypotheses of CrystalHostTamper, clause by clause. -/
theorem witness_CrystalHostTamper :
    (∃ (s : State), s.carrier.crystalOk = true ∧ s.carrier.vaon = .up) ∧
    (∃ (s : State), s.carrier.backup = true) ∧
    (∃ (s : State), s.carrier.hostPwrOk = true ∧ s.carrier.perst = true) ∧
    (∃ (s : State) (speed : Nat) (width : Nat), s.carrier.perst = false ∧ inRun s hostRegion = true ∧ s.host.linkUp = false ∧ speed ∈ [1, 2, 3] ∧ width ∈ [1, 2, 4]) ∧
    (∃ (s : State), s.host.linkUp = true) ∧
    (∃ (s : State), s.carrier.vaon = .up ∧ runSet s ≠ []) ∧
    (∃ (s : State), s.carrier.vaon = .up ∧ runSet s = [] ∧ s.stopQ.any (·.force) = false ∧ (∀ r, (s.region r).hs = none)) :=
  ⟨⟨live, by decide +kernel⟩,
    ⟨{ live with carrier := { live.carrier with backup := true } }, by decide +kernel⟩,
    ⟨{ live with carrier := { live.carrier with perst := true } }, by decide +kernel⟩,
    ⟨live.updHost (fun h => { h with linkUp := false }), 3, 4, by decide +kernel⟩,
    ⟨live, by decide +kernel⟩,
    ⟨live, by decide +kernel⟩,
    ⟨powered, by decide +kernel, by decide +kernel, by decide +kernel, fun _ => rfl⟩⟩

/-- States and operands that meet the hypotheses of Wakes, clause by clause. -/
theorem witness_Wakes :
    (∃ (s : State) (w : WakeReq) (ws : List WakeReq), s.wakeQ = w :: ws ∧ mayWake s = true ∧ (s.region w.region).hs = none ∧ (s.region w.region).power = .stop ∧ chosenStartable s w.region = true) ∧
    (∃ (s : State) (r : Nat), (s.region r).power = .waking ∧ (s.region r).wakeBackoff = false ∧ r ∉ s.boot.testing) ∧
    (∃ (s : State) (r : Nat), (s.region r).power = .waking ∧ (s.region r).wakeBackoff = false ∧ r ∉ s.boot.testing ∧ (s.region r).wakeFails = 0) ∧
    (∃ (s : State) (r : Nat), (s.region r).power = .waking ∧ (s.region r).wakeBackoff = false ∧ r ∉ s.boot.testing ∧ (s.region r).wakeFails ≠ 0) ∧
    (∃ (s : State) (r : Nat), (s.region r).power = .waking ∧ (s.region r).wakeBackoff = true ∧ mayWake s = true) :=
  ⟨⟨{ live with wakeQ := [⟨35, 3, false⟩] }, ⟨35, 3, false⟩, [], by decide +kernel⟩,
    ⟨waking 35 live, 35, by decide +kernel⟩,
    ⟨waking 35 live, 35, by decide +kernel⟩,
    ⟨(waking 35 live).updRegion 35 (fun x => { x with wakeFails := 1 }), 35, by decide +kernel⟩,
    ⟨(waking 35 live).updRegion 35 (fun x => { x with wakeBackoff := true }), 35, by decide +kernel⟩⟩

/-- States and operands that meet the hypotheses of StopHandshake, clause by clause. -/
theorem witness_StopHandshake :
    (∃ (s : State) (r : Nat) (q : StopWait), present r = true ∧ stopWait s r = some q ∧ (s.region r).hs = none ∧ inRun s r = true ∧ stopSplits s q = false) ∧
    (∃ (s : State) (r : Nat) (agent : Nat) (h : Handshake), (s.region r).hs = some h ∧ agentOpen s r agent = true) ∧
    (∃ (s : State) (r : Nat) (agent : Nat) (h : Handshake), (s.region r).hs = some h ∧ agentOpen s r agent = true) ∧
    (∃ (s : State) (r : Nat) (h : Handshake), (s.region r).hs = some h ∧ h.force = true ∧ allAccepted s r h = false) ∧
    (∃ (s : State) (r : Nat) (h : Handshake), (s.region r).hs = some h ∧ allAccepted s r h = true ∧ drained s r = true) ∧
    (∃ (s : State) (r : Nat), inRun s r = true ∧ regionIdle s r = true ∧ getF s (powerPg r) POWER_IDLE_CFG_TIMEOUT ≠ 0 ∧ (s.region r).transit = false ∧ (s.region r).hs = none ∧ stopWait s r = none) ∧
    (∃ (s : State) (r : Nat), inRun s r = true ∧ (s.entry r).state = .stranded ∧ (s.region r).hs = none ∧ stopWait s r = none) ∧
    (∃ (s : State) (sp : Space) (r : Nat) (v : Word), present r = true ∧ Taken s sp (powerPg r * 0x1000 + 0x44) v.toNat (powerPg r) 0x44 .power) ∧
    (∃ (s : State) (sp : Space) (r : Nat) (v : Word), present r = true ∧ Taken s sp (powerPg r * 0x1000 + 0x4C) v.toNat (powerPg r) 0x4C .power) :=
  ⟨⟨{ live with stopQ := [⟨34, false, 3, false⟩] }, 34, ⟨34, false, 3, false⟩, by decide +kernel⟩,
    ⟨shaking 33 (shake false []) live, 33, 0x20, shake false [], by decide +kernel⟩,
    ⟨shaking 33 (shake false []) live, 33, 15, shake false [], by decide +kernel⟩,
    ⟨shaking 33 (shake true []) live, 33, shake true [], by decide +kernel⟩,
    ⟨shaking 33 (shake false (List.range 16 ++ [0x20, 0x21, 0x22])) live, 33, shake false (List.range 16 ++ [0x20, 0x21, 0x22]), by decide +kernel⟩,
    ⟨setF live (powerPg 33) POWER_IDLE_CFG_TIMEOUT 1, 33, by decide +kernel⟩,
    ⟨live.updEntry 33 (fun e => { e with state := .stranded }), 33, by decide +kernel⟩,
    ⟨live, .banksman, 33, 3, by decide +kernel, taken_of (by decide +kernel)⟩,
    ⟨live, .bar0, 30, 65535, by decide +kernel, taken_of (by decide +kernel)⟩⟩

/-- States and operands that meet the hypotheses of HandshakeAbandoned, clause by clause. -/
theorem witness_HandshakeAbandoned :
    (∃ (s : State) (r : Nat) (agent : Nat) (h : Handshake), present r = true ∧ (s.region r).hs = some h ∧ h.force = false ∧ agentOpen s r agent = true ∧ agentAnswer s r agent = .refuse) ∧
    (∃ (s : State) (r : Nat) (h : Handshake), present r = true ∧ (s.region r).hs = some h ∧ h.force = false ∧ allAccepted s r h = false) :=
  ⟨⟨shaking 33 (shake false []) (live.updSync 33 (fun b => b.setObj 255 { SyncObj.reset with job := some 0 })), 33, 0x21, shake false [], by decide +kernel⟩,
    ⟨shaking 33 (shake false []) live, 33, shake false [], by decide +kernel⟩⟩

/-- States and operands that meet the hypotheses of Temperature, clause by clause. -/
theorem witness_Temperature :
    (∃ (s : State) (r : Nat) (a : Int) (b : Int) (c : Int) (d : Int), present r = true ∧ inRun s r = true ∧ flagF s (powerPg r) COMMIT_ARMED = false ∧ (∀ x ∈ [a, b, c, d], -640 ≤ x ∧ x < 1840)) ∧
    (∃ (s : State) (r : Nat) (a : Int) (b : Int) (c : Int) (d : Int), present r = true ∧ inRun s r = true ∧ (∃ x ∈ [a, b, c, d], 1840 ≤ x ∧ x ≤ 2400)) ∧
    (∃ (s : State) (r : Nat) (ts : List Int), present r = true ∧ inRun s r = true ∧ (∀ x ∈ ts, x < -640 ∨ 2400 < x)) ∧
    (∃ (s : State) (r : Nat), (s.region r).lockout = true ∧ coldEnough s r = true) :=
  ⟨⟨live, 33, -640, 0, 320, 1839, by decide +kernel⟩,
    ⟨live, 33, -641, 0, 320, 1840, by decide +kernel⟩,
    ⟨live, 33, [-641, 2401], by decide +kernel⟩,
    ⟨live.updRegion 35 (fun x => { x with lockout := true }), 35, by decide +kernel⟩⟩

/-- States and operands that meet the hypotheses of RunFailures, clause by clause. -/
theorem witness_RunFailures :
    (∃ (s : State) (r : Nat), present r = true ∧ inRun s r = true) ∧
    (∃ (s : State) (r : Nat), present r = true ∧ inRun s r = true) ∧
    (∃ (s : State) (l : LinkName) (n : Nat), present l.region = true ∧ neighbour l.region (if l.east then 2 else 3) = some n ∧ linkFaulty s l.region (if l.east then 2 else 3) = false) ∧
    (∃ (s : State) (src : Nat) (dst : Nat), (src, dst) ∈ s.road.holds ∧ (∀ p ∈ s.road.packets, p.src = src → p.dst = dst → p.loc = src)) ∧
    (∃ (s : State) (r : Nat) (silent : List Nat), present r = true ∧ inRun s r = true ∧ (∀ g ∈ facesOf r, faceLives s g = true → silent.contains (faceSlot g) = true → (s.faceAt g).missed = 0)) ∧
    (∃ (s : State) (g : Nat), faceLives s g = true) ∧
    (∃ (s : State) (g : Nat), (s.faceAt g).scanning = true ∧ inRun s (faceRegion g) = true ∧ scanBehind s g = false) :=
  ⟨⟨live, 33, by decide +kernel⟩,
    ⟨live, 33, by decide +kernel⟩,
    ⟨live, ⟨33, true⟩, 34, by decide +kernel⟩,
    ⟨{ live with road := { live.road with holds := [(33, 34)] } }, 33, 34, by decide +kernel⟩,
    ⟨live, 33, [15], by decide +kernel⟩,
    ⟨live, 33 * 32 + 15, by decide +kernel⟩,
    ⟨live.updFace (33 * 32) (fun f => { f with dead := true, scanning := true }), 33 * 32, by decide +kernel⟩⟩

/-- States and operands that meet the hypotheses of IngressStalls, clause by clause. -/
theorem witness_IngressStalls :
    (∃ (s : State) (r : Nat) (cls : Nat) (n : Nat) (p : Packet) (rest : List Packet), present r = true ∧ cls < 4 ∧ headOf s r cls = (some p, rest) ∧ p.dst ≠ r ∧ neighbour r (route s r p.dst) = some n ∧ 2048 ≤ ingress s n) :=
  ⟨{ live with road := ⟨[(33 * 100 + 34, 2)], [], [addPacket] ++ List.replicate 2048 ⟨1, 35, 34, 34, 0, .sync addOp⟩, []⟩ }, 33, 1, 34, addPacket, List.replicate 2048 ⟨1, 35, 34, 34, 0, .sync addOp⟩, by decide +kernel⟩

/-- States and operands that meet the hypotheses of PacketsMove, clause by clause. -/
theorem witness_PacketsMove :
    (∃ (s : State) (r : Nat) (cls : Nat) (n : Nat) (p : Packet) (rest : List Packet) (x : Share), present r = true ∧ cls < 4 ∧ headOf s r cls = (some p, rest) ∧ p.dst ≠ r ∧ neighbour r (route s r p.dst) = some n ∧ arbitrate s r (route s r p.dst) = (some cls, x)) ∧
    (∃ (s : State) (r : Nat) (cls : Nat) (p : Packet) (op : SyncOp) (rest : List Packet) (x : Share), present r = true ∧ cls < 4 ∧ headOf s r cls = (some p, rest) ∧ p.dst = r ∧ p.body = .sync op ∧ arbitrate s r p.body.port = (some cls, x)) ∧
    (∃ (s : State) (r : Nat) (cls : Nat) (p : Packet) (op : SyncOp) (rest : List Packet), present r = true ∧ cls < 4 ∧ headOf s r cls = (some p, rest) ∧ p.dst ≠ r ∧ neighbour r (route s r p.dst) = none ∧ p.body = .sync op) ∧
    (∃ (s : State) (r : Nat) (cls : Nat) (p : Packet) (q : Packet) (rest : List Packet), present r = true ∧ 0 < cls ∧ cls < 4 ∧ headOf s r cls = (some p, rest) ∧ (p.dst = r ∨ (neighbour r (route s r p.dst)).isSome = true) ∧ (headOf s r 0).1 = some q ∧ outPort s r q = outPort s r p ∧ canGo s r q = true) ∧
    (∃ (s : State) (r : Nat) (cls : Nat), (∀ p ∈ s.road.packets, p.loc = r → p.cls = cls → heldPacket s p = true)) :=
  ⟨⟨{ live with road := ⟨[(33 * 100 + 34, 2)], [], [addPacket], []⟩ }, 33, 1, 34, addPacket, [], (arbitrate { live with road := ⟨[(33 * 100 + 34, 2)], [], [addPacket], []⟩ } 33 2).2, by decide +kernel⟩,
    ⟨{ live with road := ⟨[], [], [{ addPacket with loc := 34 }], []⟩ }, 34, 1, { addPacket with loc := 34 }, addOp, [], (arbitrate { live with road := ⟨[], [], [{ addPacket with loc := 34 }], []⟩ } 34 49).2, by decide +kernel⟩,
    ⟨{ live with road := ⟨[], [], [addPacket], []⟩ }, 33, 1, addPacket, addOp, [], by decide +kernel⟩,
    ⟨{ live with road := ⟨[(33 * 100 + 34, 2)], [], [addPacket, { addPacket with cls := 0 }], []⟩ }, 33, 1, addPacket, { addPacket with cls := 0 }, [{ addPacket with cls := 0 }], by decide +kernel, by decide +kernel, by decide +kernel, by decide +kernel, .inr (by decide +kernel), by decide +kernel⟩,
    ⟨{ live with road := ⟨[], [(33, 34)], [addPacket], []⟩ }, 33, 1, by decide +kernel⟩⟩

/-- States and operands that meet the hypotheses of VersionReads, clause by clause. -/
theorem witness_VersionReads :
    (∃ (s : State) (sp : Space) (a : Nat) (ref : Nat) (size : Nat) (be : Nat) (fate : Fate) (k : PageKind), Reached s sp a ref 4 k ⟨size, be, fate⟩) :=
  ⟨live, .banksman, powerPg 33 * 0x1000 + 4, powerPg 33, 4, 15, .arrives, .power, reached_of (by decide +kernel)⟩

/-- States and operands that meet the hypotheses of RefusedWrite, clause by clause. -/
theorem witness_RefusedWrite :
    (∃ (s : State) (sp : Space) (a : Nat) (ref : Nat) (off : Nat) (size : Nat) (be : Nat) (value : Nat) (setNow : Nat) (code : Nat) (fate : Fate) (k : PageKind), Reached s sp a ref off k ⟨size, be, fate⟩ ∧ refusal (commonCodes s sp ref k off (lessSet a value setNow % 2 ^ 32) ++ blockCodes s sp ref k off (lessSet a value setNow % 2 ^ 32)) = some code) :=
  ⟨live, .bar0, powerPg 30 * 0x1000 + 0x44, powerPg 30, 0x44, 4, 15, 3, 0, 0x12, .arrives, .power, reached_of (by decide +kernel), by decide +kernel⟩

/-- States and operands that meet the hypotheses of BlockControl, clause by clause. -/
theorem witness_BlockControl :
    (∃ (s : State) (sp : Space) (ref : Nat) (k : PageKind) (value : Word), Taken s sp (ref * 0x1000 + 0x08) value.toNat ref 0x08 k ∧ ctrlOf k = .enable ∧ getF s ref STATUS_SRST_BUSY = 0 ∧ bit value.toNat 0 = true ∧ bit value.toNat 1 = false ∧ getF s ref CTRL_EN = 0) ∧
    (∃ (s : State) (sp : Space) (ref : Nat) (k : PageKind) (value : Word), Taken s sp (ref * 0x1000 + 0x08) value.toNat ref 0x08 k ∧ ctrlOf k = .enable ∧ getF s ref STATUS_SRST_BUSY = 0 ∧ bit value.toNat 0 = false ∧ bit value.toNat 1 = false ∧ getF s ref CTRL_EN = 1) ∧
    (∃ (s : State) (sp : Space) (ref : Nat) (k : PageKind) (value : Word), Taken s sp (ref * 0x1000 + 0x08) value.toNat ref 0x08 k ∧ ctrlOf k ≠ .none ∧ getF s ref STATUS_SRST_BUSY = 0 ∧ bit value.toNat 1 = true) ∧
    (∃ (s : State) (sp : Space) (ref : Nat) (k : PageKind) (value : Word), Taken s sp (ref * 0x1000 + 0x08) value.toNat ref 0x08 k ∧ getF s ref STATUS_SRST_BUSY ≠ 0 ∧ bit value.toNat 1 = true) ∧
    (∃ (s : State) (ref : Nat) (k : PageKind), pageKind ref = some k ∧ k ≠ .jobq ∧ getF s ref STATUS_SRST_BUSY ≠ 0) ∧
    (∃ (s : State), getF s jobqPg STATUS_SRST_BUSY ≠ 0 ∧ s.host.srstWait = true ∧ liveJobs s = []) :=
  ⟨⟨live, .banksman, sensorPg 0, .sensor, 1, taken_of (by decide +kernel), by decide +kernel⟩,
    ⟨setF live (sensorPg 0) CTRL_EN 1, .banksman, sensorPg 0, .sensor, 0, taken_of (by decide +kernel), by decide +kernel⟩,
    ⟨live, .banksman, sensorPg 0, .sensor, 3, taken_of (by decide +kernel), by decide +kernel⟩,
    ⟨setF live (sensorPg 0) STATUS_SRST_BUSY 1, .banksman, sensorPg 0, .sensor, 2, taken_of (by decide +kernel), by decide +kernel⟩,
    ⟨setF live (sensorPg 0) STATUS_SRST_BUSY 1, sensorPg 0, .sensor, by decide +kernel⟩,
    ⟨setF (live.updHost (fun h => { h with srstWait := true })) jobqPg STATUS_SRST_BUSY 1, by decide +kernel⟩⟩

/-- States and operands that meet the hypotheses of HeaderRegisters, clause by clause. -/
theorem witness_HeaderRegisters :
    (∃ (s : State) (sp : Space) (ref : Nat) (k : PageKind) (value : Word) (setNow : Nat), Taken s sp (ref * 0x1000 + 0x18) (lessSet 0x18 value.toNat setNow) ref 0x18 k) ∧
    (∃ (s : State) (sp : Space) (ref : Nat) (k : PageKind) (value : Word), Taken s sp (ref * 0x1000 + 0x14) value.toNat ref 0x14 k) ∧
    (∃ (s : State) (sp : Space) (ref : Nat) (k : PageKind) (value : Word) (setNow : Nat), Taken s sp (ref * 0x1000 + 0x20) (lessSet 0x20 value.toNat setNow) ref 0x20 k ∧ bit (value.toNat - (value.toNat &&& setNow)) 8 = true) ∧
    (∃ (s : State) (sp : Space) (ref : Nat) (k : PageKind), Taken s sp (ref * 0x1000 + 0x1C) 1 ref 0x1C k ∧ noCommit k = false ∧ getF s ref COMMIT_ARMED = 0) ∧
    (∃ (s : State) (ref : Nat) (k : PageKind), pageKind ref = some k ∧ getF s ref COMMIT_ARMED ≠ 0 ∧ boundaryHere s ref k = true) ∧
    (∃ (s : State), getF s mgmtPg COMMIT_ARMED ≠ 0) :=
  ⟨⟨live, .banksman, sensorPg 0, .sensor, 0xFFFFFFFF, 0x80000000, taken_of (by decide +kernel)⟩,
    ⟨live, .bar0, hostPg, .host, 0xFFFFFFFF, taken_of (by decide +kernel)⟩,
    ⟨live, .banksman, powerPg 33, .power, 0x100, 0, taken_of (by decide +kernel), by decide +kernel⟩,
    ⟨live, .banksman, powerPg 33, .power, taken_of (by decide +kernel), by decide +kernel⟩,
    ⟨setF live bringupPg COMMIT_ARMED 1, bringupPg, .bringup, by decide +kernel⟩,
    ⟨setF live mgmtPg COMMIT_ARMED 1, by decide +kernel⟩⟩

/-- States and operands that meet the hypotheses of RegisterWords, clause by clause. -/
theorem witness_RegisterWords :
    (∃ (s : State) (sp : Space) (a : Nat) (q : Nat) (value : Word), q < 64 ∧ Taken s sp a value.toNat jobqPg (0x104 + 16 * q) .jobq) ∧
    (∃ (s : State) (sp : Space) (a : Nat) (q : Nat) (value : Word), q < 64 ∧ Taken s sp a value.toNat jobqPg (0x108 + 16 * q) .jobq) ∧
    (∃ (s : State) (sp : Space) (a : Nat) (r : Nat) (size : Nat) (be : Nat) (fate : Fate), Reached s sp a (powerPg r) 0x60 .power ⟨size, be, fate⟩) ∧
    (∃ (s : State) (sp : Space) (a : Nat) (ref : Nat) (off : Nat) (size : Nat) (be : Nat) (value : Nat) (setNow : Nat) (fate : Fate) (k : PageKind), Taken s sp a (lessSet a value setNow % 2 ^ 32) ref off k ⟨size, be, fate⟩) :=
  ⟨⟨live, .bar0, jobqPg * 0x1000 + 0x104 + 16 * 63, 63, 0x1000, by decide +kernel, taken_of (by decide +kernel)⟩,
    ⟨live, .bar0, jobqPg * 0x1000 + 0x108 + 16 * 63, 63, 1, by decide +kernel, taken_of (by decide +kernel)⟩,
    ⟨live, .banksman, powerPg 33 * 0x1000 + 0x60, 33, 4, 15, .arrives, reached_of (by decide +kernel)⟩,
    ⟨live, .banksman, mgmtPg * 0x1000 + 0x14, mgmtPg, 0x14, 4, 15, 0, 0, .arrives, .mgmt, taken_of (by decide +kernel)⟩⟩

/-- States and operands that meet the hypotheses of PortFrames, clause by clause. -/
theorem witness_PortFrames :
    (∃ (s : State) (p : Nat), p < 6 ∧ s.carrier.vaon = .up) ∧
    (∃ (s : State) (p : Nat), portOn s p = true ∧ portF s p SENSOR_CAL_CFG_GAIN_CAL_EN = 1 ∧ windowOver s p = true) ∧
    (∃ (s : State) (p : Nat) (k : Nat) (v : Delivery), p < 6 ∧ k < 12 ∧ (s.stream p k).busy = some v ∧ v.flight = .landed) ∧
    (∃ (s : State) (p : Nat) (k : Nat) (v : Delivery), p < 6 ∧ k < 12 ∧ (s.stream p k).busy = some v ∧ (v.flight = .lost ∨ v.flight = .unsent)) :=
  ⟨⟨live, 5, by decide +kernel⟩,
    ⟨(setF sensing (sensorPg 0) SENSOR_CAL_CFG_GAIN_CAL_EN 1).updSensor 0 (fun x => { x with frame := 65535000 }), 0, by decide +kernel⟩,
    ⟨sensing.updStream 0 0 (fun x => { x with busy := some (going .landed) }), 0, 0, going .landed, by decide +kernel⟩,
    ⟨sensing.updStream 5 11 (fun x => { x with busy := some (going .lost) }), 5, 11, going .lost, by decide +kernel, by decide +kernel, by decide +kernel, .inl rfl⟩⟩

/-- States and operands that meet the hypotheses of CameraFrames, clause by clause. -/
theorem witness_CameraFrames :
    (∃ (s : State) (p : Nat) (vc : Nat), csiOn s p vc = true ∧ (s.stream p (12 + vc)).cam = none ∧ (s.stream p (12 + vc)).held = none ∧ strF s p (12 + vc) SENSOR_S_STATUS_ACTIVE ≠ 0) ∧
    (∃ (s : State) (p : Nat) (vc : Nat) (pkt : CsiPacket), csiOn s p vc = true ∧ pkt.payload.length < 65536 ∧ pkt.headerOk = false) ∧
    (∃ (s : State) (p : Nat) (vc : Nat) (pkt : CsiPacket) (c : CamFrame), csiOn s p vc = true ∧ pkt.payload.length < 65536 ∧ pkt.headerOk = true ∧ pkt.overrun = false ∧ (s.stream p (12 + vc)).cam = some c ∧ pkt.dt = strF s p (12 + vc) SENSOR_S_CFG_DT ∧ (c.room = 0 ∨ destOk s p c.face = true)) ∧
    (∃ (s : State) (p : Nat) (vc : Nat) (c : CamFrame), csiOn s p vc = true ∧ (s.stream p (12 + vc)).cam = some c ∧ c.room ≠ 0) ∧
    (∃ (s : State) (p : Nat) (k : Nat) (v : Delivery), p < 6 ∧ 12 ≤ k ∧ k < 16 ∧ (s.stream p k).busy = some v ∧ v.flight ≠ .moving) :=
  ⟨⟨str 15 SENSOR_S_STATUS_ACTIVE 1 sensing, 0, 3, by decide +kernel⟩,
    ⟨sensing, 0, 3, ⟨0x2A, [], false, true, false⟩, by decide +kernel⟩,
    ⟨(str 12 SENSOR_S_CFG_DT 0x2A sensing).updStream 0 12 (fun x => { x with cam := some { frame with room := 0 } }), 0, 0, ⟨0x2A, [1], true, true, false⟩, { frame with room := 0 }, by decide +kernel, by decide +kernel, by decide +kernel, by decide +kernel, by decide +kernel, by decide +kernel, .inl rfl⟩,
    ⟨sensing.updStream 0 12 (fun x => { x with cam := some frame }), 0, 0, frame, by decide +kernel⟩,
    ⟨sensing.updStream 0 12 (fun x => { x with busy := some (going .landed) }), 0, 12, going .landed, by decide +kernel⟩⟩

/-- States and operands that meet the hypotheses of PortControl, clause by clause. -/
theorem witness_PortControl :
    (∃ (s : State) (p : Nat) (k : Nat) (code : Nat), portOn s p = true ∧ k < 16 ∧ strF s p k SENSOR_S_STATUS_ACTIVE = 1 ∧ strF s p k SENSOR_S_STATUS_FAULT = 0 ∧ faultFits s p k code = true) ∧
    (∃ (s : State) (p : Nat) (k : Nat), portOn s p = true ∧ k < 16 ∧ clearFits s p k = true) ∧
    (∃ (s : State) (p : Nat), p < 6 ∧ headOk s p = true) ∧
    (∃ (s : State) (p : Nat), p < 6 ∧ (s.sensor p).tripped = true ∧ portF s p SENSOR_HEAD_CTRL_AUTO_RETRY = 1) ∧
    (∃ (s : State) (sp : Space) (p : Nat) (value : Word), p < 6 ∧ Taken s sp (sensorPg p * 0x1000 + 0x48) value.toNat (sensorPg p) 0x48 .sensor) ∧
    (∃ (s : State) (sp : Space) (p : Nat) (value : Word), p < 6 ∧ bit value.toNat 12 = true ∧ (s.sensor p).cci = none ∧ Taken s sp (sensorPg p * 0x1000 + 0x70) value.toNat (sensorPg p) 0x70 .sensor) ∧
    (∃ (s : State) (p : Nat) (c : CciSt), p < 6 ∧ (s.sensor p).cci = some c) :=
  ⟨⟨str 15 SENSOR_S_STATUS_ACTIVE 1 sensing, 0, 15, 4, by decide +kernel⟩,
    ⟨str 12 SENSOR_S_STATUS_FAULT 4 sensing, 0, 12, by decide +kernel⟩,
    ⟨setF sensing (sensorPg 0) SENSOR_PORT_STATUS_HEAD_OK 1, 0, by decide +kernel⟩,
    ⟨(setF sensing (sensorPg 0) SENSOR_HEAD_CTRL_AUTO_RETRY 1).updSensor 0 (fun x => { x with tripped := true }), 0, by decide +kernel⟩,
    ⟨live, .banksman, 0, 1, by decide +kernel, taken_of (by decide +kernel)⟩,
    ⟨live, .banksman, 0, 0x1000, by decide +kernel, by decide +kernel, by decide +kernel, taken_of (by decide +kernel)⟩,
    ⟨live.updSensor 5 (fun x => { x with cci := some ⟨0, true, false, 0, 1, 0⟩ }), 5, ⟨0, true, false, 0, 1, 0⟩, by decide +kernel⟩⟩

/-- States and operands that meet the hypotheses of ListenerStageB, clause by clause. -/
theorem witness_ListenerStageB :
    (∃ (s : State) (p : Nat) (k : Nat), listenerOn s p = true ∧ hopDue s p = true ∧ k < 4) ∧
    (∃ (s : State) (p : Nat) (e : EvalSt), p < 6 ∧ (s.listener p).eval = some e) ∧
    (∃ (s : State) (p : Nat), p < 6 ∧ (s.listener p).eval.isSome = true) ∧
    (∃ (s : State) (p : Nat), p < 6 ∧ (s.listener p).checking = true) ∧
    (∃ (s : State) (p : Nat), p < 6 ∧ (s.listener p).checking = true) ∧
    (∃ (s : State) (sp : Space) (p : Nat) (value : Word), p < 6 ∧ bit value.toNat 1 = false ∧ Taken s sp (listenerPg p * 0x1000 + 0x08) value.toNat (listenerPg p) 0x08 .listener ∧ lisF s p STATUS_SRST_BUSY = 0 ∧ (bit value.toNat 2 = true ∨ lisF s p LISTENER_CTRL_B_EN = 1)) :=
  ⟨⟨atTime (1000 * 24576) ((setF sensing (listenerPg 0) (LISTENER_CHAIN_CFG_EN.ix 3) 1).updSensor 0 (fun x => { x with frame := 1000 })), 0, 3, by decide +kernel⟩,
    ⟨live.updListener 5 (fun x => { x with eval := some scored }), 5, scored, by decide +kernel⟩,
    ⟨live.updListener 5 (fun x => { x with eval := some scored }), 5, by decide +kernel⟩,
    ⟨live.updListener 5 (fun x => { x with checking := true }), 5, by decide +kernel⟩,
    ⟨live.updListener 5 (fun x => { x with checking := true }), 5, by decide +kernel⟩,
    ⟨setF live (listenerPg 0) LISTENER_CTRL_B_EN 1, .banksman, 0, 1, by decide +kernel, by decide +kernel, taken_of (by decide +kernel), by decide +kernel⟩⟩

/-- States and operands that meet the hypotheses of ListenerMemory, clause by clause. -/
theorem witness_ListenerMemory :
    (∃ (s : State) (sp : Space) (p : Nat) (value : Word), p < 6 ∧ Taken s sp (listenerPg p * 0x1000 + 0xB4) value.toNat (listenerPg p) 0xB4 .listener) ∧
    (∃ (s : State) (sp : Space) (p : Nat), p < 6 ∧ Reached s sp (listenerPg p * 0x1000 + 0xB4) (listenerPg p) 0xB4 .listener) ∧
    (∃ (s : State) (sp : Space) (p : Nat) (value : Word), p < 6 ∧ bit value.toNat 2 = true ∧ Taken s sp (listenerPg p * 0x1000 + 0x90) value.toNat (listenerPg p) 0x90 .listener) ∧
    (∃ (s : State) (sp : Space) (p : Nat) (d : Nat) (value : Word), p < 6 ∧ d < 16 ∧ bit value.toNat 0 = true ∧ Taken s sp (listenerPg p * 0x1000 + 0x114 + 32 * d) value.toNat (listenerPg p) (0x114 + 32 * d) .listener) ∧
    (∃ (s : State) (p : Nat) (k : Nat) (m : ListenerMsg) (q : ListenerMsg) (rest : List RingMsg), p < 6 ∧ k < 4 ∧ ringFree s = true ∧ takeMsg (slotAck p k) s.ring = (some (.ack m), rest) ∧ (s.lslot p k).pending = some q) ∧
    (∃ (s : State) (p : Nat) (k : Nat), p < 6 ∧ k < 4 ∧ (s.lslot p k).pending.isSome = true) ∧
    (∃ (s : State) (p : Nat) (k : Nat), p < 6 ∧ k < 4 ∧ ringFree s = true ∧ RingMsg.demoted p k ∈ s.ring ∧ (s.lslot p k).level = 2) :=
  ⟨⟨live, .banksman, 0, 1, by decide +kernel, taken_of (by decide +kernel)⟩,
    ⟨live, .banksman, 0, by decide +kernel, reached_of (by decide +kernel)⟩,
    ⟨setF live (listenerPg 0) (LISTENER_CHAIN_CFG_EN.ix 3) 1, .banksman, 0, 7, by decide +kernel, by decide +kernel, taken_of (by decide +kernel)⟩,
    ⟨live, .banksman, 0, 15, 1, by decide +kernel, by decide +kernel, by decide +kernel, taken_of (by decide +kernel)⟩,
    ⟨{ live with ring := [.ack { message .aFire with port := 5, lslot := 3 }] }.updLslot 5 3 (fun x => { x with pending := some (message .aFire) }), 5, 3, { message .aFire with port := 5, lslot := 3 }, message .aFire, [], by decide +kernel⟩,
    ⟨live.updLslot 5 3 (fun x => { x with pending := some (message .trigger) }), 5, 3, by decide +kernel⟩,
    ⟨{ live with ring := [.demoted 5 3] }.updLslot 5 3 (fun x => { x with level := 2 }), 5, 3, by decide +kernel⟩⟩

/-- States and operands that meet the hypotheses of ListenerMessages, clause by clause. -/
theorem witness_ListenerMessages :
    (∃ (s : State) (p : Nat) (k : Nat) (m : ListenerMsg) (rest : List RingMsg), s.carrier.vaon = .up ∧ takeMsg (listenerMsg .aFire p k) s.ring = (some (.listener m), rest) ∧ staleMsg s m = false ∧ (s.chain m.chain).depth = 0) ∧
    (∃ (s : State) (p : Nat) (k : Nat) (m : ListenerMsg) (rest : List RingMsg), s.carrier.vaon = .up ∧ takeMsg (listenerMsg .demoted p k) s.ring = (some (.listener m), rest) ∧ staleMsg s m = false ∧ (s.chain m.chain).depth = 1) ∧
    (∃ (s : State) (p : Nat) (k : Nat) (m : ListenerMsg) (rest : List RingMsg), s.carrier.vaon = .up ∧ takeMsg (listenerMsg .refresh p k) s.ring = (some (.listener m), rest) ∧ staleMsg s m = false ∧ (s.chain m.chain).depth = 2) ∧
    (∃ (s : State) (p : Nat) (k : Nat) (m : ListenerMsg) (rest : List RingMsg), s.carrier.vaon = .up ∧ takeMsg (listenerMsg .trigger p k) s.ring = (some (.listener m), rest) ∧ staleMsg s m = false ∧ (s.chain m.chain).depth < 2) :=
  ⟨⟨{ chained 0 with ring := [.listener (message .aFire)] }, 0, 0, message .aFire, [], by decide +kernel⟩,
    ⟨{ chained 1 with ring := [.listener (message .demoted)] }, 0, 0, message .demoted, [], by decide +kernel⟩,
    ⟨{ chained 2 with ring := [.listener (message .refresh)] }, 0, 0, message .refresh, [], by decide +kernel⟩,
    ⟨{ chained 1 with ring := [.listener (message .trigger)] }, 0, 0, message .trigger, [], by decide +kernel⟩⟩

/-- States and operands that meet the hypotheses of EscalationControl, clause by clause. -/
theorem witness_EscalationControl :
    (∃ (s : State) (g : Nat) (v : Nat) (rest : List RingMsg), s.carrier.vaon = .up ∧ takeMsg (fun m => match m with | .verdict h _ => h == g | _ => false) s.ring = (some (.verdict g v), rest)) ∧
    (∃ (s : State) (g : Nat) (c : Nat) (pos : Nat) (rest : List RingMsg), s.carrier.vaon = .up ∧ ringFree s = true ∧ takeMsg (fun m => match m with | .wakeAck h _ _ => h == g | _ => false) s.ring = (some (.wakeAck g c pos), rest)) ∧
    (∃ (s : State) (c : Nat) (d : Nat), c < 16 ∧ (s.chain c).depth = d + 2 ∧ timerOver s c = true) ∧
    (∃ (s : State) (sp : Space) (value : Word) (d : Nat), bit value.toNat 5 = true ∧ bit value.toNat 4 = false ∧ Taken s sp (escPg * 0x1000 + 0x40) value.toNat escPg 0x40 .esc ∧ (s.chain (bits value.toNat 0 4)).depth = d + 2) ∧
    (∃ (s : State) (sp : Space) (value : Word) (c : Nat) (d : Nat), c = bits value.toNat 0 4 ∧ bit value.toNat 4 = true ∧ bit value.toNat 5 = false ∧ Taken s sp (escPg * 0x1000 + 0x40) value.toNat escPg 0x40 .esc ∧ (s.chain c).depth = d ∧ stageFaces s c (d + 1) ≠ [] ∧ (∀ g ∈ stageFaces s c (d + 1), faceAvailable s g = true ∧ inRun s (faceRegion g) = true ∧ (s.region (faceRegion g)).hs = none)) ∧
    (∃ (s : State) (sp : Space) (value : Word), bit value.toNat 0 = true ∧ s.esc.saving = none ∧ Taken s sp (escPg * 0x1000 + 0x44) value.toNat escPg 0x44 .esc) ∧
    (∃ (s : State) (r : ChainRec) (n : Nat), s.carrier.vaon = .up ∧ s.esc.saving = some (r, n)) :=
  ⟨⟨{ live with ring := [.verdict gr 0x200000] }, gr, 0x200000, [], by decide +kernel⟩,
    ⟨{ live with ring := [.wakeAck gr 0 2] }, gr, 0, 2, [], by decide +kernel⟩,
    ⟨atTime 24576000 ((chained 2).updChain 15 (fun x => { x with depth := 7, timer := some (0, 1) })), 15, 5, by decide +kernel⟩,
    ⟨chained 2, .banksman, 0x20, 0, by decide +kernel, by decide +kernel, taken_of (by decide +kernel), by decide +kernel⟩,
    ⟨setF (setF (setF (chained 2) escPg (ESC_CH_CFG_LEN.ix 0) 8) escPg (ESC_ST_REGION_1.ix 3) 2) escPg (ESC_ST_CFG_FACE_MASK.ix 3) 0x8001, .banksman, 0x10, 0, 2, by decide +kernel, by decide +kernel, by decide +kernel, taken_of (by decide +kernel), by decide +kernel⟩,
    ⟨live, .banksman, 1, by decide +kernel, by decide +kernel, taken_of (by decide +kernel)⟩,
    ⟨live.updEsc (fun e => { e with saving := some (⟨1, true, [], []⟩, 2) }), ⟨1, true, [], []⟩, 2, by decide +kernel⟩⟩

/-- States and operands that meet the hypotheses of FaceStarts, clause by clause. -/
theorem witness_FaceStarts :
    (∃ (s : State) (s0 : State) (v : State) (g : Nat) (model : Nat) (errs : List (Nat × Nat)) (withEnd : Bool) (m : RingMsg) (o : Owner) (rec32 : List Nat), startArrives s g (isStart g) withEnd = some (s0, m) ∧ v = ageLines s0 (faceRegion g) errs ∧ ((∃ h c pos, m = .wake h c pos model rec32 ∧ o = .stage c pos) ∨ (∃ h j, m = .start h j model none ∧ o = .job j ∧ rec32 = []))) ∧
    (∃ (s : State) (s0 : State) (v : State) (g : Nat) (h : Nat) (j : Nat) (model : Nat) (ctx : Nat) (errs : List (Nat × Nat)) (withEnd : Bool), startArrives s g (isRestart g) withEnd = some (s0, .start h j model (some ctx)) ∧ v = ageLines s0 (faceRegion g) errs) ∧
    (∃ (s : State) (g : Nat) (rest : List RingMsg), takeMsg (· == .endFace g) s.ring = (some (.endFace g), rest) ∧ inRun s (faceRegion g) = true ∧ backed s g = true ∧ (s.faceAt g).dead = false) :=
  ⟨⟨{ live with ring := [.wake gr 0 2 7 []] }, live, live, gr, 7, [], false, .wake gr 0 2 7 [], .stage 0 2, [], by decide +kernel, by decide +kernel, .inl ⟨gr, 0, 2, rfl, rfl⟩⟩,
    ⟨{ live with ring := [.start gr 0 7 (some 0x10000)] }, live, live, gr, gr, 0, 7, 0x10000, [], false, by decide +kernel⟩,
    ⟨{ live with ring := [.endFace gr] }, gr, [], by decide +kernel⟩⟩

/-- States and operands that meet the hypotheses of FaceEvents, clause by clause. -/
theorem witness_FaceEvents :
    (∃ (s : State) (g : Nat), (s.faceAt g).run = .switching ∧ (s.faceAt g).dead = false ∧ inRun s (faceRegion g) = true ∧ (s.faceAt g).endPending = false) ∧
    (∃ (f : FaceSt) (l : Loop), f.pc = l.stop) ∧
    (∃ (s : State) (u : State) (g : Nat) (pc : Nat) (errs : List (Nat × Nat)), faceRuns s g = true ∧ (s.faceAt g).opq < 256 ∧ (s.faceAt g).endPending = false ∧ fetchHeld (s.faceAt g) = false ∧ loopReady (s.faceAt g) = true ∧ u = (ageLines s (faceRegion g) errs).updFace g (fun f => loopEnd f.loops f) ∧ pc = (u.faceAt g).pc ∧ pc + 32 ≤ bedCapacity (faceRegion g) ∧ faceMay u g (faceRegion g) pc 32 2 = true ∧ (linesOf pc 32).any (fun l => lineSpoil (u.bed (faceRegion g)) l || lineUE (u.bed (faceRegion g)) l) = false ∧ (fetchRecord u g pc).known = true) ∧
    (∃ (s : State) (g : Nat) (i : Nat) (x : Issued), (s.faceAt g).issued[i]? = some x ∧ isComplete s g x = true ∧ (s.faceAt g).dead = false ∧ inRun s (faceRegion g) = true) ∧
    (∃ (s : State) (g : Nat) (a : Nat), inRun s (faceRegion g) = true ∧ (s.faceAt g).dead = false ∧ (s.faceAt g).num.writeDue = true ∧ a = logSlot s g (getF s (numPg g) NUM_LOG_POS_SEGMENT) (if (s.faceAt g).num.slot = 0 then 1 else 0) ∧ faceMay s g (faceRegion g) a 256 1 = true) ∧
    (∃ (s : State) (g : Nat), g < 3200 ∧ inRun s (faceRegion g) = true ∧ (s.faceAt g).dead = false ∧ (s.faceAt g).num.writeDue = true) :=
  ⟨⟨live.updFace gr (fun f => { f with run := .switching }), gr, by decide +kernel⟩,
    ⟨FaceSt.reset, ⟨0, 0, 0, 0, 0⟩, by decide +kernel⟩,
    ⟨live.updFace gr (fun f => { f with run := .running, pc := 0x10000 }), (ageLines (live.updFace gr (fun f => { f with run := .running, pc := 0x10000 })) 33 []).updFace gr (fun f => loopEnd f.loops f), gr, 0x10000, [], by decide +kernel, by decide +kernel, by decide +kernel, by decide +kernel, by decide +kernel, rfl, by decide +kernel⟩,
    ⟨live.updFace gr (fun f => { f with issued := [⟨0, record 4 8 [], .done⟩] }), gr, 0, ⟨0, record 4 8 [], .done⟩, by decide +kernel⟩,
    ⟨live.updFace gr (fun f => { f with num := { f.num with writeDue := true, slot := 0 } }), gr, 256, by decide +kernel⟩,
    ⟨live.updFace gr (fun f => { f with num := { f.num with writeDue := true } }), gr, by decide +kernel⟩⟩

/-- States and operands that meet the hypotheses of SkippedAndIllegal, clause by clause. -/
theorem witness_SkippedAndIllegal :
    (∃ (c : Instr) (s : State) (g : Nat) (o : OpRec), takesRecord c s g o ∧ headReady s g = some o ∧ o.illegal = false ∧ (s.faceAt g).skips o = true) ∧
    (∃ (c : Instr) (s : State) (g : Nat) (o : OpRec), g < 3200 ∧ takesRecord c s g o ∧ headReady s g = some o ∧ o.illegal = true ∧ effectsSeen s g o = true) ∧
    (∃ (c : Instr) (s : State) (g : Nat) (n : Nat) (a : Nat) (fam : Nat) (sub : Nat) (o : OpRec), Issues s g fam sub o ∧ (c, fam, sub) ∈ [(Instr.lda g ⟨n, some a⟩, 4, 6), (.sta g ⟨n, some a⟩, 4, 7)]) :=
  ⟨⟨.ctlNop gr, issuing ⟨0x10000, [0x1000084]⟩, gr, ⟨0x10000, [0x1000084]⟩, .inl rfl, by decide +kernel⟩,
    ⟨.ctlNop gr, issuing (record 4 8 [1]), gr, record 4 8 [1], by decide +kernel, .inl rfl, by decide +kernel⟩,
    ⟨Instr.lda gr ⟨1, some 64⟩, issuing (record 4 6 [15, 0x3FFFFC]), gr, 1, 64, 4, 6, record 4 6 [15, 0x3FFFFC], issues_of (by decide +kernel), by simp⟩⟩

/-- States and operands that meet the hypotheses of ControlRecords, clause by clause. -/
theorem witness_ControlRecords :
    (∃ (s : State) (g : Nat) (o : OpRec), Issues s g 4 0 o) ∧
    (∃ (s : State) (g : Nat) (n : Nat) (o : OpRec), Issues s g 4 1 o ∧ n = (if bits (o.word 1) 24 4 = 0 then bits (o.word 1) 0 24 else (s.faceAt g).a (bits (o.word 1) 24 4)) ∧ (∀ l ∈ (s.faceAt g).loops.head?, loopStop o ≤ l.stop)) ∧
    (∃ (s : State) (g : Nat) (o : OpRec) (l : Loop), Issues s g 4 1 o ∧ (s.faceAt g).loops.head? = some l ∧ l.stop < loopStop o) ∧
    (∃ (s : State) (g : Nat) (o : OpRec), Issues s g 4 2 o) ∧
    (∃ (s : State) (g : Nat) (a : Nat) (o : OpRec), Issues s g 4 9 o ∧ a = (s.faceAt g).addrOperand (o.word 1) ∧ a % 512 = 0 ∧ a + 512 ≤ sramSize) :=
  ⟨⟨issuing (record 4 0 []), gr, record 4 0 [], issues_of (by decide +kernel)⟩,
    ⟨issuing (record 4 1 [5, 1]), gr, 5, record 4 1 [5, 1], issues_of (by decide +kernel), by decide +kernel⟩,
    ⟨(issuing (record 4 1 [5, 1])).updFace gr (fun f => { f with loops := [⟨0, 0, 0, 0, 0⟩] }), gr, record 4 1 [5, 1], ⟨0, 0, 0, 0, 0⟩, issues_of (by decide +kernel), by decide +kernel⟩,
    ⟨issuing (record 4 2 [0xFFFFFF]), gr, record 4 2 [0xFFFFFF], issues_of (by decide +kernel)⟩,
    ⟨issuing (record 4 9 [0x200]), gr, 0x200, record 4 9 [0x200], issues_of (by decide +kernel), by decide +kernel⟩⟩

/-- States and operands that meet the hypotheses of SetPredicate, clause by clause. -/
theorem witness_SetPredicate :
    (∃ (s : State) (g : Nat) (x : Nat) (y : Nat) (cmp : Nat) (comb : Nat) (pd : Nat) (o : OpRec) (r : Bool), Issues s g 4 3 o ∧ pd = bits (o.word 1) 0 3 ∧ cmp = bits (o.word 1) 4 3 ∧ comb = bits (o.word 1) 8 2 ∧ x = (s.faceAt g).a (bits (o.word 1) 12 4) ∧ y = (if bit (o.word 1) 20 then o.word 2 else (s.faceAt g).a (bits (o.word 1) 16 4)) ∧ (cmp = 0 → r = decide (x = y)) ∧ (cmp = 1 → r = decide (x ≠ y)) ∧ (cmp = 2 → r = decide (toSigned 32 x < toSigned 32 y)) ∧ (cmp = 3 → r = decide (toSigned 32 y ≤ toSigned 32 x)) ∧ (cmp = 4 → r = decide (x < y)) ∧ (cmp = 5 → r = decide (y ≤ x))) :=
  ⟨issuing (record 4 3 []), gr, 0, 0, 0, 0, 0, record 4 3 [], true, issues_of (by decide +kernel), by decide +kernel⟩

/-- States and operands that meet the hypotheses of RegisterRecords, clause by clause. -/
theorem witness_RegisterRecords :
    (∃ (s : State) (g : Nat) (d : Nat) (o : OpRec), Issues s g 4 4 o ∧ d = bits (o.word 1) 0 4) ∧
    (∃ (s : State) (g : Nat) (d : Nat) (o : OpRec), Issues s g 4 5 o ∧ d = bits (o.word 1) 0 4) ∧
    (∃ (s : State) (g : Nat) (d : Nat) (a : Nat) (o : OpRec), Issues s g 4 6 o ∧ d = bits (o.word 1) 0 4 ∧ a = ((s.faceAt g).a (bits (o.word 1) 4 4) + o.word 2) % 2 ^ 32 ∧ a % 4 = 0 ∧ a + 4 ≤ sramSize ∧ (s.faceAt g).rangeSpoil a 4 = false) ∧
    (∃ (s : State) (g : Nat) (a : Nat) (o : OpRec), Issues s g 4 7 o ∧ a = ((s.faceAt g).a (bits (o.word 1) 4 4) + o.word 2) % 2 ^ 32 ∧ a % 4 = 0 ∧ a + 4 ≤ sramSize) ∧
    (∃ (c : Instr) (s : State) (g : Nat) (a : Nat) (n : Nat) (sub : Nat) (o : OpRec), Issues s g 4 sub o ∧ (c, sub) ∈ [(Instr.lda g ⟨n, none⟩, 6), (.sta g ⟨n, none⟩, 7)] ∧ a = ((s.faceAt g).a (bits (o.word 1) 4 4) + o.word 2) % 2 ^ 32 ∧ (a % 4 ≠ 0 ∨ sramSize < a + 4)) ∧
    (∃ (s : State) (g : Nat) (o : OpRec), Issues s g 4 8 o) :=
  ⟨⟨issuing (record 4 4 [15, 9]), gr, 15, record 4 4 [15, 9], issues_of (by decide +kernel), by decide +kernel⟩,
    ⟨issuing (record 4 5 [15, 9]), gr, 15, record 4 5 [15, 9], issues_of (by decide +kernel), by decide +kernel⟩,
    ⟨issuing (record 4 6 [15, 0x3FFFFC]), gr, 15, 0x3FFFFC, record 4 6 [15, 0x3FFFFC], issues_of (by decide +kernel), by decide +kernel⟩,
    ⟨issuing (record 4 7 [15, 0x3FFFFC]), gr, 0x3FFFFC, record 4 7 [15, 0x3FFFFC], issues_of (by decide +kernel), by decide +kernel⟩,
    ⟨Instr.sta gr ⟨0, none⟩, issuing (record 4 7 [15, 0x3FFFFD]), gr, 0x3FFFFD, 0, 7, record 4 7 [15, 0x3FFFFD], issues_of (by decide +kernel), by simp, by decide +kernel⟩,
    ⟨issuing (record 4 8 []), gr, record 4 8 [], issues_of (by decide +kernel)⟩⟩

/-- States and operands that meet the hypotheses of TensorEngines, clause by clause. -/
theorem witness_TensorEngines :
    (∃ (s : State) (g : Nat) (o : OpRec) (f : FaceSt), Issues s g 0 0 o ∧ f = s.faceAt g ∧ matCheck f o = none) ∧
    (∃ (f : FaceSt) (o : OpRec) (a : Pat) (b : Pat) (c : Pat), a = f.pat (o.word 1) ∧ b = f.pat (o.word 2) ∧ c = f.pat (o.word 3) ∧ matMode o = 0 ∧ matAcc o = false ∧ matEpi o = false ∧ dimsOf o 3 = []) ∧
    (∃ (s : State) (g : Nat) (o : OpRec), Issues s g 1 0 o ∧ eltCheck (s.faceAt g) o = none) ∧
    (∃ (s : State) (c : SramEcc → Instr) (g : Nat) (fam : Nat) (o : OpRec), (c, fam) ∈ [(Instr.mat g, 0), (Instr.elt g, 1)] ∧ Issues s g fam 0 o) ∧
    (∃ (w : Nat), eOPC w = 0x14) ∧
    (∃ (v : Nat), 127 < toSigned 32 v) :=
  ⟨⟨issuing (record 0 0 [0, 0, 0, 1, 1]), gr, record 0 0 [0, 0, 0, 1, 1], (issuing (record 0 0 [0, 0, 0, 1, 1])).faceAt gr, issues_of (by decide +kernel), by decide +kernel⟩,
    ⟨FaceSt.reset, record 0 0 [0, 0, 0, 1, 1], FaceSt.reset.pat 0, FaceSt.reset.pat 0, FaceSt.reset.pat 0, by decide +kernel⟩,
    ⟨issuing (record 1 0 [0x10000, 0x10001]), gr, record 1 0 [0x10000, 0x10001], issues_of (by decide +kernel), by decide +kernel⟩,
    ⟨issuing (record 1 0 [0x10000, 0x10001]), Instr.elt gr, gr, 1, record 1 0 [0x10000, 0x10001], by simp, issues_of (by decide +kernel)⟩,
    ⟨0x14 * 2 ^ 58, by decide +kernel⟩,
    ⟨128, by decide +kernel⟩⟩

/-- States and operands that meet the hypotheses of SequenceRecords, clause by clause. -/
theorem witness_SequenceRecords :
    (∃ (s : State) (g : Nat) (o : OpRec), Issues s g 5 0 o ∧ recCheck (s.faceAt g) o = none) ∧
    (∃ (s : State) (g : Nat) (o : OpRec), Issues s g 5 1 o ∧ recCheck (s.faceAt g) o = none) ∧
    (∃ (f : FaceSt) (o : OpRec) (x : RecD) (r : Nat), rowHold f o x r = true ∧ rowReset f o r = false) ∧
    (∃ (s : State) (g : Nat) (o : OpRec), Issues s g 6 0 o ∧ blockCheck (s.faceAt g) o = none) ∧
    (∃ (f : FaceSt) (o : OpRec) (x : AttD) (q : Nat), (∀ k, k < x.kvrows → allowed f o x q k = false)) ∧
    (∃ (s : State) (g : Nat) (o : OpRec), Issues s g 6 1 o ∧ finishCheck (s.faceAt g) o = none) :=
  ⟨⟨recurring 0 0 0, gr, record 5 0 [1, 1], issues_of (by decide +kernel), by decide +kernel⟩,
    ⟨recurring 1 0x6000 4, gr, record 5 1 [1, 1], issues_of (by decide +kernel), by decide +kernel⟩,
    ⟨{ FaceSt.reset with sram := mputs [] 64 [1] }, record 5 0 [1, 1, 0x10000000], (FaceSt.reset.recDesc (record 5 0 [1, 1])), 0, by decide +kernel⟩,
    ⟨attending 0, gr, record 6 0 [1, 0x10001], issues_of (by decide +kernel), by decide +kernel⟩,
    ⟨FaceSt.reset, record 6 0 [1, 1], FaceSt.reset.attDesc (record 6 0 [1, 1]), 0, by decide +kernel⟩,
    ⟨attending 1, gr, record 6 1 [1, 0x10001], issues_of (by decide +kernel), by decide +kernel⟩⟩

/-- States and operands that meet the hypotheses of HoistCommands, clause by clause. -/
theorem witness_HoistCommands :
    (∃ (s : State) (c : Instr) (g : Nat) (k : Nat) (n : Nat) (o : OpRec) (d : HoistDesc) (errs : List (Nat × Nat)), g < 3200 ∧ c ∈ [Instr.fetch g ⟨k, none⟩ errs, .writeback g ⟨k, none⟩, .discard g ⟨k, none⟩, .load g ⟨k, none⟩ errs, .store g ⟨k, none⟩, .copy g ⟨k, none⟩] ∧ moveOf c = some (g, n) ∧ Issues s g 2 0 o ∧ movStop s g o = none ∧ d = (s.faceAt g).desc o ∧ d.op = n ∧ d.remote = false ∧ hoistFree (s.faceAt g) d = true) ∧
    (∃ (s : State) (g : Nat) (o : OpRec) (d : HoistDesc), Issues s g 2 0 o ∧ movStop s g o = none ∧ d = (s.faceAt g).desc o ∧ d.op = 5 ∧ d.remote = true ∧ hoistFree (s.faceAt g) d = true) ∧
    (∃ (s : State) (c : Instr) (g : Nat) (n : Nat) (o : OpRec) (a : Nat), moveOf c = some (g, n) ∧ Issues s g 2 0 o ∧ a = (s.faceAt g).descAddr o ∧ (a % 32 ≠ 0 ∨ sramSize < a + 32)) :=
  ⟨⟨moving [0x10010, 64, 0x1000, 0, 0x10000], .fetch gr ⟨0, none⟩ [], gr, 0, 0, record 2 0 [1], ((moving [0x10010, 64, 0x1000, 0, 0x10000]).faceAt gr).desc (record 2 0 [1]), [], by decide +kernel, by simp, by decide +kernel, issues_of (by decide +kernel), by decide +kernel⟩,
    ⟨moving [0x10055, 4, 0x1000, 0, 0x2000, 0, gr * 0x10000], gr, record 2 0 [1], ((moving [0x10055, 4, 0x1000, 0, 0x2000, 0, gr * 0x10000]).faceAt gr).desc (record 2 0 [1]), issues_of (by decide +kernel), by decide +kernel⟩,
    ⟨(issuing (record 2 0 [0x100000])).updFace gr (fun f => { f with regs := [(1, 1)] }), .copy gr ⟨0, none⟩, gr, 5, record 2 0 [0x100000], 1, by decide +kernel, issues_of (by decide +kernel), by decide +kernel⟩⟩

/-- States and operands that meet the hypotheses of HoistLines, clause by clause. -/
theorem witness_HoistLines :
    (∃ (s : State) (g : Nat) (face : Nat) (far : Nat) (j : Nat), faceMay s g (faceRegion g) ((far / 64 + j) * 64) 64 0 = true ∧ ((s.faceAt g).tag (face / 64 + j)).valid = true ∧ ((s.faceAt g).tag (face / 64 + j)).home = far / 64 + j) ∧
    (∃ (s : State) (g : Nat) (face : Nat) (far : Nat) (j : Nat), faceMay s g (faceRegion g) ((far / 64 + j) * 64) 64 0 = true ∧ ((s.faceAt g).tag (face / 64 + j)).dirty = false ∧ (((s.faceAt g).tag (face / 64 + j)).valid = false ∨ ((s.faceAt g).tag (face / 64 + j)).home ≠ far / 64 + j)) ∧
    (∃ (s : State) (g : Nat) (face : Nat) (j : Nat) (x : LineTag), x = (s.faceAt g).tag (face / 64 + j) ∧ x.dirty = true ∧ faceMay s g (faceRegion g) (x.home * 64) 64 1 = true) ∧
    (∃ (s : State) (g : Nat) (r : Nat) (d : HoistDesc), reachable s (faceRegion g) d.region = true ∧ (∀ p ∈ piecesOf (d.rowBytes + 1) (d.farAt r) d.rowBytes 0, faceMay s g d.region p.1 p.2.1 0 = true)) ∧
    (∃ (s : State) (g : Nat) (r : Nat) (d : HoistDesc), reachable s (faceRegion g) d.region = true ∧ (∀ p ∈ piecesOf (d.rowBytes + 1) (d.farAt r) d.rowBytes 0, faceMay s g d.region p.1 p.2.1 1 = true)) ∧
    (∃ (s : State) (g : Nat) (d : HoistDesc), copyMay s g d.dst = true ∧ backed s d.dst = true ∧ reachable s (faceRegion g) (faceRegion d.dst) = true) :=
  ⟨⟨live.updFace gr (fun f => { f with tags := [(0, ⟨true, false, 4⟩)] }), gr, 0, 256, 0, by decide +kernel⟩,
    ⟨live, gr, 0, 256, 0, by decide +kernel⟩,
    ⟨live.updFace gr (fun f => { f with tags := [(0, ⟨true, true, 4⟩)] }), gr, 0, 0, ⟨true, true, 4⟩, by decide +kernel⟩,
    ⟨live, gr, 0, { FaceSt.reset.desc (record 2 0 []) with region := 33, rowBytes := 4 }, by decide +kernel⟩,
    ⟨live, gr, 0, { FaceSt.reset.desc (record 2 0 []) with region := 33, rowBytes := 4 }, by decide +kernel⟩,
    ⟨live, gr, { FaceSt.reset.desc (record 2 0 []) with dst := gr }, by decide +kernel⟩⟩

/-- States and operands that meet the hypotheses of SyncRecords, clause by clause. -/
theorem witness_SyncRecords :
    (∃ (s : State) (c : Instr) (sub : SyncSub) (g : Nat) (r : Nat) (o : OpRec) (op : SyncOp), (c, sub) ∈ [(Instr.synAdd g, SyncSub.add), (.synWaitGe g, .waitGe), (.synSet g, .set), (.synClear g, .clear), (.synWaitSet g, .waitSet), (.synAcquire g, .acquire), (.synRelease g, .release), (.synArrive g, .arrive), (.synArriveWait g, .arriveWait), (.synRead g, .read)] ∧ Issues s g 3 sub.code o ∧ syncFree s g o = true ∧ (o.isWait = true → jobStopped s g = false) ∧ bit (o.word 1) 18 = false ∧ r = bits (o.word 1) 0 7 ∧ op = ⟨bits (o.word 1) 8 8, sub, if bit (o.word 1) 28 then (s.faceAt g).a (bits (o.word 1) 24 4) else o.word 2, .face g, (s.faceAt g).nextId⟩) ∧
    (∃ (s : State) (c : Instr) (n : Nat) (g : Nat) (k : Nat) (o : OpRec), (c, n) ∈ [(Instr.synAdd g, 0), (.synSet g, 2), (.synArrive g, 7)] ∧ Issues s g 3 n o ∧ bit (o.word 1) 18 = true ∧ k = bits (o.word 1) 19 2) ∧
    (∃ (s : State) (c : Instr) (n : Nat) (g : Nat) (o : OpRec), (c, n) ∈ [(Instr.synWaitGe g, 1), (.synWaitSet g, 4), (.synAcquire g, 5), (.synArriveWait g, 8)] ∧ Issues s g 3 n o ∧ syncFree s g o = true ∧ jobStopped s g = true) ∧
    (∃ (s : State) (g : Nat) (o : OpRec), Issues s g 3 10 o ∧ verdictGoes s g = true) :=
  ⟨⟨issuing (record 3 0 [0x521, 7]), .synAdd gr, .add, gr, 33, record 3 0 [0x521, 7], ⟨5, .add, 7, .face gr, 0⟩, by simp, issues_of (by decide +kernel), by decide +kernel⟩,
    ⟨issuing (record 3 0 [0x1C0000]), .synAdd gr, 0, gr, 3, record 3 0 [0x1C0000], by simp, issues_of (by decide +kernel), by decide +kernel⟩,
    ⟨((issuing (record 3 1 [33])).updFace gr (fun f => { f with owner := .job 0 })).updJob 0 (fun x => { x with state := .running, stop := some ⟨1, 0, 0⟩ }), .synWaitGe gr, 1, gr, record 3 1 [33], by simp, issues_of (by decide +kernel), by decide +kernel⟩,
    ⟨issuing (record 3 10 []), gr, record 3 10 [], issues_of (by decide +kernel), by decide +kernel⟩⟩

/-- States and operands that meet the hypotheses of SyncApply, clause by clause. -/
theorem witness_SyncApply :
    (∃ (s : State) (r : Nat) (op : SyncOp) (rest : List SyncOp) (x : SyncObj), (s.sync r).arrivals = op :: rest ∧ inRun s r = true ∧ x = (s.sync r).obj op.obj ∧ syncAllowed s x op.src = true ∧ x.corrupt = false) ∧
    (∃ (s : State) (r : Nat) (op : SyncOp) (rest : List SyncOp), r < 100 ∧ (s.sync r).arrivals = op :: rest ∧ inRun s r = true ∧ syncAllowed s ((s.sync r).obj op.obj) op.src = false ∧ (op.src = .banksman ∨ op.src = .esc ∨ ∃ k, op.src = .sensor k)) ∧
    (∃ (s : State) (r : Nat) (op : SyncOp) (rest : List SyncOp), (s.sync r).arrivals = op :: rest ∧ inRun s r = true ∧ (op.src = .banksman ∨ op.src = .esc ∨ (∃ k, op.src = .sensor k) ∨ op.src = .host)) :=
  ⟨⟨live.updSync 33 (fun b => { b with arrivals := [addOp] }), 33, addOp, [], SyncObj.reset, by decide +kernel⟩,
    ⟨live.updSync 33 (fun b => { b.setObj 5 { SyncObj.reset with job := some 0 } with arrivals := [toFive] }), 33, toFive, [], by decide +kernel, by decide +kernel, by decide +kernel, by decide +kernel, .inl rfl⟩,
    ⟨live.updSync 33 (fun b => { b with arrivals := [addOp] }), 33, addOp, [], by decide +kernel, by decide +kernel, .inl rfl⟩⟩

/-- States and operands that meet the hypotheses of SyncCommands, clause by clause. -/
theorem witness_SyncCommands :
    (∃ (s : State) (c : Space → Nat → Word → Instr) (n : Nat) (sub : SyncSub) (sp : Space) (r : Nat) (v : Word), (c, n, sub) ∈ [(Instr.sigCmdAdd, 0, SyncSub.add), (.sigCmdSet, 2, .set), (.sigCmdClear, 3, .clear)] ∧ present r = true ∧ bit v.toNat 12 = true ∧ bits v.toNat 8 4 = n ∧ Taken s sp (syncPg r * 0x1000 + 0x58) v.toNat (syncPg r) 0x58 .sync) ∧
    (∃ (s : State) (sp : Space) (r : Nat) (v : Word), present r = true ∧ bit v.toNat 12 = true ∧ Taken s sp (syncPg r * 0x1000 + 0x60) v.toNat (syncPg r) 0x60 .sync) ∧
    (∃ (s : State) (sp : Space) (r : Nat) (v : Word), present r = true ∧ bit v.toNat 12 = false ∧ bit v.toNat 13 = true ∧ Taken s sp (syncPg r * 0x1000 + 0x60) v.toNat (syncPg r) 0x60 .sync) ∧
    (∃ (s : State) (r : Nat) (x : SnapSt), r < 100 ∧ (s.sync r).snap = some x ∧ inRun s r = true ∧ snapEnded s r x = true) ∧
    (∃ (s : State) (sp : Space) (r : Nat) (obj : Nat) (v : Word), present r = true ∧ obj < 256 ∧ Taken s sp (syncPg r * 0x1000 + 0x800 + 8 * obj) v.toNat (syncPg r) (0x800 + 8 * obj) .sync) ∧
    (∃ (s : State) (sp : Space) (r : Nat) (obj : Nat), present r = true ∧ obj < 256 ∧ Reached s sp (syncPg r * 0x1000 + 0x804 + 8 * obj) (syncPg r) (0x804 + 8 * obj) .sync) ∧
    (∃ (s : State) (g : Nat) (i : Nat) (r : Nat) (x : Issued) (op : SyncOp) (w : Bool), (s.faceAt g).issued[i]? = some x ∧ x.st = .retry r op w ∧ inRun s (faceRegion g) = true) :=
  ⟨⟨live, .sigCmdAdd, 0, .add, .banksman, 33, 0x1000, by simp, by decide +kernel, by decide +kernel, by decide +kernel, taken_of (by decide +kernel)⟩,
    ⟨live, .banksman, 33, 0x1000, by decide +kernel, by decide +kernel, taken_of (by decide +kernel)⟩,
    ⟨live, .banksman, 33, 0x2000, by decide +kernel, by decide +kernel, by decide +kernel, taken_of (by decide +kernel)⟩,
    ⟨live.updSync 33 (fun b => { b with snap := some ⟨true, 2, 0, 0⟩ }), 33, ⟨true, 2, 0, 0⟩, by decide +kernel⟩,
    ⟨live, .banksman, 33, 255, 1, by decide +kernel, by decide +kernel, taken_of (by decide +kernel)⟩,
    ⟨live, .banksman, 33, 255, by decide +kernel, by decide +kernel, reached_of (by decide +kernel)⟩,
    ⟨live.updFace gr (fun f => { f with issued := [⟨0, record 3 1 [], .retry 33 addOp true⟩] }), gr, 0, 33, ⟨0, record 3 1 [], .retry 33 addOp true⟩, addOp, true, by decide +kernel⟩⟩

/-- States and operands that meet the hypotheses of BedStore, clause by clause. -/
theorem witness_BedStore :
    (∃ (s : State) (r : Nat) (o : OutMark) (rest : List OutMark), (s.bed r).outQueue = o :: rest ∧ inRun s r = true) ∧
    (∃ (s : State) (r : Nat) (i : Nat) (w : LineWrite), (s.bed r).queue[i]? = some w ∧ inRun s r = true ∧ mayEnd (s.bed r).queue i = true ∧ (s.bed r).failing.contains (w.line / 64) = false) ∧
    (∃ (s : State) (r : Nat), inRun s r = true ∧ (s.bed r).scrubPos < bedLines r) ∧
    (∃ (s : State) (r : Nat) (blk : Nat) (p : Nat), bestSpare (s.bed r) (freeSpares r (s.bed r)) = some p ∧ inRun s r = true ∧ (s.bed r).reloc = none ∧ relocWhy s r blk ≠ 0) ∧
    (∃ (s : State) (r : Nat) (x : Reloc), (s.bed r).reloc = some x ∧ inRun s r = true) :=
  ⟨⟨live.updBed 33 (fun b => { b with outQueue := [⟨gr, 5, 0⟩] }), 33, ⟨gr, 5, 0⟩, [], by decide +kernel⟩,
    ⟨live.updBed 33 (fun b => { b with queue := [⟨5, .aperture⟩] }), 33, 0, ⟨5, .aperture⟩, by decide +kernel⟩,
    ⟨live, 33, by decide +kernel⟩,
    ⟨live.updBed 33 (fun b => { b with failing := [5] }), 33, 5, 0, by decide +kernel⟩,
    ⟨live.updBed 33 (fun b => { b with reloc := some ⟨5, 0, false, false⟩ }), 33, ⟨5, 0, false, false⟩, by decide +kernel⟩⟩

/-- States and operands that meet the hypotheses of PeekAndAperture, clause by clause. -/
theorem witness_PeekAndAperture :
    (∃ (s : State) (sp : Space) (g : Nat), faceAssigned g = true ∧ Reached s sp (facePg g * 0x1000 + 0xC4) (facePg g) 0xC4 .face) ∧
    (∃ (s : State) (sp : Space) (g : Nat) (a : Nat), faceAssigned g = true ∧ Reached s sp (facePg g * 0x1000 + 0xC4) (facePg g) 0xC4 .face ∧ (s.faceAt g).secret = false ∧ a = 4 * getF s (facePg g) FACE_PEEK_ADDR_ADDR) ∧
    (∃ (s : State) (sp : Space) (g : Nat) (v : Word), faceAssigned g = true ∧ Taken s sp (facePg g * 0x1000 + 0xC4) v.toNat (facePg g) 0xC4 .face ∧ 4 * getF s (facePg g) FACE_PEEK_ADDR_ADDR + 4 ≤ sramSize) ∧
    (∃ (s : State) (sp : Space) (addr : Nat) (size : Nat) (r : Nat) (off : Nat) (fate : Fate), canAccess s sp = true ∧ target sp addr = .aperture r off ∧ judge s sp addr ⟨size, 2 ^ size - 1, fate⟩ = .ok) ∧
    (∃ (s : State) (sp : Space) (addr : Nat) (size : Nat) (r : Nat) (off : Nat) (fate : Fate), canAccess s sp = true ∧ target sp addr = .aperture r off ∧ judge s sp addr ⟨size, 2 ^ size - 1, fate⟩ = .ok) :=
  ⟨⟨live, .banksman, gr + 15, by decide +kernel, reached_of (by decide +kernel)⟩,
    ⟨live, .banksman, gr + 15, 0, by decide +kernel, reached_of (by decide +kernel), by decide +kernel⟩,
    ⟨live, .banksman, gr + 15, 5, by decide +kernel, taken_of (by decide +kernel), by decide +kernel⟩,
    ⟨live, .bar0, 30 * 0x1000000 + 0x80003F, 1, 30, 63, .arrives, by decide +kernel⟩,
    ⟨live, .bar0, 30 * 0x1000000 + 0x80003F, 1, 30, 63, .arrives, by decide +kernel⟩⟩

/-- States and operands that meet the hypotheses of LinkTraining, clause by clause. -/
theorem witness_LinkTraining :
    (∃ (s : State) (k : Nat), awaitsLanes s k = true) ∧
    (∃ (s : State) (k : Nat) (peer : Nat), linkOn s k = true ∧ (s.link k).retry = false ∧ provisioned s = true ∧ getF s (aditPg k) ADIT_LINK_STATE_LANES ≠ 0 ∧ (linkState s k = 1 ∨ (linkState s k = 4 ∧ getF s (aditPg k) ADIT_PEER_ID = peer % 2 ^ 64))) ∧
    (∃ (s : State) (k : Nat) (peer : Nat), linkOn s k = true ∧ (s.link k).retry = false ∧ provisioned s = true ∧ getF s (aditPg k) ADIT_LINK_STATE_LANES ≠ 0 ∧ linkState s k = 4 ∧ getF s (aditPg k) ADIT_PEER_ID ≠ peer % 2 ^ 64) ∧
    (∃ (s : State) (k : Nat), linkOn s k = true ∧ (linkState s k = 1 ∨ linkState s k = 4) ∧ (s.link k).retry = false) ∧
    (∃ (s : State) (k : Nat), linkOn s k = true ∧ (s.link k).retry = true ∧ flagF s (aditPg k) CTRL_EN = true) ∧
    (∃ (s : State) (k : Nat), linkOn s k = true ∧ linkState s k ∈ [1, 2, 3, 4]) ∧
    (∃ (s : State) (k : Nat), linkOn s k = true ∧ linkState s k ∈ [1, 2, 3, 4]) ∧
    (∃ (s : State) (k : Nat), linkOn s k = true ∧ linkPasses s k = true) ∧
    (∃ (s : State) (k : Nat), linkOn s k = true ∧ linkState s k = 4) :=
  ⟨⟨linked 1, 0, by decide +kernel⟩,
    ⟨provided (setF (linked 1) (aditPg 0) ADIT_LINK_STATE_LANES 3), 0, 1, by decide +kernel⟩,
    ⟨provided (setF (linked 4) (aditPg 0) ADIT_LINK_STATE_LANES 3), 0, 1, by decide +kernel⟩,
    ⟨linked 1, 0, by decide +kernel, .inl rfl, by decide +kernel⟩,
    ⟨(linked 4).updLink 0 (fun l => { l with retry := true }), 0, by decide +kernel⟩,
    ⟨linked 3, 0, by decide +kernel⟩,
    ⟨linked 1, 0, by decide +kernel⟩,
    ⟨linked 3, 0, by decide +kernel⟩,
    ⟨linked 4, 0, by decide +kernel⟩⟩

/-- States and operands that meet the hypotheses of LinkFrames, clause by clause. -/
theorem witness_LinkFrames :
    (∃ (s : State) (k : Nat), linkOn s k = true ∧ flagF s (aditPg k) CTRL_EN = false) ∧
    (∃ (s : State) (k : Nat), linkOn s k = true ∧ linkPasses s k = true ∧ getF s (aditPg k) COMMIT_ARMED = 0 ∧ flagF s (aditPg k) CTRL_EN = true) ∧
    (∃ (s : State) (k : Nat), linkOn s k = true ∧ linkPasses s k = true ∧ flagF s (aditPg k) ADIT_LINK_STATE_ROLE_ACT = false) ∧
    (∃ (s : State) (k : Nat) (want : Nat) (f : DataFrame), linkOn s k = true ∧ linkPasses s k = true ∧ want = tget 0 (s.link k).rxNext (f.cls % 4)) ∧
    (∃ (s : State) (k : Nat) (want : Nat) (f : DataFrame), linkOn s k = true ∧ linkPasses s k = true ∧ want = tget 0 (s.link k).rxNext (f.cls % 4) ∧ f.seq % 65536 ≠ want ∧ covered ((want + 65535) % 65536) (f.seq % 65536) = false) ∧
    (∃ (s : State) (k : Nat) (f : DataFrame), linkOn s k = true ∧ linkPasses s k = true ∧ f.seq % 65536 = tget 0 (s.link k).rxNext (f.cls % 4) ∧ (s.link k).jobOf f.tag = none) ∧
    (∃ (s : State) (k : Nat) (j : Nat) (face : Nat) (addr : Nat) (bs : List Nat) (spoil : Bool) (f : DataFrame), linkOn s k = true ∧ linkPasses s k = true ∧ f.seq % 65536 = tget 0 (s.link k).rxNext (f.cls % 4) ∧ (s.link k).jobOf f.tag = some j ∧ (s.link k).cut.contains f.tag = false ∧ f.op = .copy face addr bs spoil) ∧
    (∃ (s : State) (k : Nat) (j : Nat) (r : Nat) (obj : Nat) (sub : Nat) (val : Nat) (f : DataFrame) (op : SyncOp), linkOn s k = true ∧ linkPasses s k = true ∧ f.seq % 65536 = tget 0 (s.link k).rxNext (f.cls % 4) ∧ (s.link k).jobOf f.tag = some j ∧ (s.link k).cut.contains f.tag = false ∧ f.op = .signal r obj sub val ∧ op = ⟨obj % 256, signalSub sub, val % 2 ^ 32, .adit k j (f.rank % 16 * 4096 + f.face % 4096) f.opId, 0⟩) ∧
    (∃ (s : State) (k : Nat), linkOn s k = true ∧ linkPasses s k = true) ∧
    (∃ (s : State) (k : Nat) (cls : Nat) (seq : Nat), linkOn s k = true ∧ linkPasses s k = true ∧ (s.link k).naks ≠ (cls % 4, seq % 65536, (s.link k).naks.2.2)) ∧
    (∃ (s : State) (k : Nat) (cls : Nat) (seq : Nat) (n : Nat), linkOn s k = true ∧ linkPasses s k = true ∧ (s.link k).naks = (cls % 4, seq % 65536, n) ∧ 3 ≤ n) ∧
    (∃ (s : State) (k : Nat) (tag : Nat) (cls : Nat) (seq : Nat) (o : RemOp) (i : Issued), linkOn s k = true ∧ linkPasses s k = true ∧ o.g < 3200 ∧ (s.link k).ops = [o] ∧ o.tag = tag ∧ (cls, seq) ∈ o.seqs ∧ remIssue s o = some i) ∧
    (∃ (s : State) (k : Nat), linkOn s k = true ∧ linkPasses s k = true ∧ flagF s (aditPg k) ADIT_LINK_STATE_ROLE_ACT = true) :=
  ⟨⟨setF (linked 2) (aditPg 0) CTRL_EN 0, 0, by decide +kernel⟩,
    ⟨linked 2, 0, by decide +kernel⟩,
    ⟨linked 2, 0, by decide +kernel⟩,
    ⟨linked 2, 0, 0, data0 (.status 0), by decide +kernel⟩,
    ⟨linked 2, 0, 0, { data0 (.status 0) with seq := 1 }, by decide +kernel⟩,
    ⟨linked 2, 0, data0 (.status 0), by decide +kernel⟩,
    ⟨tagged { admitting 9 with state := .running }, 0, 0, gr, 0x3FFFFF, [7], false, data0 (.copy gr 0x3FFFFF [7] false), by decide +kernel⟩,
    ⟨tagged (admitting 9), 0, 0, 33, 255, 0, 1, data0 (.signal 33 255 0 1), ⟨255, .add, 1, .adit 0 0 0 0, 0⟩, by decide +kernel⟩,
    ⟨linked 3, 0, by decide +kernel⟩,
    ⟨linked 2, 0, 1, 0, by decide +kernel⟩,
    ⟨(linked 2).updLink 0 (fun l => { l with naks := (1, 0, 3) }), 0, 1, 0, 3, by decide +kernel⟩,
    ⟨((linked 2).updLink 0 (fun l => { l with ops := [⟨0, gr, 0, 9, 1, [(1, 5)], 0, 0⟩] })).updFace gr (fun f => { f with issued := [⟨0, record 2 0 [], .remote 0 0⟩] }), 0, 9, 1, 5, ⟨0, gr, 0, 9, 1, [(1, 5)], 0, 0⟩, ⟨0, record 2 0 [], .remote 0 0⟩, by decide +kernel⟩,
    ⟨setF (linked 2) (aditPg 0) ADIT_LINK_STATE_ROLE_ACT 1, 0, by decide +kernel⟩⟩

/-- States and operands that meet the hypotheses of LinkSwaps, clause by clause. -/
theorem witness_LinkSwaps :
    (∃ (s : State) (sp : Space) (k : Nat) (v : Word), k < 4 ∧ bit v.toNat 0 = true ∧ Taken s sp (aditPg k * 0x1000 + 0x5C) v.toNat (aditPg k) 0x5C .adit) ∧
    (∃ (s : State) (k : Nat), linkOn s k = true ∧ linkPasses s k = true) ∧
    (∃ (s : State) (k : Nat) (w : SwapSt), linkOn s k = true ∧ linkPasses s k = true ∧ (s.link k).swap = some w ∧ (w.requester = false ∨ w.paused = true)) ∧
    (∃ (s : State) (k : Nat) (w : SwapSt), linkOn s k = true ∧ linkPasses s k = true ∧ (s.link k).swap = some w ∧ w.requester = true) ∧
    (∃ (s : State) (k : Nat) (w : SwapSt), linkOn s k = true ∧ linkPasses s k = true ∧ (s.link k).swap = some w ∧ w.requester = false) ∧
    (∃ (s : State) (k : Nat), linkOn s k = true ∧ linkPasses s k = true ∧ (s.link k).swap.isSome = true) ∧
    (∃ (s : State) (k : Nat), linkOn s k = true ∧ (s.link k).swap = some ⟨true, true⟩ ∧ (s.link k).drained = true) ∧
    (∃ (s : State) (k : Nat), linkOn s k = true ∧ (s.link k).paused = true ∧ (s.link k).drained = false) ∧
    (∃ (s : State) (k : Nat) (j : Nat) (tag : Nat), k < 4 ∧ (s.link k).tagOf j = some tag ∧ (s.job j).state = .retiring ∧ (s.job j).step = 4 ∧ linkHasFrames s k tag = false) :=
  ⟨⟨linked 2, .banksman, 0, 1, by decide +kernel, by decide +kernel, taken_of (by decide +kernel)⟩,
    ⟨linked 2, 0, by decide +kernel⟩,
    ⟨(linked 3).updLink 0 (fun l => { l with swap := some ⟨true, true⟩ }), 0, ⟨true, true⟩, by decide +kernel, by decide +kernel, by decide +kernel, .inr rfl⟩,
    ⟨(linked 3).updLink 0 (fun l => { l with swap := some ⟨true, false⟩ }), 0, ⟨true, false⟩, by decide +kernel⟩,
    ⟨(linked 3).updLink 0 (fun l => { l with swap := some ⟨false, true⟩ }), 0, ⟨false, true⟩, by decide +kernel⟩,
    ⟨(linked 3).updLink 0 (fun l => { l with swap := some ⟨false, true⟩ }), 0, by decide +kernel⟩,
    ⟨(linked 3).updLink 0 (fun l => { l with swap := some ⟨true, true⟩ }), 0, by decide +kernel⟩,
    ⟨(linked 3).updLink 0 (fun l => { l with swap := some ⟨true, true⟩, sent := [⟨data0 (.status 0), 0, false, ack0⟩] }), 0, by decide +kernel⟩,
    ⟨tagged { JobSt.reset with state := .retiring, step := 4 }, 0, 0, 9, by decide +kernel⟩⟩

/-- States and operands that meet the hypotheses of JobBeginnings, clause by clause. -/
theorem witness_JobBeginnings :
    (∃ (s : State) (q : Nat), q < 64 ∧ canAccess s .bar2 = true) ∧
    (∃ (s : State) (q : Nat) (a : Nat) (v : Word), q < 64 ∧ canAccess s .bar2 = true ∧ a = getF s (bar2Pg q) SUBMIT_LO + v.toNat * 2 ^ 32) ∧
    (∃ (s : State) (q : Nat) (j : Nat) (d : DescRead) (x : JobSt), fetchQueue s = some q ∧ freeJob s = some j ∧ jobsOn s = true ∧ x = parseJob d q ((pendOf s q).headD 0) s.host.nextOrder s.time) ∧
    (∃ (s : State) (j : Nat), (s.job j).state = .waiting ∧ jobsOn s = true) ∧
    (∃ (s : State) (j : Nat), (s.job j).state = .waiting ∧ (s.job j).waitMs ≠ 0 ∧ (s.job j).stop = none) ∧
    (∃ (s : State) (j : Nat) (m : RangeEnt), (s.job j).images[(s.job j).item]? = some m ∧ admitAt s j 4 = true ∧ inRun s m.region = true) ∧
    (∃ (s : State) (j : Nat) (m : RangeEnt), (s.job j).images[(s.job j).item]? = some m ∧ admitAt s j 4 = true ∧ (s.job j).stop = none ∧ inRun s m.region = false) ∧
    (∃ (s : State) (j : Nat) (m : RangeEnt), (s.job j).images[(s.job j).item]? = some m ∧ admitAt s j 4 = true ∧ (s.job j).stop = none) ∧
    (∃ (s : State) (q : Nat), q < 64 ∧ canAccess s .bar2 = true) ∧
    (∃ (s : State), canAccess s .bar2 = true) :=
  ⟨⟨live, 63, by decide +kernel⟩,
    ⟨live, 63, getF live (bar2Pg 63) SUBMIT_LO + (0 : Word).toNat * 2 ^ 32, 0, by decide +kernel⟩,
    ⟨setPend (setF live jobqPg CTRL_EN 1) 63 [64], 63, 0, ⟨[], [], [], none⟩, parseJob ⟨[], [], [], none⟩ 63 64 live.host.nextOrder live.time, by decide +kernel⟩,
    ⟨(setF live jobqPg CTRL_EN 1).updJob 1023 (fun x => { x with state := .waiting }), 1023, by decide +kernel⟩,
    ⟨live.updJob 1023 (fun x => { x with state := .waiting, waitMs := 1 }), 1023, by decide +kernel⟩,
    ⟨live.updJob 0 (fun _ => { admitting 4 with images := [⟨0, 33, false, 0, 64, 0⟩] }), 0, ⟨0, 33, false, 0, 64, 0⟩, by decide +kernel⟩,
    ⟨live.updJob 0 (fun _ => { admitting 4 with images := [⟨0, 35, false, 0, 64, 0⟩] }), 0, ⟨0, 35, false, 0, 64, 0⟩, by decide +kernel⟩,
    ⟨live.updJob 0 (fun _ => { admitting 4 with images := [⟨0, 33, false, 0, 64, 0⟩] }), 0, ⟨0, 33, false, 0, 64, 0⟩, by decide +kernel⟩,
    ⟨live, 63, by decide +kernel⟩,
    ⟨live, by decide +kernel⟩⟩

/-- States and operands that meet the hypotheses of JobEndings, clause by clause. -/
theorem witness_JobEndings :
    (∃ (s : State) (sp : Space) (j : Nat) (v : Word), bit v.toNat 12 = true ∧ j = bits v.toNat 0 10 ∧ Taken s sp (jobqPg * 0x1000 + 0x54) v.toNat jobqPg 0x54 .jobq ∧ (s.job j).stop = none) ∧
    (∃ (s : State) (sp : Space) (q : Nat) (v : Word) (users : List Nat), bit v.toNat 8 = true ∧ q = bits v.toNat 0 6 ∧ Taken s sp (jobqPg * 0x1000 + 0x58) v.toNat jobqPg 0x58 .jobq ∧ (pendOf s q).length ≤ users.length) ∧
    (∃ (s : State) (j : Nat) (m : RangeEnt), (s.job j).state = .retiring ∧ (s.job j).step = 2 ∧ s.host.linkUp = true ∧ (s.job j).outs = [m] ∧ inRun s m.region = true) ∧
    (∃ (s : State), flagF s wbPg WB_CLAIM_FENCE_DRAINED = false ∧ fenceClear s = true) ∧
    (∃ (s : State) (q : Nat) (j : Nat) (tail : Nat) (size : Nat), j < 1024 ∧ q < 64 ∧ (s.job j).state = .retiring ∧ (s.job j).step = 6 ∧ (s.job j).queue = q ∧ tail = getF s (bar2Pg q) CQ_TAIL ∧ size = qCfg s q JOBQ_QCFG_CQ_SIZE) ∧
    (∃ (s : State) (q : Nat) (j : Nat) (d : Nat × Nat × Nat × Nat × Nat), 1024 ≤ j ∧ q < 64 ∧ s.host.linkUp = true ∧ s.host.doneSubs.find? (fun d => d.1 == q) = some d ∧ ringFull s q = false) ∧
    (∃ (s : State) (j : Nat), (s.job j).state = .respawning ∧ (s.job j).cut.any (fun c => (s.faceAt c.face).scanning) = false) :=
  ⟨⟨live, .bar0, 1023, 0x13FF, by decide +kernel, by decide +kernel, taken_of (by decide +kernel), by decide +kernel⟩,
    ⟨setPend live 63 [64], .bar0, 63, 0x13F, [1], by decide +kernel, by decide +kernel, taken_of (by decide +kernel), by decide +kernel⟩,
    ⟨live.updJob 0 (fun x => { x with state := .retiring, step := 2, outs := [⟨0, 33, false, 0, 64, 0⟩] }), 0, ⟨0, 33, false, 0, 64, 0⟩, by decide +kernel⟩,
    ⟨setF live wbPg WB_CLAIM_FENCE_DRAINED 0, by decide +kernel⟩,
    ⟨live.updJob 1023 (fun x => { x with state := .retiring, step := 6, queue := 63 }), 63, 1023, 0, 0, by decide +kernel⟩,
    ⟨live.updHost (fun h => { h with doneSubs := [(63, 0, 0, 0, 0)] }), 63, 1024, (63, 0, 0, 0, 0), by decide +kernel⟩,
    ⟨live.updJob 0 (fun x => { x with state := .respawning, cut := [⟨gr, 0, 0⟩] }), 0, by decide +kernel⟩⟩

/-- States and operands that meet the hypotheses of Weighbridge, clause by clause. -/
theorem witness_Weighbridge :
    (∃ (s : State) (c : Space → Instr) (n : Nat) (sp : Space), (c, n) ∈ [(Instr.getCert, 1), (.moduleTicket, 2), (.jobTicket, 3), (.partList, 4), (.partDelete, 5), (.zeroise, 6), (.selfTest, 7)] ∧ Taken s sp (wbPg * 0x1000 + 0x40) (0x100 + n) wbPg 0x40 .wb) ∧
    (∃ (s : State) (m : MbCmd), s.wb.mb = some m ∧ mbReady s m = true) ∧
    (∃ (s : State) (j : Nat), admitAt s j 7 = true ∧ digestsReady s (s.job j) = true) ∧
    (∃ (s : State) (m : MbCmd), s.wb.mb = some m ∧ m.result = 0 ∧ m.op = 2) ∧
    (∃ (s : State) (m : MbCmd) (j : Nat), s.wb.mb = some m ∧ m.result = 0 ∧ m.op = 3 ∧ j = m.args.getD 0 0 % 1024 ∧ digestsReady s (s.job j) = true) ∧
    (∃ (s : State) (j : Nat) (r : Nat) (model : Nat), inRun s r = true ∧ digestCached s r model = false ∧ j ∈ ticketJobs s ∧ (r, model) ∈ digestNeeds s (s.job j)) ∧
    (∃ (s : State) (j : Nat) (r : Nat) (model : Nat) (m : MbCmd), inRun s r = true ∧ digestCached s r model = false ∧ ticketJobs s = [] ∧ s.wb.mb = some m ∧ mbTicketJob s = some j ∧ (r, model) ∈ digestNeeds s (s.job j)) ∧
    (∃ (s : State), s.carrier.vaon = .up) ∧
    (∃ (s : State) (e : EraseSt), s.wb.erase = some e ∧ zeroReady s e = true) ∧
    (∃ (s : State) (e : EraseSt), s.wb.erase = some e ∧ e.cleared = true) ∧
    (∃ (s : State) (i : TapInstr) (op : TapOp) (b : Bool) (cells : List Bool), s.carrier.vaon = .up ∧ (op, i, b, cells) ∈ [(.bypass b, .bypass, b, s.wb.tap.cells), (.sample cells, .sample, s.wb.tap.bypassBit, cells), (.preload cells, .preload, s.wb.tap.bypassBit, cells), (.extest, .extest, s.wb.tap.bypassBit, s.wb.tap.cells)]) ∧
    (∃ (s : State) (u : State), s.carrier.vaon = .up ∧ u = setTap s .bridge) :=
  ⟨⟨setF (setF live wbPg (WB_MB_ARG.ix 0) 0) wbPg (WB_MB_ARG.ix 1) 0x50415254, .partDelete, 5, .banksman, by simp, taken_of (by decide +kernel)⟩,
    ⟨live.updWb (fun w => { w with mb := some ⟨7, false, [0, 0, 0], [], 0, 0, 0⟩ }), ⟨7, false, [0, 0, 0], [], 0, 0, 0⟩, by decide +kernel⟩,
    ⟨live.updJob 0 (fun _ => { admitting 7 with cut := [] }), 0, by decide +kernel⟩,
    ⟨live.updWb (fun w => { w with mb := some ⟨2, false, [0, 0, 0], [], 0, 0, 0⟩ }), ⟨2, false, [0, 0, 0], [], 0, 0, 0⟩, by decide +kernel⟩,
    ⟨live.updWb (fun w => { w with mb := some ⟨3, false, [0, 0, 0], [], 0, 0, 0⟩ }), ⟨3, false, [0, 0, 0], [], 0, 0, 0⟩, 0, by decide +kernel⟩,
    ⟨directory (live.updJob 0 (fun _ => admitting 7)), 0, 33, 0, by decide +kernel⟩,
    ⟨(directory (live.updJob 0 (fun _ => { admitting 9 with state := .running }))).updWb (fun w => { w with mb := some ⟨3, false, [0, 0, 0], [], 0, 0, 0⟩ }), 0, 33, 0, ⟨3, false, [0, 0, 0], [], 0, 0, 0⟩, by decide +kernel⟩,
    ⟨live, by decide +kernel⟩,
    ⟨live.updWb (fun w => { w with erase := some ⟨true, true, [33], false, false⟩ }), ⟨true, true, [33], false, false⟩, by decide +kernel⟩,
    ⟨live.updWb (fun w => { w with erase := some ⟨true, true, [], true, false⟩ }), ⟨true, true, [], true, false⟩, by decide +kernel⟩,
    ⟨live, .extest, .extest, State.reset.wb.tap.bypassBit, State.reset.wb.tap.cells, by decide +kernel⟩,
    ⟨live, setTap live .bridge, by decide +kernel⟩⟩

/-- States and operands that meet the hypotheses of SessionRequests, clause by clause. -/
theorem witness_SessionRequests :
    (∃ (s : State) (slot : Nat) (a : Anchor), mgmtUp s = true ∧ s.mgmt.sessions.length < 4 ∧ tfind s.mgmt.trust slot = some a) ∧
    (∃ (s : State), mgmtUp s = true) ∧
    (∃ (s : State) (id : Nat) (x : Session), s.session id = some x ∧ s.carrier.vaon = .up) ∧
    (∃ (s : State) (id : Nat) (reqId : Nat), s.mgmt.partials.any (Partial.isOf id reqId) = true) ∧
    (∃ (s : State) (c : Instr) (op : Nat) (m : Datagram) (x : Session) (r : Nat × Nat × List Nat), requestOf c = some (op, m) ∧ s.session m.session = some x ∧ mgmtUp s = true ∧ x.kept.find? (·.1 == m.reqId) = some r ∧ m.frag = 0) ∧
    (∃ (s : State) (c : Instr) (op : Nat) (m : Datagram) (x : Session), requestOf c = some (op, m) ∧ Fresh s m x ∧ Datagram.headerOk m = false) ∧
    (∃ (s : State) (c : Instr) (op : Nat) (m : Datagram) (x : Session), requestOf c = some (op, m) ∧ Fresh s m x ∧ Datagram.headerOk m = true ∧ 1 < m.count ∧ s.mgmt.partials.find? (Partial.isOf m.session m.reqId) = none) ∧
    (∃ (s : State) (c : Instr) (op : Nat) (m : Datagram) (x : Session), c ∈ [Instr.write m, .moduleReset m, .trust m, .net m] ∧ requestOf c = some (op, m) ∧ Asked s m x ∧ x.operator = false) ∧
    (∃ (s : State) (m : Datagram) (x : Session), Asked s m x) ∧
    (∃ (s : State) (m : Datagram) (x : Session), Asked s m x ∧ x.operator = true) :=
  ⟨⟨live, 0, ⟨0, true⟩, by decide +kernel⟩,
    ⟨live, by decide +kernel⟩,
    ⟨session true [], 3, ⟨3, true, 0, false, false, []⟩, by decide +kernel⟩,
    ⟨live.updMgmt (fun m => { m with partials := [⟨3, 77, 1, 2, 0, [(0, [])]⟩] }), 3, 77, by decide +kernel⟩,
    ⟨session true [(77, 0, [1])], .ping (request []), 1, request [], ⟨3, true, 0, false, false, [(77, 0, [1])]⟩, (77, 0, [1]), by decide +kernel⟩,
    ⟨session true [], .net { request [] with version := 2 }, 0x13, { request [] with version := 2 }, ⟨3, true, 0, false, false, []⟩, by decide +kernel, ⟨by decide +kernel, by decide +kernel, by decide +kernel⟩, by decide +kernel⟩,
    ⟨session true [], .net { request [] with count := 4, frag := 3 }, 0x13, { request [] with count := 4, frag := 3 }, ⟨3, true, 0, false, false, []⟩, by decide +kernel, ⟨by decide +kernel, by decide +kernel, by decide +kernel⟩, by decide +kernel⟩,
    ⟨session false [], .net (request []), 0x13, request [], ⟨3, false, 0, false, false, []⟩, by simp, by decide +kernel, asked_of (by decide +kernel), by decide +kernel⟩,
    ⟨session false [], request [], ⟨3, false, 0, false, false, []⟩, asked_of (by decide +kernel)⟩,
    ⟨session true [], request [1, 3, 5, 0, 9], ⟨3, true, 0, false, false, []⟩, asked_of (by decide +kernel), by decide +kernel⟩⟩

/-- States and operands that meet the hypotheses of RegionCommands, clause by clause. -/
theorem witness_RegionCommands :
    (∃ (s : State) (c : Instr) (n : Nat) (r : Nat) (m : Datagram) (x : Session) (busy : Bool) (eff : State × Nat × List Nat), (c, n, busy, eff) ∈ [(Instr.wake m, 1, beforeReady s, wakeCmd r s), (.stop m, 2, beforeReady s, (requestStop s r false 3 false, 0, [])), (.stopForce m, 3, beforeReady s, (requestStop s r true 3 false, 0, [])), (.hold m, 4, beforeReady s, holdCmd false r s), (.holdForce m, 5, beforeReady s, holdCmd true r s), (.release m, 6, beforeReady s, releaseCmd r s), (.retestSet m, 7, false, retestCmd true r s), (.retestClear m, 8, false, retestCmd false r s)] ∧ Asked s m x ∧ m.bytes = [r, n, 0, 0] ∧ present r = true) ∧
    (∃ (s : State) (r : Nat), (s.region r).hold = true ∧ inRun s r = true ∧ (s.region r).hs = none ∧ s.stopQ.any (·.region == r) = false ∧ regionUsed s r = false) ∧
    (∃ (s : State) (r : Nat), present r = true ∧ s.carrier.vaon = .up ∧ (s.region r).unreached = false ∧ inRun s r = true) ∧
    (∃ (s : State) (r : Nat) (d : Nat) (hop : Nat), present r = true ∧ present d = true ∧ d ≠ r ∧ s.carrier.vaon = .up ∧ (s.region r).unreached = false ∧ inRun s r = true ∧ mgmtState s d = 3 ∧ route s r d ≠ hop ∧ hop ≤ 5 ∧ (r, d) ∉ s.road.holds) ∧
    (∃ (s : State) (r : Nat), present r = true ∧ inRun s r = true ∧ (ringCw s = true ∨ ringCcw s = true) ∧ (s.region r).unreached = false) ∧
    (∃ (s : State) (r : Nat), (s.region r).unreached = true ∧ (s.region r).power ≠ .stop) ∧
    (∃ (s : State) (cw : Bool), s.carrier.vaon = .up ∧ (if cw then ringCw s else ringCcw s) = true) ∧
    (∃ (s : State) (up : Bool), s.carrier.vaon = .up ∧ flagF s mgmtPg MGMT_MGMT_STATUS_LINK_UP = !up) ∧
    (∃ (s : State), s.carrier.vaon = .up) ∧
    (∃ (s : State) (r : Nat) (vinLow : Nat), bgCandidate s = some r ∧ mayBackground s vinLow = true) ∧
    (∃ (s : State) (r : Nat), inRun s r = true ∧ bedLines r ≤ (s.bed r).scrubPos) ∧
    (∃ (s : State) (r : Nat), present r = true ∧ s.carrier.vaon = .up) ∧
    (∃ (s : State), s.carrier.vaon = .up) :=
  ⟨⟨session true [], .wake (request [35, 1, 0, 0]), 1, 35, request [35, 1, 0, 0], ⟨3, true, 0, false, false, []⟩, beforeReady (session true []), wakeCmd 35 (session true []), by simp, asked_of (by decide +kernel), by decide +kernel⟩,
    ⟨live.updRegion 33 (fun x => { x with hold := true }), 33, by decide +kernel⟩,
    ⟨live, 33, by decide +kernel⟩,
    ⟨live, 33, 34, 1, by decide +kernel⟩,
    ⟨setF live mgmtPg MGMT_MGMT_STATUS_RING_CCW_OK 1, 33, by decide +kernel, by decide +kernel, .inr (by decide +kernel), by decide +kernel⟩,
    ⟨live.updRegion 33 (fun x => { x with unreached := true }), 33, by decide +kernel⟩,
    ⟨setF live mgmtPg MGMT_MGMT_STATUS_RING_CW_OK 1, true, by decide +kernel⟩,
    ⟨live, false, by decide +kernel⟩,
    ⟨live, by decide +kernel⟩,
    ⟨(setF live mgmtPg MGMT_BG_CFG_BG_EN 1).updRegion 3 (fun x => { x with age := 255 }), 3, 48000, by decide +kernel⟩,
    ⟨live.updBed 33 (fun b => { b with scrubPos := bedLines 33 }), 33, by decide +kernel⟩,
    ⟨live, 33, by decide +kernel⟩,
    ⟨live, by decide +kernel⟩⟩

/-- States and operands that meet the hypotheses of FieldOutputs, clause by clause. -/
theorem witness_FieldOutputs :
    (∃ (s : State) (ch : Nat), ch < 4 ∧ fieldOn s = true ∧ ch ∉ s.outs.arming ∧ s.outs.stopping = none ∧ loopActive s ch = true ∧ (s.loop ch).on = true ∧ (s.loop ch).overvolt = false ∧ (s.loop ch).internal = false) ∧
    (∃ (s : State) (ch : Nat), ch < 4 ∧ (s.loop ch).comp = true ∧ 10 ≤ (s.loop ch).clean ∧ (s.loop ch).faultLow = false) ∧
    (∃ (s : State) (ch : Nat), ch < 4 ∧ (s.loop ch).on = true ∧ chF s ch FIELD_LOOP_CFG_NE43 = 1 ∧ (s.loop ch).comp = true ∧ (s.loop ch).faultLow = false) ∧
    (∃ (s : State) (ch : Nat), ch < 4 ∧ (s.loop ch).faultLow = true ∧ (s.loop ch).retrying = false ∧ chF s ch FIELD_LOOP_CFG_RETRY_EN = 1) ∧
    (∃ (s : State) (ch : Nat), ch < 4 ∧ (s.loop ch).retrying = true) ∧
    (∃ (s : State) (ch : Nat), ch < 4 ∧ (s.loop ch).on = true ∧ 10 ≤ (s.loop ch).openRun ∧ (s.loop ch).opened = false) ∧
    (∃ (s : State) (ch : Nat) (v : Nat), ch < 4 ∧ (s.loop ch).on = true ∧ 40000 < v ∧ (s.loop ch).overvolt = false) ∧
    (∃ (ch : Nat), ch < 4) ∧
    (∃ (s : State) (no : Nat) (a : Nat) (b : Nat) (rest : List RingMsg), inRun s fieldRegion = true ∧ takeMsg (fun m => match m with | .alarm _ _ _ => true | _ => false) s.ring = (some (.alarm no a b), rest)) ∧
    (∃ (s : State) (sp : Space) (value : Word), Taken s sp (fieldPg * 0x1000 + 0x44) value.toNat fieldPg 0x44 .field ∧ value.toNat % 256 ≠ 0) ∧
    (∃ (s : State) (no : Nat) (a : Nat) (b : Nat) (rest : List RingMsg), inRun s fieldRegion = false ∧ takeMsg (fun m => match m with | .alarm _ _ _ => true | _ => false) s.ring = (some (.alarm no a b), rest)) ∧
    (∃ (s : State) (sp : Space) (value : Word) (setNow : Nat) (v : Nat), v = value.toNat - (value.toNat &&& setNow) ∧ Taken s sp (fieldPg * 0x1000 + 0x40) v fieldPg 0x40 .field) ∧
    (∃ (s : State) (ch : Nat), ch < 4 ∧ (s.lamp ch).on = true ∧ lampActive s ch = true ∧ 4 + ch ∉ s.outs.arming ∧ s.outs.stopping = none) ∧
    (∃ (s : State) (ch : Nat) (ma : Nat) (cv : Nat) (c : Nat) (reg : Bool), ch < 4 ∧ (s.lamp ch).on = true ∧ (s.lamp ch).internal = false ∧ ((s.lamp ch).overcurrent = false ∨ (s.lamp ch).retry = true) ∧ diagnosable (s.lamp ch) = true ∧ c = pulseClass (s.lamp ch).ma (chF s ch FIELD_LAMP_CFG_SHORT_V) ma cv reg) ∧
    (∃ (s : State) (ch : Nat), ch < 4 ∧ (s.lamp ch).on = true ∧ chF s ch FIELD_LAMP_CFG_PROOF_EN = 1 ∧ (s.lamp ch).proofDue = false ∧ onUs (s.lamp ch).duty (s.lamp ch).hz < 25) ∧
    (∃ (s : State) (ch : Nat), ch < 4 ∧ (s.lamp ch).on = true ∧ (s.lamp ch).fresh = true) ∧
    (∃ (s : State) (ch : Nat), ch < 4 ∧ (s.lamp ch).on = true ∧ (s.lamp ch).internal = false ∧ ((s.lamp ch).overcurrent = false ∨ (s.lamp ch).retry = true)) ∧
    (∃ (s : State) (ch : Nat), ch < 4 ∧ (s.lamp ch).on = true ∧ (s.lamp ch).overcurrent = true ∧ (s.lamp ch).retry = false) :=
  ⟨⟨outputs loop1 lamp1, 3, by decide +kernel⟩,
    ⟨outputs { loop1 with comp := true, clean := 10 } lamp1, 3, by decide +kernel⟩,
    ⟨setF (outputs { loop1 with comp := true } lamp1) fieldPg (FIELD_LOOP_CFG_NE43.ix 3) 1, 3, by decide +kernel⟩,
    ⟨setF (outputs { loop1 with faultLow := true } lamp1) fieldPg (FIELD_LOOP_CFG_RETRY_EN.ix 3) 1, 3, by decide +kernel⟩,
    ⟨outputs { loop1 with retrying := true, clean := 50 } lamp1, 3, by decide +kernel⟩,
    ⟨outputs { loop1 with openRun := 10 } lamp1, 3, by decide +kernel⟩,
    ⟨outputs loop1 lamp1, 3, 40001, by decide +kernel⟩,
    ⟨3, by decide +kernel⟩,
    ⟨{ live with ring := [.alarm 7 0 0] }, 7, 0, 0, [], by decide +kernel⟩,
    ⟨live, .banksman, 0x80, taken_of (by decide +kernel), by decide +kernel⟩,
    ⟨{ powered with ring := [.alarm 7 0 0] }, 7, 0, 0, [], by decide +kernel⟩,
    ⟨setF live fieldPg FIELD_ALARM_STAT_IN 0xFF, .banksman, 0xFF, 0x80, 0x7F, by decide +kernel, taken_of (by decide +kernel)⟩,
    ⟨outputs loop1 lamp1, 3, by decide +kernel⟩,
    ⟨outputs loop1 lamp1, 3, 20, 100, 1, true, by decide +kernel, by decide +kernel, by decide +kernel, .inl rfl, by decide +kernel⟩,
    ⟨setF (outputs loop1 { lamp1 with duty := 1 }) fieldPg (FIELD_LAMP_CFG_PROOF_EN.ix 3) 1, 3, by decide +kernel⟩,
    ⟨outputs loop1 { lamp1 with fresh := true }, 3, by decide +kernel⟩,
    ⟨outputs loop1 { lamp1 with overcurrent := true, retry := true }, 3, by decide +kernel, by decide +kernel, by decide +kernel, .inr rfl⟩,
    ⟨outputs loop1 { lamp1 with overcurrent := true }, 3, by decide +kernel⟩⟩

end Sys2Proof.Tests
end

/-! ## Footprints by name

A set of parts as a footprint, so that a frame says in words what it leaves alone. -/

namespace Sys2Proof.FirstLight

open Sys2Proof Sys2Proof.Machine

/-- The footprint of a list of parts. -/
def parts (l : List StatePart) : Nat := l.foldr (fun p n => 2 ^ p.bit ||| n) 0

/-- The footprint of every part but some. -/
def others (l : List StatePart) : Nat := parts (StatePart.allBut l)

theorem bit_injective {p q : StatePart} (h : p ≠ q) : p.bit ≠ q.bit := by
  revert h
  cases p <;> cases q <;> decide

theorem testBit_parts {l : List StatePart} {p : StatePart} (h : p ∉ l) : (parts l).testBit p.bit = false := by
  induction l with
  | nil => simp [parts]
  | cons q l ih =>
    rw [List.mem_cons, not_or] at h
    simpa [parts, Nat.testBit_two_pow, (bit_injective h.1).symm] using ih h.2

/-- An operation keeps the parts that its footprint leaves out. -/
theorem same_of_others {l : List StatePart} {s t : State} (h : Ev (others l) s t) (p : StatePart) (hp : p ∈ l) :
    p.same s t :=
  h.frame p (testBit_parts (by simp [StatePart.allBut, hp]))

/-- An operation whose footprint lies within some parts changes only those. -/
theorem only_of_ev {l : List StatePart} {s t : State} (h : Ev (parts l) s t) : Only l s t :=
  ⟨h.pending, fun p hp => h.frame p (testBit_parts hp)⟩

theorem carrier_same {s t : State} (h1 : StatePart.supply.same s t) (h2 : StatePart.hostPower.same s t) :
    t.carrier = s.carrier := carrier_of h1 h2

theorem map_same {s t : State} (h1 : StatePart.mapRecord.same s t) (h2 : StatePart.mapEntries.same s t) :
    t.map = s.map := map_of h1 h2

/-! ## Commands with a guard -/

theorem guardDo_next {c : Bool} {f : State → State} {s t : State} (h : guardDo c f s = .next t) : t = s ∨ t = f s := by
  cases c <;> cases h
  · exact .inl rfl
  · exact .inr rfl

theorem vinDo_next {vin : Nat} {c : Bool} {f : State → State} {s t : State} (h : vinDo vin c f s = .next t) :
    t = s ∨ t = f (setVin s vin) := by
  unfold vinDo at h
  split at h
  · cases h
  · exact guardDo_next h

theorem completes_guardDo {i : Instr} {c : Bool} {f : State → State} {s : State} {P : State → Prop}
    (o : Host.Outcome State Fault Refusal) (e : exec i s = o) (ho : o = guardDo c f s) (hc : c = true) (h : P (f s)) :
    Completes i s P :=
  ⟨f s, by rw [e, ho, guardDo, if_pos hc], h⟩

theorem completes_vinDo {i : Instr} {vin : Nat} {c : Bool} {f : State → State} {s : State} {P : State → Prop}
    (o : Host.Outcome State Fault Refusal) (e : exec i s = o) (ho : o = vinDo vin c f s) (hv : vin ≤ 70000)
    (hc : c = true) (h : P (f (setVin s vin))) : Completes i s P := by
  have hmax : ¬ vinMax < vin := Nat.not_lt.mpr hv
  exact ⟨f (setVin s vin), by rw [e, ho, vinDo, if_neg hmax, guardDo, if_pos hc], h⟩

/-- A command that states VIN and whose event cannot occur changes nothing. -/
theorem vinDo_idle {vin : Nat} {f : State → State} {s : State} (hv : vin ≤ 70000) : vinDo vin false f s = .next s := by
  have hmax : ¬ vinMax < vin := Nat.not_lt.mpr hv
  rw [vinDo, if_neg hmax]
  rfl

/-! ## O3: the state after reset -/

/-- Settles O3: the tables of the reset state are empty, and a shipped record lies in the quarry map alone. -/
theorem resetCanonical : Obligations.ResetCanonical := by
  have hreset : Canonical State.reset :=
    ⟨⟨rfl, rfl, rfl, rfl, rfl⟩, ⟨rfl, fun _ => rfl, fun _ => rfl, fun _ => rfl⟩⟩
  have hship (q : QRec) : Ev (parts [.mapRecord, .mapEntries]) State.reset (State.shipped q) :=
    Ev.updMap (Ev.refl _) _ (.inl (by decide)) (.inl (by decide))
  exact ⟨⟨rfl, hreset⟩, fun q => ⟨rfl, (hship q).canon hreset, rfl, rfl⟩⟩

/-! ## What the commands of the supplies do to the carrier -/

/-- What stands of the carrier when the crystal is stable; what follows leaves the supplies and the time alone. -/
def crystalOn (s : State) : State :=
  { s.updCarrier (fun c => { c with vaon := .up, crystalOk := true, backup := false }) with time := 0 }

theorem crystalUp_ev (s : State) (chk : StartCheck) :
    Ev (others [.supply, .time]) (crystalOn s) (crystalUp s chk) :=
  ev_wbStart (ev_chainStoreLoad (ev_logStart (Ev.setF (Ev.setF (ev_setPhase (Ev.refl _) (by decide) _) (by decide) _ _ _)
    (by decide) _ _ _) (by decide) _) (by decide)) (by decide) _

/-- VBUS goes: nothing is on its way, every region is in Stop with its switch open, and no wake or stop waits. -/
def vbusStops (cause : Nat) (s : State) : State :=
  let s := powerGone s
  let s := (runSet s).foldl (fun s r => logPower (leaveRun s r true false false) r cause 0 0) s
  let s := { s with wakeQ := [], stopQ := [] }
  allRegions.foldl (fun s r => s.updRegion r (fun x => { x with
    power := .stop, switchOn := false, wakeFails := 0, wakeBackoff := false, stopHeld := none })) s

/-- VBUS and HOST_PWR_OK are off. -/
def vbusCut (s : State) : State := s.updCarrier (fun c => { c with vbus := .off, hostPwrOk := false })

/-- A start in progress goes back to MAP. -/
def startAgain (s : State) : State :=
  if s.boot.active then
    setPhase (clearRounds (s.updBoot (fun b => { b with paused := false, mapRead := false }))) PHASE_MAP
  else s

theorem vbusDown_eq (cause : Nat) (s : State) :
    vbusDown cause s = tamperGoesOn (startAgain (outputsOff (vbusCut (vbusStops cause s)))) := rfl

theorem vbusStops_ev (cause : Nat) (s : State) :
    Ev (others [.supply, .hostPower, .boot, .mapRecord, .time]) s (vbusStops cause s) := by
  refine Ev.foldl ?_ _ _ (fun _ _ ht => ev_State_updRegion ht (by decide) _ _)
  refine (Ev.raw_queues (by decide) (by decide) _ _).mpr ?_
  refine Ev.foldl (ev_powerGone (Ev.refl _) (by decide)) _ _ (fun _ _ ht => ?_)
  exact ev_logPower (ev_leaveRun ht (by decide) _ _ _ _) (by decide) _ _ _ _

theorem startAgain_ev {m : Nat} {a s : State} (h : Ev m a s) (hm : 15364 ||| m = m) : Ev m a (startAgain s) := by
  have hp : 4 ||| m = m := orSub (by decide) hm
  have hb : 4096 ||| m = m := orSub (by decide) hm
  exact Ev.ite (ev_setPhase (ev_clearRounds (ev_State_updBoot h hb _) hm) hp _) h

theorem vbusDown_ev (cause : Nat) (s : State) :
    Ev (others [.supply, .hostPower, .time]) (vbusCut (vbusStops cause s)) (vbusDown cause s) := by
  rw [vbusDown_eq]
  exact ev_tamperGoesOn (startAgain_ev (ev_outputsOff (Ev.refl _) (by decide)) (by decide)) (by decide)

theorem carrier_vbusDown (cause : Nat) (s : State) :
    (vbusDown cause s).carrier = { s.carrier with vbus := .off, hostPwrOk := false } := by
  have h1 := same_of_others (vbusStops_ev cause s)
  have h2 := same_of_others (vbusDown_ev cause s)
  rw [carrier_same (h2 .supply (by decide)) (h2 .hostPower (by decide)), vbusCut, updCarrier_carrier,
    carrier_same (h1 .supply (by decide)) (h1 .hostPower (by decide))]

/-! ## O9: fuses -/

/-- The fuses that are open in `s` are open in `t`. -/
def FusesKept (s t : State) : Prop := ∀ r ∈ s.carrier.fusesOpen, r ∈ t.carrier.fusesOpen

theorem FusesKept.of_eq {s t : State} (h : t.carrier.fusesOpen = s.carrier.fusesOpen) : FusesKept s t :=
  fun _ hr => h ▸ hr

theorem fusesOpen_same {s t : State} (h : StatePart.supply.same s t) : t.carrier.fusesOpen = s.carrier.fusesOpen :=
  (congrArg Carrier.fusesOpen (show t.carrier.supply = s.carrier.supply from h) :)

/-- What leaves the supplies alone leaves the fuses alone. -/
theorem fusesOpen_of_ev {s t : State} (h : Ev (others [.supply]) s t) : t.carrier.fusesOpen = s.carrier.fusesOpen :=
  fusesOpen_same (same_of_others h .supply (by decide))

theorem kept {s t : State} {o : Host.Outcome State Fault Refusal} (h : EvOut (others [.supply]) s o) (ho : o = .next t) :
    FusesKept s t := .of_eq (fusesOpen_of_ev (h.out t ho))

/-- A guarded command keeps the fuses when its effect does. -/
theorem guardDo_fusesKept {c : Bool} {f : State → State} {s t : State} (h : guardDo c f s = .next t)
    (hf : FusesKept s (f s)) : FusesKept s t := by
  obtain rfl | rfl := guardDo_next h
  · exact .of_eq rfl
  · exact hf

theorem vinDo_fusesKept {vin : Nat} {c : Bool} {f : State → State} {s t : State} (h : vinDo vin c f s = .next t)
    (hf : FusesKept (setVin s vin) (f (setVin s vin))) : FusesKept s t := by
  obtain rfl | rfl := vinDo_next h
  · exact .of_eq rfl
  · exact hf

theorem mem_setIns {k r : Nat} {l : List Nat} : r ∈ setIns k l ↔ r = k ∨ r ∈ l := by
  induction l with
  | nil => simp [setIns]
  | cons a l ih =>
    unfold setIns
    split
    · simp
    · split
      · next h => simp [h]
      · simp only [List.mem_cons, ih]
        exact or_left_comm

section

variable {s t : State}

theorem coldStart_fusesKept {vin : Nat} (h : execColdStart vin s = .next t) : FusesKept s t :=
  vinDo_fusesKept h (.of_eq rfl)

theorem vaonInRegulation_fusesKept (h : execVaonInRegulation s = .next t) : FusesKept s t :=
  guardDo_fusesKept h (.of_eq rfl)

theorem crystalStable_fusesKept {chk : StartCheck} (h : execCrystalStable chk s = .next t) : FusesKept s t :=
  guardDo_fusesKept h (.of_eq (fusesOpen_same (s := crystalOn s) (same_of_others (crystalUp_ev s chk) .supply (by decide))))

theorem vbusSoftStart_fusesKept {vin : Nat} (h : execVbusSoftStart vin s = .next t) : FusesKept s t :=
  vinDo_fusesKept h (.of_eq rfl)

theorem vbusInRegulation_fusesKept (h : execVbusInRegulation s = .next t) : FusesKept s t := by
  refine guardDo_fusesKept h (.of_eq (fusesOpen_of_ev
    (s := s.updCarrier (fun c => { c with vbus := .on })) (Ev.ite (ev_closeSwitch ?_ (by decide) _) ?_)))
  all_goals exact ev_beginRound (Ev.refl _) (by decide)

theorem fuseConfirm_fusesKept {r : Nat} {isOpen : Bool} (h : execFuseConfirm r isOpen s = .next t) : FusesKept s t := by
  refine guardDo_fusesKept h ?_
  have hentry (f : QEntry → QEntry) : (s.updEntry r f).carrier.fusesOpen = s.carrier.fusesOpen :=
    fusesOpen_of_ev (ev_State_updEntry (Ev.refl _) (by decide) _ _)
  cases isOpen with
  | true => exact fun q hq => mem_setIns.mpr (.inr (by rwa [hentry]))
  | false => exact .of_eq (hentry (fun e => { e with fused := false }))

theorem fuseSelfOpen_fusesKept {r : Nat} (h : execFuseSelfOpen r s = .next t) : FusesKept s t := by
  refine guardDo_fusesKept h (fun q hq => ?_)
  rw [fusesOpen_of_ev (ev_isolate (Ev.refl _) (by decide) _ _ _)]
  exact mem_setIns.mpr (.inr hq)

theorem brownout_fusesKept {vin : Nat} (h : execBrownout vin s = .next t) : FusesKept s t := by
  refine vinDo_fusesKept h (.of_eq (fusesOpen_of_ev ?_))
  refine Ev.foldl (Ev.ite (ev_clearRounds (ev_State_updBoot ?_ (by decide) _) (by decide)) ?_) _ _
    (fun u r hu => ev_requestStop hu (by decide) _ _ _ _)
  all_goals exact ev_raise (Ev.refl _) (by decide) _ _

theorem startResume_fusesKept {vin : Nat} (h : execStartResume vin s = .next t) : FusesKept s t :=
  vinDo_fusesKept h (.of_eq rfl)

theorem vbusDown_fusesKept (cause : Nat) (s : State) : FusesKept s (vbusDown cause s) :=
  .of_eq (by rw [carrier_vbusDown])

theorem vbusOff_fusesKept {vin : Nat} (h : execVbusOff vin s = .next t) : FusesKept s t :=
  vinDo_fusesKept h (vbusDown_fusesKept _ _)

theorem vaonLoss_fusesKept {vin : Nat} (h : execVaonLoss vin s = .next t) : FusesKept s t := by
  refine vinDo_fusesKept h (fun r hr => ?_)
  rw [updCarrier_carrier]
  split
  · exact hr
  · dsimp only
    exact vbusDown_fusesKept 7 (setVin s vin) r hr

theorem vinOvervoltage_fusesKept {vin : Nat} (h : execVinOvervoltage vin s = .next t) : FusesKept s t := by
  refine vinDo_fusesKept h (fun r hr => ?_)
  rw [updCarrier_carrier]
  dsimp only
  exact vbusDown_fusesKept 9 (setVin s vin) r hr

/-- A warm start after its VBUS begins to rise leaves the supplies alone. -/
theorem warmStart_fusesKept {vin : Nat} (h : execWarmStart vin s = .next t) : FusesKept s t := by
  refine vinDo_fusesKept h (.of_eq (fusesOpen_of_ev
    (s := (setVin s vin).updCarrier (fun c => { c with vbus := .rising, overvolt := false })) ?_))
  exact ev_logStart (ev_warmChains (ev_hostReset (ev_mapSelect (Ev.setF ((Ev.raw_boot (by decide) _).mpr (Ev.refl _))
    (by decide) _ _ _) (by decide)) (by decide)) (by decide)) (by decide) _

theorem crystalFail_fusesKept (h : execCrystalFail s = .next t) : FusesKept s t := by
  refine guardDo_fusesKept h (.of_eq (fusesOpen_of_ev
    (s := s.updCarrier (fun c => { c with crystalOk := false, backup := true })) ?_))
  exact Ev.foldl (Ev.foldl (Ev.refl _) _ _ (fun u r hu => ev_raise hu (by decide) _ _)) _ _
    (fun u r hu => ev_requestStop hu (by decide) _ _ _ _)

theorem crystalRestored_fusesKept (h : execCrystalRestored s = .next t) : FusesKept s t :=
  guardDo_fusesKept h (.of_eq rfl)

theorem perstDeassert_fusesKept (h : execPerstDeassert s = .next t) : FusesKept s t :=
  guardDo_fusesKept h (.of_eq (fusesOpen_of_ev
    (s := s.updCarrier (fun c => { c with perst := false })) (ev_hostReset (Ev.refl _) (by decide))))

theorem hostLinkDown_fusesKept {perst : Bool} (h : execHostLinkDown perst s = .next t) : FusesKept s t := by
  refine guardDo_fusesKept h (.of_eq ?_)
  rw [fusesOpen_of_ev (ev_hostDown (Ev.refl _) (by decide))]
  split <;> rfl

theorem coldPlateSensorFault_fusesKept {reading : Int} (h : execColdPlateSensorFault reading s = .next t) :
    FusesKept s t := by
  refine guardDo_fusesKept h (.of_eq ?_)
  unfold coldPlate
  dsimp only
  split
  · rw [logRec_carrier]
    rfl
  · rfl

theorem FusesKept.trans {u : State} (h : FusesKept s t) (k : FusesKept t u) : FusesKept s u := fun r hr => k r (h r hr)

theorem FusesKept.of_ev (h : Ev (others [.supply]) s t) : FusesKept s t := .of_eq (fusesOpen_of_ev h)

/-- The answer to a request leaves the fuses as the operation left them. -/
theorem runReq_fusesKept {k : ReqRule} (hk : ∀ x ps u, FusesKept u (k.eff x ps u).1) (x : Session) (reqId : Nat)
    (ps : List Nat) (s : State) : FusesKept s (runReq k x reqId ps s) := by
  have hanswer (r : State × Nat × List Nat) (h : FusesKept s r.1) : FusesKept s
      (reply (if k.oper then logCommand r.1 k.op (k.region ps) reqId r.2.1 ps else r.1) x.id k.op reqId r.2.1 r.2.2) :=
    h.trans (.of_ev (ev_reply (Ev.ite (ev_logCommand (Ev.refl _) (by decide) _ _ _ _ _) (Ev.refl _)) (by decide) _ _ _ _ _))
  have heff (n : Nat) : FusesKept s (if n = 0 then k.eff x ps s else (s, n, [])).1 := by
    split
    · exact hk _ _ _
    · exact .of_eq rfl
  exact hanswer _ (heff _)

/-- A request keeps the fuses when its operation does: the rest changes the log and the sessions. -/
theorem serve_fusesKept {k : ReqRule} {d : Datagram} (h : serve k d s = .next t)
    (hk : ∀ x ps u, FusesKept u (k.eff x ps u).1) : FusesKept s t := by
  have hgather := ev_gather (m := others [.supply]) (Ev.refl s) (by decide) k.op d
  unfold serve at h
  split at h
  · refine guardDo_fusesKept h ?_
    unfold takeReq
    split
    · exact .of_ev (Ev.ite (ev_replyAgain (Ev.refl _) (by decide) _ _) (Ev.refl _))
    · split
      · exact .of_ev (ev_reply (Ev.ite (ev_logCommand (ev_dropPartial (Ev.refl _) (by decide) _ _) (by decide) _ _ _ _ _)
          (ev_dropPartial (Ev.refl _) (by decide) _ _)) (by decide) _ _ _ _ _)
      · next hu => exact .of_ev (hgather.wait _ hu)
      · next hu =>
        split
        · exact (FusesKept.of_ev (hgather.whole _ _ hu)).trans (runReq_fusesKept hk _ _ _ _)
        · exact .of_eq rfl
  · cases h
    exact .of_eq rfl

theorem moduleReset_fusesKept {m : Datagram} (h : execModuleReset m s = .next t) : FusesKept s t := by
  refine serve_fusesKept h (fun x ps u => ?_)
  dsimp only [moduleResetRule, ReqRule.operator]
  split
  · exact .of_eq rfl
  · exact vbusDown_fusesKept _ _

end

/-- No command closes a fuse: those that leave the supplies alone by their footprint, the others one by one. -/
theorem exec_fusesKept {s t : State} : ∀ {c : Instr}, exec c s = .next t → FusesKept s t
  | .coldStart vin, h => coldStart_fusesKept h
  | .vaonInRegulation, h => vaonInRegulation_fusesKept h
  | .crystalStable chk, h => crystalStable_fusesKept h
  | .quarryMapSelect, h => kept (ev_execQuarryMapSelect (Ev.refl s) (by decide)) h
  | .vbusSoftStart vin, h => vbusSoftStart_fusesKept h
  | .vbusInRegulation, h => vbusInRegulation_fusesKept h
  | .testRoundBegin, h => kept (ev_execTestRoundBegin (Ev.refl s) (by decide)) h
  | .regionSwitchClose _, h => kept (ev_execRegionSwitchClose (Ev.refl s) (by decide) _) h
  | .selfTestBegin _, h => kept (ev_execSelfTestBegin (Ev.refl s) (by decide) _) h
  | .selfTestDone _ _, h => kept (ev_execSelfTestDone (Ev.refl s) (by decide) _ _) h
  | .sameRoundLinkTest _, h => kept (ev_execSameRoundLinkTest (Ev.refl s) (by decide) _) h
  | .roundComplete, h => kept (ev_execRoundComplete (Ev.refl s) (by decide)) h
  | .qmapWriteDone _, h => kept (ev_execQmapWriteDone (Ev.refl s) (by decide) _) h
  | .qmapCommit, h => kept (ev_execQmapCommit (Ev.refl s) (by decide)) h
  | .switchTrip _, h => kept (ev_execSwitchTrip (Ev.refl s) (by decide) _) h
  | .tripRetry _, h => kept (ev_execTripRetry (Ev.refl s) (by decide) _) h
  | .fuseConfirm r isOpen, h => fuseConfirm_fusesKept h
  | .fuseSelfOpen r, h => fuseSelfOpen_fusesKept h
  | .brownout vin, h => brownout_fusesKept h
  | .startResume vin, h => startResume_fusesKept h
  | .vbusOff vin, h => vbusOff_fusesKept h
  | .vaonLoss vin, h => vaonLoss_fusesKept h
  | .warmStart vin, h => warmStart_fusesKept h
  | .vinOvervoltage vin, h => vinOvervoltage_fusesKept h
  | .vbusUndervoltage, h => kept (ev_execVbusUndervoltage (Ev.refl s) (by decide)) h
  | .crystalFail, h => crystalFail_fusesKept h
  | .crystalRestored, h => crystalRestored_fusesKept h
  | .perstDeassert, h => perstDeassert_fusesKept h
  | .pcieLinkUp _ _, h => kept (ev_execPcieLinkUp (Ev.refl s) (by decide) _ _) h
  | .hostLinkDown perst, h => hostLinkDown_fusesKept h
  | .tamper, h => kept (ev_execTamper (Ev.refl s) (by decide)) h
  | .wakeCommand _, h => kept (ev_execWakeCommand (Ev.refl s) (by decide) _) h
  | .wakeComplete _ _, h => kept (ev_execWakeComplete (Ev.refl s) (by decide) _ _) h
  | .wakeTimeout _, h => kept (ev_execWakeTimeout (Ev.refl s) (by decide) _) h
  | .wakeRetry _, h => kept (ev_execWakeRetry (Ev.refl s) (by decide) _) h
  | .stopHandshake _ _, h => kept (ev_execStopHandshake (Ev.refl s) (by decide) _ _) h
  | .handshakeAnswer _ _, h => kept (ev_execHandshakeAnswer (Ev.refl s) (by decide) _ _) h
  | .answerTimeout _ _, h => kept (ev_execAnswerTimeout (Ev.refl s) (by decide) _ _) h
  | .handshakeDeadline _, h => kept (ev_execHandshakeDeadline (Ev.refl s) (by decide) _) h
  | .regionStopped _, h => kept (ev_execRegionStopped (Ev.refl s) (by decide) _) h
  | .stopCmd _ _ _, h => kept (ev_execStopCmd (Ev.refl s) (by decide) _ _ _) h
  | .idleTimeout _, h => kept (ev_execIdleTimeout (Ev.refl s) (by decide) _) h
  | .idleCfgWrite _ _ _, h => kept (ev_execIdleCfgWrite (Ev.refl s) (by decide) _ _ _) h
  | .throttleEvaluation _ _, h => kept (ev_execThrottleEvaluation (Ev.refl s) (by decide) _ _) h
  | .lockLost _, h => kept (ev_execLockLost (Ev.refl s) (by decide) _) h
  | .regionFail _ _, h => kept (ev_execRegionFail (Ev.refl s) (by decide) _ _) h
  | .rerouteRelease _ _, h => kept (ev_execRerouteRelease (Ev.refl s) (by decide) _ _) h
  | .meshLinkFail _, h => kept (ev_execMeshLinkFail (Ev.refl s) (by decide) _) h
  | .strandedStopRetry _, h => kept (ev_execStrandedStopRetry (Ev.refl s) (by decide) _) h
  | .haulRoadPacket _ _, h => kept (ev_execHaulRoadPacket (Ev.refl s) (by decide) _ _) h
  | .registerWrite _ _ _ _ _ _ _, h => kept (ev_execRegisterWrite (Ev.refl s) (by decide) _ _ _ _ _ _ _) h
  | .blockEnable _ _ _, h => kept (ev_execBlockEnable (Ev.refl s) (by decide) _ _ _) h
  | .blockDisable _ _ _, h => kept (ev_execBlockDisable (Ev.refl s) (by decide) _ _ _) h
  | .softReset _ _ _, h => kept (ev_execSoftReset (Ev.refl s) (by decide) _ _ _) h
  | .softResetDone _, h => kept (ev_execSoftResetDone (Ev.refl s) (by decide) _) h
  | .commitArm _ _, h => kept (ev_execCommitArm (Ev.refl s) (by decide) _ _) h
  | .commitApply _, h => kept (ev_execCommitApply (Ev.refl s) (by decide) _) h
  | .evtStatClear _ _ _ _, h => kept (ev_execEvtStatClear (Ev.refl s) (by decide) _ _ _ _) h
  | .evtEnWrite _ _ _, h => kept (ev_execEvtEnWrite (Ev.refl s) (by decide) _ _ _) h
  | .errinfoClear _ _ _ _, h => kept (ev_execErrinfoClear (Ev.refl s) (by decide) _ _ _ _) h
  | .loWordWrite _ _ _, h => kept (ev_execLoWordWrite (Ev.refl s) (by decide) _ _ _) h
  | .hiWordWrite _ _ _, h => kept (ev_execHiWordWrite (Ev.refl s) (by decide) _ _ _) h
  | .counterLowRead _ _ _ _ _, h => kept (ev_execCounterLowRead (Ev.refl s) (by decide) _ _ _ _ _) h
  | .portFrame _ _, h => kept (ev_execPortFrame (Ev.refl s) (by decide) _ _) h
  | .calibrationWindow _, h => kept (ev_execCalibrationWindow (Ev.refl s) (by decide) _) h
  | .csiLongPacket _ _ _, h => kept (ev_execCsiLongPacket (Ev.refl s) (by decide) _ _ _) h
  | .frameStart _ _, h => kept (ev_execFrameStart (Ev.refl s) (by decide) _ _) h
  | .frameEnd _ _, h => kept (ev_execFrameEnd (Ev.refl s) (by decide) _ _) h
  | .cameraFrameWritten _ _, h => kept (ev_execCameraFrameWritten (Ev.refl s) (by decide) _ _) h
  | .recordWritten _ _, h => kept (ev_execRecordWritten (Ev.refl s) (by decide) _ _) h
  | .streamFault _ _ _, h => kept (ev_execStreamFault (Ev.refl s) (by decide) _ _ _) h
  | .streamClear _ _, h => kept (ev_execStreamClear (Ev.refl s) (by decide) _ _) h
  | .headTrip _, h => kept (ev_execHeadTrip (Ev.refl s) (by decide) _) h
  | .headRetry _, h => kept (ev_execHeadRetry (Ev.refl s) (by decide) _) h
  | .headCtrlWrite _ _ _, h => kept (ev_execHeadCtrlWrite (Ev.refl s) (by decide) _ _ _) h
  | .cciGo _ _ _, h => kept (ev_execCciGo (Ev.refl s) (by decide) _ _ _) h
  | .cciDone _ _ _, h => kept (ev_execCciDone (Ev.refl s) (by decide) _ _ _) h
  | .listenerHop _, h => kept (ev_execListenerHop (Ev.refl s) (by decide) _) h
  | .evaluationDone _ _ _, h => kept (ev_execEvaluationDone (Ev.refl s) (by decide) _ _ _) h
  | .bEnWrite _ _ _, h => kept (ev_execBEnWrite (Ev.refl s) (by decide) _ _ _) h
  | .imageCheckDone _ _ _, h => kept (ev_execImageCheckDone (Ev.refl s) (by decide) _ _ _) h
  | .bDataWrite _ _ _, h => kept (ev_execBDataWrite (Ev.refl s) (by decide) _ _ _) h
  | .bDataRead _ _ _ _, h => kept (ev_execBDataRead (Ev.refl s) (by decide) _ _ _ _) h
  | .trigCmd _ _ _, h => kept (ev_execTrigCmd (Ev.refl s) (by decide) _ _ _) h
  | .floorReset _ _ _ _, h => kept (ev_execFloorReset (Ev.refl s) (by decide) _ _ _ _) h
  | .messageAck _ _, h => kept (ev_execMessageAck (Ev.refl s) (by decide) _ _) h
  | .ackTimeout _ _, h => kept (ev_execAckTimeout (Ev.refl s) (by decide) _ _) h
  | .demotedReport _ _, h => kept (ev_execDemotedReport (Ev.refl s) (by decide) _ _) h
  | .aFire _ _, h => kept (ev_execAFire (Ev.refl s) (by decide) _ _) h
  | .trigger _ _, h => kept (ev_execTrigger (Ev.refl s) (by decide) _ _) h
  | .refresh _ _, h => kept (ev_execRefresh (Ev.refl s) (by decide) _ _) h
  | .demoted _ _, h => kept (ev_execDemoted (Ev.refl s) (by decide) _ _) h
  | .verdict _, h => kept (ev_execVerdict (Ev.refl s) (by decide) _) h
  | .demotionTimerExpiry _, h => kept (ev_execDemotionTimerExpiry (Ev.refl s) (by decide) _) h
  | .wakeAck _, h => kept (ev_execWakeAck (Ev.refl s) (by decide) _) h
  | .promote _ _, h => kept (ev_execPromote (Ev.refl s) (by decide) _ _) h
  | .demote _ _, h => kept (ev_execDemote (Ev.refl s) (by decide) _ _) h
  | .chainStoreSave _ _, h => kept (ev_execChainStoreSave (Ev.refl s) (by decide) _ _) h
  | .storeDone _, h => kept (ev_execStoreDone (Ev.refl s) (by decide) _) h
  | .startMessage _ _ _, h => kept (ev_execStartMessage (Ev.refl s) (by decide) _ _ _) h
  | .restartMessage _ _ _, h => kept (ev_execRestartMessage (Ev.refl s) (by decide) _ _ _) h
  | .switchComplete _, h => kept (ev_execSwitchComplete (Ev.refl s) (by decide) _) h
  | .endMessage _, h => kept (ev_execEndMessage (Ev.refl s) (by decide) _) h
  | .opRecordFetch _ _, h => kept (ev_execOpRecordFetch (Ev.refl s) (by decide) _ _) h
  | .recordComplete _ _, h => kept (ev_execRecordComplete (Ev.refl s) (by decide) _ _) h
  | .scaleLogWrite _ _, h => kept (ev_execScaleLogWrite (Ev.refl s) (by decide) _ _) h
  | .mat _ _, h => kept (ev_execMat (Ev.refl s) (by decide) _ _) h
  | .elt _ _, h => kept (ev_execElt (Ev.refl s) (by decide) _ _) h
  | .fetch _ _ _, h => kept (ev_execFetch (Ev.refl s) (by decide) _ _ _) h
  | .writeback _ _, h => kept (ev_execWriteback (Ev.refl s) (by decide) _ _) h
  | .discard _ _, h => kept (ev_execDiscard (Ev.refl s) (by decide) _ _) h
  | .load _ _ _, h => kept (ev_execLoad (Ev.refl s) (by decide) _ _ _) h
  | .store _ _, h => kept (ev_execStore (Ev.refl s) (by decide) _ _) h
  | .copy _ _, h => kept (ev_execCopy (Ev.refl s) (by decide) _ _) h
  | .synAdd _, h => kept (ev_execSynAdd (Ev.refl s) (by decide) _) h
  | .synWaitGe _, h => kept (ev_execSynWaitGe (Ev.refl s) (by decide) _) h
  | .synSet _, h => kept (ev_execSynSet (Ev.refl s) (by decide) _) h
  | .synClear _, h => kept (ev_execSynClear (Ev.refl s) (by decide) _) h
  | .synWaitSet _, h => kept (ev_execSynWaitSet (Ev.refl s) (by decide) _) h
  | .synAcquire _, h => kept (ev_execSynAcquire (Ev.refl s) (by decide) _) h
  | .synRelease _, h => kept (ev_execSynRelease (Ev.refl s) (by decide) _) h
  | .synArrive _, h => kept (ev_execSynArrive (Ev.refl s) (by decide) _) h
  | .synArriveWait _, h => kept (ev_execSynArriveWait (Ev.refl s) (by decide) _) h
  | .synRead _, h => kept (ev_execSynRead (Ev.refl s) (by decide) _) h
  | .synVerdict _, h => kept (ev_execSynVerdict (Ev.refl s) (by decide) _) h
  | .endProg _, h => kept (ev_execEndProg (Ev.refl s) (by decide) _) h
  | .loop _, h => kept (ev_execLoop (Ev.refl s) (by decide) _) h
  | .branch _, h => kept (ev_execBranch (Ev.refl s) (by decide) _) h
  | .setp _, h => kept (ev_execSetp (Ev.refl s) (by decide) _) h
  | .seta _, h => kept (ev_execSeta (Ev.refl s) (by decide) _) h
  | .adda _, h => kept (ev_execAdda (Ev.refl s) (by decide) _) h
  | .lda _ _, h => kept (ev_execLda (Ev.refl s) (by decide) _ _) h
  | .sta _ _, h => kept (ev_execSta (Ev.refl s) (by decide) _ _) h
  | .ctlNop _, h => kept (ev_execCtlNop (Ev.refl s) (by decide) _) h
  | .saveCtx _, h => kept (ev_execSaveCtx (Ev.refl s) (by decide) _) h
  | .gru _ _, h => kept (ev_execGru (Ev.refl s) (by decide) _ _) h
  | .lstm _ _, h => kept (ev_execLstm (Ev.refl s) (by decide) _ _) h
  | .block _ _, h => kept (ev_execBlock (Ev.refl s) (by decide) _ _) h
  | .finish _ _, h => kept (ev_execFinish (Ev.refl s) (by decide) _ _) h
  | .peekDataRead _ _ _, h => kept (ev_execPeekDataRead (Ev.refl s) (by decide) _ _ _) h
  | .peekDataWrite _ _ _, h => kept (ev_execPeekDataWrite (Ev.refl s) (by decide) _ _ _) h
  | .outMarkDurable _, h => kept (ev_execOutMarkDurable (Ev.refl s) (by decide) _) h
  | .lineWriteDurable _ _ _, h => kept (ev_execLineWriteDurable (Ev.refl s) (by decide) _ _ _) h
  | .scrubRead _ _, h => kept (ev_execScrubRead (Ev.refl s) (by decide) _ _) h
  | .blockRelocation _ _, h => kept (ev_execBlockRelocation (Ev.refl s) (by decide) _ _) h
  | .relocationCommit _, h => kept (ev_execRelocationCommit (Ev.refl s) (by decide) _) h
  | .apertureRead _ _ _ _ _, h => kept (ev_execApertureRead (Ev.refl s) (by decide) _ _ _ _ _) h
  | .apertureWrite _ _ _ _ _, h => kept (ev_execApertureWrite (Ev.refl s) (by decide) _ _ _ _ _) h
  | .syncOperationApply _ _, h => kept (ev_execSyncOperationApply (Ev.refl s) (by decide) _ _) h
  | .waitRetry _ _, h => kept (ev_execWaitRetry (Ev.refl s) (by decide) _ _) h
  | .sigCmdAdd _ _ _, h => kept (ev_execSigCmdAdd (Ev.refl s) (by decide) _ _ _) h
  | .sigCmdSet _ _ _, h => kept (ev_execSigCmdSet (Ev.refl s) (by decide) _ _ _) h
  | .sigCmdClear _ _ _, h => kept (ev_execSigCmdClear (Ev.refl s) (by decide) _ _ _) h
  | .snapSave _ _ _, h => kept (ev_execSnapSave (Ev.refl s) (by decide) _ _ _) h
  | .snapRestore _ _ _, h => kept (ev_execSnapRestore (Ev.refl s) (by decide) _ _ _) h
  | .snapComplete _, h => kept (ev_execSnapComplete (Ev.refl s) (by decide) _) h
  | .objCfgWrite _ _ _ _, h => kept (ev_execObjCfgWrite (Ev.refl s) (by decide) _ _ _ _) h
  | .objStateRead _ _ _, h => kept (ev_execObjStateRead (Ev.refl s) (by decide) _ _ _) h
  | .lanePllLock _ _ _, h => kept (ev_execLanePllLock (Ev.refl s) (by decide) _ _ _) h
  | .linkUp _ _ _, h => kept (ev_execLinkUp (Ev.refl s) (by decide) _ _ _) h
  | .trainRetry _, h => kept (ev_execTrainRetry (Ev.refl s) (by decide) _) h
  | .linkFrameSend _, h => kept (ev_execLinkFrameSend (Ev.refl s) (by decide) _) h
  | .timeSend _, h => kept (ev_execTimeSend (Ev.refl s) (by decide) _) h
  | .dataFrame _ _ _ _ _, h => kept (ev_execDataFrame (Ev.refl s) (by decide) _ _ _ _ _) h
  | .idleFrame _ _, h => kept (ev_execIdleFrame (Ev.refl s) (by decide) _ _) h
  | .nak _ _ _ _, h => kept (ev_execNak (Ev.refl s) (by decide) _ _ _ _) h
  | .swapReq _ _ _, h => kept (ev_execSwapReq (Ev.refl s) (by decide) _ _ _) h
  | .swapAck _ _, h => kept (ev_execSwapAck (Ev.refl s) (by decide) _ _) h
  | .swapDone _ _, h => kept (ev_execSwapDone (Ev.refl s) (by decide) _ _) h
  | .swapAbort _ _ _, h => kept (ev_execSwapAbort (Ev.refl s) (by decide) _ _ _) h
  | .reject _ _ _ _ _ _, h => kept (ev_execReject (Ev.refl s) (by decide) _ _ _ _ _ _) h
  | .time _ _ _, h => kept (ev_execTime (Ev.refl s) (by decide) _ _ _) h
  | .probe _ _, h => kept (ev_execProbe (Ev.refl s) (by decide) _ _) h
  | .echo _ _, h => kept (ev_execEcho (Ev.refl s) (by decide) _ _) h
  | .roleSwap _ _ _, h => kept (ev_execRoleSwap (Ev.refl s) (by decide) _ _ _) h
  | .swapDrained _, h => kept (ev_execSwapDrained (Ev.refl s) (by decide) _) h
  | .swapDrainTimeout _, h => kept (ev_execSwapDrainTimeout (Ev.refl s) (by decide) _) h
  | .linkHold _ _, h => kept (ev_execLinkHold (Ev.refl s) (by decide) _ _) h
  | .holdTimeout _, h => kept (ev_execHoldTimeout (Ev.refl s) (by decide) _) h
  | .linkJobEntryRemove _ _, h => kept (ev_execLinkJobEntryRemove (Ev.refl s) (by decide) _ _) h
  | .submitLo _ _, h => kept (ev_execSubmitLo (Ev.refl s) (by decide) _ _) h
  | .submitHi _ _, h => kept (ev_execSubmitHi (Ev.refl s) (by decide) _ _) h
  | .descriptorFetch _, h => kept (ev_execDescriptorFetch (Ev.refl s) (by decide) _) h
  | .admission _, h => kept (ev_execAdmission (Ev.refl s) (by decide) _) h
  | .admitTimeout _, h => kept (ev_execAdmitTimeout (Ev.refl s) (by decide) _) h
  | .imageCopy _ _ _, h => kept (ev_execImageCopy (Ev.refl s) (by decide) _ _ _) h
  | .jobStop _ _, h => kept (ev_execJobStop (Ev.refl s) (by decide) _ _) h
  | .queueFlush _ _ _, h => kept (ev_execQueueFlush (Ev.refl s) (by decide) _ _ _) h
  | .claimFenceDrained, h => kept (ev_execClaimFenceDrained (Ev.refl s) (by decide)) h
  | .completionWrite _ _, h => kept (ev_execCompletionWrite (Ev.refl s) (by decide) _ _) h
  | .cqHeadWrite _ _, h => kept (ev_execCqHeadWrite (Ev.refl s) (by decide) _ _) h
  | .evqHeadWrite _, h => kept (ev_execEvqHeadWrite (Ev.refl s) (by decide) _) h
  | .respawn _, h => kept (ev_execRespawn (Ev.refl s) (by decide) _) h
  | .getCert _, h => kept (ev_execGetCert (Ev.refl s) (by decide) _) h
  | .moduleTicket _, h => kept (ev_execModuleTicket (Ev.refl s) (by decide) _) h
  | .jobTicket _, h => kept (ev_execJobTicket (Ev.refl s) (by decide) _) h
  | .partList _, h => kept (ev_execPartList (Ev.refl s) (by decide) _) h
  | .partDelete _, h => kept (ev_execPartDelete (Ev.refl s) (by decide) _) h
  | .zeroise _, h => kept (ev_execZeroise (Ev.refl s) (by decide) _) h
  | .selfTest _, h => kept (ev_execSelfTest (Ev.refl s) (by decide) _) h
  | .modelDigestDone _ _ _, h => kept (ev_execModelDigestDone (Ev.refl s) (by decide) _ _ _) h
  | .openDap, h => kept (ev_execOpenDap (Ev.refl s) (by decide)) h
  | .partitionZeroDone, h => kept (ev_execPartitionZeroDone (Ev.refl s) (by decide)) h
  | .eraseComplete, h => kept (ev_execEraseComplete (Ev.refl s) (by decide)) h
  | .dapAccess _, h => kept (ev_execDapAccess (Ev.refl s) (by decide) _) h
  | .sessionHandshake _ _ _, h => kept (ev_execSessionHandshake (Ev.refl s) (by decide) _ _ _) h
  | .sessionIdleTimeout _, h => kept (ev_execSessionIdleTimeout (Ev.refl s) (by decide) _) h
  | .fragmentTimeout _ _, h => kept (ev_execFragmentTimeout (Ev.refl s) (by decide) _ _) h
  | .ping _, h => kept (ev_execPing (Ev.refl s) (by decide) _) h
  | .read _, h => kept (ev_execRead (Ev.refl s) (by decide) _) h
  | .write _, h => kept (ev_execWrite (Ev.refl s) (by decide) _) h
  | .qmapRead _, h => kept (ev_execQmapRead (Ev.refl s) (by decide) _) h
  | .bringupRead _, h => kept (ev_execBringupRead (Ev.refl s) (by decide) _) h
  | .logRead _, h => kept (ev_execLogRead (Ev.refl s) (by decide) _) h
  | .subscribe _, h => kept (ev_execSubscribe (Ev.refl s) (by decide) _) h
  | .wake _, h => kept (ev_execWake (Ev.refl s) (by decide) _) h
  | .stop _, h => kept (ev_execStop (Ev.refl s) (by decide) _) h
  | .stopForce _, h => kept (ev_execStopForce (Ev.refl s) (by decide) _) h
  | .hold _, h => kept (ev_execHold (Ev.refl s) (by decide) _) h
  | .holdForce _, h => kept (ev_execHoldForce (Ev.refl s) (by decide) _) h
  | .release _, h => kept (ev_execRelease (Ev.refl s) (by decide) _) h
  | .retestSet _, h => kept (ev_execRetestSet (Ev.refl s) (by decide) _) h
  | .retestClear _, h => kept (ev_execRetestClear (Ev.refl s) (by decide) _) h
  | .moduleReset m, h => moduleReset_fusesKept h
  | .trust _, h => kept (ev_execTrust (Ev.refl s) (by decide) _) h
  | .net _, h => kept (ev_execNet (Ev.refl s) (by decide) _) h
  | .holdStopRetry _, h => kept (ev_execHoldStopRetry (Ev.refl s) (by decide) _) h
  | .banksmanReport _ _ _, h => kept (ev_execBanksmanReport (Ev.refl s) (by decide) _ _ _) h
  | .banksmanLost _, h => kept (ev_execBanksmanLost (Ev.refl s) (by decide) _) h
  | .foremanSilence _, h => kept (ev_execForemanSilence (Ev.refl s) (by decide) _) h
  | .ringFault _ _, h => kept (ev_execRingFault (Ev.refl s) (by decide) _ _) h
  | .mgmtLinkChange _ _, h => kept (ev_execMgmtLinkChange (Ev.refl s) (by decide) _ _) h
  | .telemetryPeriod _ _, h => kept (ev_execTelemetryPeriod (Ev.refl s) (by decide) _ _) h
  | .backgroundWake _, h => kept (ev_execBackgroundWake (Ev.refl s) (by decide) _) h
  | .scrubPassEnd _, h => kept (ev_execScrubPassEnd (Ev.refl s) (by decide) _) h
  | .scrubAgeHour _, h => kept (ev_execScrubAgeHour (Ev.refl s) (by decide) _) h
  | .regulationTick _ _ _ _, h => kept (ev_execRegulationTick (Ev.refl s) (by decide) _ _ _ _) h
  | .complianceClear _, h => kept (ev_execComplianceClear (Ev.refl s) (by decide) _) h
  | .loopFallback _, h => kept (ev_execLoopFallback (Ev.refl s) (by decide) _) h
  | .loopRetry _, h => kept (ev_execLoopRetry (Ev.refl s) (by decide) _) h
  | .loopRetryEnd _, h => kept (ev_execLoopRetryEnd (Ev.refl s) (by decide) _) h
  | .loopOpen _, h => kept (ev_execLoopOpen (Ev.refl s) (by decide) _) h
  | .loopOvervolt _ _, h => kept (ev_execLoopOvervolt (Ev.refl s) (by decide) _ _) h
  | .channelFault _, h => kept (ev_execChannelFault (Ev.refl s) (by decide) _) h
  | .alarm, h => kept (ev_execAlarm (Ev.refl s) (by decide)) h
  | .alarmCmd _ _, h => kept (ev_execAlarmCmd (Ev.refl s) (by decide) _ _) h
  | .alarmStatClear _ _ _, h => kept (ev_execAlarmStatClear (Ev.refl s) (by decide) _ _ _) h
  | .pwmPeriodEnd _, h => kept (ev_execPwmPeriodEnd (Ev.refl s) (by decide) _) h
  | .diagnosablePulseEnd _ _ _ _, h => kept (ev_execDiagnosablePulseEnd (Ev.refl s) (by decide) _ _ _ _) h
  | .proofPulse _, h => kept (ev_execProofPulse (Ev.refl s) (by decide) _) h
  | .unverified _, h => kept (ev_execUnverified (Ev.refl s) (by decide) _) h
  | .lampOvercurrent _, h => kept (ev_execLampOvercurrent (Ev.refl s) (by decide) _) h
  | .lampRetry _, h => kept (ev_execLampRetry (Ev.refl s) (by decide) _) h
  | .livenessPoll _ _, h => kept (ev_execLivenessPoll (Ev.refl s) (by decide) _ _) h
  | .faceLost _, h => kept (ev_execFaceLost (Ev.refl s) (by decide) _) h
  | .tagScanDone _ _, h => kept (ev_execTagScanDone (Ev.refl s) (by decide) _ _) h
  | .trainingAttemptFail _, h => kept (ev_execTrainingAttemptFail (Ev.refl s) (by decide) _) h
  | .thermalLockoutEnd _, h => kept (ev_execThermalLockoutEnd (Ev.refl s) (by decide) _) h
  | .coldPlateSensorFault reading, h => coldPlateSensorFault_fusesKept h
  | .ticketDone _, h => kept (ev_execTicketDone (Ev.refl s) (by decide) _) h
  | .mbDone _, h => kept (ev_execMbDone (Ev.refl s) (by decide) _) h
  | .outputCopy _ _ _, h => kept (ev_execOutputCopy (Ev.refl s) (by decide) _ _ _) h

/-- Settles O9: every command keeps the open fuses, and the guard of REGION_SWITCH_CLOSE reads them. -/
theorem fusesStayOpen : Obligations.FusesStayOpen := by
  refine ⟨fun c s t r h hr => exec_fusesKept h r hr, fun s r hr => ?_⟩
  have hguard : (s.boot.toClose.head? == some r && !s.carrier.fusesOpen.contains r) = false := by simp [hr]
  show execRegionSwitchClose r s = .next s
  rw [execRegionSwitchClose, hguard]
  rfl

end Sys2Proof.FirstLight

/-! ## Regions: what requests for starts and stops leave alone -/

namespace Sys2Proof.FirstLight

open Sys2Proof Sys2Proof.Machine

/-- A region without its handshake, its waiting stop, its part as transit or background, and its slots. -/
abbrev standing (x : RegionSt) : RegionSt :=
  { x with hs := none, stopHeld := none, transit := false, background := false, slots := [] }

/-- Every region stands in `t` as in `s`. -/
def Standing (s t : State) : Prop := ∀ q, standing (t.region q) = standing (s.region q)

theorem Standing.refl (s : State) : Standing s s := fun _ => rfl

theorem Standing.trans {s t u : State} (h : Standing s t) (k : Standing t u) : Standing s u := fun q => (k q).trans (h q)

theorem Standing.power {s t : State} (h : Standing s t) (q : Nat) : (t.region q).power = (s.region q).power :=
  (congrArg RegionSt.power (h q) :)

theorem Standing.switchOn {s t : State} (h : Standing s t) (q : Nat) : (t.region q).switchOn = (s.region q).switchOn :=
  (congrArg RegionSt.switchOn (h q) :)

theorem Standing.hold {s t : State} (h : Standing s t) (q : Nat) : (t.region q).hold = (s.region q).hold :=
  (congrArg RegionSt.hold (h q) :)

theorem Standing.holdForce {s t : State} (h : Standing s t) (q : Nat) :
    (t.region q).holdForce = (s.region q).holdForce :=
  (congrArg RegionSt.holdForce (h q) :)

theorem Standing.age {s t : State} (h : Standing s t) (q : Nat) : (t.region q).age = (s.region q).age :=
  (congrArg RegionSt.age (h q) :)

theorem Standing.inRun {s t : State} (h : Standing s t) (q : Nat) : inRun t q = inRun s q := by
  unfold Machine.inRun
  rw [h.power]

theorem Standing.runSet {s t : State} (h : Standing s t) : runSet t = runSet s :=
  List.filter_congr (fun q _ => h.inRun q)

theorem Standing.of_regions {s t : State} (h : t.regions = s.regions) : Standing s t := fun q => by
  rw [region_same (show StatePart.regions.same s t from h)]

section

variable {a s t : State}

theorem Standing.ev (h : Standing a s) (e : Ev (others [.regions]) s t) : Standing a t :=
  h.trans (.of_regions (same_of_others e .regions (by decide)))

theorem Standing.ite {x y : State} {c : Prop} [Decidable c] (h1 : Standing a x) (h2 : Standing a y) :
    Standing a (if c then x else y) := by
  split <;> assumption

theorem Standing.foldl {β : Type} (h : Standing a s) (l : List β) (f : State → β → State)
    (hf : ∀ u x, Standing a u → Standing a (f u x)) : Standing a (l.foldl f s) := by
  induction l generalizing s with
  | nil => exact h
  | cons x l ih => exact ih (hf s x h)

theorem Standing.wakes (h : Standing a s) (w : List WakeReq) : Standing a { s with wakeQ := w } := h

theorem Standing.stops (h : Standing a s) (q : List StopWait) : Standing a { s with stopQ := q } := h

theorem Standing.updRegion (h : Standing a s) (r : Nat) {f : RegionSt → RegionSt}
    (hf : standing (f (s.region r)) = standing (s.region r)) : Standing a (s.updRegion r f) := by
  refine h.trans (fun q => ?_)
  rw [region_updRegion]
  split
  · next hq => rw [hq, hf]
  · rfl

theorem standing_requestStop (h : Standing a s) (r : Nat) (force : Bool) (cause : Nat) (idle : Bool) :
    Standing a (requestStop s r force cause idle) := by
  unfold requestStop
  dsimp only
  split
  · exact h
  · exact h.updRegion r rfl
  · exact h.updRegion r rfl
  · exact .ite (h.stops _) (h.stops _)

theorem standing_releaseTransit (h : Standing a s) : Standing a (releaseTransit s) := by
  have key : ∀ (l : List Nat) (x : State × List Nat), Standing a x.1 → Standing a (l.foldl (fun x r =>
      if splits s x.2 r then x else (requestStop x.1 r false 4 false, r :: x.2)) x).1 := by
    intro l
    induction l with
    | nil => exact fun _ hx => hx
    | cons r l ih =>
      intro x hx
      refine ih _ ?_
      dsimp only
      split
      · exact hx
      · exact standing_requestStop hx _ _ _ _
  exact key _ _ h

theorem standing_endWithoutStop (h : Standing a s) (r outcome : Nat) (x : HsAnswer) (decider : Nat) :
    Standing a (endWithoutStop s r outcome x decider) := by
  unfold endWithoutStop
  split
  · exact h
  · next k _ =>
    have h1 := ((h.ev (ev_putResult (Ev.refl _) (by decide) r outcome x decider (usOf (s.time - k.t0)))).updRegion r
      (f := fun x => { x with hs := none }) rfl).ev (ev_reinstall (Ev.refl _) (by decide) r k.routes)
    have h2 := Standing.ite (c := outcome = 5) h1 (h1.ev (ev_raise (ev_addF (Ev.refl _) (by decide) (powerPg r)
      POWER_HS_COUNT_ABANDONS 1) (by decide) (powerPg r) 2))
    have h3 (hs : Nat) := h2.ev (ev_logPower (Ev.refl _) (by decide) r k.cause hs 0)
    exact .ite ((h3 _).stops _) (h3 _)

theorem standing_queueStart (h : Standing a s) (e : Option Nat) (ws : List WakeReq) :
    Standing a (queueStart s e ws) := by
  have hq := h.wakes (s.wakeQ ++ ws)
  unfold queueStart
  dsimp only
  split
  · exact hq
  · split
    · exact hq
    · exact .ite hq (.ite (h.wakes _) (standing_endWithoutStop hq _ _ _ _))

theorem standing_nameWake (h : Standing a s) (r cause : Nat) : Standing a (nameWake s r cause) :=
  h.wakes _

theorem standing_startRegion (h : Standing a s) (r cause : Nat) (named : Bool) :
    Standing a (startRegion s r cause named).1 := by
  have hname := h.updRegion r (f := fun x => { x with transit := false, background := false }) rfl
  have hrun : Standing a (if named then s.updRegion r (fun x => { x with transit := false, background := false }) else s) :=
    .ite hname h
  unfold startRegion
  dsimp only
  generalize (if named then s.updRegion r (fun x => { x with transit := false, background := false }) else s) = u at hrun ⊢
  split
  · split
    · exact hrun.stops _
    · split
      · exact standing_endWithoutStop hrun _ _ _ _
      · split
        · exact .ite (standing_nameWake hrun _ _) hrun
        · exact hrun.wakes _
  · split
    · exact .ite (standing_nameWake hname _ _) h
    · split
      · exact h
      · split
        · exact h
        · exact standing_queueStart h _ _

theorem standing_wakeZeroing (h : Standing a s) : Standing a (wakeZeroing s) := by
  unfold wakeZeroing
  split
  · exact h.foldl _ _ (fun _ r hu => standing_startRegion hu r 14 true)
  · exact h

/-- An erase as it begins, before it wakes the regions to be zeroed. -/
def eraseFirst (s : State) (opens resumed : Bool) : State :=
  let s := raise (setF s dapPg DAP_DAP_STATE_STATE 1) dapPg 1
  let s := setF s dapPg DAP_ERASE_DONE 0
  let s := s.updWb (fun w => { w with
    erasePending := true, pendingOpens := opens, dapOpen := false
    erase := some ⟨opens, true, partRegions s, false, resumed⟩ })
  [0, 1, 2, 3].foldl (fun s k => if inRun s (aditRegion k) then linkDown s k 6 else s) s

theorem eraseBegin_eq (s : State) (opens resumed : Bool) : eraseBegin s opens resumed =
    if resumed then eraseFirst s opens resumed else wakeZeroing (eraseFirst s opens resumed) := rfl

theorem eraseFirst_ev (s : State) (opens resumed : Bool) :
    Ev (others [.regions, .wakeQ, .supply, .hostPower, .mapRecord, .mapEntries, .boot, .beds, .time]) s
      (eraseFirst s opens resumed) := by
  refine Ev.foldl (ev_State_updWb (Ev.setF (ev_raise (Ev.setF (Ev.refl _) ?_ _ _ _) ?_ _ _) ?_ _ _ _) ?_ _) _ _
    (fun _ _ hu => Ev.ite (ev_linkDown hu ?_ _ _) hu)
  all_goals decide

theorem standing_eraseAsk (h : Standing a s) (opens resumed : Bool) : Standing a (eraseAsk s opens resumed) := by
  unfold eraseAsk
  split
  · exact h.trans (.of_regions rfl)
  · have hf := h.trans (.of_regions (same_of_others (eraseFirst_ev s opens resumed) .regions (by decide)))
    rw [eraseBegin_eq]
    exact .ite hf (standing_wakeZeroing hf)

theorem standing_tamperGoesOn (h : Standing a s) : Standing a (tamperGoesOn s) :=
  .ite (standing_eraseAsk (s := s.updWb (fun w => { w with tamper := false })) (h.trans (.of_regions rfl)) _ _) h

theorem standing_strandRegion (h : Standing a s) (r : Nat) : Standing a (strandRegion s r) :=
  standing_requestStop (h.ev (ev_State_updBoot (ev_State_updEntry (Ev.refl _) (by decide) _ _) (by decide) _)) _ _ _ _

theorem standing_restoreMap (h : Standing a s) : Standing a (restoreMap s) := by
  refine Standing.foldl (h.ev ?_) _ _ (fun u r hu => hu.updRegion r rfl)
  refine Ev.foldl (Ev.foldl (Ev.foldl (Ev.updMap (Ev.refl _) _ (.inl ?_) (.inl ?_)) _ _
    (fun _ _ hu => ev_State_updEntry hu ?_ _ _)) _ _ (fun _ _ hu => ev_State_updEntry hu ?_ _ _)) _ _
    (fun _ _ hu => ev_setLinkFault hu ?_ _ _)
  all_goals decide

/-! ## Regions that leave Run -/

/-- A region's pages as it leaves Run: its scans settled, RUN_US counted, an armed commit applied. -/
def leavingPages (s : State) (r : Nat) (failed : Bool) : State :=
  let s := if failed then s else settleScans s r
  let x := s.region r
  let s := addF s (powerPg r) POWER_RUN_US (usOf (s.time - x.runSince))
  if flagF s (powerPg r) COMMIT_ARMED then copyShadows s powerRows (powerPg r) else s

/-- A region as it leaves Run, before what it carried is dropped. -/
def leaving (s : State) (r : Nat) (failed : Bool) : State :=
  (leavingPages s r failed).updRegion r (fun x => { x with
    power := .stop, hs := none, stopHeld := none, transit := false, background := false })

theorem leavingPages_ev (s : State) (r : Nat) (failed : Bool) :
    Ev (others [.regions, .mapEntries]) (if failed then s else settleScans s r) (leavingPages s r failed) :=
  Ev.ite (ev_copyShadows (ev_addF (Ev.refl _) (by decide) _ _ _) (by decide) _ _)
    (ev_addF (Ev.refl _) (by decide) _ _ _)

/-- What follows touches neither regions nor the quarry map. -/
theorem leaveRun_ev (s : State) (r : Nat) (lost forced failed : Bool) :
    Ev (others [.regions, .mapRecord, .mapEntries, .boot, .supply, .hostPower, .wakeQ]) (leaving s r failed)
      (leaveRun s r lost forced failed) := by
  refine Ev.foldl (ev_resetRegionPages ((Ev.raw_wb ?_ _).mpr (ev_State_updSync (ev_blockLeavesRun (ev_dropFaces
    (Ev.ite (ev_dropUsers ?syncs ?_ _ _) ?syncs) ?_ _ _) ?_ _) ?_ _ _)) ?_ _) _ _ (fun _ _ hu => ev_jobCheckEnd hu ?_ _)
  case syncs =>
    refine ev_failSyncs (Ev.ite (ev_failStores ?packets ?_ _) ?packets) ?_ _ _
    case packets =>
      refine ev_failPackets (ev_failPackets (Ev.ite (Ev.foldl ?routes _ _ (fun _ _ hu => ev_dropTransfers hu ?_ _)) ?routes)
        ?_ _ _) ?_ _ _
      case routes =>
        refine ev_reroute (Ev.foldl (ev_routesDead (Ev.refl _) ?_ _) _ _ (fun _ _ hu => ev_setRoute hu ?_ _ _ _)) ?_ _ _
        all_goals decide
      all_goals decide
    all_goals decide
  all_goals decide

theorem standing_settleScans (h : Standing a s) (r : Nat) : Standing a (settleScans s r) := by
  have hslots (f : QEntry → QEntry) (n : Nat) (slots : List Nat) : Standing a
      ((addF (s.updEntry r f) bringupPg BRINGUP_FACES_SPARES_USED n).updRegion r (fun y => { y with slots := slots })) :=
    (h.ev (ev_addF (ev_State_updEntry (Ev.refl _) (by decide) _ _) (by decide) _ _ _)).updRegion r rfl
  exact .ite h (.ite (hslots _ _ _) ((hslots _ _ _).ev (ev_raise (Ev.refl _) (by decide) _ _)))

theorem leaving_region (s : State) (r : Nat) (failed : Bool) :
    ((leaving s r failed).region r).power = .stop ∧
      ((leaving s r failed).region r).switchOn = (s.region r).switchOn := by
  have hsettled : Standing s (if failed then s else settleScans s r) := .ite (.refl s) (standing_settleScans (.refl s) r)
  have hpages := hsettled.trans (.of_regions (same_of_others (leavingPages_ev s r failed) .regions (by decide)))
  simp only [leaving, region_updRegion, if_true]
  exact ⟨trivial, hpages.switchOn r⟩

theorem leaving_entry (s : State) (r q : Nat) : (leaving s r true).entry q = s.entry q :=
  entry_same (same_of_others (leavingPages_ev s r true) .mapEntries (by decide)) q

end

/-- A region is in Stop, its switch and its entry stand at given values. -/
structure Down (r : Nat) (on : Bool) (e : QEntry) (s : State) : Prop where
  power : (s.region r).power = .stop
  switchOn : (s.region r).switchOn = on
  entry : s.entry r = e

section

variable {r : Nat} {on : Bool} {e : QEntry} {s t : State}

theorem Down.inRun (h : Down r on e s) : inRun s r = false := by
  simp [Machine.inRun, h.power]

theorem Down.standing (h : Down r on e s) (k : Standing s t) (he : t.entry r = s.entry r) : Down r on e t :=
  ⟨(k.power r).trans h.power, (k.switchOn r).trans h.switchOn, he.trans h.entry⟩

/-- What leaves regions and entries alone keeps a region down. -/
theorem Down.ev (h : Down r on e s) (k : Ev (others [.regions, .mapEntries]) s t) : Down r on e t :=
  h.standing (.of_regions (same_of_others k .regions (by decide))) (entry_same (same_of_others k .mapEntries (by decide)) r)

theorem Down.releaseTransit (h : Down r on e s) : Down r on e (releaseTransit s) :=
  h.standing (standing_releaseTransit (.refl s))
    (entry_same (same_of_others (l := [.mapEntries]) (ev_releaseTransit (Ev.refl s) (by decide)) .mapEntries (by decide)) r)

theorem Down.restoreConnectivity (h : Down r on e s) : Down r on e (restoreConnectivity s) :=
  h.ev (ev_restoreConnectivity (Ev.refl s) (by decide))

theorem Down.admitLost (h : Down r on e s) (q : Nat) : Down r on e (admitLost s q) :=
  h.ev (ev_admitLost (Ev.refl s) (by decide) q)

theorem Down.logPower (h : Down r on e s) (q cause hs trip : Nat) : Down r on e (logPower s q cause hs trip) :=
  h.ev (ev_logPower (Ev.refl s) (by decide) q cause hs trip)

theorem Down.tamperGoesOn (h : Down r on e s) : Down r on e (tamperGoesOn s) :=
  h.standing (standing_tamperGoesOn (.refl s))
    (entry_same (same_of_others (l := [.mapEntries]) (ev_tamperGoesOn (Ev.refl s) (by decide)) .mapEntries (by decide)) r)

theorem entry_strandRegion (s : State) {q r : Nat} (h : r ≠ q) : (strandRegion s q).entry r = s.entry r := by
  unfold strandRegion
  rw [entry_same (same_of_others (l := [.mapEntries]) (ev_requestStop (ev_State_updBoot (Ev.refl _) (by decide) _)
    (by decide) q false 9 false) .mapEntries (by decide)), entry_updEntry_ne _ _ _ _ h]

/-- A region that is neither in Run nor HEALTHY is not stranded. -/
theorem Down.strand (h : Down r on e s) (he : e.state ≠ .healthy) (was : List Nat) : Down r on e (strand was s) := by
  have key : ∀ (l : List Nat) (u : State), Down r on e u → r ∉ l → Down r on e (l.foldl strandRegion u) := by
    intro l
    induction l with
    | nil => exact fun _ hu _ => hu
    | cons q l ih =>
      intro u hu hr
      rw [List.mem_cons, not_or] at hr
      exact ih _ (hu.standing (standing_strandRegion (.refl u) q) (entry_strandRegion u hr.1)) hr.2
  have hst : ((s.entry r).state == QState.healthy) = false := by simp [h.entry, he]
  unfold Machine.strand
  dsimp only
  split
  · exact key _ _ h (by simp [h.inRun])
  · split
    · exact h
    · exact key _ _ h (by simp [hst])

/-- A region that leaves Run as it fails is down, with its switch and its entry as they were. -/
theorem down_leaveRun (s : State) (r : Nat) (lost forced : Bool) :
    Down r (s.region r).switchOn (s.entry r) (leaveRun s r lost forced true) := by
  have h := leaving_region s r true
  have k := leaveRun_ev s r lost forced true
  exact Down.ev ⟨h.1, h.2, leaving_entry s r r⟩ (k.widen (by decide))

/-- Switch and entry of a region that goes out of use, before it leaves Run. -/
structure Going (r : Nat) (e : QEntry) (s : State) : Prop where
  switchOn : (s.region r).switchOn = false
  entry : s.entry r = e

theorem Going.ev (h : Going r e s) (k : Ev (others [.regions, .mapEntries]) s t) : Going r e t :=
  ⟨by rw [region_same (same_of_others k .regions (by decide)), h.switchOn],
    by rw [entry_same (same_of_others k .mapEntries (by decide)), h.entry]⟩

theorem Going.leaveRun (h : Going r e s) (lost forced : Bool) : Down r false e (leaveRun s r lost forced true) := by
  have k := down_leaveRun s r lost forced
  rwa [h.switchOn, h.entry] at k

theorem Going.stop (h : Going r e s) : Down r false e (s.updRegion r (fun x => { x with power := .stop })) :=
  ⟨by simp, by simpa using h.switchOn, h.entry⟩

/-- Opening the switch and leaving the queues makes a region go out of use. -/
theorem going_open {f : RegionSt → RegionSt} (hf : ∀ x, (f x).switchOn = false) (he : s.entry r = e) (w : List WakeReq)
    (q : List StopWait) : Going r e { s.updRegion r f with wakeQ := w, stopQ := q } :=
  ⟨show ((s.updRegion r f).region r).switchOn = false by rw [region_updRegion, if_pos rfl, hf], he⟩

/-- A region of a start that goes out of use: HOST_PWR_OK and the progress of the start follow. -/
theorem bootOut_ev (s : State) (r : Nat) :
    Ev (others [.regions, .mapEntries]) s (bar (bootDrop (hostFails s r) r) r) :=
  ev_bar (ev_bootDrop (ev_hostFails (Ev.refl s) (by decide) r) (by decide) r) (by decide) r

end

/-- The entry of a region that fails. -/
def asFailed (s : State) (r : Nat) (cause : QCause) : State :=
  s.updEntry r (fun e => { e with state := .failed, cause := cause })

/-- A region that fails, before it leaves Run. -/
def failing (s : State) (r : Nat) (cause : QCause) : State :=
  let s := bar (bootDrop (hostFails (asFailed s r cause) r) r) r
  let s := s.updRegion r (fun x => { x with switchOn := false, wakeFails := 0, wakeBackoff := false })
  raise { s with wakeQ := s.wakeQ.filter (·.region != r), stopQ := s.stopQ.filter (·.region != r) } bringupPg 1

theorem failRegion_eq (s : State) (r : Nat) (cause : QCause) (trip : Nat) : failRegion s r cause trip =
    let t := failing s r cause
    if inRun s r then
      tamperGoesOn (admitLost (releaseTransit (restoreConnectivity (strand (anchorSet s)
        (logPower (leaveRun t r true true true) r 9 0 trip)))) r)
    else admitLost (restoreConnectivity (strand (anchorSet s)
      (logPower (t.updRegion r (fun x => { x with power := .stop })) r 9 0 trip))) r := rfl

theorem going_failing (s : State) (r : Nat) (cause : QCause) :
    Going r ((asFailed s r cause).entry r) (failing s r cause) :=
  (going_open (fun _ => rfl) (entry_same (same_of_others (bootOut_ev _ r) .mapEntries (by decide)) r) _ _).ev
    (ev_raise (Ev.refl _) (by decide) _ _)

/-- A region that fails is in Stop with its switch open; its entry reads FAILED with the cause. -/
theorem down_failRegion (s : State) (r : Nat) (cause : QCause) (trip : Nat) :
    Down r false ((asFailed s r cause).entry r) (failRegion s r cause trip) := by
  have hst : ((asFailed s r cause).entry r).state ≠ .healthy := by simp [asFailed]
  have hgoing := going_failing s r cause
  rw [failRegion_eq]
  dsimp only
  split
  · exact (((((hgoing.leaveRun _ _).logPower _ _ _ _).strand hst _).restoreConnectivity.releaseTransit).admitLost
      _).tamperGoesOn
  · exact (((hgoing.stop.logPower _ _ _ _).strand hst _).restoreConnectivity).admitLost _

/-- The entry of a region that is isolated. -/
def asIsolated (s : State) (r : Nat) (cause : QCause) (fused : Bool) : State :=
  s.updEntry r (fun e => { e with state := .isolated, cause := cause, fused := fused })

/-- A region that is isolated, before it leaves Run. -/
def isolating (s : State) (r : Nat) (cause : QCause) (fused : Bool) : State :=
  let s := (asIsolated s r cause fused).updRegion r (fun x => { x with switchOn := false })
  let s := { s with wakeQ := s.wakeQ.filter (·.region != r), stopQ := s.stopQ.filter (·.region != r) }
  raise (bar (bootDrop (hostFails s r) r) r) bringupPg 2

theorem isolate_eq (s : State) (r : Nat) (cause : QCause) (fused : Bool) : isolate s r cause fused =
    let t := isolating s r cause fused
    tamperGoesOn (admitLost (if inRun s r then
        releaseTransit (restoreConnectivity (strand (anchorSet s) (logPower (leaveRun t r true true true) r 9 0 0)))
      else strand (anchorSet s) (logPower (t.updRegion r (fun x => { x with power := .stop })) r 9 0 0)) r) := rfl

theorem going_isolating (s : State) (r : Nat) (cause : QCause) (fused : Bool) :
    Going r ((asIsolated s r cause fused).entry r) (isolating s r cause fused) :=
  ((going_open (fun _ => rfl) rfl _ _).ev (bootOut_ev _ r)).ev (ev_raise (Ev.refl _) (by decide) _ _)

/-- A region that is isolated is in Stop with its switch open; its entry reads ISOLATED with the cause. -/
theorem down_isolate (s : State) (r : Nat) (cause : QCause) (fused : Bool) :
    Down r false ((asIsolated s r cause fused).entry r) (isolate s r cause fused) := by
  have hst : ((asIsolated s r cause fused).entry r).state ≠ .healthy := by simp [asIsolated]
  have hgoing := going_isolating s r cause fused
  rw [isolate_eq]
  dsimp only
  split
  · exact ((((hgoing.leaveRun _ _).logPower _ _ _ _).strand hst _).restoreConnectivity.releaseTransit.admitLost
      _).tamperGoesOn
  · exact (((hgoing.stop.logPower _ _ _ _).strand hst _).admitLost _).tamperGoesOn

end Sys2Proof.FirstLight

/-! ## Registers, entries and the map read after the operations of a start -/

namespace Sys2Proof.FirstLight

open Sys2Proof Sys2Proof.Machine

section

variable (s : State)

@[simp] theorem phase_setPhase (p : Nat) : phase (setPhase s p) = p % 16 := getF_setF_self _ _ _ _

/-- BRINGUP.PHASE is a field that no event writes. -/
theorem phase_still : BRINGUP_PHASE.still bringupPg := by decide

@[simp] theorem phase_raise (p b : Nat) : phase (raise s p b) = phase s := getF_raise s p b _ _ phase_still

theorem phase_setF {f : Fld} (h : BRINGUP_PHASE.apart f) (ref v : Nat) : phase (setF s ref f v) = phase s :=
  getF_setF_apart _ _ _ _ _ _ h

@[simp] theorem setPhase_boot (p : Nat) : (setPhase s p).boot = s.boot := rfl
@[simp] theorem setPhase_map (p : Nat) : (setPhase s p).map = s.map := rfl

@[simp] theorem logPower_boot (r cause hs trip : Nat) : (logPower s r cause hs trip).boot = s.boot := by simp [logPower]
@[simp] theorem logPower_map (r cause hs trip : Nat) : (logPower s r cause hs trip).map = s.map := by simp [logPower]
@[simp] theorem logPower_carrier (r cause hs trip : Nat) : (logPower s r cause hs trip).carrier = s.carrier := by
  simp [logPower]
@[simp] theorem logPower_regions (r cause hs trip : Nat) : (logPower s r cause hs trip).regions = s.regions := by
  simp [logPower]
@[simp] theorem logPower_region (r cause hs trip q : Nat) : (logPower s r cause hs trip).region q = s.region q :=
  region_same (logPower_regions s r cause hs trip) q
@[simp] theorem logPower_entry (r cause hs trip q : Nat) : (logPower s r cause hs trip).entry q = s.entry q := by
  simp only [State.entry, logPower_map]

@[simp] theorem raise_region (p b q : Nat) : (raise s p b).region q = s.region q := region_same (raise_regions s p b) q
@[simp] theorem raise_entry (p b q : Nat) : (raise s p b).entry q = s.entry q := by simp only [State.entry, raise_map]

@[simp] theorem updRegion_entry (r q : Nat) (f : RegionSt → RegionSt) : (s.updRegion r f).entry q = s.entry q := rfl
@[simp] theorem updBoot_entry (q : Nat) (f : Boot → Boot) : (s.updBoot f).entry q = s.entry q := rfl
@[simp] theorem updBoot_region (q : Nat) (f : Boot → Boot) : (s.updBoot f).region q = s.region q := rfl
@[simp] theorem updCarrier_entry (q : Nat) (f : Carrier → Carrier) : (s.updCarrier f).entry q = s.entry q := rfl

theorem updEntry_ev (r : Nat) (f : QEntry → QEntry) : Ev (parts [.mapEntries]) s (s.updEntry r f) :=
  ev_State_updEntry (Ev.refl s) (by decide) r f
@[simp] theorem updEntry_boot (r : Nat) (f : QEntry → QEntry) : (s.updEntry r f).boot = s.boot :=
  (updEntry_ev s r f).frame .boot (by decide)
@[simp] theorem updEntry_regions (r : Nat) (f : QEntry → QEntry) : (s.updEntry r f).regions = s.regions :=
  (updEntry_ev s r f).frame .regions (by decide)
@[simp] theorem updEntry_region (r q : Nat) (f : QEntry → QEntry) : (s.updEntry r f).region q = s.region q :=
  region_same (updEntry_regions s r f) q
@[simp] theorem updEntry_carrier (r : Nat) (f : QEntry → QEntry) : (s.updEntry r f).carrier = s.carrier :=
  carrier_same ((updEntry_ev s r f).frame .supply (by decide)) ((updEntry_ev s r f).frame .hostPower (by decide))

theorem hostFails_ev (r : Nat) : Ev (parts [.hostPower]) s (hostFails s r) := ev_hostFails (Ev.refl s) (by decide) r
@[simp] theorem hostFails_boot (r : Nat) : (hostFails s r).boot = s.boot := (hostFails_ev s r).frame .boot (by decide)

end

/-- An entry keeps what no change of an entry touches. -/
theorem updEntry_keeps {α : Type} (p : QEntry → α) (hc : ∀ (e : QEntry) (n : Nat), p { e with changedAt := n } = p e)
    (s : State) (r q : Nat) {f : QEntry → QEntry} (hf : p (f (s.entry r)) = p (s.entry r)) :
    p ((s.updEntry r f).entry q) = p (s.entry q) := by
  by_cases h : q = r
  · rw [h, entry_updEntry_self, hc, hf]
  · rw [entry_updEntry_ne _ _ _ _ h]

/-! ## O10: the supplies of a start -/

/-- What a bed store keeps over a cold start. -/
def coldBed (b : BedSt) : BedSt := { b with digests := [], unpaced := false }

theorem bed_coldReset (s : State) (r : Nat) : ((coldReset s).bed r).bytes = (s.bed r).bytes := by
  have h : (coldReset s).bed r = ((tfind s.beds r).map coldBed).getD BedSt.reset :=
    congrArg (Option.getD · BedSt.reset) (tfind_map coldBed s.beds r)
  rw [h, State.bed, tget]
  cases tfind s.beds r <;> rfl

@[simp] theorem beginRound_boot (s : State) : (beginRound s).boot = { s.boot with
    roundOpen := true, toClose := roundSet s, testing := [], running := [],
    passedBefore := s.boot.passedNow.foldl (fun l r => setIns r l) s.boot.passedBefore, passedNow := [],
    nextRound := s.boot.nextRound + 1 } := rfl

@[simp] theorem beginRound_carrier (s : State) : (beginRound s).carrier = s.carrier := rfl

theorem closeSwitch_boot (s : State) (r : Nat) : (closeSwitch s r).boot = { s.boot with
    toClose := s.boot.toClose.filter (· != r), testing := setIns r s.boot.testing } := by
  simp [closeSwitch]

@[simp] theorem closeSwitch_carrier (s : State) (r : Nat) : (closeSwitch s r).carrier = s.carrier := by
  simp [closeSwitch]

theorem closeSwitch_region (s : State) (r q : Nat) : (closeSwitch s r).region q =
    if q = r then { s.region r with switchOn := true, power := .waking } else s.region q := by
  simp [closeSwitch]

/-- Round 0 closes the switch of (0,3) first. -/
theorem head_roundSet_zero {s : State} (h0 : s.boot.nextRound = 0) (he : eligible s hostRegion = true) :
    (roundSet s).head? = some hostRegion := by
  simp [roundSet, h0, he]

/-- Settles O10: each command of the supplies sets its stage of the carrier; what follows a stage keeps it by its
footprint. -/
theorem startSupplies : Obligations.StartSupplies := by
  refine ⟨fun s vin hoff h22 h70 => ?_, fun s h => ?_, fun s chk h => ?_, fun s vin h36 h70 hoff hvaon hact => ?_,
    fun s hvbus hact hread => ?_⟩
  · refine completes_vinDo (execColdStart vin s) rfl rfl h70 (by simp [hoff, h22])
      ⟨rfl, rfl, ?_, rfl, rfl, fun r => bed_coldReset (setVin s vin) r, fun _ => rfl⟩
    exact phase_setPhase ((coldReset (setVin s vin)).updCarrier (fun c => { c with vaon := .rising })) PHASE_POWER
  · exact completes_guardDo (execVaonInRegulation s) rfl rfl (by simp [h]) rfl
  · have hsame := same_of_others (crystalUp_ev s chk)
    have hsupply : (crystalUp s chk).carrier.supply = (crystalOn s).carrier.supply := hsame .supply (by decide)
    exact completes_guardDo (execCrystalStable chk s) rfl rfl (by simp [h]) ⟨(congrArg Carrier.vaon hsupply :),
      (congrArg Carrier.crystalOk hsupply :), (congrArg Carrier.backup hsupply :), hsame .time (by decide)⟩
  · exact completes_vinDo (execVbusSoftStart vin s) rfl rfl h70 (by simp [hoff, hvaon, hact, h36]) rfl
  · refine completes_guardDo (execVbusInRegulation s) rfl rfl (by simp [hvbus, hact, hread]) ?_
    dsimp only
    split
    · simp [closeSwitch_boot, closeSwitch_region]
    · next hhead =>
      refine ⟨by simp, by simp, by simp, fun h0 he => absurd ?_ hhead⟩
      exact head_roundSet_zero (s := s.updCarrier (fun c => { c with vbus := .on })) h0 he

end Sys2Proof.FirstLight

/-! ## O11: the quarry map is selected, and the rounds -/

namespace Sys2Proof.FirstLight

open Sys2Proof Sys2Proof.Machine

/-- The copy that a start selects, or the default record. -/
def chosenMap (s : State) : State :=
  match selectCopy s.map with
  | some (q, b) => setF (s.updMap (fun m => { m with selB := b, committed := q })) bringupPg BRINGUP_PHASE_QMAP_DEFAULT 0
  | none => raise (setF (s.updMap (fun m => { m with selB := true, committed := QRec.default m.identityCode })) bringupPg
      BRINGUP_PHASE_QMAP_DEFAULT 1) bringupPg 4

theorem mapSelect_eq (s : State) : mapSelect s =
    publish (setPhase ((restoreMap (chosenMap s)).updBoot (fun b => { b with mapRead := true })) PHASE_MAP) := rfl

theorem chosenMap_committed (s : State) : (chosenMap s).map.committed =
    (match selectCopy s.map with | some x => x.1 | none => QRec.default s.map.identityCode) := by
  unfold chosenMap
  split <;> simp_all

theorem chosenMap_ev (s : State) :
    Ev (others [.boot, .regions, .supply, .hostPower, .time, .beds]) s (chosenMap s) := by
  unfold chosenMap
  split
  · exact Ev.setF (Ev.updMap (Ev.refl s) _ (.inl (by decide)) (.inl (by decide))) (by decide) _ _ _
  · exact ev_raise (Ev.setF (Ev.updMap (Ev.refl s) _ (.inl (by decide)) (.inl (by decide))) (by decide) _ _ _)
      (by decide) _ _

theorem restoreMap_ev (s : State) : Ev (parts [.mapEntries, .regions]) s (restoreMap s) :=
  ev_restoreMap (Ev.refl s) (by decide)

theorem publish_ev (s : State) : Ev (parts [.fields, .mapRecord]) s (publish s) := ev_publish (Ev.refl s) (by decide)

@[simp] theorem publish_map (s : State) : (publish s).map = { s.map with mirror := some s.map.committed } := by
  simp only [publish, setF_map, updMap_map]
@[simp] theorem publish_boot (s : State) : (publish s).boot = s.boot := (publish_ev s).frame .boot (by decide)

/-- The registers that show a record are none of BRINGUP.PHASE. -/
@[simp] theorem phase_publish (s : State) : phase (publish s) = phase s := by
  have hmap (t : State) (f : MapSt → MapSt) : phase (t.updMap f) = phase t := rfl
  rw [publish, phase_setF _ (by decide), hmap, phase_setF _ (by decide), phase_setF _ (by decide),
    phase_setF _ (by decide), phase_setF _ (by decide), phase_setF _ (by decide), phase_setF _ (by decide),
    phase_setF _ (by decide), phase_setF _ (by decide), phase_setF _ (by decide)]

theorem mapSelect_boot (s : State) : (mapSelect s).boot = { s.boot with mapRead := true } := by
  rw [mapSelect_eq, publish_boot, setPhase_boot, updBoot_boot, (restoreMap_ev _).frame .boot (by decide),
    same_of_others (chosenMap_ev s) .boot (by decide)]

theorem mapSelect_committed (s : State) : (mapSelect s).map.committed =
    (match selectCopy s.map with | some x => x.1 | none => QRec.default s.map.identityCode) := by
  have h : (restoreMap (chosenMap s)).map.record = (chosenMap s).map.record := (restoreMap_ev _).frame .mapRecord (by decide)
  rw [mapSelect_eq, publish_map, setPhase_map, updBoot_map, ← chosenMap_committed]
  exact (congrArg MapSt.committed h :)

theorem mapSelect_mirror (s : State) : (mapSelect s).map.mirror = some (mapSelect s).map.committed := by
  rw [mapSelect_eq, publish_map]

theorem mapSelect_phase (s : State) : phase (mapSelect s) = PHASE_MAP := by
  rw [mapSelect_eq, phase_publish, phase_setPhase]
  rfl

/-- REGION_SWITCH_CLOSE takes the region out of the list and switches it on. -/
theorem closeSwitch_marks (s : State) (r : Nat) : ((closeSwitch s r).region r).switchOn = true ∧
    ((closeSwitch s r).region r).power = .waking ∧ (closeSwitch s r).boot.testing = setIns r s.boot.testing ∧
    r ∉ (closeSwitch s r).boot.toClose ∧ ∀ q, q ≠ r → (closeSwitch s r).region q = s.region q := by
  refine ⟨?_, ?_, ?_, ?_, fun q hq => ?_⟩
  · simp [closeSwitch_region]
  · simp [closeSwitch_region]
  · rw [closeSwitch_boot]
  · simp [closeSwitch_boot]
  · rw [closeSwitch_region, if_neg hq]

/-- What READY writes first: BRINGUP shows it, and the start is over. -/
def readyShown (s : State) : State :=
  (putElapsed (setPhase s PHASE_READY)).updBoot (fun b => { b with
    active := false, retestReq := [], barred := [], runLinks := [] })

/-- After the anchor is determined, what READY asks for leaves the start and the quarry map alone. -/
theorem ready_ev (s : State) :
    Ev (others [.boot, .mapRecord, .mapEntries]) (setAnchor (readyShown s) s.map.working) (ready s) := by
  refine Ev.ite (ev_startRegion ?asked ?_ _ _ _).fst ?asked
  case asked =>
    refine ev_actOnPending (ev_wakeZeroing (Ev.foldl (ev_raise (Ev.refl _) ?_ _ _) _ _
      (fun _ _ hu => Ev.ite hu (ev_requestStop hu ?_ _ _ _ _))) ?_) ?_
    all_goals decide
  all_goals decide

theorem ready_roundOpen (s : State) : (ready s).boot.roundOpen = s.boot.roundOpen := by
  rw [same_of_others (ready_ev s) .boot (by decide)]
  rfl

/-- The entries that the end of the rounds records. -/
def roundsRecorded (s : State) : State :=
  let s := (allRegions.filter (strandAtEnd s)).foldl (fun s r =>
    s.updEntry r (fun e => { e with state := .stranded, cause := .noPath })) s
  if s.boot.warm then applyRetests s else coldRecord s

theorem roundsRecorded_ev (s : State) : Ev (parts [.mapEntries]) s (roundsRecorded s) := by
  refine Ev.ite (ev_applyRetests ?stranded ?_) (ev_coldRecord ?stranded ?_)
  case stranded => exact Ev.foldl (Ev.refl s) _ _ (fun _ _ hu => ev_State_updEntry hu (by decide) _ _)
  all_goals decide

/-- At the end of the rounds no round is opened: READY, and the beginning of a write, touch other fields of the start. -/
theorem roundsOver_roundOpen (s : State) : (roundsOver s).boot.roundOpen = s.boot.roundOpen := by
  have hrec : (roundsRecorded s).boot = s.boot := (roundsRecorded_ev s).frame .boot (by decide)
  have h (c : Prop) [Decidable c] : (if c then ready (roundsRecorded s)
      else beginWrite (setPhase (roundsRecorded s) PHASE_COMMIT) true).boot.roundOpen = s.boot.roundOpen := by
    split
    · rw [ready_roundOpen, hrec]
    · exact congrArg Boot.roundOpen hrec
  exact h _

/-! ## O11: the link tests of a round -/

/-- The fault flag of an entry's link to the east, or to the south. -/
def faultFlag (east : Bool) (e : QEntry) : Bool := if east then e.linkE else e.linkS

/-- A fault flag that is set stays set when a link is recorded as faulty. -/
theorem faultFlag_setLinkFault {s : State} {east : Bool} {q : Nat} (h : faultFlag east (s.entry q) = true) (r d : Nat) :
    faultFlag east ((setLinkFault s r d).entry q) = true := by
  have hupd (n : Nat) {f : QEntry → QEntry} (hf : ∀ e, faultFlag east e = true → faultFlag east (f e) = true) :
      faultFlag east ((s.updEntry n f).entry q) = true := by
    by_cases hq : q = n
    · rw [hq, entry_updEntry_self]
      exact hf _ (hq ▸ h)
    · rwa [entry_updEntry_ne _ _ _ _ hq]
  have hE (n : Nat) := hupd n (f := fun e => { e with linkE := true }) (by cases east <;> simp [faultFlag])
  have hS (n : Nat) := hupd n (f := fun e => { e with linkS := true }) (by cases east <;> simp [faultFlag])
  unfold setLinkFault
  split
  · exact hE r
  · exact hS r
  · split
    · exact hE _
    · exact h
  · split
    · exact hS _
    · exact h
  · exact h

/-- The direction of a link from its region. -/
def linkDir (l : LinkName) : Nat := if l.east then 2 else 3

/-- The quarry map records the link as faulty. -/
def Faulty (s : State) (l : LinkName) : Prop := linkFaulty s l.region (linkDir l) = true

theorem faulty_iff (s : State) (l : LinkName) : Faulty s l ↔ faultFlag l.east (s.entry l.region) = true := by
  unfold Faulty linkDir
  cases l.east <;> rfl

theorem Faulty.setLinkFault {s : State} {l : LinkName} (h : Faulty s l) (r d : Nat) : Faulty (setLinkFault s r d) l :=
  (faulty_iff _ l).mpr (faultFlag_setLinkFault ((faulty_iff s l).mp h) r d)

theorem faulty_setLinkFault (s : State) (l : LinkName) : Faulty (setLinkFault s l.region (linkDir l)) l := by
  rw [faulty_iff, linkDir]
  cases l.east
  · exact linkS_updEntry_self s l.region (fun e => { e with linkS := true })
  · exact linkE_updEntry_self s l.region (fun e => { e with linkE := true })

/-- Routes are computed anew without a change of the quarry map. -/
theorem faulty_reroute {s : State} {l : LinkName} (h : Faulty s l) (bad : List Nat → Bool) (hold : Bool) :
    Faulty (reroute s bad hold) l := by
  have hmap := entry_same (same_of_others (l := [.mapEntries]) (ev_reroute (Ev.refl s) (by decide) bad hold) .mapEntries
    (by decide)) l.region
  rwa [faulty_iff, hmap, ← faulty_iff]

theorem Faulty.failLink {s : State} {l : LinkName} (h : Faulty s l) (k : LinkName) : Faulty (failLink s k) l := by
  unfold Machine.failLink
  dsimp only
  split
  · exact h
  · exact faulty_reroute (h.setLinkFault _ _) _ _

theorem faulty_failLink {s : State} {l : LinkName} (h : sameRound s l = true) (u : State) : Faulty (failLink u l) l := by
  unfold sameRound at h
  unfold failLink
  dsimp only
  split at h
  · next n hn =>
    rw [hn]
    exact faulty_reroute (faulty_setLinkFault u l) _ _
  · cases h

theorem faulty_failLinks {s : State} (ls : List LinkName) (u : State) (hs : ∀ l ∈ ls, sameRound s l = true) (l : LinkName)
    (hl : l ∈ ls ∨ Faulty u l) : Faulty (ls.foldl failLink u) l := by
  induction ls generalizing u with
  | nil => exact hl.resolve_left List.not_mem_nil
  | cons k ls ih =>
    refine ih _ (fun x hx => hs x (List.mem_cons_of_mem _ hx)) ?_
    rcases hl with hl | hl
    · rcases List.mem_cons.mp hl with rfl | hl
      · exact .inr (faulty_failLink (hs l List.mem_cons_self) u)
      · exact .inl hl
    · exact .inr (hl.failLink k)

/-- Settles O11: the map is selected and published, a round opens with the regions of `roundSet`, its switches close one by
one, and at its end the failed links are recorded. -/
theorem mapAndRounds : Obligations.MapAndRounds := by
  refine ⟨fun s hact hread hvaon => ?_, fun s hact hpaused hvbus hread hopen hphase hset => ?_,
    fun s r hhead hfuse => ?_, fun s htested => ?_, fun s failed htested => ?_⟩
  · refine completes_guardDo (execQuarryMapSelect s) rfl rfl (by simp [hact, hread, hvaon]) ⟨?_, mapSelect_phase s,
      mapSelect_mirror s, mapSelect_committed s⟩
    rw [mapSelect_boot]
  · refine completes_guardDo (execTestRoundBegin s) rfl rfl
      (by simpa [hact, hpaused, hvbus, hread, hopen, hset] using hphase) ⟨rfl, rfl, rfl, ?_, rfl⟩
    exact (phase_setF (setPhase s PHASE_ROUND) (f := BRINGUP_PHASE_ROUND) (by decide) _ _).trans (phase_setPhase _ _)
  · exact completes_guardDo (execRegionSwitchClose r s) rfl rfl (by simp [hhead, hfuse]) (closeSwitch_marks s r)
  · refine completes_guardDo (execRoundComplete s) rfl rfl htested ⟨?_, fun hset => ?_⟩
    · unfold roundEnds
      dsimp only
      split
      · exact roundsOver_roundOpen _
      · rfl
    · exact if_neg (fun he => hset (List.isEmpty_iff.mp he))
  · refine completes_guardDo (execSameRoundLinkTest failed s) rfl rfl htested ⟨fun l hl hsame => ?_, fun hnil => ?_⟩
    · exact faulty_failLinks (s := s) _ s (fun x hx => (List.mem_filter.mp hx).2) l (.inl (List.mem_filter.mpr ⟨hl, hsame⟩))
    · rw [hnil]
      rfl

end Sys2Proof.FirstLight

/-! ## O12: a self-test and its result -/

namespace Sys2Proof.FirstLight

open Sys2Proof Sys2Proof.Machine

section

variable (s : State) (r : Nat)

/-- Spares that take the place of bad faces leave the entry's state alone. -/
theorem state_backSlots (e : QEntry) : (backSlots r e).1.state = e.state := by
  have hslot (x : QEntry × Nat) (n : Nat) : (backSlot r x n).1.state = x.1.state := by
    unfold backSlot
    dsimp only
    split
    · split <;> rfl
    · rfl
  have hfold : ∀ (l : List Nat) (x : QEntry × Nat), (l.foldl (backSlot r) x).1.state = x.1.state := by
    intro l
    induction l with
    | nil => exact fun _ => rfl
    | cons n l ih => exact fun x => (ih _).trans (hslot x n)
  exact hfold _ _

theorem testFaces_boot (t : SelfTest) : (testFaces s r t).boot = s.boot :=
  same_of_others (l := [.boot]) (ev_testFaces (Ev.refl s) (by decide) r t) .boot (by decide)

theorem state_testFaces (t : SelfTest) : ((testFaces s r t).entry r).state = (s.entry r).state := by
  unfold testFaces
  split
  · rfl
  · unfold markBad
    have hcount (u : State) (n : Nat) : (addF u bringupPg BRINGUP_FACES_SPARES_USED n).entry r = u.entry r :=
      entry_same (Ev.frame (m := parts [.fields]) (ev_addF (Ev.refl u) (by decide) _ _ _) .mapEntries (by decide)) r
    dsimp only
    split <;> simp [hcount, state_backSlots]

theorem state_setLinkFault (d q : Nat) : ((setLinkFault s r d).entry q).state = (s.entry q).state := by
  have hE (n : Nat) := updEntry_keeps QEntry.state (fun _ _ => rfl) s n q (f := fun e => { e with linkE := true }) rfl
  have hS (n : Nat) := updEntry_keeps QEntry.state (fun _ _ => rfl) s n q (f := fun e => { e with linkS := true }) rfl
  unfold setLinkFault
  split
  · exact hE r
  · exact hS r
  · split
    · exact hE _
    · rfl
  · split
    · exact hS _
    · rfl
  · rfl

/-- The links of a test that failed, as the quarry map records them. -/
def testLinks (t : SelfTest) : State :=
  ((passedDirs s r).filter (testLinkFailed t)).foldl (fun u d => setLinkFault u r d) s

theorem testLinks_boot (t : SelfTest) : (testLinks s r t).boot = s.boot :=
  Ev.frame (m := parts [.mapEntries]) (Ev.foldl (Ev.refl s) _ _ (fun _ _ hu => ev_setLinkFault hu (by decide) r _)) .boot
    (by decide)

theorem state_testLinks (t : SelfTest) (q : Nat) : ((testLinks s r t).entry q).state = (s.entry q).state := by
  have hfold : ∀ (l : List Nat) (u : State),
      ((l.foldl (fun u d => setLinkFault u r d) u).entry q).state = (u.entry q).state := by
    intro l
    induction l with
    | nil => exact fun _ => rfl
    | cons d l ih => exact fun u => (ih _).trans (state_setLinkFault u r d q)
  exact hfold _ _

/-- A test of which a check failed. -/
theorem selfTestEnd_of_cause {t : SelfTest} {c : QCause} (h : testCause s.boot.warm t = some c) :
    selfTestEnd s r t = testFail (testFaces s r t) r c := by
  simp only [selfTestEnd, testFaces_boot, h]

/-- A test without a failed check goes on with the links to the regions that passed before. -/
theorem selfTestEnd_of_none {t : SelfTest} (h : testCause s.boot.warm t = none) : selfTestEnd s r t =
    if s.boot.nextRound ≤ 1 || (passedDirs s r).any (fun d => !testLinkFailed t d) then
      testPass (testLinks (testFaces s r t) r t) r t
    else logPower (testOff ((testLinks (testFaces s r t) r t).updBoot (fun b => { b with
      linkTried := b.linkTried ++ (passedDirs s r).filterMap (fun d => (neighbour r d).map (fun n => (r, n))) })) r)
      r 11 0 0 := by
  have hdirs : passedDirs (testFaces s r t) r = passedDirs s r := by simp only [passedDirs, testFaces_boot]
  have hlinks := testLinks_boot (testFaces s r t) r t
  simp only [testLinks, hdirs] at hlinks ⊢
  simp only [selfTestEnd, testFaces_boot, hdirs, hlinks, h]

theorem testFail_marks (c : QCause) : (testFail s r c).boot.running = setDel r s.boot.running ∧
    ((testFail s r c).entry r).state = .failed ∧ ((testFail s r c).entry r).cause = c ∧
    ((testFail s r c).region r).power = .stop ∧ ((testFail s r c).region r).switchOn = false := by
  simp [testFail, testOff]

/-- What follows the change of its power leaves a region in Run. -/
theorem inRun_enterRun (lockUs cause : Nat) : inRun (enterRun s r lockUs cause) r = true := by
  have hafter (u : State) (f : RegionSt → RegionSt) (hf : (f (u.region r)).power = .run) :
      inRun (logPower (raise (installRoutes (blockEntersRun (u.updRegion r f) r)) (powerPg r) 1) r cause 0 0) r = true := by
    have hblock := ev_installRoutes (m := others [.regions]) (ev_blockEntersRun (Ev.refl (u.updRegion r f)) (by decide) r)
      (by decide)
    simp only [inRun, logPower_region, raise_region]
    rw [region_same (same_of_others hblock .regions (by decide)), region_updRegion, if_pos rfl, hf]
    rfl
  exact hafter _ _ rfl

theorem enterRun_boot (lockUs cause : Nat) : (enterRun s r lockUs cause).boot = s.boot :=
  same_of_others (l := [.boot]) (ev_enterRun (Ev.refl s) (by decide) r lockUs cause) .boot (by decide)

theorem enterRun_entry (lockUs cause q : Nat) : (enterRun s r lockUs cause).entry q = s.entry q :=
  entry_same (same_of_others (l := [.mapEntries]) (ev_enterRun (Ev.refl s) (by decide) r lockUs cause) .mapEntries
    (by decide)) q

theorem testPass_marks (t : SelfTest) : (testPass s r t).boot.running = setDel r s.boot.running ∧
    ((testPass s r t).entry r).state = .healthy ∧ ((testPass s r t).entry r).cause = .none ∧
    inRun (testPass s r t) r = true := by
  unfold testPass
  dsimp only
  refine ⟨?_, ?_, ?_, inRun_enterRun _ _ _ _⟩
  · rw [enterRun_boot]
    split <;> simp
  · rw [enterRun_entry]
    split <;> simp
  · rw [enterRun_entry]
    split <;> simp

end

/-- Settles O12, by the outcome of the test. -/
theorem selfTestResult : Obligations.SelfTestResult := by
  refine ⟨fun s r htest hon hrun => completes_guardDo (execSelfTestBegin r s) rfl rfl (by simp [htest, hon, hrun]) rfl,
    fun s r res hrun => completes_guardDo (execSelfTestDone r res s) rfl rfl (by simp [hrun]) ?_⟩
  have hfaces := testFaces_boot s r res
  have hlinks := testLinks_boot (testFaces s r res) r res
  cases hc : testCause s.boot.warm res with
  | some c =>
    rw [selfTestEnd_of_cause s r hc, ← hfaces]
    exact testFail_marks _ r c
  | none =>
    have hpass : (s.boot.nextRound ≤ 1 || (passedDirs s r).any (fun d => !testLinkFailed res d)) = true ↔
        (s.boot.nextRound ≤ 1 ∨ ∃ d ∈ passedDirs s r, testLinkFailed res d = false) := by simp
    rw [selfTestEnd_of_none s r hc]
    dsimp only
    by_cases h : s.boot.nextRound ≤ 1 ∨ ∃ d ∈ passedDirs s r, testLinkFailed res d = false
    · rw [if_pos (hpass.mpr h), if_pos h, ← hfaces, ← hlinks]
      exact testPass_marks _ r res
    · rw [if_neg (fun hp => h (hpass.mp hp)), if_neg h]
      simp [testOff, hlinks, hfaces, state_testLinks, state_testFaces]

end Sys2Proof.FirstLight

/-! ## O13: the quarry map is written and committed, or the start halts -/

namespace Sys2Proof.FirstLight

open Sys2Proof Sys2Proof.Machine

/-- The record `q` is committed and shown; it stands written in the copy that the flag `b` names. -/
structure Written (q : QRec) (b : Bool) (s : State) : Prop where
  committed : s.map.committed = q
  writing : s.map.writing = none
  mirror : s.map.mirror = some q
  selB : s.map.selB = b
  copy : (if b then s.map.copyB else s.map.copyA) = QCopy.written q

section

variable {q : QRec} {b : Bool} {s t : State}

/-- What leaves the record alone leaves it written. -/
theorem Written.ev (h : Written q b s) (k : Ev (others [.mapRecord]) s t) : Written q b t := by
  have hrec : t.map.record = s.map.record := same_of_others k .mapRecord (by decide)
  have hA : t.map.copyA = s.map.copyA := (congrArg MapSt.copyA hrec :)
  have hB : t.map.copyB = s.map.copyB := (congrArg MapSt.copyB hrec :)
  exact ⟨(congrArg MapSt.committed hrec :).trans h.committed, (congrArg MapSt.writing hrec :).trans h.writing,
    (congrArg MapSt.mirror hrec :).trans h.mirror, (congrArg MapSt.selB hrec :).trans h.selB, by rw [hA, hB, h.copy]⟩

/-- The anchor is no part of what a write shows. -/
theorem Written.setAnchor (h : Written q b s) (hmap : t.map = s.map) (p : QRec) : Written q b (setAnchor t p) := by
  obtain ⟨h1, h2, h3, h4, h5⟩ := h
  rw [← hmap] at h1 h2 h3 h4 h5
  exact ⟨h1, h2, h3, h4, h5⟩

theorem Written.ready (h : Written q b s) : Written q b (ready s) :=
  (h.setAnchor (t := readyShown s) rfl _).ev ((ready_ev s).widen (by decide))

end

/-- The record as it is committed: the copy written is selected. -/
def committedMap (m : MapSt) (q : QRec) : MapSt :=
  let m := if m.selB then { m with copyA := QCopy.written q, selB := false }
    else { m with copyB := QCopy.written q, selB := true }
  { m with committed := q, writing := none }

/-- A commit before its events are logged. -/
def mapCommitted (s : State) (q : QRec) : State :=
  let s := s.updMap (fun m => committedMap m q)
  publish (setAnchor (s.updMap (fun m => { m with changed := changedSince s q })) q)

theorem written_mapCommitted (s : State) (q : QRec) : Written q (!s.map.selB) (mapCommitted s q) := by
  obtain ⟨l, a, hmap⟩ : ∃ l a, (mapCommitted s q).map = { committedMap s.map q with
      changed := l, anchor := a, mirror := some q } := by
    exact ⟨(mapCommitted s q).map.changed, (mapCommitted s q).map.anchor, by
      simp only [mapCommitted, publish_map, setAnchor, updMap_map, committedMap]⟩
  constructor <;> simp only [hmap, committedMap] <;> cases s.map.selB <;> rfl

theorem written_commitMap (s : State) (q : QRec) : Written q (!s.map.selB) (commitMap s q) :=
  (written_mapCommitted s q).ev (ev_logStates (ev_logRec (ev_raise (Ev.refl _) (by decide) _ _) (by decide) _ _ _ _)
    (by decide) _)

/-- What a halt shows first. -/
def haltShown (s : State) : State :=
  let s := putElapsed (setPhase (s.updMap (fun m => { m with writing := none })) PHASE_HALTED)
  raise { s.updBoot (fun b => { b with active := false, paused := false }) with wakeQ := [] } bringupPg 6

/-- After a halt PHASE is written no more: the regions stop, and the switches stay. -/
theorem halt_marks (s : State) : (halt s).map.writing = none ∧ phase (halt s) = PHASE_HALTED ∧
    (halt s).boot.active = false ∧ (halt s).map.committed = s.map.committed := by
  have hstops : Ev (others [.fields, .mapRecord, .boot]) (haltShown s) (halt s) :=
    Ev.foldl (Ev.foldl (Ev.refl _) _ _ (fun _ _ hu => ev_State_updRegion hu (by decide) _ _)) _ _
      (fun _ _ hu => Ev.ite hu (ev_requestStop hu (by decide) _ _ _ _))
  have hsame := same_of_others hstops
  have hrec : (halt s).map.record = (haltShown s).map.record := hsame .mapRecord (by decide)
  have hphase : phase (halt s) = phase (haltShown s) := getF_of_fields (hsame .fields (by decide)) _ _
  have hmap : (haltShown s).map = { s.map with writing := none } := raise_map _ _ _
  rw [hmap] at hrec
  refine ⟨(congrArg MapSt.writing hrec :), hphase.trans ?_, ?_, (congrArg MapSt.committed hrec :)⟩
  · exact (phase_raise _ _ _).trans ((phase_setF _ (by decide) _ _).trans (phase_setPhase _ _))
  · rw [hsame .boot (by decide)]
    exact congrArg Boot.active (raise_boot _ _ _)

theorem qmapWriteDone_writing {s : State} {q : QRec} {n : Nat} (h : s.map.writing = some (q, n)) (ok : Bool) :
    execQmapWriteDone ok s = guardDo (s.carrier.vaon == .up) (fun s => writeEnds s q n ok) s := by
  simp only [execQmapWriteDone, h]

/-- Settles O13, by the readback: a write is begun, repeated, given up, or committed and shown. -/
theorem quarryMapWrites : Obligations.QuarryMapWrites := by
  refine ⟨fun s hvaon hact hphase hwr hch => ?_, fun s q hvaon hwr => ?_, fun s q hvaon hwr => ?_,
    fun s q n hvaon hwr => ?_⟩
  · refine completes_guardDo (execQmapCommit s) rfl rfl (by simp [hvaon, hact, hphase, hwr, hch]) ?_
    have honly : Only [.mapRecord] s (beginWrite s false) := only_of_ev (ev_beginWrite (Ev.refl s) (by decide) false)
    refine ⟨?_, ?_, ?_, ?_, ?_, honly⟩
    all_goals cases hsel : s.map.selB <;> simp [beginWrite, hsel, QCopy.valid, QCopy.torn]
  · refine completes_guardDo (execQmapWriteDone false s) rfl (qmapWriteDone_writing hwr false) (by simp [hvaon]) ?_
    rfl
  · exact completes_guardDo (execQmapWriteDone false s) rfl (qmapWriteDone_writing hwr false) (by simp [hvaon])
      (halt_marks s)
  · refine completes_guardDo (execQmapWriteDone true s) rfl (qmapWriteDone_writing hwr true) (by simp [hvaon]) ?_
    have h : Written q (!s.map.selB) (writeEnds s q n true) := by
      have hc := written_commitMap s q
      unfold writeEnds
      rw [if_pos rfl]
      dsimp only
      split
      · exact hc.ready
      · exact hc.ev (ev_restoreConnectivity (ev_strand (Ev.refl _) (by decide) _) (by decide))
    refine ⟨h.committed, h.writing, h.mirror, h.selB, ?_, by simp [QCopy.valid, QCopy.written]⟩
    rw [← h.copy]
    cases s.map.selB <;> rfl

end Sys2Proof.FirstLight

/-! ## O14: trips and fuses -/

namespace Sys2Proof.FirstLight

open Sys2Proof Sys2Proof.Machine

section

variable (s : State) (r : Nat)

theorem tripInTest_first (h : tget 0 s.boot.trips r = 0) : ((tripInTest s r).region r).switchOn = false ∧
    r ∈ (tripInTest s r).boot.retrying ∧ tget 0 (tripInTest s r).boot.trips r = 1 ∧
    ∀ q, (tripInTest s r).entry q = s.entry q := by
  simp [tripInTest, h, mem_setIns]

/-- An isolated region reads so, is off and in Stop. -/
theorem isolate_marks (cause : QCause) (fused : Bool) : ((isolate s r cause fused).entry r).state = .isolated ∧
    ((isolate s r cause fused).entry r).cause = cause ∧ ((isolate s r cause fused).entry r).fused = fused ∧
    ((isolate s r cause fused).region r).switchOn = false ∧ ((isolate s r cause fused).region r).power = .stop := by
  obtain ⟨hpower, hswitch, hentry⟩ := down_isolate s r cause fused
  exact ⟨by simp [hentry, asIsolated], by simp [hentry, asIsolated], by simp [hentry, asIsolated], hswitch, hpower⟩

/-- A failed region reads so, is off and in Stop. -/
theorem failRegion_marks (cause : QCause) (trip : Nat) : ((failRegion s r cause trip).entry r).state = .failed ∧
    ((failRegion s r cause trip).entry r).cause = cause ∧ ((failRegion s r cause trip).region r).switchOn = false ∧
    ((failRegion s r cause trip).region r).power = .stop := by
  obtain ⟨hpower, hswitch, hentry⟩ := down_failRegion s r cause trip
  exact ⟨by simp [hentry, asFailed], by simp [hentry, asFailed], hswitch, hpower⟩

theorem tripInTest_second (h : tget 0 s.boot.trips r = 1) : ((tripInTest s r).entry r).state = .isolated ∧
    ((tripInTest s r).entry r).cause = .overcurrent ∧ ((tripInTest s r).region r).switchOn = false ∧
    ((tripInTest s r).region r).power = .stop := by
  unfold tripInTest
  rw [h]
  obtain ⟨hstate, hcause, -, hdown⟩ := isolate_marks _ r .overcurrent false
  exact ⟨hstate, hcause, hdown⟩

end

/-- Settles O14, by the trip: the first, the second, one outside the tests; then the fuse. -/
theorem tripsAndFuses : Obligations.TripsAndFuses := by
  refine ⟨fun s r hr hon htest h0 => ?_, fun s r hr hon htest h1 => ?_, fun s r hr hon htest => ?_, fun s r hretry => ?_,
    fun s r isOpen hst hcause htrips => ?_, fun s r hr hfuse => ?_⟩
  · refine completes_guardDo (execSwitchTrip r s) rfl rfl (by simp [hon, hr]) ?_
    rw [if_pos (by simp [htest])]
    exact tripInTest_first s r h0
  · refine completes_guardDo (execSwitchTrip r s) rfl rfl (by simp [hon, hr]) ?_
    rw [if_pos (by simp [htest])]
    exact tripInTest_second s r h1
  · refine completes_guardDo (execSwitchTrip r s) rfl rfl (by simp [hon, hr]) ?_
    rw [if_neg (by simp [htest])]
    exact failRegion_marks s r .overcurrent 1
  · exact completes_guardDo (execTripRetry r s) rfl rfl (by simp [hretry]) rfl
  · refine completes_guardDo (execFuseConfirm r isOpen s) rfl rfl (by simp [hst, hcause, htrips]) ?_
    have honly : Ev (parts [.supply, .mapEntries]) s (if isOpen then
        (s.updEntry r (fun e => { e with fused := true })).updCarrier (fun c => { c with fusesOpen := setIns r c.fusesOpen })
      else s.updEntry r (fun e => { e with fused := false })) :=
      Ev.ite (Ev.updCarrier (ev_State_updEntry (Ev.refl s) (by decide) _ _) _ (.inl (by decide)) (.inr fun _ => rfl))
        (ev_State_updEntry (Ev.refl s) (by decide) _ _)
    cases isOpen with
    | true =>
      refine ⟨by simp, by simp [hst], fun _ => by simp [mem_setIns], by simp, fun q hq => ?_, only_of_ev honly⟩
      simpa using entry_updEntry_ne _ _ _ _ hq
    | false =>
      refine ⟨by simp, by simp [hst], by simp, by simp, fun q hq => ?_, only_of_ev honly⟩
      simpa using entry_updEntry_ne _ _ _ _ hq
  · refine completes_guardDo (execFuseSelfOpen r s) rfl rfl (by simp [hr, hfuse]) ?_
    obtain ⟨hstate, -, hfused, hdown⟩ :=
      isolate_marks (s.updCarrier (fun c => { c with fusesOpen := setIns r c.fusesOpen })) r .overcurrent true
    refine ⟨?_, hstate, hfused, hdown⟩
    rw [fusesOpen_of_ev (ev_isolate (Ev.refl _) (by decide) _ _ _)]
    exact mem_setIns.mpr (.inl rfl)

end Sys2Proof.FirstLight

/-! ## O15: VIN and VBUS -/

namespace Sys2Proof.FirstLight

open Sys2Proof Sys2Proof.Machine

/-! ### Stops that are asked for -/

section

variable {s : State} {r : Nat} {force : Bool}

/-- A region in Run that is asked to stop has its stop waiting, or in its handshake. -/
theorem stopAsked_requestStop (h : inRun s r = true) (cause : Nat) (idle : Bool) :
    StopAsked (requestStop s r force cause idle) r force := by
  have hp : (s.region r).power = .run := by simpa [inRun] using h
  unfold requestStop
  dsimp only
  rw [hp]
  cases hhs : (s.region r).hs with
  | some x => exact .inl ⟨{ x with force := x.force || force }, by simp, fun hf => by simp [hf]⟩
  | none =>
    refine .inr ?_
    dsimp only
    split
    · next hany =>
      obtain ⟨q, hq, hr⟩ := List.any_eq_true.mp hany
      have hr : q.region = r := by simpa using hr
      exact ⟨{ q with force := q.force || force }, List.mem_map.mpr ⟨q, hq, if_pos hr⟩, hr, fun hf => by simp [hf]⟩
    · exact ⟨⟨r, force, cause, idle⟩, List.mem_append_right _ List.mem_cons_self, rfl, id⟩

theorem StopAsked.of_same {t : State} (h : StopAsked s r force) (hr : t.regions = s.regions) (hq : t.stopQ = s.stopQ) :
    StopAsked t r force := by
  unfold StopAsked at h ⊢
  rwa [region_same (show StatePart.regions.same s t from hr), hq]

/-- A stop asked for stays asked for when a stop is asked for, of this region or another. -/
theorem StopAsked.requestStop (h : StopAsked s r force) (q : Nat) (f : Bool) (cause : Nat) (idle : Bool) :
    StopAsked (requestStop s q f cause idle) r force := by
  have hupd {g : RegionSt → RegionSt} (hg : ∀ y, (s.region q).hs = some y → (force = true → y.force = true) →
      ∃ z, (g (s.region q)).hs = some z ∧ (force = true → z.force = true)) : StopAsked (s.updRegion q g) r force := by
    rcases h with ⟨y, hy, hf⟩ | hwait
    · by_cases hr : r = q
      · exact .inl (by rw [region_updRegion, if_pos hr]; exact hg y (hr ▸ hy) hf)
      · exact .inl ⟨y, by rw [region_updRegion, if_neg hr]; exact hy, hf⟩
    · exact .inr hwait
  unfold Machine.requestStop
  dsimp only
  split
  · exact h
  · exact hupd (fun y hy hf => ⟨y, hy, hf⟩)
  · next hhs =>
    exact hupd (fun y hy hf => ⟨_, rfl, fun hforce => by simp [Option.some.inj (hhs.symm.trans hy), hf hforce]⟩)
  · split
    · rcases h with hh | ⟨y, hy, hr, hf⟩
      · exact .inl hh
      · refine .inr ⟨_, List.mem_map.mpr ⟨y, hy, rfl⟩, ?_, fun hforce => ?_⟩
        · split <;> exact hr
        · split
          · simp [hf hforce]
          · exact hf hforce
    · rcases h with hh | ⟨y, hy, hf⟩
      · exact .inl hh
      · exact .inr ⟨y, List.mem_append_left _ hy, hf⟩

/-- Each region in Run of a list is asked to stop, one after the other. -/
theorem stopAsked_foldl (cause : Nat) (idle : Bool) {l : List Nat} (hr : r ∈ l) (h : inRun s r = true) :
    StopAsked (l.foldl (fun u q => Machine.requestStop u q force cause idle) s) r force := by
  have hlater : ∀ (l : List Nat) (u : State), StopAsked u r force →
      StopAsked (l.foldl (fun u q => Machine.requestStop u q force cause idle) u) r force := by
    intro l
    induction l with
    | nil => exact fun _ hu => hu
    | cons q l ih => exact fun u hu => ih _ (StopAsked.requestStop hu q force cause idle)
  induction l generalizing s with
  | nil => exact absurd hr List.not_mem_nil
  | cons q l ih =>
    rcases List.mem_cons.mp hr with rfl | hr
    · exact hlater l _ (stopAsked_requestStop h cause idle)
    · exact ih hr (((standing_requestStop (.refl s) q force cause idle).inRun r).trans h)

end

/-! ### The rounds of a start that is interrupted -/

/-- The regions under test go to Stop. -/
def clearTests (s : State) : State :=
  s.boot.testing.foldl (fun s r => s.updRegion r (fun x => { x with power := .stop })) s

/-- The rounds that are given up, before the map is put back. -/
def clearMap (s : State) : State :=
  if phase s = PHASE_COMMIT then setPhase (s.updMap (fun m => { m with writing := none })) PHASE_ROUND else s

/-- Nothing of the rounds is left. -/
def noRounds (b : Boot) : Boot := { b with
  roundOpen := false, toClose := [], testing := [], running := [], retrying := [], passedBefore := [], passedNow := [],
  failed := [], linkTried := [], nextRound := 0 }

theorem clearRounds_eq (s : State) : clearRounds s = (restoreMap (clearMap (clearTests s))).updBoot noRounds := rfl

theorem clearTests_ev (s : State) : Ev (parts [.regions]) s (clearTests s) :=
  Ev.foldl (Ev.refl s) _ _ (fun _ _ hu => ev_State_updRegion hu (by decide) _ _)

theorem clearMap_ev (s : State) : Ev (parts [.fields, .mapRecord]) s (clearMap s) := by
  have hmap : Ev (parts [.fields, .mapRecord]) s (s.updMap (fun m => { m with writing := none })) :=
    Ev.updMap (Ev.refl s) _ (.inl (by decide)) (.inr fun _ => rfl)
  exact Ev.ite (ev_setPhase hmap (by decide) PHASE_ROUND) (Ev.refl s)

theorem clearRounds_boot (s : State) : (clearRounds s).boot = noRounds s.boot := by
  rw [clearRounds_eq, updBoot_boot, (restoreMap_ev _).frame .boot (by decide), (clearMap_ev _).frame .boot (by decide),
    (clearTests_ev s).frame .boot (by decide)]

/-- A region under test stops; its switch, and every other region, stay. -/
theorem clearTests_region (s : State) (q : Nat) : (clearTests s).region q =
    if q ∈ s.boot.testing then { s.region q with power := .stop } else s.region q := by
  unfold clearTests
  generalize s.boot.testing = l
  induction l generalizing s with
  | nil => simp
  | cons r l ih =>
    rw [List.foldl_cons, ih, region_updRegion]
    by_cases hq : q = r <;> by_cases hl : q ∈ l <;> simp_all

theorem clearRounds_standing (s : State) : Standing (clearTests s) (clearRounds s) := by
  rw [clearRounds_eq]
  exact (standing_restoreMap ((Standing.refl _).ev ((clearMap_ev _).widen (by decide)))).ev
    (ev_State_updBoot (Ev.refl _) (by decide) _)

theorem inRun_clearRounds {s : State} {r : Nat} (ht : r ∉ s.boot.testing) : inRun (clearRounds s) r = inRun s r := by
  rw [(clearRounds_standing s).inRun, inRun, clearTests_region, if_neg ht, inRun]

/-! ### VBUS goes -/

/-- Every region is in Stop with its switch open, and neither a wake nor a stop waits. -/
structure PowerOff (s : State) : Prop where
  stopped : ∀ r, present r = true → (s.region r).power = .stop ∧ (s.region r).switchOn = false
  wakeQ : s.wakeQ = []
  stopQ : s.stopQ = []

section

variable {s t : State}

theorem PowerOff.standing (h : PowerOff s) (hr : Standing s t) (hw : t.wakeQ = s.wakeQ) (hq : t.stopQ = s.stopQ) :
    PowerOff t :=
  ⟨fun r hp => by rw [hr.power, hr.switchOn]; exact h.stopped r hp, hw.trans h.wakeQ, hq.trans h.stopQ⟩

/-- What leaves regions and both queues alone keeps the power off. -/
theorem PowerOff.ev (h : PowerOff s) (k : Ev (others [.regions, .wakeQ, .stopQ]) s t) : PowerOff t :=
  h.standing (.of_regions (same_of_others k .regions (by decide))) (same_of_others k .wakeQ (by decide))
    (same_of_others k .stopQ (by decide))

theorem PowerOff.inRun (h : PowerOff s) {r : Nat} (hr : present r = true) : inRun s r = false := by
  simp [Machine.inRun, (h.stopped r hr).1]

theorem PowerOff.clearRounds (h : PowerOff s) : PowerOff (clearRounds s) := by
  have htests : PowerOff (clearTests s) := by
    refine ⟨fun r hr => ?_, ((clearTests_ev s).frame .wakeQ (by decide)).trans h.wakeQ,
      ((clearTests_ev s).frame .stopQ (by decide)).trans h.stopQ⟩
    rw [clearTests_region]
    split
    · exact ⟨rfl, (h.stopped r hr).2⟩
    · exact h.stopped r hr
  have hev := ev_clearRounds (m := others [.wakeQ, .stopQ]) (Ev.refl s) (by decide)
  refine htests.standing (clearRounds_standing s) ?_ ?_
  · exact (same_of_others hev .wakeQ (by decide)).trans ((clearTests_ev s).frame .wakeQ (by decide)).symm
  · exact (same_of_others hev .stopQ (by decide)).trans ((clearTests_ev s).frame .stopQ (by decide)).symm

theorem PowerOff.startAgain (h : PowerOff s) : PowerOff (startAgain s) := by
  unfold FirstLight.startAgain
  split
  · exact (h.ev (ev_State_updBoot (Ev.refl _) (by decide) _)).clearRounds.ev (ev_setPhase (Ev.refl _) (by decide) _)
  · exact h

/-- With no region in Run an erase takes no cable down. -/
theorem PowerOff.eraseFirst (h : PowerOff s) (opens : Bool) : PowerOff (eraseFirst s opens true) := by
  have hlinks : ∀ (l : List Nat) (u : State), PowerOff u → (∀ k ∈ l, present (aditRegion k) = true) →
      PowerOff (l.foldl (fun s k => if Machine.inRun s (aditRegion k) then linkDown s k 6 else s) u) := by
    intro l
    induction l with
    | nil => exact fun _ hu _ => hu
    | cons k l ih =>
      intro u hu hl
      have hk := hu.inRun (hl k List.mem_cons_self)
      refine ih _ ?_ (fun j hj => hl j (List.mem_cons_of_mem _ hj))
      simpa [hk] using hu
  refine hlinks _ _ (h.ev ?_) (by decide)
  exact ev_State_updWb (Ev.setF (ev_raise (Ev.setF (Ev.refl _) (by decide) _ _ _) (by decide) _ _) (by decide) _ _ _)
    (by decide) _

/-- A tamper that waits begins its erase at once, without waking regions, when VBUS is not there. -/
theorem PowerOff.tamperGoesOn (h : PowerOff s) (hv : s.carrier.vbus = .off) : PowerOff (tamperGoesOn s) := by
  unfold Machine.tamperGoesOn
  split
  · have hu := h.ev (ev_State_updWb (Ev.refl s) (by decide) (fun w => { w with tamper := false }))
    have hv : (s.carrier.vbus != .on) = true := by simp [hv]
    rw [hv, Bool.or_true]
    generalize s.updWb (fun w => { w with tamper := false }) = u at hu ⊢
    unfold eraseAsk
    split
    · exact hu.ev (ev_State_updWb (Ev.refl _) (by decide) _)
    · rw [eraseBegin_eq, if_pos rfl]
      exact hu.eraseFirst false
  · exact h

/-- A command to every present region is a command to each of them. -/
theorem region_foldl_updRegion (f : RegionSt → RegionSt) (l : List Nat) (hl : l.Nodup) (s : State) (r : Nat) :
    (l.foldl (fun s r => s.updRegion r f) s).region r = if r ∈ l then f (s.region r) else s.region r := by
  induction l generalizing s with
  | nil => simp
  | cons q l ih =>
    obtain ⟨hq, hl⟩ := List.nodup_cons.mp hl
    rw [List.foldl_cons, ih hl, region_updRegion]
    by_cases hr : r = q <;> simp_all

theorem lt_of_present {r : Nat} (h : present r = true) : r < 100 := by
  rw [present, Bool.and_eq_true, decide_eq_true_iff] at h
  exact h.1

theorem mem_allRegions {r : Nat} (h : present r = true) : r ∈ allRegions :=
  List.mem_filter.mpr ⟨List.mem_range.mpr (lt_of_present h), h⟩

/-- A region that goes to Stop with its switch open. -/
def regionOff (x : RegionSt) : RegionSt :=
  { x with power := .stop, switchOn := false, wakeFails := 0, wakeBackoff := false, stopHeld := none }

theorem powerOff_foldl (hw : s.wakeQ = []) (hq : s.stopQ = []) :
    PowerOff (allRegions.foldl (fun s r => s.updRegion r regionOff) s) := by
  have hev : Ev (parts [.regions]) s (allRegions.foldl (fun s r => s.updRegion r regionOff) s) :=
    Ev.foldl (Ev.refl s) _ _ (fun _ _ hu => ev_State_updRegion hu (by decide) _ _)
  refine ⟨fun r hr => ?_, (hev.frame .wakeQ (by decide)).trans hw, (hev.frame .stopQ (by decide)).trans hq⟩
  rw [region_foldl_updRegion regionOff allRegions (List.nodup_range.filter _), if_pos (mem_allRegions hr)]
  exact ⟨rfl, rfl⟩

/-- No wake and no stop waits. -/
def emptied (s : State) : State := { s with wakeQ := [], stopQ := [] }

theorem powerOff_vbusStops (cause : Nat) (s : State) : PowerOff (vbusStops cause s) := by
  have hlast (u : State) : PowerOff (allRegions.foldl (fun s r => s.updRegion r regionOff) (emptied u)) :=
    powerOff_foldl rfl rfl
  exact hlast ((runSet (powerGone s)).foldl (fun s r => logPower (leaveRun s r true false false) r cause 0 0)
    (powerGone s))

theorem powerOff_vbusDown (cause : Nat) (s : State) : PowerOff (vbusDown cause s) := by
  have hcut : Ev (parts [.supply, .hostPower, .outs]) (vbusStops cause s) (outputsOff (vbusCut (vbusStops cause s))) :=
    ev_outputsOff (Ev.updCarrier (Ev.refl _) _ (.inl (by decide)) (.inl (by decide))) (by decide)
  have hstart := ((powerOff_vbusStops cause s).ev (hcut.widen (by decide))).startAgain
  rw [vbusDown_eq]
  refine hstart.tamperGoesOn ?_
  have hsame := same_of_others (l := [.supply]) (startAgain_ev (ev_outputsOff (Ev.refl (vbusCut (vbusStops cause s)))
    (by decide)) (by decide)) .supply (by decide)
  have hvbus (u v : State) (h : StatePart.supply.same u v) : v.carrier.vbus = u.carrier.vbus := (congrArg Carrier.vbus h :)
  rw [hvbus _ _ hsame, vbusCut, updCarrier_carrier]

end

/-- What VBUS_OFF and VIN_OVERVOLTAGE have in common. -/
theorem vbusGone {s t : State} {o : Bool} (h : PowerOff t)
    (hc : t.carrier = { s.carrier with vbus := .off, hostPwrOk := false, overvolt := o }) :
    t.carrier.vbus = .off ∧ t.carrier.hostPwrOk = false ∧ t.carrier.vin = s.carrier.vin ∧
      t.carrier.vaon = s.carrier.vaon ∧ t.wakeQ = [] ∧ t.stopQ = [] ∧
      ∀ r, present r = true → (t.region r).power = .stop ∧ (t.region r).switchOn = false := by
  rw [hc]
  exact ⟨rfl, rfl, rfl, rfl, h.wakeQ, h.stopQ, h.stopped⟩

/-- A brownout before it asks the regions to stop. -/
def dimmed (s : State) : State :=
  if (raise s bringupPg 5).boot.active then
    clearRounds ((raise s bringupPg 5).updBoot (fun b => { b with paused := true }))
  else raise s bringupPg 5

theorem dimmed_boot (s : State) : (dimmed s).boot =
    if s.boot.active then noRounds { s.boot with paused := true } else s.boot := by
  unfold dimmed
  rw [raise_boot]
  split
  · rw [clearRounds_boot, updBoot_boot, raise_boot]
  · exact raise_boot _ _ _

theorem inRun_dimmed {s : State} {r : Nat} (hr : r ∉ s.boot.testing) : inRun (dimmed s) r = inRun s r := by
  have hraise : inRun (raise s bringupPg 5) r = inRun s r := by simp [inRun]
  unfold dimmed
  split
  · rw [inRun_clearRounds (by simpa using hr), ← hraise]
    rfl
  · exact hraise

theorem dimmed_ev (s : State) : Ev (others [.supply, .hostPower]) s (dimmed s) :=
  Ev.ite (ev_clearRounds (ev_State_updBoot (ev_raise (Ev.refl s) (by decide) _ _) (by decide) _) (by decide))
    (ev_raise (Ev.refl s) (by decide) _ _)

/-- Stops asked for touch the regions and their queue. -/
theorem stops_ev (s : State) (l : List Nat) (force : Bool) (cause : Nat) : Ev (parts [.regions, .stopQ]) s
    (l.foldl (fun s r => requestStop s r force cause false) s) :=
  Ev.foldl (Ev.refl s) _ _ (fun _ _ hu => ev_requestStop hu (by decide) _ _ _ _)

/-- A brownout after its VIN is set. -/
def brownedOut (s : State) : State := (runSet (dimmed s)).foldl (fun s r => requestStop s r false 7 false) (dimmed s)

theorem brownedOut_ev (s : State) : Ev (parts [.regions, .stopQ]) (dimmed s) (brownedOut s) := stops_ev _ _ _ _

theorem brownedOut_boot (s : State) : (brownedOut s).boot =
    if s.boot.active then noRounds { s.boot with paused := true } else s.boot :=
  ((brownedOut_ev s).frame .boot (by decide)).trans (dimmed_boot s)

theorem brownedOut_carrier (s : State) : (brownedOut s).carrier = s.carrier := by
  have hdim := same_of_others (dimmed_ev s)
  rw [carrier_same ((brownedOut_ev s).frame .supply (by decide)) ((brownedOut_ev s).frame .hostPower (by decide)),
    carrier_same (hdim .supply (by decide)) (hdim .hostPower (by decide))]

theorem stopAsked_brownedOut {s : State} {r : Nat} (hr : r ∈ runSet s) (ht : r ∉ s.boot.testing) :
    StopAsked (brownedOut s) r false := by
  obtain ⟨hmem, hrun⟩ := List.mem_filter.mp hr
  have hrun := (inRun_dimmed ht).trans hrun
  exact stopAsked_foldl 7 false (List.mem_filter.mpr ⟨hmem, hrun⟩) hrun

/-- A start that VAON does not supply does not become a warm one. -/
theorem warmStart_idle {s : State} {vin : Nat} (hv : vin ≤ 70000) (h : s.carrier.vaon = .off) :
    execWarmStart vin s = .next s := by
  have hoff : (VaonStage.off == VaonStage.up) = false := rfl
  simp only [execWarmStart, h, hoff, Bool.and_false, Bool.false_and, vinDo_idle hv]

/-- A warm start before the map is selected. -/
def warmFirst (s : State) : State :=
  setF { s.updCarrier (fun c => { c with vbus := .rising, overvolt := false }) with
    boot := { Boot.reset with active := true, warm := true, zeroTick := s.time } } bringupPg BRINGUP_PHASE_WARM 1

/-- A warm start after the map is selected leaves the supplies, the start, the map, the time and the beds alone. -/
theorem warmStart_ev (s : State) : Ev (others [.supply, .hostPower, .boot, .mapRecord, .mapEntries, .time, .beds])
    (mapSelect (warmFirst s)) (warmStart s) :=
  ev_logStart (ev_warmChains (ev_hostReset (Ev.refl _) (by decide)) (by decide)) (by decide) _

theorem warmStart_marks (s : State) : (warmStart s).carrier.vbus = .rising ∧ (warmStart s).boot.active = true ∧
    (warmStart s).boot.warm = true ∧ (warmStart s).boot.mapRead = true ∧ (warmStart s).time = s.time ∧
    (warmStart s).beds = s.beds ∧ (warmStart s).map.mirror = some (warmStart s).map.committed := by
  have hlast := same_of_others (warmStart_ev s)
  have hsel := same_of_others (l := [.supply, .hostPower, .time, .beds]) (ev_mapSelect (Ev.refl (warmFirst s)) (by decide))
  have hcarrier : (warmStart s).carrier = (warmFirst s).carrier := by
    rw [carrier_same (hlast .supply (by decide)) (hlast .hostPower (by decide)),
      carrier_same (hsel .supply (by decide)) (hsel .hostPower (by decide))]
  have hmap := map_same (hlast .mapRecord (by decide)) (hlast .mapEntries (by decide))
  have hboot : (warmStart s).boot = { (warmFirst s).boot with mapRead := true } :=
    (hlast .boot (by decide)).trans (mapSelect_boot _)
  rw [hcarrier, hboot, hmap]
  exact ⟨rfl, rfl, rfl, rfl, (hlast .time (by decide)).trans (hsel .time (by decide)),
    (hlast .beds (by decide)).trans (hsel .beds (by decide)), mapSelect_mirror _⟩

/-- Settles O15: stops that are asked for stay asked for, and what VBUS drops is dropped at the end of `vbusDown`. -/
theorem vinAndVbus : Obligations.VinAndVbus := by
  refine ⟨fun s vin hvin hvbus => ?_, fun s vin hlo hhi hvbus hact hpaused => ?_, fun s vin c hvbus hc => ?_,
    fun s hvbus => ?_, fun s vin hlo hhi hov hvaon hvbus hact hwr hch hphase => ?_⟩
  · refine completes_vinDo (f := brownedOut) (execBrownout vin s) rfl rfl (by omega) (by simp [hvin, hvbus])
      ⟨brownedOut_carrier _, fun r hr ht => stopAsked_brownedOut (s := setVin s vin) hr ht, fun hact => ?_, fun hact => ?_⟩
    · rw [brownedOut_boot, if_pos (show (setVin s vin).boot.active = true from hact)]
      exact ⟨rfl, rfl, rfl, rfl, rfl, rfl⟩
    · rw [brownedOut_boot, if_neg (by simp [setVin, hact])]
      rfl
  · exact completes_vinDo (execStartResume vin s) rfl rfl hhi (by simp [hlo, hvbus, hact, hpaused]) rfl
  · rcases hc with ⟨rfl, hlow⟩ | ⟨rfl, hhigh, hmax⟩
    · exact completes_vinDo (execVbusOff vin s) rfl rfl (by omega) (by simp [hlow, hvbus])
        (vbusGone (s := setVin s vin) (powerOff_vbusDown _ _) (carrier_vbusDown _ _))
    · refine completes_vinDo (execVinOvervoltage vin s) rfl rfl hmax (by simp [hhigh, hvbus])
        (vbusGone (s := setVin s vin) (o := true) ((powerOff_vbusDown 9 _).ev
          (Ev.updCarrier (Ev.refl _) _ (.inl (by decide)) (.inl (by decide)))) ?_)
      rw [updCarrier_carrier, carrier_vbusDown]
  · refine completes_guardDo (execVbusUndervoltage s) rfl rfl (by simp [hvbus]) ?_
    have hstops := stops_ev s (runSet s) true 15
    refine ⟨?_, ?_, ?_, fun r hr => ?_⟩
    · rw [logRec_carrier]
      exact carrier_same (hstops.frame .supply (by decide)) (hstops.frame .hostPower (by decide))
    · rw [logRec_faces]
      exact hstops.frame .faces (by decide)
    · rw [logRec_beds]
      exact hstops.frame .beds (by decide)
    · exact StopAsked.of_same (stopAsked_foldl 15 false hr (List.mem_filter.mp hr).2) (logRec_regions _ _ _ _ _)
        (logRec_stopQ _ _ _ _ _)
  · have hov : (!s.carrier.overvolt || decide (vin < 61000)) = true := by
      cases h : s.carrier.overvolt <;> simp_all
    exact completes_vinDo (execWarmStart vin s) rfl rfl hhi (by simp [hlo, hov, hvaon, hvbus, hact, hwr, hch, hphase])
      (warmStart_marks (setVin s vin))

/-! ## O16: VAON is lost -/

/-- Settles O16: without VAON the guard of a warm start fails, and that of a cold start holds. -/
theorem vaonLoss : Obligations.VaonLoss := by
  intro s vin hvin hvaon
  refine completes_vinDo (execVaonLoss vin s) rfl rfl (by omega) (by simp [hvin, hvaon]) ?_
  generalize (if (setVin s vin).carrier.vbus = .off then setVin s vin else vbusDown 7 (setVin s vin)) = u
  refine ⟨rfl, rfl, fun v hv => ?_, fun v hlo hhi => ?_⟩
  · exact warmStart_idle hv rfl
  · exact completes_vinDo (execColdStart v _) rfl rfl hhi (by simp [hlo]) ⟨rfl, rfl⟩

end Sys2Proof.FirstLight

/-! ## O59: REGION_CMD

A request of an operator that obeys the layout is answered with what its operation says; the answer and the log entry leave
the regions, the map and the start alone. -/

namespace Sys2Proof.FirstLight

open Sys2Proof Sys2Proof.Machine

section

variable {s : State} {m : Datagram} {x : Session}

theorem takeReq_asked (k : ReqRule) (h : Asked s m x) (hmine : k.mine m.bytes = true) :
    takeReq k m x s = runReq k x m.reqId m.bytes s := by
  have hgather : gather s k.op m = .whole m.bytes s := by simp [gather, h.header, h.single, h.whole]
  simp only [takeReq, h.first, hgather, hmine, if_true]

theorem completes_serve {i : Instr} {P : State → Prop} (k : ReqRule) (e : exec i s = serve k m s) (h : Asked s m x)
    (hmine : k.mine m.bytes = true) (hP : P (runReq k x m.reqId m.bytes s)) : Completes i s P := by
  refine completes_guardDo (c := mgmtUp s) (f := takeReq k m x) (serve k m s) e ?_ h.up ?_
  · simp only [serve, h.session]
  · rwa [takeReq_asked k h hmine]

/-- What the commands of REGION_CMD say of the state they answer with. -/
structure RegionEffect (s : State) (r n : Nat) (t : State) : Prop where
  hold : ∀ f, n = 4 + f → f < 2 → sound s r = true → (r = hostRegion → s.host.linkUp = false) →
    (t.region r).hold = true
  release : n = 6 → sound s r = true → (t.region r).hold = false ∧ (t.region r).holdForce = false
  retest : ∀ f, n = 7 + f → f < 2 → (s.entry r).state = .failed → (s.entry r).factory = false →
    (s.boot.active = false ∨ s.map.writing.isSome = true → (t.entry r).retest = decide (f = 0)) ∧
    (s.boot.active = true → s.map.writing = none → t.map = s.map ∧
      t.boot.retestReq = s.boot.retestReq ++ [(r, decide (f = 0))])

theorem RegionEffect.ev {r n : Nat} {t u : State} (h : RegionEffect s r n t)
    (k : Ev (others [.regions, .mapRecord, .mapEntries, .boot]) t u) : RegionEffect s r n u := by
  have hsame := same_of_others k
  have hregion := region_same (hsame .regions (by decide)) r
  have hentry := entry_same (hsame .mapEntries (by decide)) r
  have hmap := map_same (hsame .mapRecord (by decide)) (hsame .mapEntries (by decide))
  have hboot : u.boot = t.boot := hsame .boot (by decide)
  obtain ⟨h1, h2, h3⟩ := h
  refine ⟨?_, ?_, ?_⟩
  · rwa [hregion]
  · rwa [hregion]
  · rwa [hentry, hmap, hboot]

/-- The conclusion of a REGION_CMD, by the session and the phase. -/
def RegionAnswered (s : State) (r n : Nat) (m : Datagram) (x : Session) (busy : Bool) (eff : State × Nat × List Nat)
    (t : State) : Prop :=
  (x.operator = false → t = reply (logCommand s 0x10 r m.reqId 3 m.bytes) x.id 0x10 m.reqId 3 []) ∧
  (x.operator = true → busy = true → t = reply (logCommand s 0x10 r m.reqId 5 m.bytes) x.id 0x10 m.reqId 5 []) ∧
  (x.operator = true → busy = false →
    t = reply (logCommand eff.1 0x10 r m.reqId eff.2.1 m.bytes) x.id 0x10 m.reqId eff.2.1 eff.2.2 ∧ RegionEffect s r n t)

theorem regionCmd_answered {i : Instr} {r n : Nat} {busy : State → Bool} {eff : Nat → State → State × Nat × List Nat}
    (e : exec i s = serve (regionCmd n busy eff) m s) (ha : Asked s m x) (hb : m.bytes = [r, n, 0, 0])
    (hr : present r = true) (he : RegionEffect s r n (eff r s).1) :
    Completes i s (RegionAnswered s r n m x (busy s) (eff r s)) := by
  refine completes_serve (regionCmd n busy eff) e ha (by simp [regionCmd, hb]) ?_
  have hbad : (regionCmd n busy eff).bad m.bytes = false := by simp [regionCmd, hb, hr, pnum, leNum]
  have hregion : (regionCmd n busy eff).region m.bytes = r := by simp [regionCmd, hb]
  have heff : (regionCmd n busy eff).eff x m.bytes s = eff r s := by simp [regionCmd, hb]
  have hoper : (regionCmd n busy eff).oper = true := rfl
  have hbusy : (regionCmd n busy eff).busy s = busy s := rfl
  have hop : (regionCmd n busy eff).op = 0x10 := rfl
  refine ⟨fun hx => ?_, fun hx hbz => ?_, fun hx hbz => ?_⟩
  · simp [runReq, hoper, hregion, hop, hx]
  · simp [runReq, hoper, hbad, hregion, hbusy, hop, hx, hbz]
  · have hrun : runReq (regionCmd n busy eff) x m.reqId m.bytes s =
        reply (logCommand (eff r s).1 0x10 r m.reqId (eff r s).2.1 m.bytes) x.id 0x10 m.reqId (eff r s).2.1
          (eff r s).2.2 := by
      simp [runReq, hoper, hbad, hregion, heff, hbusy, hop, hx, hbz]
    rw [hrun]
    exact ⟨rfl, he.ev (ev_reply (ev_logCommand (Ev.refl _) (by decide) _ _ _ _ _) (by decide) _ _ _ _ _)⟩

end

section

variable (s : State) (r : Nat)

/-- WAKE and STOP say nothing of holds and tests. -/
theorem regionEffect_of_lt {n : Nat} (h : n < 4) (t : State) : RegionEffect s r n t :=
  ⟨fun f hf => by omega, fun hn => by omega, fun f hf => by omega⟩

theorem standing_holdRegion (force : Bool) : Standing (s.updRegion r (fun x => { x with
    hold := true, holdForce := force || (x.hold && x.holdForce) })) (holdRegion s r force) := by
  unfold holdRegion
  dsimp only
  generalize (s.updRegion r (fun x => { x with hold := true, holdForce := force || (x.hold && x.holdForce) })) = u
  have hlog (v : State) (h : Standing u v) : Standing u (logPower v r 12 0 0) :=
    h.trans (.of_regions (logPower_regions _ _ _ _ _))
  have hwake : Standing u { u with wakeQ := u.wakeQ.filter (fun w => !(w.region == r && !w.transit)) } := .refl u
  exact .ite (.ite (hlog u (.refl u)) (.refl u)) (.ite (.ite hwake (hlog _ hwake)) (standing_requestStop (.refl u) _ _ _ _))

theorem regionEffect_hold (force : Bool) {n : Nat} (hn : n = 4 ∨ n = 5) : RegionEffect s r n (holdCmd force r s).1 := by
  refine ⟨fun f hf hlt hsound hhost => ?_, fun h => by omega, fun f hf => by omega⟩
  have hguard : (!sound s r || (r == hostRegion && s.host.linkUp)) = false := by
    by_cases h : r = hostRegion
    · simp [hsound, hhost h]
    · simp [hsound, h]
  rw [holdCmd, if_neg (by simp [hguard]), (standing_holdRegion s r force).hold r, region_updRegion, if_pos rfl]

theorem regionEffect_release : RegionEffect s r 6 (releaseCmd r s).1 := by
  refine ⟨fun f hf hlt => by omega, fun _ hsound => ?_, fun f hf => by omega⟩
  have hrest (u : State) : (restoreConnectivity u).region r = u.region r :=
    region_same (same_of_others (l := [.regions]) (ev_restoreConnectivity (Ev.refl u) (by decide)) .regions (by decide)) r
  rw [releaseCmd, if_neg (by simp [hsound])]
  dsimp only
  rw [hrest]
  split <;> simp

theorem regionEffect_retest (f : Nat) (hf : f < 2) : RegionEffect s r (7 + f) (retestCmd (decide (f = 0)) r s).1 := by
  refine ⟨fun g hg => by omega, fun h => by omega, fun g hg hlt hst hfac => ?_⟩
  obtain rfl : f = g := by omega
  have hguard : ((s.entry r).state = .failed && !(s.entry r).factory) = true := by simp [hst, hfac]
  rw [retestCmd]
  dsimp only
  rw [if_pos hguard]
  refine ⟨fun h => ?_, fun hact hwr => ?_⟩
  · have hnow : (s.boot.active && s.map.writing.isNone) = false := by
      rcases h with h | h <;> simp [h]
    rw [if_neg (by simp [hnow])]
    exact retest_updEntry_self _ _ _
  · rw [if_pos (by simp [hact, hwr])]
    exact ⟨rfl, rfl⟩

end

/-- REGION_CMD, command by command. -/
theorem regionCmd_cases (s : State) (c : Instr) (n r : Nat) (m : Datagram) (x : Session) (busy : Bool)
    (eff : State × Nat × List Nat) (h : (c, n, busy, eff) ∈ [(Instr.wake m, 1, beforeReady s, wakeCmd r s),
      (.stop m, 2, beforeReady s, (requestStop s r false 3 false, 0, [])),
      (.stopForce m, 3, beforeReady s, (requestStop s r true 3 false, 0, [])),
      (.hold m, 4, beforeReady s, holdCmd false r s), (.holdForce m, 5, beforeReady s, holdCmd true r s),
      (.release m, 6, beforeReady s, releaseCmd r s), (.retestSet m, 7, false, retestCmd true r s),
      (.retestClear m, 8, false, retestCmd false r s)])
    (ha : Asked s m x) (hb : m.bytes = [r, n, 0, 0]) (hr : present r = true) :
    Completes c s (RegionAnswered s r n m x busy eff) := by
  simp only [List.mem_cons, Prod.mk.injEq, List.not_mem_nil, or_false] at h
  rcases h with ⟨rfl, rfl, rfl, rfl⟩ | ⟨rfl, rfl, rfl, rfl⟩ | ⟨rfl, rfl, rfl, rfl⟩ | ⟨rfl, rfl, rfl, rfl⟩ |
    ⟨rfl, rfl, rfl, rfl⟩ | ⟨rfl, rfl, rfl, rfl⟩ | ⟨rfl, rfl, rfl, rfl⟩ | ⟨rfl, rfl, rfl, rfl⟩
  · exact regionCmd_answered (busy := beforeReady) (eff := wakeCmd) rfl ha hb hr (regionEffect_of_lt s r (by decide) _)
  · exact regionCmd_answered (busy := beforeReady) (eff := fun r s => (requestStop s r false 3 false, 0, [])) rfl ha hb hr
      (regionEffect_of_lt s r (by decide) _)
  · exact regionCmd_answered (busy := beforeReady) (eff := fun r s => (requestStop s r true 3 false, 0, [])) rfl ha hb hr
      (regionEffect_of_lt s r (by decide) _)
  · exact regionCmd_answered (busy := beforeReady) (eff := holdCmd false) rfl ha hb hr
      (regionEffect_hold s r false (.inl rfl))
  · exact regionCmd_answered (busy := beforeReady) (eff := holdCmd true) rfl ha hb hr
      (regionEffect_hold s r true (.inr rfl))
  · exact regionCmd_answered (busy := beforeReady) (eff := releaseCmd) rfl ha hb hr (regionEffect_release s r)
  · exact regionCmd_answered (busy := fun _ => false) (eff := retestCmd true) rfl ha hb hr
      (regionEffect_retest s r 0 (by decide))
  · exact regionCmd_answered (busy := fun _ => false) (eff := retestCmd false) rfl ha hb hr
      (regionEffect_retest s r 1 (by decide))

end Sys2Proof.FirstLight

/-! ## O59: the audit, the ring, telemetry and background work -/

namespace Sys2Proof.FirstLight

open Sys2Proof Sys2Proof.Machine

/-! ### Held regions and lost banksmen -/

theorem holdStopRetry (s : State) (r : Nat) (hhold : (s.region r).hold = true) (hrun : inRun s r = true)
    (hhs : (s.region r).hs = none) (hq : s.stopQ.any (·.region == r) = false) (hused : regionUsed s r = false) :
    Completes (.holdStopRetry r) s
      (fun t => t = { s with stopQ := s.stopQ ++ [⟨r, (s.region r).holdForce, 12, false⟩] }) := by
  refine completes_guardDo (execHoldStopRetry r s) rfl rfl (by simp [hhold, hrun, hhs, hq, hused]) ?_
  have hp : (s.region r).power = .run := by simpa [inRun] using hrun
  simp only [requestStop, hp, hhs, hq]
  rfl

theorem banksmanLost (s : State) (r : Nat) (hr : present r = true) (hrun : inRun s r = true)
    (hring : ringCw s = true ∨ ringCcw s = true) (hun : (s.region r).unreached = false) :
    Completes (.banksmanLost r) s (fun t => (t.entry r).state = .failed ∧ (t.entry r).cause = .management ∧
      (t.region r).power = .stop) := by
  refine completes_guardDo (execBanksmanLost r s) rfl rfl (by simpa [hr, hrun, hun] using hring) ?_
  obtain ⟨hstate, hcause, -, hpower⟩ := failRegion_marks (raise s mgmtPg 8) r .management 0
  exact ⟨hstate, hcause, hpower⟩

/-- A region that hears no foreman goes to Stop, from Run or from a wake. -/
theorem power_silence (s : State) (r : Nat) : ((silence s r).region r).power = .stop := by
  unfold silence
  split
  · have hdown := (down_leaveRun s r true true).logPower r 9 0 0
    exact (hdown.restoreConnectivity.releaseTransit.admitLost r).tamperGoesOn.power
  · have hlost (u : State) : (wakeLost u r).region r = u.region r :=
      region_same (same_of_others (l := [.regions]) (ev_wakeLost (Ev.refl u) (by decide) r) .regions (by decide)) r
    rw [hlost]
    simp

/-! ### Reports of a banksman -/

section

variable (s : State) (r d : Nat)

@[simp] theorem route_setRoute (hop : Nat) : route (setRoute s r d hop) r d = hop := by
  unfold setRoute
  split
  · assumption
  · exact tget_tset_self _ _ _ _

theorem mgmtState_same {s t : State} (hmap : StatePart.mapRecord.same s t) (hregions : StatePart.regions.same s t)
    (r : Nat) : mgmtState t r = mgmtState s r := by
  have hrec : t.map.record = s.map.record := hmap
  have hcom : t.map.committed = s.map.committed := (congrArg MapSt.committed hrec :)
  simp only [mgmtState, hcom, region_same hregions]

/-- A page of a banksman has its registers. -/
theorem pageKind_banksmanPg (h : present r = true) : pageKind (banksmanPg r) = some .banksman := by
  have hall : ∀ q < 100, present q = true → pageKind (banksmanPg q) = some .banksman := by decide
  exact hall r (lt_of_present h) h

theorem powered_of_inRun {s : State} {r : Nat} (h : inRun s r = true) : ((s.region r).power != .stop) = true := by
  have hp : (s.region r).power = .run := by simpa [inRun] using h
  rw [hp]
  rfl

theorem getF_setRoute {f : Fld} (h : f.apart REGION_ROUTE_GEN_GEN) (hop ref : Nat) :
    getF (setRoute s r d hop) ref f = getF s ref f := by
  unfold setRoute
  split
  · rfl
  · rw [getF_addF_apart _ _ _ _ _ _ h]
    rfl

theorem rawUp_setRoute (hop : Nat) : RawUp s (setRoute s r d hop) := by
  unfold setRoute
  split
  · exact RawUp.refl s
  · exact RawUp.setF (RawUp.same (RawUp.refl s) rfl) _ _ _ (by decide)

/-- What BK_STATUS of a region in Run shows of a report. -/
def bkShown (routeOk powerOk : Bool) : State :=
  putFlag (putFlag s (banksmanPg r) BANKSMAN_BK_STATUS_ROUTE_MATCH routeOk) (banksmanPg r)
    BANKSMAN_BK_STATUS_POWER_MATCH powerOk

/-- Bits of BK_STATUS are none that an event or a log record writes. -/
theorem routeMatch_still (ref : Nat) : BANKSMAN_BK_STATUS_ROUTE_MATCH.still ref :=
  ⟨by decide, by decide, by decide, by decide, by decide, .inl (by decide)⟩

theorem routeMatch_bkShown (a b : Bool) :
    getF (bkShown s r a b) (banksmanPg r) BANKSMAN_BK_STATUS_ROUTE_MATCH = a.toNat := by
  rw [bkShown, getF_putFlag_apart _ _ _ _ _ _ (by decide), getF_putFlag_self _ _ _ _]
  cases a <;> rfl

theorem powerMatch_bkShown (a b : Bool) :
    getF (bkShown s r a b) (banksmanPg r) BANKSMAN_BK_STATUS_POWER_MATCH = b.toNat := by
  rw [bkShown, getF_putFlag_self _ _ _ _]
  cases b <;> rfl

theorem banksmanReport_agrees (hr : present r = true) (hvaon : s.carrier.vaon = .up)
    (hun : (s.region r).unreached = false) (hrun : inRun s r = true) :
    Completes (.banksmanReport r [] true) s (fun t => getF t (banksmanPg r) BANKSMAN_BK_STATUS_ROUTE_MATCH = 1 ∧
      getF t (banksmanPg r) BANKSMAN_BK_STATUS_POWER_MATCH = 1 ∧ Only [.fields] s t) := by
  refine completes_guardDo (execBanksmanReport r [] true s) rfl rfl (by simp [hr, hvaon, hun]) ?_
  have hon := powered_of_inRun hrun
  have hrep : report s r [] true = bkShown s r true true := by
    simp [report, routeDiffs, hrun, hon, bkShown]
  rw [hrep]
  exact ⟨routeMatch_bkShown s r true true, powerMatch_bkShown s r true true,
    only_of_ev (ev_putFlag (ev_putFlag (Ev.refl s) (by decide) _ _ _) (by decide) _ _ _)⟩

/-- A differing entry as it is found and shown. -/
def differing (hop : Nat) : State := raise (bkShown (pokeRoute s r (d, hop)) r false true) (banksmanPg r) 0

theorem differing_ev (hop : Nat) : Ev (others [.mapRecord, .regions]) s (differing s r d hop) :=
  ev_raise (ev_putFlag (ev_putFlag (ev_pokeRoute (Ev.refl s) (by decide) _ _) (by decide) _ _ _) (by decide) _ _ _)
    (by decide) _ _

theorem banksmanReport_differs (hop : Nat) (hr : present r = true) (hd : present d = true) (hne : d ≠ r)
    (hvaon : s.carrier.vaon = .up) (hun : (s.region r).unreached = false) (hrun : inRun s r = true)
    (hst : mgmtState s d = 3) (hroute : route s r d ≠ hop) (hhop : hop ≤ 5) (hhold : (r, d) ∉ s.road.holds) :
    Completes (.banksmanReport r [(d, hop)] true) s (fun t => route t r d = route s r d ∧
      getF t (banksmanPg r) BANKSMAN_BK_STATUS_ROUTE_MATCH = 0 ∧ bit (getF t (banksmanPg r) EVT_RAW) 0 = true) := by
  refine completes_guardDo (execBanksmanReport r [(d, hop)] true s) rfl rfl (by simp [hr, hvaon, hun]) ?_
  have hon := powered_of_inRun hrun
  have hdiff : routeDiffs s r [(d, hop)] = [(d, hop, route s r d)] := by
    simp [routeDiffs, hrun, hd, hne, hhop, hroute, hhold]
  have hsame := same_of_others (differing_ev s r d hop)
  have hstate : mgmtState (differing s r d hop) d = 3 :=
    (mgmtState_same (hsame .mapRecord (by decide)) (hsame .regions (by decide)) d).trans hst
  have hpoke : inRun (pokeRoute s r (d, hop)) r = true := hrun
  have hrep : report s r [(d, hop)] true =
      logRec (setRoute (differing s r d hop) r d (route s r d)) 2 d 0 [3, 4, r, 8] := by
    have hjudge : judgeRoute r (differing s r d hop) (d, hop, route s r d) =
        logRec (setRoute (differing s r d hop) r d (route s r d)) 2 d 0 [3, 4, r, 8] := by
      simp only [judgeRoute, hstate, if_true]
    rw [← hjudge]
    simp [report, hdiff, hpoke, hon, bkShown, differing]
  rw [hrep]
  refine ⟨?_, ?_, ?_⟩
  · have hlog (u : State) : route (logRec u 2 d 0 [3, 4, r, 8]) r d = route u r d := by simp only [route, logRec_road]
    rw [hlog, route_setRoute]
  · rw [getF_logRec _ _ _ _ _ _ _ (routeMatch_still _), getF_setRoute _ _ _ (by decide), differing,
      getF_raise _ _ _ _ _ (routeMatch_still _), routeMatch_bkShown]
    rfl
  · have hkind : (pageKind (banksmanPg r)).isSome = true := by rw [pageKind_banksmanPg r hr]; rfl
    exact rawUp_logRec (rawUp_setRoute _ _ _ _) _ _ _ _ _ 0 (by decide) (raise_sets _ _ 0 hkind (by decide))

end

/-! ### The ring and the management link -/

section

variable (s : State)

/-- The OK bit of a direction of the ring. -/
def ringBit (cw : Bool) : Fld := if cw then MGMT_MGMT_STATUS_RING_CW_OK else MGMT_MGMT_STATUS_RING_CCW_OK

/-- One direction of the ring breaks and is reported. -/
def ringBroken (cw : Bool) : State :=
  (runSet (setF s mgmtPg (ringBit cw) 0)).foldl ringError (raise (setF s mgmtPg (ringBit cw) 0) mgmtPg 7)

/-- The regions of `l` are cut off. -/
def cutOff (l : List Nat) : State :=
  l.foldl unreach (l.foldl (fun s r => if inRun s r then setF s (banksmanPg r) BANKSMAN_BK_STATUS_RING_OK 0 else s) s)

theorem ringBreak_eq (cw : Bool) (gone : List Nat) : ringBreak s cw gone =
    if ringCw (ringBroken s cw) || ringCcw (ringBroken s cw) then ringBroken s cw
    else cutOff (ringBroken s cw) (allRegions.filter (gone.contains ·)) := rfl

theorem ringBroken_ev (cw : Bool) : Ev (others [.regions, .mapRecord, .mapEntries]) s (ringBroken s cw) := by
  have hraise : Ev (others [.regions, .mapRecord, .mapEntries]) s (raise (setF s mgmtPg (ringBit cw) 0) mgmtPg 7) :=
    ev_raise (Ev.setF (Ev.refl s) (by decide) _ _ _) (by decide) _ _
  exact Ev.foldl hraise _ _ (fun _ _ hu => ev_ringError hu (by decide) _)

/-- What no step of a fold changes, the fold does not. -/
theorem foldl_keeps {α β : Type} (p : State → α) {f : State → β → State} (hf : ∀ u x, p (f u x) = p u) (l : List β)
    (s : State) : p (l.foldl f s) = p s := by
  induction l generalizing s with
  | nil => rfl
  | cons x l ih => rw [List.foldl_cons, ih, hf]

/-- The OK bits of the ring are bits that no event and no other break writes. -/
theorem flagF_ringBroken (cw d : Bool) : flagF (ringBroken s cw) mgmtPg (ringBit d) =
    flagF (setF s mgmtPg (ringBit cw) 0) mgmtPg (ringBit d) := by
  have hstill : (ringBit d).still mgmtPg := by cases d <;> decide
  have hcount : (ringBit d).apart BANKSMAN_RING_ERRORS_COUNT := by cases d <;> decide
  have herror (u : State) (r : Nat) : getF (ringError u r) mgmtPg (ringBit d) = getF u mgmtPg (ringBit d) :=
    getF_addF_apart u.fresh.1 _ _ _ _ _ hcount
  rw [flagF, flagF, ringBroken, foldl_keeps (fun u => getF u mgmtPg (ringBit d)) herror, getF_raise _ _ _ _ _ hstill]

theorem flagF_ringBroken_self (cw : Bool) : flagF (ringBroken s cw) mgmtPg (ringBit cw) = false := by
  rw [flagF_ringBroken, flagF, getF_setF_self, Nat.zero_mod]
  rfl

theorem flagF_ringBroken_other (cw : Bool) :
    flagF (ringBroken s cw) mgmtPg (ringBit (!cw)) = flagF s mgmtPg (ringBit (!cw)) := by
  rw [flagF_ringBroken, flagF, getF_setF_apart _ _ _ _ _ _ (by cases cw <;> decide)]
  rfl

/-- A further break leaves the ring without a direction when the other had gone. -/
theorem ringLeft_ringBroken (cw : Bool) :
    (ringCw (ringBroken s cw) || ringCcw (ringBroken s cw)) = flagF s mgmtPg (ringBit (!cw)) := by
  rw [← flagF_ringBroken_other]
  have hself := flagF_ringBroken_self s cw
  cases cw with
  | true => exact (congrArg (· || _) hself).trans (Bool.false_or _)
  | false => exact (congrArg (_ || ·) hself).trans (Bool.or_false _)

theorem unreached_unreach (q r : Nat) :
    ((unreach s q).region r).unreached = if r = q then true else (s.region r).unreached := by
  have hupd : ((s.updRegion q (fun x => { x with unreached := true })).region r).unreached =
      if r = q then true else (s.region r).unreached := by
    rw [region_updRegion]
    split <;> rfl
  unfold unreach
  dsimp only
  split
  · rw [updEntry_region]
    exact hupd
  · exact hupd

theorem getF_cutOff {f : Fld} (h : f.apart BANKSMAN_BK_STATUS_RING_OK) (l : List Nat) (ref : Nat) :
    getF (cutOff s l) ref f = getF s ref f := by
  have hun (u : State) (r : Nat) : getF (unreach u r) ref f = getF u ref f :=
    getF_of_fields (Ev.frame (m := others [.fields]) (ev_unreach (Ev.refl u) (by decide) r) .fields (by decide)) _ _
  have hok (u : State) (r : Nat) : getF (if inRun u r then setF u (banksmanPg r) BANKSMAN_BK_STATUS_RING_OK 0 else u) ref f =
      getF u ref f := by
    split
    · exact getF_setF_apart _ _ _ _ _ _ h
    · rfl
  rw [cutOff, foldl_keeps (fun u => getF u ref f) hun, foldl_keeps (fun u => getF u ref f) hok]

theorem unreached_cutOff {l : List Nat} {r : Nat} (hr : r ∈ l) : ((cutOff s l).region r).unreached = true := by
  have hfold : ∀ (l : List Nat) (u : State), r ∈ l ∨ (u.region r).unreached = true →
      ((l.foldl unreach u).region r).unreached = true := by
    intro l
    induction l with
    | nil => exact fun u hu => hu.resolve_left List.not_mem_nil
    | cons q l ih =>
      intro u hu
      refine ih _ ?_
      rw [unreached_unreach]
      by_cases hq : r = q <;> simp_all
  exact hfold _ _ (.inl hr)

end

/-- One direction of the ring breaks; with both broken, the regions named are cut off. -/
theorem ringFault (s : State) (cw : Bool) (gone : List Nat) (hvaon : s.carrier.vaon = .up)
    (hring : (if cw then ringCw s else ringCcw s) = true) :
    Completes (.ringFault cw gone) s (fun t => (if cw then ringCw t else ringCcw t) = false ∧
      ((if cw then ringCcw s else ringCw s) = true → t.regions = s.regions ∧ t.map = s.map) ∧
      ((if cw then ringCcw s else ringCw s) = false → ∀ r, present r = true → r ∈ gone →
        (t.region r).unreached = true)) := by
  refine completes_guardDo (execRingFault cw gone s) rfl rfl (by simpa [hvaon] using hring) ?_
  have hbit (u : State) : (if cw then ringCw u else ringCcw u) = flagF u mgmtPg (ringBit cw) := by cases cw <;> rfl
  have hother : (if cw then ringCcw s else ringCw s) = flagF s mgmtPg (ringBit (!cw)) := by cases cw <;> rfl
  have hself := flagF_ringBroken_self s cw
  have hsame := same_of_others (ringBroken_ev s cw)
  rw [ringBreak_eq, ringLeft_ringBroken, hother, hbit]
  cases hleft : flagF s mgmtPg (ringBit (!cw)) with
  | true =>
    have hmap := map_same (hsame .mapRecord (by decide)) (hsame .mapEntries (by decide))
    exact ⟨hself, fun _ => ⟨hsame .regions (by decide), hmap⟩, fun h => absurd h (by decide)⟩
  | false =>
    refine ⟨?_, fun h => absurd h (by decide), fun _ r hr hgone => ?_⟩
    · rw [if_neg (by decide), flagF, getF_cutOff _ (by cases cw <;> decide)]
      exact hself
    · rw [if_neg (by decide)]
      exact unreached_cutOff _ (List.mem_filter.mpr ⟨mem_allRegions hr, by simpa using hgone⟩)

theorem mgmtLinkChange (s : State) (up high : Bool) (hvaon : s.carrier.vaon = .up)
    (hlink : flagF s mgmtPg MGMT_MGMT_STATUS_LINK_UP = !up) :
    Completes (.mgmtLinkChange up high) s (fun t => flagF t mgmtPg MGMT_MGMT_STATUS_LINK_UP = up ∧
      Only [.fields, .hostMemory, .log] s t) := by
  refine completes_guardDo (execMgmtLinkChange up high s) rfl rfl (by simp [hvaon, hlink]) ⟨?_, ?_⟩
  · rw [flagF, linkChange, getF_raise _ _ _ _ _ (by decide), getF_putFlag_apart _ _ _ _ _ _ (by decide),
      getF_putFlag_apart _ _ _ _ _ _ (by decide), getF_putFlag_self]
    cases up <;> rfl
  · exact only_of_ev (ev_linkChange (Ev.refl s) (by decide) up high)

/-! ### Telemetry -/

theorem telItems_ne_nil (s : State) (items : List (Nat × Nat × Nat)) (busy : List (Nat × Nat)) :
    telItems s items busy ≠ [] := by
  simp [telItems, item]

theorem pieces_of_le {α : Type} {n : Nat} {l : List α} (hl : l ≠ []) (h : l.length ≤ n) : pieces n l.length l = [l] := by
  have hrest : ∀ k, pieces n k (l.drop n) = [] := by
    intro k
    rw [List.drop_eq_nil_of_le h]
    cases k <;> rfl
  cases l with
  | nil => exact absurd rfl hl
  | cons a l => simp only [List.length_cons, pieces, hrest, List.take_of_length_le h]; rfl

theorem telemetryPeriod (s : State) (items : List (Nat × Nat × Nat)) (busy : List (Nat × Nat))
    (hvaon : s.carrier.vaon = .up) :
    Completes (.telemetryPeriod items busy) s (fun t => Only [.log] s t ∧
      (∀ x, s.mgmt.sessions.filter (·.subTel) = [x] → (telItems s items busy).length ≤ 509 →
        t.mgmt.sent = s.mgmt.sent ++ [⟨x.id, 0x21, 0, 0, telBytes s.time (telItems s items busy)⟩]) ∧
      (s.mgmt.sessions.filter (·.subTel) = [] → t = s)) := by
  refine completes_guardDo (execTelemetryPeriod items busy s) rfl rfl (by simp [hvaon])
    ⟨only_of_ev (ev_sendTelemetry (Ev.refl s) (by decide) items busy), fun x hx hlen => ?_, fun hnil => ?_⟩
  · rw [sendTelemetry, hx]
    simp only [pieces_of_le (telItems_ne_nil s items busy) hlen]
    rfl
  · rw [sendTelemetry, hnil]
    rfl

/-! ### Background work and the cold plate -/

theorem backgroundWake (s : State) (r vinLow : Nat) (hcand : bgCandidate s = some r) (hmay : mayBackground s vinLow = true) :
    Completes (.backgroundWake vinLow) s
      (fun t => t = addF (startRegion s r 5 false).1 mgmtPg MGMT_BG_STATUS_WAKES 1) := by
  refine completes_guardDo (c := mayBackground s vinLow)
    (f := fun s => addF (startRegion s r 5 false).1 mgmtPg MGMT_BG_STATUS_WAKES 1) (execBackgroundWake vinLow s) rfl ?_
    hmay rfl
  simp only [execBackgroundWake, hcand]

@[simp] theorem updRegion_bed (s : State) (r q : Nat) (f : RegionSt → RegionSt) : (s.updRegion r f).bed q = s.bed q := rfl

theorem scrubPassEnd (s : State) (r : Nat) (hrun : inRun s r = true) (hpos : bedLines r ≤ (s.bed r).scrubPos) :
    Completes (.scrubPassEnd r) s (fun t => (t.bed r).scrubPos = 0 ∧
      (t.bed r).scrubPasses = ((s.bed r).scrubPasses + 1) % 256 ∧ (t.region r).age = 0) := by
  refine completes_guardDo (execScrubPassEnd r s) rfl rfl (by simp [hrun, hpos]) ?_
  unfold passEnd
  dsimp only
  have hstop (u : State) : (requestStop u r false 5 false).bed r = u.bed r :=
    bed_same (Ev.frame (m := others [.beds]) (ev_requestStop (Ev.refl u) (by decide) r false 5 false) .beds (by decide)) r
  have hage (u : State) : ((requestStop u r false 5 false).region r).age = (u.region r).age :=
    (standing_requestStop (.refl u) r false 5 false).age r
  have hbed (u : State) : (raise u (bedPg r) 7).bed r = u.bed r := bed_same (raise_beds u (bedPg r) 7) r
  split
  · rw [hstop, hbed, hage]
    simp [bed_updBed]
  · rw [hbed]
    simp [bed_updBed]

theorem scrubAgeHour (s : State) (r : Nat) (hr : present r = true) (hvaon : s.carrier.vaon = .up) :
    Completes (.scrubAgeHour r) s (fun t => (t.region r).age = min ((s.region r).age + 1) 255 ∧
      ∀ q, q ≠ r → t.region q = s.region q) := by
  refine completes_guardDo (execScrubAgeHour r s) rfl rfl (by simp [hr, hvaon]) ?_
  have hover (u : State) (q : Nat) : (overdue u).region q = u.region q :=
    region_same (same_of_others (l := [.regions]) (ev_overdue (Ev.refl u) (by decide)) .regions (by decide)) q
  unfold ageHour
  dsimp only
  constructor
  · split <;> simp [hover]
  · intro q hq
    split <;> simp [hover, hq]

theorem coldPlateSensorFault (s : State) (reading : Int) (hvaon : s.carrier.vaon = .up) :
    Completes (.coldPlateSensorFault reading) s (fun t => t.carrier.coldPlate = reading ∧
      t.carrier.coldPlateOk = sensorValid reading ∧
      (s.carrier.coldPlateOk = false ∨ sensorValid reading = true → t.fields = s.fields ∧ t.mgmt = s.mgmt) ∧
      (s.carrier.coldPlateOk = true → sensorValid reading = false →
        t = logRec (s.updCarrier (fun c => { c with coldPlateOk := false, coldPlate := reading })) 1 0x7F 0
          [0, 0, 0, 0])) := by
  refine completes_guardDo (execColdPlateSensorFault reading s) rfl rfl (by simp [hvaon]) ?_
  unfold coldPlate
  cases s.carrier.coldPlateOk <;> cases sensorValid reading <;> simp

/-- Settles O59, command by command. -/
theorem regionCommands : Obligations.RegionCommands := by
  refine ⟨fun s c n r m x busy eff h ha hb hr => ?_, holdStopRetry, banksmanReport_agrees, banksmanReport_differs,
    banksmanLost, fun s r hun hp => ?_, ringFault, mgmtLinkChange, telemetryPeriod, backgroundWake, scrubPassEnd,
    scrubAgeHour, coldPlateSensorFault⟩
  · obtain ⟨t, ht, hrole, hbusy, hdone⟩ := regionCmd_cases s c n r m x busy eff h ha hb hr
    refine ⟨t, ht, hrole, hbusy, fun hx hbz => ?_⟩
    obtain ⟨heq, hhold, hrelease, hretest⟩ := hdone hx hbz
    exact ⟨heq, hhold, hrelease, hretest⟩
  · exact completes_guardDo (execForemanSilence r s) rfl rfl (by simp [hun, hp]) (power_silence s r)

end Sys2Proof.FirstLight

/-! ## O2: a step without a command -/

namespace Sys2Proof.FirstLight

open Sys2Proof Sys2Proof.Machine

/-- Settles O2: on an empty queue a step is `idle`, which counts a tick while a root clock runs. -/
theorem stepIdle : Obligations.StepIdle := by
  intro s hempty
  have hstep : step s = .next (idle s) := by simp only [step, hempty]
  refine ⟨fun hup hclock => ?_, fun hstill => ?_⟩
  · have hruns : clockRuns s = true := by simpa [clockRuns, hup] using hclock
    rw [hstep, idle, if_pos hruns]
  · have hruns : ¬ clockRuns s = true := by
      rcases hstill with hup | ⟨hcrystal, hbackup⟩
      · simp [clockRuns, hup]
      · simp [clockRuns, hcrystal, hbackup]
    rw [hstep, idle, if_neg hruns]

end Sys2Proof.FirstLight

/-! ## Wakes and stops: the region, and the registers that show it -/

namespace Sys2Proof.FirstLight

open Sys2Proof Sys2Proof.Machine

section

variable {a s t : State}

theorem Standing.wakeFails (h : Standing s t) (q : Nat) : (t.region q).wakeFails = (s.region q).wakeFails :=
  (congrArg RegionSt.wakeFails (h q) :)

theorem Standing.lockout (h : Standing s t) (q : Nat) : (t.region q).lockout = (s.region q).lockout :=
  (congrArg RegionSt.lockout (h q) :)

end

/-! ### What may be started is read from the quarry map, the start and the region -/

section

variable {s t : State}

theorem joined_same (hmap : t.map = s.map) : joined t = joined s := by
  funext r
  unfold joined linkFaulty State.entry
  rw [hmap]

theorem layersFrom_same (hmap : t.map = s.map) : layersFrom t = layersFrom s := by
  funext ok start
  have hlayers (k : Nat) : ∀ frontier seen, bfsLayers t ok k frontier seen = bfsLayers s ok k frontier seen := by
    induction k with
    | zero => exact fun _ _ => rfl
    | succ k ih =>
      intro frontier seen
      simp only [bfsLayers, bfsNext, joined_same hmap, ih]
  exact hlayers 101 start start

theorem components_same (hmap : t.map = s.map) (ok : Nat → Bool) (l : List Nat) :
    components t ok l = components s ok l := by
  induction l with
  | nil => rfl
  | cons r l ih => simp only [components, component, layersFrom_same hmap, ih]

theorem healthyNow_same (hmap : t.map = s.map) (hboot : t.boot = s.boot) : healthyNow t = healthyNow s := by
  funext r
  simp only [healthyNow, State.entry, hmap, hboot]

theorem anchorSet_same (hmap : t.map = s.map) (hboot : t.boot = s.boot) : anchorSet t = anchorSet s := by
  have hanchor : anchor t = anchor s := by
    simp only [anchor, anchorOf, healthyNow_same hmap hboot, components_same hmap, hmap, hboot]
  simp only [anchorSet, hanchor, component, layersFrom_same hmap, healthyNow_same hmap hboot]

theorem startable_same (hmap : t.map = s.map) (hboot : t.boot = s.boot) {r : Nat} (hregion : t.region r = s.region r) :
    startable t r = startable s r := by
  simp only [startable, startableIn, hregion, State.entry, hmap, healthyNow_same hmap hboot, anchorSet_same hmap hboot]

theorem chosenStartable_same (hmap : t.map = s.map) (hboot : t.boot = s.boot) (hregions : t.regions = s.regions)
    (r : Nat) : chosenStartable t r = chosenStartable s r := by
  refine startable_same (t := t.updRegion r _) (s := s.updRegion r _) hmap hboot ?_
  rw [region_updRegion, region_updRegion, region_same (show StatePart.regions.same s t from hregions)]

end

/-! ### Wakes -/

section

variable (s : State) (r : Nat)

/-- A region that enters Run forgets its failed wakes; what follows keeps that. -/
theorem wakeFails_enterRun (lockUs cause : Nat) : ((enterRun s r lockUs cause).region r).wakeFails = 0 := by
  have hafter (u : State) (f : RegionSt → RegionSt) :
      (logPower (raise (installRoutes (blockEntersRun (u.updRegion r f) r)) (powerPg r) 1) r cause 0 0).region r =
        f (u.region r) := by
    have hblock : Ev (others [.regions]) (u.updRegion r f) (installRoutes (blockEntersRun (u.updRegion r f) r)) :=
      ev_installRoutes (ev_blockEntersRun (Ev.refl _) (by decide) r) (by decide)
    rw [logPower_region, raise_region, region_same (same_of_others hblock .regions (by decide)), region_updRegion,
      if_pos rfl]
  unfold enterRun
  dsimp only
  rw [hafter]

/-- The region of a wake that ends, but for a stop held, is as it entered Run. -/
theorem standing_wakeEnd (lockUs : Nat) :
    Standing (enterRun (s.updRegion r (fun x => { x with stopHeld := none })) r lockUs (s.region r).wakeCause)
      (wakeEnd s r lockUs) := by
  unfold wakeEnd
  dsimp only
  generalize enterRun (s.updRegion r (fun x => { x with stopHeld := none })) r lockUs (s.region r).wakeCause = u
  have hbed : Standing u (if (u.region r).background then u.updBed r (fun b => { b with unpaced := true, scrubPos := 0 })
      else u) := .ite (.of_regions rfl) (.refl u)
  generalize (if (u.region r).background then u.updBed r (fun b => { b with unpaced := true, scrubPos := 0 }) else u) = v
    at hbed ⊢
  have hlast (w : State) (hw : Standing u w) : Standing u (admitAll (escProgress (restoreConnectivity w))) :=
    hw.ev (ev_admitAll (ev_escProgress (ev_restoreConnectivity (Ev.refl w) (by decide)) (by decide)) (by decide))
  apply hlast
  split
  · exact standing_requestStop hbed _ _ _ _
  · exact hbed

end

/-- A region in Stop that leaves the wake queue's head is WAKING. -/
theorem wakeBegin_of_startable {s : State} {w : WakeReq} {ws : List WakeReq} (hq : s.wakeQ = w :: ws)
    (hstop : (s.region w.region).power = .stop) (hstart : chosenStartable s w.region = true) :
    wakeBegin s w.region = logPower (({ s with wakeQ := ws } : State).updRegion w.region (fun x => { x with
      power := .waking, switchOn := true, wakeCause := w.cause, transit := w.transit, background := w.cause == 5,
      wakeFails := 0, wakeBackoff := false, stopHeld := none })) w.region w.cause 0 0 := by
  have hsame : chosenStartable { s with wakeQ := ws } w.region = chosenStartable s w.region :=
    chosenStartable_same (s := s) (t := { s with wakeQ := ws }) rfl rfl rfl _
  have hregion : ({ s with wakeQ := ws } : State).region w.region = s.region w.region := rfl
  simp only [wakeBegin, hq, hsame, hstart, hregion, hstop]
  rfl

theorem wakeFail_second {s : State} {r : Nat} (h : (s.region r).wakeFails ≠ 0) : wakeFail s r =
    restoreConnectivity (wakeLost (failRegion (s.updRegion r (fun x => { x with
      stopHeld := none, transit := false, background := false })) r .control 0) r) := if_neg h

theorem asFailed_marks (s : State) (r : Nat) (cause : QCause) :
    ((asFailed s r cause).entry r).state = .failed ∧ ((asFailed s r cause).entry r).cause = cause :=
  ⟨state_updEntry_self _ _ _, cause_updEntry_self _ _ _⟩

theorem Down.wakeLost {r : Nat} {on : Bool} {e : QEntry} {s : State} (h : Down r on e s) (q : Nat) :
    Down r on e (wakeLost s q) :=
  h.ev (ev_wakeLost (Ev.refl s) (by decide) q)

end Sys2Proof.FirstLight

/-! ## O18: wakes -/

namespace Sys2Proof.FirstLight

open Sys2Proof Sys2Proof.Machine

/-- Settles O18: the command, the end, the two failures and the retry of a wake. -/
theorem wakes : Obligations.Wakes := by
  refine ⟨fun s w ws hq hmay hhs hstop hstart => ?_, fun s r lockUs hwaking hback htest => ?_,
    fun s r hwaking hback htest hfails => ?_, fun s r hwaking hback htest hfails => ?_,
    fun s r hwaking hback hmay => ?_⟩
  · refine completes_guardDo (execWakeCommand w.region s) rfl rfl (by simp [wakeHead, hq, hmay, hhs]) ?_
    rw [wakeBegin_of_startable hq hstop hstart]
    have hqueue (u : State) : (logPower u w.region w.cause 0 0).wakeQ = u.wakeQ :=
      Ev.frame (m := others [.wakeQ]) (ev_logPower (Ev.refl u) (by decide) _ _ _ _) .wakeQ (by decide)
    rw [hqueue, updRegion_wakeQ]
    simp only [logPower_region, region_updRegion, if_true]
    exact ⟨trivial, trivial, trivial, trivial, trivial, fun q hq => if_neg hq⟩
  · refine completes_guardDo (execWakeComplete r lockUs s) rfl rfl (by simp [hwaking, hback, htest]) ?_
    have hend := standing_wakeEnd s r lockUs
    exact ⟨(hend.inRun r).trans (inRun_enterRun _ _ _ _), (hend.wakeFails r).trans (wakeFails_enterRun _ _ _ _)⟩
  · exact completes_guardDo (execWakeTimeout r s) rfl rfl (by simp [hwaking, hback, htest]) (if_pos hfails)
  · refine completes_guardDo (execWakeTimeout r s) rfl rfl (by simp [hwaking, hback, htest]) ?_
    rw [wakeFail_second hfails]
    obtain ⟨hpower, hswitch, hentry⟩ := ((down_failRegion (s.updRegion r (fun x => { x with
      stopHeld := none, transit := false, background := false })) r .control 0).wakeLost r).restoreConnectivity
    obtain ⟨hstate, hcause⟩ := asFailed_marks (s.updRegion r (fun x => { x with
      stopHeld := none, transit := false, background := false })) r .control
    rw [hentry]
    exact ⟨hstate, hcause, hpower, hswitch⟩
  · exact completes_guardDo (execWakeRetry r s) rfl rfl (by simp [hwaking, hback, hmay]) rfl

end Sys2Proof.FirstLight

/-! ## O20: a handshake that is abandoned -/

namespace Sys2Proof.FirstLight

open Sys2Proof Sys2Proof.Machine

section

variable {f : Fld} {ref : Nat} (s : State)

theorem region_withStops (q : List StopWait) (r : Nat) : ({ s with stopQ := q } : State).region r = s.region r := rfl

theorem getF_withStops (q : List StopWait) (ref : Nat) (f : Fld) :
    getF ({ s with stopQ := q } : State) ref f = getF s ref f := rfl

theorem getF_logPower (h : f.still ref) (hview : f.apart BANKSMAN_MGMT_VIEW_MGMT_STATE) (r cause hs trip : Nat) :
    getF (logPower s r cause hs trip) ref f = getF s ref f :=
  (getF_setF_apart _ _ _ _ _ _ hview).trans (getF_logRec _ _ _ _ _ _ _ h)

theorem getF_installRoutes (h : f.apart REGION_ROUTE_GEN_GEN) (ref : Nat) :
    getF (installRoutes s) ref f = getF s ref f := by
  refine foldl_keeps (fun u => getF u ref f) (fun u d => foldl_keeps (fun u => getF u ref f) (fun v r => ?_) _ u) _ s
  split
  · exact getF_setRoute v r d h _ ref
  · rfl

theorem getF_reinstall (h : f.apart REGION_ROUTE_GEN_GEN) (ref d : Nat) (old : Tab Nat) :
    getF (reinstall s d old) ref f = getF s ref f := by
  have hset (l : Tab Nat) (u : State) : getF (l.foldl (fun s x => setRoute s x.1 d x.2) u) ref f = getF u ref f := by
    refine foldl_keeps (fun u => getF u ref f) (fun v x => ?_) l u
    exact getF_setRoute v x.1 d h x.2 ref
  unfold reinstall
  dsimp only
  rw [getF_installRoutes _ h, hset]

theorem outcome_putResult (r outcome : Nat) (a : HsAnswer) (decider us : Nat) :
    getF (putResult s r outcome a decider us) (powerPg r) POWER_HS_RESULT_OUTCOME = outcome % 8 := by
  unfold putResult
  dsimp only
  rw [getF_setF_apart _ _ _ _ _ _ (by decide), getF_setF_apart _ _ _ _ _ _ (by decide),
    getF_setF_apart _ _ _ _ _ _ (by decide), getF_setF_apart _ _ _ _ _ _ (by decide), getF_setF_self]
  rfl

/-- A page of a power controller is not the management page. -/
theorem powerPg_ne_mgmtPg (r : Nat) : powerPg r ≠ mgmtPg := by
  have hmgmt : mgmtPg % 0x1000 = 0x13 := by decide
  intro h
  rw [← h, powerPg, pageRef] at hmgmt
  omega

/-- A field of a power page that no event writes. -/
theorem powerPg_still (r : Nat) {f : Fld} (h : f.wf ∧ f.off ≠ 0 ∧ f.off ≠ 4 ∧ f.off ≠ 8 ∧ f.off ≠ 0x10) :
    f.still (powerPg r) := by
  obtain ⟨hwf, h0, h4, h8, h10⟩ := h
  exact ⟨hwf, h0, h4, h8, h10, .inr (powerPg_ne_mgmtPg r)⟩

end

/-- HS_RESULT is written, the handshake is gone, and the routes are back. -/
def handshakeGone (s : State) (r : Nat) (h : Handshake) (outcome : Nat) (a : HsAnswer) (decider : Nat) : State :=
  reinstall ((putResult s r outcome a decider (usOf (s.time - h.t0))).updRegion r (fun x => { x with hs := none })) r
    h.routes

/-- An abandoned handshake is counted, raised and logged. -/
def handshakeLogged (s : State) (r : Nat) (h : Handshake) (outcome : Nat) (a : HsAnswer) (decider : Nat) : State :=
  let s := raise (addF (handshakeGone s r h outcome a decider) (powerPg r) POWER_HS_COUNT_ABANDONS 1) (powerPg r) 2
  logPower s r h.cause (hsResult s r) 0

section

variable {s : State} {r outcome : Nat} {h : Handshake} (a : HsAnswer) (decider : Nat)

/-- A tamper may ask for the stop again. -/
theorem endWithoutStop_eq (hs : (s.region r).hs = some h) (ho : outcome ≠ 5) :
    ∃ q, endWithoutStop s r outcome a decider = { handshakeLogged s r h outcome a decider with stopQ := q } := by
  have heq : endWithoutStop s r outcome a decider =
      let t := handshakeLogged s r h outcome a decider
      if t.wb.tamper && h.force then { t with stopQ := t.stopQ ++ [⟨r, true, 14, false⟩] } else t := by
    simp only [endWithoutStop, hs, if_neg ho]
    rfl
  rw [heq]
  generalize handshakeLogged s r h outcome a decider = t
  dsimp only
  split
  · exact ⟨_, rfl⟩
  · exact ⟨t.stopQ, rfl⟩

theorem hs_handshakeLogged : ((handshakeLogged s r h outcome a decider).region r).hs = none := by
  have hadd (u : State) (n : Nat) : (addF u (powerPg r) POWER_HS_COUNT_ABANDONS n).region r = u.region r := rfl
  have hback (u : State) : (reinstall u r h.routes).region r = u.region r :=
    region_same (Ev.frame (m := others [.regions]) (ev_reinstall (Ev.refl u) (by decide) _ _) .regions (by decide)) r
  rw [handshakeLogged, logPower_region, raise_region, hadd, handshakeGone, hback, region_updRegion, if_pos rfl]

theorem outcome_handshakeLogged :
    getF (handshakeLogged s r h outcome a decider) (powerPg r) POWER_HS_RESULT_OUTCOME = outcome % 8 := by
  have hstill : POWER_HS_RESULT_OUTCOME.still (powerPg r) := powerPg_still r (by decide)
  rw [handshakeLogged, getF_logPower _ hstill (by decide), getF_raise _ _ _ _ _ hstill,
    getF_addF_apart _ _ _ _ _ _ (by decide), handshakeGone, getF_reinstall _ (by decide), getF_updRegion,
    outcome_putResult]

theorem endWithoutStop_marks (hs : (s.region r).hs = some h) (ho : outcome < 5) :
    ((endWithoutStop s r outcome a decider).region r).hs = none ∧
      ((endWithoutStop s r outcome a decider).region r).power = (s.region r).power ∧
      getF (endWithoutStop s r outcome a decider) (powerPg r) POWER_HS_RESULT_OUTCOME = outcome := by
  obtain ⟨q, hq⟩ := endWithoutStop_eq a decider hs (show outcome ≠ 5 by omega)
  refine ⟨?_, (standing_endWithoutStop (.refl s) r outcome a decider).power r, ?_⟩
  · rw [hq, region_withStops, hs_handshakeLogged]
  · rw [hq, getF_withStops, outcome_handshakeLogged]
    omega

end

/-- Settles O20: without FORCE a refusal and the deadline each end the handshake without a stop. -/
theorem handshakeAbandoned : Obligations.HandshakeAbandoned := by
  refine ⟨fun s r agent h _ hs hforce hopen hrefuse => ?_, fun s r h _ hs hforce hall => ?_⟩
  · refine completes_guardDo (execHandshakeAnswer r agent s) rfl rfl hopen ?_
    have hend : agentAnswers s r agent = endWithoutStop s r 4 .refuse agent := by
      simp [agentAnswers, hs, hrefuse, hforce]
    rw [hend]
    exact endWithoutStop_marks _ _ hs (by decide)
  · refine completes_guardDo (execHandshakeDeadline r s) rfl rfl (by simp [handshakeOpen, hs, hall]) ?_
    have hend : deadline s r = endWithoutStop s r 3 (tget .none h.last (firstOpen s r h)) (firstOpen s r h) := by
      simp [deadline, hs, hforce]
    rw [hend]
    exact endWithoutStop_marks _ _ hs (by decide)

end Sys2Proof.FirstLight

/-! ## O21: temperature -/

namespace Sys2Proof.FirstLight

open Sys2Proof Sys2Proof.Machine

/-! ### A stop at once -/

/-- A region in Stop. -/
def stopped (s : State) (r : Nat) : State := s.updRegion r (fun x => { x with power := .stop })

theorem standing_stopped {s t : State} (h : Standing s t) (r : Nat) : Standing (stopped s r) (stopped t r) := by
  intro q
  have hq := h q
  simp only [stopped, region_updRegion]
  split
  · next hr => exact congrArg (fun x => { x with power := PState.stop }) (hr ▸ hq)
  · exact hq

/-- A region that leaves Run is in Stop; else every region stands as before. -/
theorem standing_leaveRun (s : State) (r : Nat) (lost forced failed : Bool) :
    Standing (stopped s r) (leaveRun s r lost forced failed) := by
  have hsettled : Standing s (if failed then s else settleScans s r) := .ite (.refl s) (standing_settleScans (.refl s) r)
  have hpages : Standing s (leavingPages s r failed) :=
    hsettled.trans (.of_regions (same_of_others (leavingPages_ev s r failed) .regions (by decide)))
  have hleaving : Standing (stopped (leavingPages s r failed) r) (leaving s r failed) := by
    intro q
    simp only [stopped, leaving, region_updRegion]
    split <;> rfl
  exact ((standing_stopped hpages r).trans hleaving).trans
    (.of_regions (same_of_others (leaveRun_ev s r lost forced failed) .regions (by decide)))

/-- HS_RESULT, the count and the events of a stop at once. -/
def forceShown (s : State) (r us : Nat) : State :=
  raise (raise (addF (putResult s r 2 .none 0xFF us) (powerPg r) POWER_HS_COUNT_STOPS 1) (powerPg r) 3) (powerPg r) 0

theorem forceShown_ev (s : State) (r us : Nat) : Ev (others [.regions]) s (forceShown s r us) :=
  ev_raise (ev_raise (ev_addF (ev_putResult (Ev.refl s) (by decide) _ _ _ _ _) (by decide) _ _ _) (by decide) _ _)
    (by decide) _ _

theorem standing_forceStopNow {s : State} {r : Nat} (h : inRun s r = true) (cause : Nat) :
    Standing (stopped s r) (forceStopNow s r cause) := by
  have hlast (us hs : Nat) : Standing (stopped s r) (tamperGoesOn (releaseTransit (restoreConnectivity
      (logPower (leaveRun (forceShown s r us) r true true false) r cause hs 0)))) := by
    have hshown : Standing s (forceShown s r us) := (Standing.refl s).ev (forceShown_ev s r us)
    exact standing_tamperGoesOn (standing_releaseTransit (((standing_stopped hshown r).trans
      (standing_leaveRun _ r true true false)).ev
      (ev_restoreConnectivity (ev_logPower (Ev.refl _) (by decide) r cause hs 0) (by decide))))
  unfold forceStopNow
  rw [if_neg (by simp [h])]
  exact hlast _ _

theorem thermStop_marks {s : State} {r : Nat} (h : inRun s r = true) :
    ((thermStop s r).region r).power = .stop ∧ ((thermStop s r).region r).lockout = true := by
  have hstop := standing_forceStopNow (s := (raise s (powerPg r) 5).updRegion r (fun x => { x with lockout := true }))
    (r := r) (by simpa [inRun] using h) 8
  exact ⟨by rw [thermStop, hstop.power]; simp [stopped], by rw [thermStop, hstop.lockout]; simp [stopped]⟩

theorem noSensor_eq (s : State) (r : Nat) : noSensor s r = strand (anchorSet s)
    (failRegion (forceStopNow (bootDrop (asFailed s r .field) r) r 8) r .field 0) := rfl

/-- A region without a valid sensor is in Stop, recorded FAILED with cause FIELD. -/
theorem noSensor_marks (s : State) (r : Nat) : ((noSensor s r).region r).power = .stop ∧
    ((noSensor s r).entry r).state = .failed ∧ ((noSensor s r).entry r).cause = .field := by
  rw [noSensor_eq]
  generalize forceStopNow (bootDrop (asFailed s r .field) r) r 8 = u
  obtain ⟨hstate, hcause⟩ := asFailed_marks u r .field
  obtain ⟨hpower, -, hentry⟩ := (down_failRegion u r .field 0).strand (by rw [hstate]; decide) (anchorSet s)
  rw [hentry]
  exact ⟨hpower, hstate, hcause⟩

/-! ### The sensors -/

/-- The sensors that read valid, as THERM.SENSOR_OK shows them. -/
def sensorMask (ts : List Int) : Nat :=
  ((List.range ts.length).filter (fun i => sensorValid (ts.getD i 0))).foldl (fun m i => m + 2 ^ i) 0

/-- An evaluation before the readings are judged: an armed commit is applied, THERM.SENSOR_OK is shown. -/
def sensed (s : State) (r : Nat) (ts : List Int) : State :=
  let s := if flagF s (powerPg r) COMMIT_ARMED && (s.region r).hs.isNone then commitPage s (powerPg r) else s
  let s := setF s (powerPg r) POWER_THERM_SENSOR_OK (sensorMask (ts.take 4))
  if sensorMask (ts.take 4) = 15 then s else raise s (powerPg r) 6

/-- The level of a temperature is shown, and an event tells of a new one. -/
def levelShown (s : State) (r : Nat) (tj : Int) : State :=
  let old := getF s (powerPg r) POWER_PWR_STATE_LEVEL
  let new := nextLevel s r old tj
  if new = old then s else raise (setF s (powerPg r) POWER_PWR_STATE_LEVEL new) (powerPg r) 4

section

variable (s : State) (r : Nat) {ts more : List Int} {t : Int}

theorem throttle_of_invalid (h : (ts.take 4).filter sensorValid = []) : throttle s r ts = noSensor (sensed s r ts) r := by
  simp only [throttle, h]
  rfl

theorem throttle_of_valid (h : (ts.take 4).filter sensorValid = t :: more) : throttle s r ts =
    let u := setF (sensed s r ts) (powerPg r) POWER_THERM_TJ (ofSigned 16 (more.foldl max t))
    if 1840 ≤ more.foldl max t then thermStop u r else levelShown u r (more.foldl max t) := by
  simp only [throttle, h]
  rfl

theorem sensed_ev (ts : List Int) : Ev (others [.regions]) s (sensed s r ts) := by
  have hcommit : Ev (others [.regions]) s
      (if flagF s (powerPg r) COMMIT_ARMED && (s.region r).hs.isNone then commitPage s (powerPg r) else s) :=
    Ev.ite (ev_commitPage (Ev.refl s) (by decide) _) (Ev.refl s)
  have hok := Ev.setF hcommit (by decide) (powerPg r) POWER_THERM_SENSOR_OK (sensorMask (ts.take 4))
  exact Ev.ite hok (ev_raise hok (by decide) _ _)

/-- Four valid readings and no commit armed: THERM.SENSOR_OK alone is written. -/
theorem sensed_of_valid {a b c d : Int} (harmed : flagF s (powerPg r) COMMIT_ARMED = false)
    (h : ∀ x ∈ [a, b, c, d], sensorValid x = true) :
    sensed s r [a, b, c, d] = setF s (powerPg r) POWER_THERM_SENSOR_OK 15 := by
  have hmask : sensorMask [a, b, c, d] = 15 := by
    have hall : (List.range 4).filter (fun i => sensorValid ([a, b, c, d].getD i 0)) = List.range 4 := by
      rw [List.filter_eq_self]
      intro i hi
      have hlt : i < [a, b, c, d].length := List.mem_range.mp hi
      rw [List.getD_eq_getElem?_getD, List.getElem?_eq_getElem hlt, Option.getD_some]
      exact h _ (List.getElem_mem hlt)
    show ((List.range 4).filter _).foldl _ 0 = 15
    rw [hall]
    rfl
  unfold sensed
  dsimp only
  rw [List.take_of_length_le (by simp), hmask, harmed]
  rfl

/-- The highest reading is no lower than any. -/
theorem le_foldl_max {x : Int} (h : x ∈ t :: more) : x ≤ more.foldl max t := by
  induction more generalizing t x with
  | nil => exact Int.le_of_eq (List.mem_singleton.mp h)
  | cons y more ih =>
    rcases List.mem_cons.mp h with rfl | h
    · exact Int.le_trans (Int.le_max_left x y) (ih (t := max x y) List.mem_cons_self)
    · rcases List.mem_cons.mp h with rfl | h
      · exact Int.le_trans (Int.le_max_right t x) (ih (t := max t x) List.mem_cons_self)
      · exact ih (List.mem_cons_of_mem _ h)

/-! ### The level -/

/-- There are four levels. -/
theorem nextLevel_lt (level : Nat) (tj : Int) : nextLevel s r level tj < 4 := by
  have hfind (p : Nat → Bool) : ([3, 2, 1].find? p).getD 0 < 4 := by
    cases hk : [3, 2, 1].find? p with
    | none => decide
    | some k =>
      have hmem := List.mem_of_find?_eq_some hk
      simp only [List.mem_cons, List.not_mem_nil, or_false] at hmem
      simp only [Option.getD_some]
      omega
  exact Nat.max_lt.mpr ⟨hfind _, hfind _⟩

/-- The level depends on THERM_CFG alone. -/
theorem nextLevel_same {s t : State} (h : ∀ f ∈ [POWER_THERM_CFG_WARN, POWER_THERM_CFG_STEP, POWER_THERM_CFG_HYST],
    getF t (powerPg r) f = getF s (powerPg r) f) (level : Nat) (tj : Int) :
    nextLevel t r level tj = nextLevel s r level tj := by
  have hlevelAt : levelAt t r = levelAt s r := by
    funext k
    simp only [levelAt, h POWER_THERM_CFG_WARN (by simp), h POWER_THERM_CFG_STEP (by simp)]
  rw [nextLevel, nextLevel, hlevelAt, h POWER_THERM_CFG_HYST (by simp)]

theorem levelShown_marks (tj : Int) :
    getF (levelShown s r tj) (powerPg r) POWER_THERM_TJ = getF s (powerPg r) POWER_THERM_TJ ∧
    getF (levelShown s r tj) (powerPg r) POWER_PWR_STATE_LEVEL =
      nextLevel s r (getF s (powerPg r) POWER_PWR_STATE_LEVEL) tj % 4 ∧
    (levelShown s r tj).regions = s.regions := by
  have hlt := nextLevel_lt s r (getF s (powerPg r) POWER_PWR_STATE_LEVEL) tj
  unfold levelShown
  dsimp only
  split
  · next hsame => exact ⟨rfl, by omega, rfl⟩
  · refine ⟨?_, ?_, ?_⟩
    · rw [getF_raise _ _ _ _ _ (powerPg_still r (by decide)), getF_setF_apart _ _ _ _ _ _ (by decide)]
    · rw [getF_raise _ _ _ _ _ (powerPg_still r (by decide)), getF_setF_self]
      rfl
    · rw [raise_regions, setF_regions]

end

theorem ofSigned_lt (w : Nat) (i : Int) : ofSigned w i < 2 ^ w := by
  have hpos : (0 : Int) < (2 ^ w : Nat) := by exact_mod_cast Nat.two_pow_pos w
  have hlt := Int.emod_lt_of_pos i hpos
  unfold ofSigned
  omega

theorem sensorValid_iff (t : Int) : sensorValid t = true ↔ -640 ≤ t ∧ t ≤ 2400 := by
  simp [sensorValid]

/-- Four valid readings below 115 °C: TJ shows the highest, and the level is that of Table 3-5. -/
theorem throttle_cool {s : State} {r : Nat} {a b c d : Int} (harmed : flagF s (powerPg r) COMMIT_ARMED = false)
    (h : ∀ x ∈ [a, b, c, d], -640 ≤ x ∧ x < 1840) :
    getF (throttle s r [a, b, c, d]) (powerPg r) POWER_THERM_TJ = ofSigned 16 (max (max (max a b) c) d) ∧
    getF (throttle s r [a, b, c, d]) (powerPg r) POWER_PWR_STATE_LEVEL =
      (nextLevel s r (getF s (powerPg r) POWER_PWR_STATE_LEVEL) (max (max (max a b) c) d)) % 4 ∧
    (throttle s r [a, b, c, d]).regions = s.regions := by
  have hvalid : ∀ x ∈ [a, b, c, d], sensorValid x = true := fun x hx =>
    (sensorValid_iff x).mpr ⟨(h x hx).1, by have := (h x hx).2; omega⟩
  have hfilter : ([a, b, c, d].take 4).filter sensorValid = a :: [b, c, d] := List.filter_eq_self.mpr hvalid
  have hcool : ¬ 1840 ≤ [b, c, d].foldl max a := by
    simp only [List.forall_mem_cons] at h
    simp only [List.foldl_cons, List.foldl_nil]
    omega
  have htj : [b, c, d].foldl max a = max (max (max a b) c) d := rfl
  rw [throttle_of_valid s r hfilter]
  dsimp only
  rw [if_neg hcool, sensed_of_valid s r harmed hvalid, htj]
  obtain ⟨hshown, hlevel, hregions⟩ := levelShown_marks (setF (setF s (powerPg r) POWER_THERM_SENSOR_OK 15) (powerPg r)
    POWER_THERM_TJ (ofSigned 16 (max (max (max a b) c) d))) r (max (max (max a b) c) d)
  refine ⟨?_, ?_, hregions⟩
  · rw [hshown, getF_setF_self]
    exact Nat.mod_eq_of_lt (ofSigned_lt 16 _)
  · have hapart {f : Fld} (hok : f.apart POWER_THERM_SENSOR_OK) (htj : f.apart POWER_THERM_TJ) (tj : Nat) :
        getF (setF (setF s (powerPg r) POWER_THERM_SENSOR_OK 15) (powerPg r) POWER_THERM_TJ tj) (powerPg r) f =
          getF s (powerPg r) f := by
      rw [getF_setF_apart _ _ _ _ _ _ htj, getF_setF_apart _ _ _ _ _ _ hok]
    rw [hlevel, hapart (by decide) (by decide), nextLevel_same r (s := s) (fun f hf => ?_)]
    simp only [List.mem_cons, List.not_mem_nil, or_false] at hf
    rcases hf with rfl | rfl | rfl <;> exact hapart (by decide) (by decide) _

/-- One of the four sensors read valid at or above 115 °C: the region stops, and is locked out. -/
theorem throttle_hot {s : State} {r : Nat} {ts : List Int} {x : Int} (hin : inRun s r = true) (hx : x ∈ ts.take 4)
    (hlo : 1840 ≤ x) (hhi : x ≤ 2400) :
    ((throttle s r ts).region r).power = .stop ∧ ((throttle s r ts).region r).lockout = true := by
  have hmem : x ∈ (ts.take 4).filter sensorValid :=
    List.mem_filter.mpr ⟨hx, (sensorValid_iff x).mpr ⟨by omega, hhi⟩⟩
  have hrun : inRun (sensed s r ts) r = true := (((Standing.refl s).ev (sensed_ev s r ts)).inRun r).trans hin
  cases hf : (ts.take 4).filter sensorValid with
  | nil =>
    rw [hf] at hmem
    exact absurd hmem List.not_mem_nil
  | cons t more =>
    rw [hf] at hmem
    rw [throttle_of_valid s r hf]
    dsimp only
    rw [if_pos (Int.le_trans hlo (le_foldl_max hmem))]
    exact thermStop_marks hrun

/-- Settles O21, by the readings: all cool, one hot, none valid; then the end of a lockout. -/
theorem temperature : Obligations.Temperature := by
  refine ⟨fun s r a b c d hr hin harmed h => ?_, fun s r a b c d hr hin hhot => ?_, fun s r ts hr hin h => ?_,
    fun s r hlock hcold => ?_⟩
  · exact completes_guardDo (execThrottleEvaluation r [a, b, c, d] s) rfl rfl (by simp [hr, hin])
      (throttle_cool harmed h)
  · obtain ⟨x, hx, hlo, hhi⟩ := hhot
    exact completes_guardDo (execThrottleEvaluation r [a, b, c, d] s) rfl rfl (by simp [hr, hin])
      (throttle_hot hin hx hlo hhi)
  · refine completes_guardDo (execThrottleEvaluation r ts s) rfl rfl (by simp [hr, hin]) ?_
    have hf : (ts.take 4).filter sensorValid = [] := by
      refine List.filter_eq_nil_iff.mpr (fun x hx hv => ?_)
      have hx := h x (List.mem_of_mem_take hx)
      have hv := (sensorValid_iff x).mp hv
      omega
    rw [throttle_of_invalid s r hf]
    exact noSensor_marks _ r
  · refine completes_guardDo (execThermalLockoutEnd r s) rfl rfl (by simp [hlock, hcold]) ?_
    have hrest (u : State) (q : Nat) : (restoreConnectivity u).region q = u.region q :=
      region_same (Ev.frame (m := others [.regions]) (ev_restoreConnectivity (Ev.refl u) (by decide)) .regions
        (by decide)) q
    refine ⟨?_, only_of_ev (ev_restoreConnectivity (ev_State_updRegion (Ev.refl s) (by decide) _ _) (by decide)),
      fun q hq => ?_⟩
    · rw [hrest, region_updRegion, if_pos rfl]
    · rw [hrest, region_updRegion, if_neg hq]

end Sys2Proof.FirstLight

/-! ## An access that reaches a page -/

namespace Sys2Proof.RegisterPages

open Sys2Proof Sys2Proof.Machine Sys2Proof.FirstLight

/-- The state after a completed access, in which its master sees `v`. -/
def seen (sp : Space) (a v : Nat) (s : State) : State := { s with bus := busDone sp a v }

theorem getF_seen (sp : Space) (a v : Nat) (s : State) (ref : Nat) (f : Fld) :
    getF (seen sp a v s) ref f = getF s ref f := rfl

theorem endAccess_ok (s : State) (sp : Space) (a v : Nat) : endAccess s sp a v .ok = seen sp a v s := rfl

theorem bus_seen (sp : Space) (a v : Nat) (s : State) : (seen sp a v s).bus = busDone sp a v := rfl

theorem staged_seen (sp : Space) (a v : Nat) (s : State) : (seen sp a v s).staged = s.staged := rfl

section

variable {s : State} {sp : Space} {a ref off v : Nat} {k : PageKind} {t : Travel}

theorem busWrite_of_reached (h : Reached s sp a ref off k t) (users : List Nat) :
    busWrite s sp a t v users = seen sp a 0 (writePage s sp ref k off (v % 2 ^ 32) users) := by
  simp [busWrite, h.judged, took, targetWrite, h.decoded, h.kind, endAccess_ok]

theorem busRead_of_reached (h : Reached s sp a ref off k t) (hint : ReadHint) :
    (busRead s sp a t hint).1 = seen sp a (readPage s sp ref k off hint).2 (readPage s sp ref k off hint).1 := by
  simp [busRead, h.judged, took, targetRead, h.decoded, h.kind, endAccess_ok]

theorem writePage_of_refused {code : Nat}
    (h : refusal (commonCodes s sp ref k off v ++ blockCodes s sp ref k off v) = some code) (users : List Nat) :
    writePage s sp ref k off v users = recordErr (setF s ref STATUS_WERR 1) ref code (Space.src sp)
      (errWhere s sp ref k off code).1 (errWhere s sp ref k off code).2 := by
  simp [writePage, h]

theorem writePage_of_header (h : Taken s sp a v ref off k t) (hoff : off < 0x40) (users : List Nat) :
    writePage s sp ref k off v users = writeHeader s ref k off v := by
  simp [writePage, h.taken, hoff]

theorem writePage_of_block (h : Taken s sp a v ref off k t) (hoff : ¬ off < 0x40) (users : List Nat) :
    writePage s sp ref k off v users =
      afterWrite ((fieldsAt k off).foldl (fun s x => writeField s ref k v x) s) sp ref k off v users := by
  simp [writePage, h.taken, hoff]

/-- A command that writes one word does what the page does with it. -/
theorem completes_wordWrite {i : Instr} {c : Bool} {P : State → Prop} (h : Taken s sp a v ref off k) (hv : v < 2 ^ 32)
    (e : exec i s = wordWrite sp a v c s) (hc : c = true) (hP : P (seen sp a 0 (writePage s sp ref k off v []))) :
    Completes i s P := by
  refine completes_guardDo _ e rfl (by rw [h.issued, hc]; rfl) ?_
  rw [busWrite_of_reached h.toReached, Nat.mod_eq_of_lt hv]
  exact hP

/-- A write of a header register. -/
theorem completes_headerWrite {i : Instr} {c : Bool} {P : State → Prop} (h : Taken s sp a v ref off k)
    (hv : v < 2 ^ 32) (hoff : off < 0x40) (e : exec i s = wordWrite sp a v c s) (hc : c = true)
    (hP : P (seen sp a 0 (writeHeader s ref k off v))) : Completes i s P :=
  completes_wordWrite h hv e hc (writePage_of_header h hoff [] ▸ hP)

end

end Sys2Proof.RegisterPages

/-! ## O26: a refused write -/

namespace Sys2Proof.RegisterPages

open Sys2Proof Sys2Proof.Machine Sys2Proof.FirstLight

theorem getF_recordErr_key (s : State) (ref code : Nat) (src : Src) (space addr : Nat) {p : Nat} {f : Fld}
    (hinfo : fieldKey p f ≠ fieldKey ref ERRINFO) (haddr : fieldKey p f ≠ fieldKey ref ERRADDR) :
    getF (recordErr s ref code src space addr) p f = getF s p f := by
  unfold recordErr
  dsimp only
  split
  · exact getF_setF_key _ _ _ _ hinfo
  · rw [getF_setF_key _ _ _ _ haddr, getF_setF_key _ _ _ _ hinfo]

/-- Settles O26: a refused write sets WERR and records its error, and the rest of the page stands. -/
theorem refusedWrite : Obligations.RefusedWrite := by
  intro s sp a ref off size be value setNow code fate k hreach hrefused
  refine completes_guardDo (execRegisterWrite sp a size be value setNow fate s) rfl rfl hreach.issued ?_
  rw [busWrite_of_reached hreach, writePage_of_refused hrefused]
  generalize errWhere s sp ref k off code = w
  refine ⟨?_, bus_seen _ _ _ _, fun p f hkey => ?_, ?_⟩
  · exact (getF_recordErr _ _ _ _ _ _ _ _ (by decide)).trans (getF_setF_self _ _ _ _)
  · simp only [List.mem_cons, List.not_mem_nil, or_false, not_or] at hkey
    obtain ⟨hwerr, hinfo, haddr⟩ := hkey
    exact (getF_recordErr_key _ _ _ _ _ _ hinfo haddr).trans (getF_setF_key _ _ _ _ hwerr)
  · exact only_of_ev ((Ev.raw_bus (by decide) _).mpr (ev_recordErr (Ev.setF (Ev.refl s) (by decide) _ _ _) (by decide)
      _ _ _ _ _))

end Sys2Proof.RegisterPages

/-! ## O25: VERSION -/

namespace Sys2Proof.RegisterPages

open Sys2Proof Sys2Proof.Machine Sys2Proof.FirstLight

/-- VERSION is a register of the common header alone. -/
theorem fieldsAt_version (k : PageKind) : fieldsAt k 4 = [] := by
  cases k <;> decide +kernel

theorem readPage_version (s : State) (sp : Space) (ref : Nat) (k : PageKind) (h : ReadHint) :
    readPage s sp ref k 4 h = (s, 0x100) := by
  have hsnaps : takeSnaps s sp ref k 4 = s := by rw [takeSnaps, fieldsAt_version]; rfl
  have hword : pageWord s sp ref k 4 = 0x100 := by rw [pageWord, fieldsAt_version]; rfl
  cases k <;> simp [readPage, hsnaps, hword]

/-- Settles O25: the word at 0x004 belongs to the common header on every page. -/
theorem versionReads : Obligations.VersionReads := by
  intro s sp a ref size be fate k hreach
  refine completes_guardDo (execCounterLowRead sp a size be fate s) rfl rfl hreach.issued ?_
  rw [busRead_of_reached hreach, readPage_version]
  rfl

end Sys2Proof.RegisterPages

/-! ## O29: words of registers -/

namespace Sys2Proof.RegisterPages

open Sys2Proof Sys2Proof.Machine Sys2Proof.FirstLight

/-- CQ_BASE, the base of a completion queue: a 64-bit register in two words. -/
def cqBaseRow : RegRow := ⟨JOBQ_CQ_BASE, 64, .l, .pair, [], false⟩

theorem fieldsAt_cqBase_low : ∀ q < 64, fieldsAt .jobq (0x104 + 16 * q) = [(cqBaseRow, q, false)] := by decide +kernel

theorem fieldsAt_cqBase_high : ∀ q < 64, fieldsAt .jobq (0x108 + 16 * q) = [(cqBaseRow, q, true)] := by decide +kernel

/-- The state without a staged word. -/
def unstaged (key : Nat) (s : State) : State := { s with staged := tdel s.staged key }

theorem getF_unstaged (key : Nat) (s : State) (ref : Nat) (f : Fld) : getF (unstaged key s) ref f = getF s ref f := rfl

section

variable (s : State) (ref v i : Nat) {k : PageKind} {row : RegRow} (hrow : row.acc = .pair)

include hrow

theorem writeField_pair_low : writeField s ref k v (row, i, false) =
    { s with staged := tput s.staged (fieldKey ref (row.fld.ix i)) (v % 2 ^ 32) } := by
  simp [writeField, hrow]

theorem writeField_pair_high (hk : k ≠ .esc) : writeField s ref k v (row, i, true) =
    unstaged (fieldKey ref (row.fld.ix i)) (setF s ref (row.fld.ix i) (newField s ref (row, i, true) v)) := by
  simp only [writeField, hrow, hk, decide_false, Bool.false_and]
  rfl

end

theorem newField_cqBase (s : State) (ref v q : Nat) (high : Bool) : newField s ref (cqBaseRow, q, high) v =
    v % 2 ^ 32 * 2 ^ 32 +
      (tfind s.staged (fieldKey ref (JOBQ_CQ_BASE.ix q))).getD (getF s ref (JOBQ_CQ_BASE.ix q) % 2 ^ 32) := by
  rw [newField]
  exact if_pos rfl

section

variable {s : State} {sp : Space} {a q v : Nat}

/-- A word of JOBQ behind JOB_CMD and QUEUE_CMD does no more than hold its field. -/
theorem writePage_jobq_single {ref off : Nat} {x : RegRow × Nat × Bool} (h : Taken s sp a v ref off .jobq)
    (hoff : 0x58 < off) (hfields : fieldsAt .jobq off = [x]) (users : List Nat) :
    writePage s sp ref .jobq off v users = writeField s ref .jobq v x := by
  have hjob : off ≠ 0x54 := by omega
  have hqueue : off ≠ 0x58 := by omega
  rw [writePage_of_block h (by omega), hfields]
  simp [afterWrite, hjob, hqueue]

theorem writePage_cqBase_low (hq : q < 64) (h : Taken s sp a v jobqPg (0x104 + 16 * q) .jobq) (hv : v < 2 ^ 32) :
    writePage s sp jobqPg .jobq (0x104 + 16 * q) v [] =
      { s with staged := tput s.staged (fieldKey jobqPg (JOBQ_CQ_BASE.ix q)) v } := by
  rw [writePage_jobq_single h (by omega) (fieldsAt_cqBase_low q hq), writeField_pair_low _ _ _ _ rfl,
    Nat.mod_eq_of_lt hv]
  rfl

/-- The state after the high word of CQ_BASE is written over the low word `lo`. -/
def cqBaseWritten (s : State) (q v lo : Nat) : State :=
  unstaged (fieldKey jobqPg (JOBQ_CQ_BASE.ix q)) (setF s jobqPg (JOBQ_CQ_BASE.ix q) (v * 2 ^ 32 + lo))

theorem writePage_cqBase_high (hq : q < 64) (h : Taken s sp a v jobqPg (0x108 + 16 * q) .jobq) (hv : v < 2 ^ 32) :
    writePage s sp jobqPg .jobq (0x108 + 16 * q) v [] = cqBaseWritten s q v
      ((tfind s.staged (fieldKey jobqPg (JOBQ_CQ_BASE.ix q))).getD (getF s jobqPg (JOBQ_CQ_BASE.ix q) % 2 ^ 32)) := by
  rw [writePage_jobq_single h (by omega) (fieldsAt_cqBase_high q hq), writeField_pair_high _ _ _ _ rfl (by decide),
    newField_cqBase, Nat.mod_eq_of_lt hv]
  rfl

theorem getF_cqBaseWritten {lo : Nat} (hv : v < 2 ^ 32) (hlo : lo < 2 ^ 32) :
    getF (cqBaseWritten s q v lo) jobqPg (JOBQ_CQ_BASE.ix q) = v * 2 ^ 32 + lo := by
  have hwidth : (JOBQ_CQ_BASE.ix q).w = 64 := rfl
  rw [cqBaseWritten, getF_unstaged, getF_setF_self, hwidth]
  omega

theorem staged_cqBaseWritten (v lo : Nat) :
    tfind (cqBaseWritten s q v lo).staged (fieldKey jobqPg (JOBQ_CQ_BASE.ix q)) = none := by
  rw [cqBaseWritten, unstaged, tfind_tdel_self]

theorem only_cqBaseWritten (sp : Space) (a v lo : Nat) :
    Only [.fields, .staged, .bus] s (seen sp a 0 (cqBaseWritten s q v lo)) :=
  only_of_ev ((Ev.raw_bus (by decide) _).mpr
    (Ev.delStaged (Ev.setF (Ev.refl s) (by decide) _ _ _) (by decide) (fieldKey jobqPg (JOBQ_CQ_BASE.ix q))))

end

/-! ### The counter POWER.RUN_US -/

theorem fieldsAt_runUs : fieldsAt .power 0x60 = [(⟨POWER_RUN_US, 1, .l, .ctr, [], false⟩, 0, false)] := by
  decide +kernel

section

variable (s : State) {a v : Nat} {sp : Space}

theorem takeSnaps_runUs (sp : Space) (ref : Nat) : takeSnaps s sp ref .power 0x60 =
    putSnap s sp (fieldKey ref POWER_RUN_US)
      (readField s ref .power ⟨POWER_RUN_US, 1, .l, .ctr, [], false⟩ 0 / 2 ^ 32) := by
  rw [takeSnaps, fieldsAt_runUs]
  rfl

theorem readPage_runUs (sp : Space) (ref : Nat) (h : ReadHint) : readPage s sp ref .power 0x60 h =
    (putSnap s sp (fieldKey ref POWER_RUN_US)
      (readField s ref .power ⟨POWER_RUN_US, 1, .l, .ctr, [], false⟩ 0 / 2 ^ 32), pageWord s sp ref .power 0x60) := by
  rw [← takeSnaps_runUs]
  rfl

theorem putSnap_fields (sp : Space) (key v : Nat) : (putSnap s sp key v).fields = s.fields := by
  unfold putSnap
  split <;> rfl

theorem snapOf_seen (sp' : Space) (key : Nat) : snapOf (seen sp a v s) sp' key = snapOf s sp' key := rfl

theorem snapOf_putSnap_self (sp : Space) (key v : Nat) : snapOf (putSnap s sp key v) sp key = v := by
  unfold snapOf putSnap
  split <;> exact tget_tset_self _ _ _ _

end

/-- Settles O29, by the word: the low word of a base, its high word, the low word of a counter, any other. -/
theorem registerWords : Obligations.RegisterWords := by
  refine ⟨fun s sp a q value hq h => ?_, fun s sp a q value hq h => ?_, fun s sp a r size be fate h => ?_,
    fun s sp a ref off size be value setNow fate k h => ?_⟩
  · refine completes_wordWrite (c := true) h value.isLt rfl rfl ?_
    rw [writePage_cqBase_low hq h value.isLt]
    rfl
  · refine completes_wordWrite (c := true) h value.isLt rfl rfl ?_
    rw [writePage_cqBase_high hq h value.isLt, getF_seen, staged_seen]
    refine ⟨fun lo hstaged hlo => ?_, fun hnone => ?_, staged_cqBaseWritten _ _, bus_seen _ _ _ _,
      only_cqBaseWritten _ _ _ _⟩
    · rw [hstaged]
      exact getF_cqBaseWritten value.isLt hlo
    · rw [hnone]
      exact getF_cqBaseWritten value.isLt (Nat.mod_lt _ (by decide))
  · refine completes_guardDo (execCounterLowRead sp a size be fate s) rfl rfl h.issued ?_
    rw [busRead_of_reached h, readPage_runUs, snapOf_seen, snapOf_putSnap_self]
    exact ⟨putSnap_fields _ _ _ _, bus_seen _ _ _ _, rfl⟩
  · refine completes_guardDo (execRegisterWrite sp a size be value setNow fate s) rfl rfl h.issued ?_
    rw [busWrite_of_reached h.toReached]
    rfl

end Sys2Proof.RegisterPages

/-! ## O28: header registers -/

namespace Sys2Proof.RegisterPages

open Sys2Proof Sys2Proof.Machine Sys2Proof.FirstLight

theorem lessSet_evtStat (v setNow : Nat) : lessSet 0x18 v setNow = v - (v &&& setNow) := rfl

theorem lessSet_errinfo (v setNow : Nat) : lessSet 0x20 v setNow = v - (v &&& setNow) := rfl

section

variable (s : State) (ref : Nat)

/-- A message pending for a masked vector is a bit of the PBA, at offsets 0 and 4. -/
theorem getF_sendMsix {v : Nat} (hv : v < 64) (ref : Nat) {f : Fld} (hf : f.wf ∧ f.off ≠ 0 ∧ f.off ≠ 4) :
    getF (sendMsix s v) ref f = getF s ref f := by
  obtain ⟨hwf, h0, h4⟩ := hf
  have hword : v / 32 < 2 := by omega
  have hoff : (PBA_WORD.ix (v / 32)).off = 4 * (v / 32) := Nat.zero_add _
  have hlo : (PBA_WORD.ix (v / 32)).lo = 0 := rfl
  unfold sendMsix
  split
  · rfl
  · split
    · exact getF_setF_apart _ _ _ _ _ _ ⟨hwf, ⟨by omega, by omega⟩, .inl (by omega)⟩
    · rfl

theorem getF_resend (p : Nat) {f : Fld} (hf : f.wf ∧ f.off ≠ 0 ∧ f.off ≠ 4) : getF (resend s ref) p f = getF s p f := by
  unfold resend
  split
  · exact getF_sendMsix s (bits_lt _ _ _) p hf
  · rfl

theorem getF_writeEvtEn (k : PageKind) (v : Nat) :
    getF (writeEvtEn s ref k v) ref (EVT_EN k) = (v &&& eventsOf k) % 2 ^ 32 := by
  have hset : getF (setF s ref (EVT_EN k) (v &&& eventsOf k)) ref (EVT_EN k) = (v &&& eventsOf k) % 2 ^ 32 :=
    getF_setF_self _ _ _ _
  have hstill : (EVT_EN k).still ref := by
    refine ⟨⟨?_, ?_⟩, ?_, ?_, ?_, ?_, .inl ⟨?_, ?_⟩⟩ <;> simp [EVT_EN]
  rw [← hset]
  unfold writeEvtEn
  dsimp only
  split
  · exact getF_resend _ _ _ ⟨hstill.1, by simp [EVT_EN], by simp [EVT_EN]⟩
  · exact foldl_keeps (fun u => getF u ref (EVT_EN k)) (fun u b => getF_deliver u ref b ref _ _ hstill) _ _

/-- ERRINFO and ERRADDR, cleared. -/
def errCleared : State := setF (setF s ref ERRINFO 0) ref ERRADDR 0

theorem errCleared_marks : getF (errCleared s ref) ref ERRINFO = 0 ∧ getF (errCleared s ref) ref ERRADDR = 0 :=
  ⟨(getF_setF_apart _ _ _ _ _ _ (by decide)).trans (getF_setF_self _ _ _ _), getF_setF_self _ _ _ _⟩

theorem only_errCleared (sp : Space) (a v : Nat) : Only [.fields, .bus] s (seen sp a v (errCleared s ref)) :=
  only_of_ev ((Ev.raw_bus (by decide) _).mpr (Ev.setF (Ev.setF (Ev.refl s) (by decide) _ _ _) (by decide) _ _ _))

theorem armCommit_of_unarmed {k : PageKind} (hcommit : noCommit k = false) (harmed : getF s ref COMMIT_ARMED = 0) :
    armCommit s ref k 1 = if k = .field then armFields (setF s ref COMMIT_ARMED 1) else setF s ref COMMIT_ARMED 1 := by
  have hflag : flagF s ref COMMIT_ARMED = false := by simp [flagF, harmed]
  have hbit : bit 1 0 = true := rfl
  simp [armCommit, hcommit, hflag, hbit]

theorem armed_commitPage : getF (commitPage s ref) ref COMMIT_ARMED = 0 :=
  (getF_addF_apart _ _ _ _ _ _ (by decide)).trans (getF_setF_self _ _ _ _)

/-- The pages whose boundary COMMIT_APPLY stands for, but for those whose commit does more than copy their shadows. -/
theorem applyCommit_of_plain {k : PageKind} (hplain : k ∉ [PageKind.sensor, .listener, .esc, .adit, .mgmt])
    (hfield : k ≠ .field) : applyCommit s ref k = commitPage s ref := by
  cases k
  case field => exact absurd rfl hfield
  case sensor | listener | esc | adit | mgmt => exact absurd (by decide) hplain
  all_goals rfl

theorem boundaryHere_field : boundaryHere s ref .field = false := rfl

theorem boundaryHere_mgmt : boundaryHere s ref .mgmt = true := rfl

theorem pageKind_mgmtPg : pageKind mgmtPg = some .mgmt := by decide

theorem linkChange_marks (amp : Bool) :
    flagF (linkChange s false amp) mgmtPg MGMT_MGMT_STATUS_LINK_UP = false ∧
      getF (linkChange s false amp) mgmtPg MGMT_MGMT_CFG_AMP = getF s mgmtPg MGMT_MGMT_CFG_AMP := by
  have hup : getF (linkChange s false amp) mgmtPg MGMT_MGMT_STATUS_LINK_UP = 0 := by
    unfold linkChange
    rw [getF_raise _ _ _ _ _ (by decide), getF_putFlag_apart _ _ _ _ _ _ (by decide),
      getF_putFlag_apart _ _ _ _ _ _ (by decide), getF_putFlag_self]
    rfl
  refine ⟨by rw [flagF, hup]; rfl, ?_⟩
  unfold linkChange
  rw [getF_raise _ _ _ _ _ (by decide), getF_putFlag_apart _ _ _ _ _ _ (by decide),
    getF_putFlag_apart _ _ _ _ _ _ (by decide), getF_putFlag_apart _ _ _ _ _ _ (by decide)]

/-- A commit of the management page that changes AMP while the link is up also takes the link down (R1046). -/
theorem applyCommit_mgmt :
    if getF (commitPage s mgmtPg) mgmtPg MGMT_MGMT_CFG_AMP ≠ getF s mgmtPg MGMT_MGMT_CFG_AMP ∧
        flagF s mgmtPg MGMT_MGMT_STATUS_LINK_UP = true then
      flagF (applyCommit s mgmtPg .mgmt) mgmtPg MGMT_MGMT_STATUS_LINK_UP = false ∧
        getF (applyCommit s mgmtPg .mgmt) mgmtPg MGMT_MGMT_CFG_AMP =
          getF (commitPage s mgmtPg) mgmtPg MGMT_MGMT_CFG_AMP
    else applyCommit s mgmtPg .mgmt = commitPage s mgmtPg := by
  split
  · next hretrain =>
    have happly : applyCommit s mgmtPg .mgmt = linkChange (commitPage s mgmtPg) false false := by
      simp [applyCommit, hretrain.1, hretrain.2]
    rw [happly]
    exact linkChange_marks _ _
  · next hquiet =>
    rw [not_and] at hquiet
    simp only [applyCommit]
    refine if_neg (fun hc => ?_)
    rw [Bool.and_eq_true, bne_iff_ne] at hc
    exact hquiet hc.1 hc.2

theorem completes_commitApply {k : PageKind} {P : State → Prop} (hk : pageKind ref = some k)
    (harmed : getF s ref COMMIT_ARMED ≠ 0) (hhere : boundaryHere s ref k = true) (hP : P (applyCommit s ref k)) :
    Completes (.commitApply ref) s P := by
  refine completes_guardDo (c := flagF s ref COMMIT_ARMED && boundaryHere s ref k) (f := fun s => applyCommit s ref k)
    (execCommitApply ref s) rfl ?_ ?_ hP
  · rw [execCommitApply, hk]
  · simp [flagF, harmed, hhere]

end

/-- Settles O28, register by register; the commits are those of `applyCommit`. -/
theorem headerRegisters : Obligations.HeaderRegisters := by
  refine ⟨fun s sp ref k value setNow h => ?_, fun s sp ref k value h => ?_,
    fun s sp ref k value setNow h hvalid => ?_, fun s sp ref k h hcommit harmed => ?_,
    fun s ref k hk harmed hhere => ?_, fun s harmed => ?_⟩
  · have hlt : lessSet 0x18 value.toNat setNow < 2 ^ 32 := Nat.lt_of_le_of_lt (Nat.sub_le _ _) value.isLt
    refine completes_headerWrite (c := true) h hlt (by decide) rfl rfl ⟨?_, bus_seen _ _ _ _⟩
    rw [getF_seen, ← lessSet_evtStat]
    exact (getF_resend _ _ _ (by decide)).trans (getF_setF_self _ _ _ _)
  · refine completes_headerWrite (c := true) h value.isLt (by decide) rfl rfl ⟨?_, bus_seen _ _ _ _⟩
    exact (getF_seen _ _ _ _ _ _).trans (getF_writeEvtEn s ref k value.toNat)
  · have hlt : lessSet 0x20 value.toNat setNow < 2 ^ 32 := Nat.lt_of_le_of_lt (Nat.sub_le _ _) value.isLt
    have hclear : writeHeader s ref k 0x20 (lessSet 0x20 value.toNat setNow) = errCleared s ref := if_pos hvalid
    refine completes_headerWrite (c := true) h hlt (by decide) rfl rfl ?_
    rw [hclear, getF_seen, getF_seen]
    exact ⟨(errCleared_marks s ref).1, (errCleared_marks s ref).2, bus_seen _ _ _ _, only_errCleared s ref _ _ _⟩
  · refine completes_headerWrite (c := true) h (by decide) (by decide) rfl rfl ?_
    rw [← armCommit_of_unarmed s ref hcommit harmed]
    rfl
  · refine completes_commitApply s ref hk harmed hhere ⟨rfl, fun hplain => ?_⟩
    have hfield : k ≠ .field := by
      rintro rfl
      exact absurd hhere (by simp [boundaryHere_field])
    rw [applyCommit_of_plain s ref hplain hfield]
    exact ⟨rfl, armed_commitPage s ref⟩
  · exact completes_commitApply s mgmtPg pageKind_mgmtPg harmed (boundaryHere_mgmt s mgmtPg) (applyCommit_mgmt s)

end Sys2Proof.RegisterPages

/-! ## What leaves the control bits of the blocks alone

EN, ENABLED and SRST_BUSY of every page: CTRL and STATUS alone hold them, and no event, error, job or face writes these
words. (The event queue's page in BAR2 counts LOST at the offset of CTRL; no block has that page.) -/

namespace Sys2Proof.RegisterPages

open Sys2Proof Sys2Proof.Machine Sys2Proof.FirstLight

/-- The control bits of a block. -/
def controls : List Fld := [CTRL_EN, STATUS_ENABLED, STATUS_SRST_BUSY]

/-- A field that shares its key with no control bit, wherever an index takes it. -/
abbrev Beside (g : Fld) : Prop := g.lo < 32 ∧ (2 ≤ g.lo ∨ (g.off % 4096 ≠ 8 ∧ g.off % 4096 ≠ 12))

/-- The control bits of every page read in `t` as in `s`. -/
def Steady (s t : State) : Prop := ∀ ref ≠ evqPg, ∀ f ∈ controls, getF t ref f = getF s ref f

theorem fieldKey_control {f g : Fld} (hf : f ∈ controls) (hg : Beside g) (ref ref' : Nat) :
    fieldKey ref f ≠ fieldKey ref' g := by
  obtain ⟨hlo, hg⟩ := hg
  have hplace : f.lo < 2 ∧ (f.off = 8 ∨ f.off = 12) := by
    revert f
    decide
  unfold fieldKey
  omega

theorem beside_ix {g : Fld} (hg : 2 ≤ g.lo ∧ g.lo < 32) (i : Nat) : Beside (g.ix i) := ⟨hg.2, .inl hg.1⟩

theorem beside_off {g : Fld} {i off : Nat} (hat : g.off + g.stride * i = off) (hlo : g.lo < 32)
    (hoff : off % 4096 ≠ 8 ∧ off % 4096 ≠ 12) : Beside (g.ix i) :=
  ⟨hlo, .inr (by rwa [← hat] at hoff)⟩

theorem control_wf {f : Fld} (hf : f ∈ controls) : f.wf := by
  revert f
  decide

section

variable {a s t u : State}

theorem Steady.refl (s : State) : Steady s s := fun _ _ _ _ => rfl

theorem Steady.trans (h : Steady s t) (k : Steady t u) : Steady s u :=
  fun ref hr f hf => (k ref hr f hf).trans (h ref hr f hf)

theorem Steady.same (h : Steady s t) (e : u.fields = t.fields) : Steady s u :=
  h.trans (fun ref _ f _ => getF_of_fields e ref f)

/-- What leaves the register fields alone leaves the control bits alone. -/
theorem Steady.ev (h : Steady s t) (k : Ev (others [.fields]) t u) : Steady s u :=
  h.same (same_of_others k .fields (by decide))

theorem Steady.ite {c : Prop} [Decidable c] (h1 : Steady s t) (h2 : Steady s u) : Steady s (if c then t else u) := by
  split <;> assumption

theorem Steady.foldl {β : Type} (h : Steady a s) (l : List β) {f : State → β → State}
    (hf : ∀ x ∈ l, ∀ t, Steady a t → Steady a (f t x)) : Steady a (l.foldl f s) := by
  induction l generalizing s with
  | nil => exact h
  | cons x l ih =>
    exact ih (hf x List.mem_cons_self s h) (fun y hy => hf y (List.mem_cons_of_mem _ hy))

theorem steady_setF (h : Steady a s) (ref : Nat) {g : Fld} (v : Nat) (hg : Beside g) : Steady a (setF s ref g v) :=
  h.trans (fun _ _ _ hf => getF_setF_key _ _ _ _ (fieldKey_control hf hg _ _))

/-- A field of the event queue's page. -/
theorem steady_setF_evq (h : Steady a s) {g : Fld} (v : Nat) (hg : g.wf) : Steady a (setF s evqPg g v) :=
  h.trans (fun _ hr _ hf => getF_setF_page _ _ _ _ _ _ (control_wf hf) hg hr)

theorem steady_addF (h : Steady a s) (ref : Nat) {g : Fld} (v : Nat) (hg : Beside g) : Steady a (addF s ref g v) :=
  steady_setF h ref _ hg

theorem steady_putFlag (h : Steady a s) (ref : Nat) {g : Fld} (b : Bool) (hg : Beside g) :
    Steady a (putFlag s ref g b) :=
  steady_setF h ref _ hg

/-! ### Events, the log, errors -/

theorem steady_logPush (h : Steady a s) (kind region code : Nat) (data : List Nat) :
    Steady a (logPush s kind region code data) := by
  unfold logPush notifyLog
  dsimp only
  have hseq (v : Nat) {u : State} (hu : u.fields = s.fields) : Steady a (setF u mgmtPg MGMT_LOG_SEQ_SEQ v) :=
    steady_setF (h.same hu) _ _ (by decide)
  exact Steady.same (.ite (steady_addF (hseq _ (updMgmt_fields _ _)) _ _ (by decide)) (hseq _ (updMgmt_fields _ _)))
    (updMgmt_fields _ _)

theorem steady_sendMsix (h : Steady a s) {v : Nat} (hv : v < 64) : Steady a (sendMsix s v) := by
  have hbeside : Beside (PBA_WORD.ix (v / 32)) :=
    beside_off (off := 0 + 4 * (v / 32)) rfl (by decide) (by omega)
  unfold sendMsix
  exact .ite h (.ite (steady_setF h _ _ hbeside) (h.same (updHost_fields _ _)))

theorem steady_hostWrite (h : Steady a s) (addr : Nat) (bs : List Nat) : Steady a (hostWrite s addr bs) :=
  h.same (updHost_fields _ _)

theorem steady_hostEventRaw (h : Steady a s) (page evbit stat errinfo : Nat) :
    Steady a (hostEventRaw s page evbit stat errinfo).1 := by
  unfold hostEventRaw
  dsimp only
  split
  · exact h
  · have hcount := h.same (updHost_fields s (fun h => { h with evSeq := h.evSeq + 1 }))
    split
    · exact Steady.same (steady_setF_evq hcount _ (by decide)) (updHost_fields _ _)
    · exact Steady.same (steady_setF_evq (steady_hostWrite hcount _ _) _ (by decide)) (updHost_fields _ _)

theorem steady_deliverRaw (h : Steady a s) (ref evbit : Nat) (msg : Bool) :
    Steady a (deliverRaw s ref evbit msg).1 := by
  have hlog (x : State × Bool) (hx : Steady a x.1) (c : Bool) (r e : Nat) (d : List Nat) :
      Steady a (if c then logPush x.1 1 r e d else x.1) := .ite (steady_logPush hx _ _ _ _) hx
  unfold deliverRaw
  dsimp only
  apply hlog
  split
  · have hrecord := steady_hostEventRaw h (ref * 0x1000) evbit (evtStat s ref) (getF s ref ERRINFO)
    exact .ite (steady_sendMsix hrecord (bits_lt _ _ _)) hrecord
  · exact h

theorem steady_raiseRaw (h : Steady a s) (ref evbit : Nat) : Steady a (raiseRaw s ref evbit).1 := by
  have hlatch (k : PageKind) : Steady a (latch s ref k evbit).1 := by
    unfold latch
    split
    · exact h
    · exact steady_setF h _ _ (by decide)
  unfold raiseRaw
  split
  · exact h
  · next k _ =>
    dsimp only
    split
    · exact steady_deliverRaw (hlatch k) _ _ _
    · exact hlatch k

theorem steady_followUp (h : Steady a s) (dropped before : Bool) : Steady a (followUp s dropped before) := by
  have hmore (c : Bool) (t : State) (ht : Steady a t) (r e : Nat) : Steady a (if c then (raiseRaw t r e).1 else t) :=
    .ite (steady_raiseRaw ht _ _) ht
  exact hmore _ _ (hmore _ _ h _ _) _ _

theorem steady_raise (h : Steady a s) (ref evbit : Nat) : Steady a (raise s ref evbit) :=
  steady_followUp (steady_raiseRaw h _ _) _ _

theorem steady_logRec (h : Steady a s) (kind region code : Nat) (data : List Nat) :
    Steady a (logRec s kind region code data) :=
  steady_followUp (steady_logPush h _ _ _ _) _ _

theorem steady_recordErr (h : Steady a s) (ref code : Nat) (src : Src) (space addr : Nat) :
    Steady a (recordErr s ref code src space addr) := by
  unfold recordErr
  dsimp only
  exact .ite (steady_setF h _ _ (by decide)) (steady_setF (steady_setF h _ _ (by decide)) _ _ (by decide))

/-! ### Commits -/

/-- The shadowed registers of a page lie behind its header, and inside the page. -/
theorem rowsOf_shadowed (k : PageKind) : ∀ row ∈ rowsOf k, row.cls = .h →
    row.fld.lo < 32 ∧ 12 < row.fld.off ∧ row.fld.off + row.fld.stride * row.count < 4096 + row.fld.stride := by
  cases k <;> decide +kernel

theorem beside_shadowed {k : PageKind} {row : RegRow} (hrow : row ∈ rowsOf k) (hcls : row.cls = .h) {i : Nat}
    (hi : i < row.count) : Beside (row.fld.ix i) := by
  obtain ⟨hlo, hoff, hend⟩ := rowsOf_shadowed k row hrow hcls
  have hcopy : row.fld.stride * (i + 1) ≤ row.fld.stride * row.count := Nat.mul_le_mul_left _ hi
  have hix : (row.fld.ix i).off = row.fld.off + row.fld.stride * i := rfl
  rw [Nat.mul_add, Nat.mul_one] at hcopy
  exact ⟨hlo, .inr (by omega)⟩

theorem mem_pageRows {ref : Nat} {row : RegRow} (hrow : row ∈ pageRows ref) : ∃ k, row ∈ rowsOf k := by
  unfold pageRows at hrow
  split at hrow
  · exact ⟨_, hrow⟩
  · simp at hrow

theorem steady_copyShadows (h : Steady a s) (ref : Nat) : Steady a (copyShadows s (pageRows ref) ref) := by
  unfold copyShadows
  refine Steady.same (t := (pageRows ref).foldl _ s) (h.foldl _ (fun row hrow t ht => ?_)) rfl
  obtain ⟨k, hk⟩ := mem_pageRows hrow
  split
  · next hcls =>
    exact ht.foldl _ (fun i hi u hu => steady_setF hu _ _ (beside_shadowed hk hcls (List.mem_range.mp hi)))
  · exact ht

theorem steady_commitPage (h : Steady a s) (ref : Nat) : Steady a (commitPage s ref) :=
  steady_addF (steady_setF (steady_copyShadows h ref) _ _ (by decide)) _ _ (by decide)

/-! ### Cabinet time, faces and locks -/

theorem steady_adoptOffset (h : Steady a s) (k : Nat) : Steady a (adoptOffset s k) := by
  have hcab (c : CabSt) : Steady a { s with cab := c } := h.same rfl
  unfold adoptOffset
  dsimp only
  split
  · exact steady_logRec (steady_raise (hcab _) _ _) _ _ _ _
  · exact hcab _

theorem steady_reselectTime (h : Steady a s) : Steady a (reselectTime s) := by
  have hcab (c : CabSt) : Steady a { s with cab := c } := h.same rfl
  unfold reselectTime
  dsimp only
  split
  · exact h
  · split
    · split
      · exact steady_adoptOffset (hcab _) _
      · exact hcab _
    · exact hcab _

theorem steady_signalReply (h : Steady a s) (link job peer opId code : Nat) :
    Steady a (signalReply s link job peer opId code) :=
  h.ev (ev_signalReply (Ev.refl s) (by decide) _ _ _ _ _)

theorem steady_replyOk (h : Steady a s) (g id val : Nat) (abandoned : Bool) :
    Steady a (replyOk s g id val abandoned) := by
  unfold replyOk
  split
  · exact h
  · exact .ite (steady_raise (h.same (updFace_fields _ _ _)) _ _) (h.same (updFace_fields _ _ _))

theorem steady_answer (h : Steady a s) (op : SyncOp) (val : Nat) (abandoned : Bool) :
    Steady a (answer s op val abandoned) := by
  unfold answer
  split
  · exact steady_replyOk h _ _ _ _
  · exact steady_signalReply h _ _ _ _ _
  · exact h

theorem steady_handLock (h : Steady a s) (r o : Nat) : Steady a (handLock s r o) := by
  unfold handLock
  dsimp only
  split
  · exact h
  · exact steady_answer (h.same (updSync_fields _ _ _)) _ _ _

theorem steady_abandonLock (h : Steady a s) (r o : Nat) : Steady a (abandonLock s r o) :=
  steady_handLock (steady_raise (steady_addF (h.same (updSync_fields _ _ _)) _ _ (by decide)) _ _) _ _

theorem steady_abandonLocks (h : Steady a s) (g : Nat) : Steady a (abandonLocks s g) :=
  h.foldl _ (fun _ _ _ ht => ht.foldl _ (fun _ _ _ hu => steady_abandonLock hu _ _))

theorem steady_faceEnd (h : Steady a s) (g : Nat) : Steady a (faceEnd s g) := by
  have hdiscards : Steady a (faceDiscards s g) := h.ev (ev_faceDiscards (Ev.refl s) (by decide) g)
  unfold faceEnd
  refine .ite (h.same (updFace_fields _ _ _)) (.ite ?_ (hdiscards.same (updFace_fields _ _ _)))
  exact (steady_abandonLocks hdiscards g).same (updFace_fields _ _ _)

theorem steady_releaseFace (h : Steady a s) (j g : Nat) : Steady a (releaseFace s j g) :=
  .ite ((steady_abandonLocks h g).same (updFace_fields _ _ _)) h

/-! ### The escalation controller -/

theorem steady_demote (h : Steady a s) (c : Nat) : Steady a (demote s c) := by
  have hposts (l : List Nat) : Steady a (l.foldl (fun s g => post s (.endFace g)) s) :=
    h.ev (Ev.foldl (Ev.refl s) _ _ (fun _ _ hu => ev_post hu (by decide) _))
  have hcounted (l : List Nat) (f : ChainSt → ChainSt) : Steady a (startTimer (addF
      ((l.foldl (fun s g => post s (.endFace g)) s).updChain c f) escPg (ESC_CH_LAST_DEMOTIONS.ix c) 1) c) :=
    Steady.ev (steady_addF ((hposts l).same (updChain_fields _ _ _)) _ _ (beside_ix (by decide) c))
      (ev_startTimer (Ev.refl _) (by decide) c)
  have hdemoted {t : State} (ht : Steady a t) : Steady a (sendDemoted t c) :=
    ht.ev (ev_sendDemoted (Ev.refl t) (by decide) c)
  have hstops {t : State} (ht : Steady a t) (l : List Nat) : Steady a (heldStops t l) :=
    ht.ev (ev_heldStops (Ev.refl t) (by decide) l)
  unfold demote
  dsimp only
  exact .ite h (steady_raise (hstops (.ite (hdemoted (hcounted _ _)) (hcounted _ _)) _) _ _)

theorem steady_demoteTo (h : Steady a s) (c pos n : Nat) : Steady a (demoteTo s c pos n) := by
  induction n generalizing s with
  | zero => exact h
  | succ n ih => exact .ite (ih (steady_demote h c)) h

theorem steady_finishPromo (h : Steady a s) (c : Nat) (p : Promo) : Steady a (finishPromo s c p) := by
  have hsets (l : List Nat) (f : SyncBlk → SyncBlk) : Steady a (l.foldl (fun s r => s.updSync r f) s) :=
    h.foldl _ (fun _ _ _ ht => ht.same (updSync_fields _ _ _))
  have hlate {t : State} (ht : Steady a t) (b : Prop) [Decidable b] : Steady a (if b then raise t escPg 7 else t) :=
    .ite (steady_raise ht _ _) ht
  have hmax {t : State} (ht : Steady a t) (b : Prop) [Decidable b] {f : Fld} (hf : Beside f) (us : Nat) :
      Steady a (if b then setF t escPg f us else t) := .ite (steady_setF ht _ _ hf) ht
  have hlat : Beside (if p.pos = 2 then ESC_LAT_MAX_S2_US else ESC_LAT_MAX_PROMO_US) := by
    split <;> decide
  unfold finishPromo
  dsimp only
  exact Steady.same (hlate (hmax (.ite (hsets _ _) h) _ hlat _) _) (updChain_fields _ _ _)

theorem steady_progressPromo (h : Steady a s) (c pos : Nat) : Steady a (progressPromo s c pos) := by
  have hwakes (p : Promo) : Steady a (sendWakes s c p) := h.ev (ev_sendWakes (Ev.refl s) (by decide) c p)
  unfold progressPromo
  split
  · exact h
  · dsimp only
    split
    · exact .ite (steady_finishPromo (hwakes _) _ _) (hwakes _)
    · exact hwakes _

theorem steady_stageFaceLost (h : Steady a s) (c pos g cause : Nat) : Steady a (stageFaceLost s c pos g cause) := by
  have hraised (f : ChainSt → ChainSt) : Steady a (raise (s.updChain c f) escPg 3) :=
    steady_raise (h.same (updChain_fields _ _ _)) _ _
  unfold stageFaceLost
  dsimp only
  exact .ite (steady_logRec (steady_demoteTo (hraised _) _ _ _) _ _ _ _) (hraised _)

theorem steady_escFaceLost (h : Steady a s) (g cause : Nat) : Steady a (escFaceLost s g cause) :=
  h.foldl _ (fun _ _ _ ht => ht.foldl _ (fun _ _ _ hu =>
    .ite (steady_progressPromo (steady_stageFaceLost hu _ _ _ _) _ _) hu))

/-! ### Jobs -/

theorem steady_logJob (h : Steady a s) (j status kept : Nat) : Steady a (logJob s j status kept) :=
  steady_logRec h _ _ _ _

theorem steady_epochChange (h : Steady a s) (rs : List Nat) : Steady a (epochChange s rs) := by
  have hwb {t : State} (ht : Steady a t) (w : WbSt) : Steady a { t with wb := w } := ht.same rfl
  have hdrained (b : Prop) [Decidable b] (v : Nat) :
      Steady a (if b then setF s wbPg WB_CLAIM_FENCE_OLDEST v else s) := .ite (steady_setF h _ _ (by decide)) h
  unfold epochChange
  dsimp only
  refine Steady.foldl (hwb (steady_setF (steady_setF (hdrained _ _) _ _ (by decide)) _ _ (by decide)) _) _
    (fun _ _ _ ht => .ite ?_ ht)
  exact steady_raise (steady_addF (steady_setF (steady_setF ht _ _ (by decide)) _ _ (by decide)) _ _ (by decide)) _ _

theorem steady_retireOn (h : Steady a s) (j : Nat) : Steady a (retireOn s j) := by
  have hjob {t : State} (ht : Steady a t) (f : JobSt → JobSt) : Steady a (t.updJob j f) :=
    ht.same (updJob_fields _ _ _)
  have hsyncs {t : State} (ht : Steady a t) : Steady a (releaseSyncs t j) :=
    ht.ev (ev_releaseSyncs (Ev.refl t) (by decide) j)
  have hcopied (b : Prop) [Decidable b] (f : JobSt → JobSt) : Steady a (if b then s.updJob j f else s) :=
    .ite (hjob h f) h
  have hreleased {t : State} (ht : Steady a t) (b : Prop) [Decidable b] (f : JobSt → JobSt) :
      Steady a (if b then (releaseSyncs t j).updJob j f else t) := .ite (hjob (hsyncs ht) f) ht
  unfold retireOn
  dsimp only
  have hboth (b c : Prop) [Decidable b] [Decidable c] (f g : JobSt → JobSt) := hreleased (hcopied b f) c g
  exact .ite (.ite (steady_epochChange (hjob (hboth _ _ _ _) _) _) (hjob (hboth _ _ _ _) _)) (hboth _ _ _ _)

theorem steady_retireJob (h : Steady a s) (j : Nat) : Steady a (retireJob s j) := by
  have hfaces (l : List CutEnt) : Steady a (l.foldl (fun s c => releaseFace s j c.face) s) :=
    h.foldl _ (fun _ _ _ ht => steady_releaseFace ht _ _)
  unfold retireJob
  exact steady_retireOn ((hfaces _).same (updJob_fields _ _ _)) _

theorem steady_jobCheckEnd (h : Steady a s) (j : Nat) : Steady a (jobCheckEnd s j) :=
  .ite (.ite (h.same (updJob_fields _ _ _)) (steady_retireJob h _)) h

theorem steady_admitEnd (h : Steady a s) (j : Nat) : Steady a (admitEnd s j) :=
  steady_jobCheckEnd (h.same (updJob_fields _ _ _)) _

theorem steady_endWaits (h : Steady a s) (j : Nat) : Steady a (endWaits s j) :=
  h.foldl _ (fun _ _ _ ht => .ite (steady_faceEnd ht _) ht)

theorem steady_jobStop (h : Steady a s) (j status detail face : Nat) : Steady a (jobStop s j status detail face) := by
  have hjob (f : JobSt → JobSt) : Steady a (s.updJob j f) := h.same (updJob_fields _ _ _)
  unfold jobStop
  dsimp only
  split
  · exact h
  · exact steady_logJob h _ _ _
  · exact hjob _
  · exact steady_logJob h _ _ _
  · exact .ite (hjob _) (steady_admitEnd (hjob _) _)
  · exact steady_jobCheckEnd (steady_endWaits (hjob _) _) _

theorem steady_endAndCheck (h : Steady a s) (g : Nat) : Steady a (endAndCheck s g) := by
  unfold endAndCheck
  dsimp only
  split
  · exact steady_jobCheckEnd (steady_faceEnd h _) _
  · exact steady_faceEnd h _

theorem steady_syncFail (h : Steady a s) (g id st : Nat) : Steady a (syncFail s g id st) := by
  have hface (f : FaceSt → FaceSt) : Steady a (s.updFace g f) := h.same (updFace_fields _ _ _)
  unfold syncFail
  split
  · exact h
  · dsimp only
    split
    · exact .ite (steady_endAndCheck (steady_jobStop (hface _) _ _ _ _) _) (steady_jobStop (hface _) _ _ _ _)
    · exact steady_escFaceLost (steady_faceEnd (hface _) _) _ _
    · exact hface _

theorem steady_opFail (h : Steady a s) (st : Nat) (op : SyncOp) : Steady a (opFail s st op) := by
  unfold opFail
  split
  · exact steady_syncFail h _ _ _
  · exact steady_signalReply h _ _ _ _ _
  · exact h

/-! ### Sensor ports -/

theorem beside_faultCode (k : Nat) : Beside (SENSOR_S_STATUS_FAULT.ix k) :=
  beside_off (off := 0x11C + 64 * k) rfl (by decide) (by omega)

theorem beside_active (k : Nat) : Beside (SENSOR_S_STATUS_ACTIVE.ix k) :=
  beside_off (off := 0x11C + 64 * k) rfl (by decide) (by omega)

theorem steady_declareFault (h : Steady a s) (p k code : Nat) : Steady a (declareFault s p k code) := by
  have hmark {t : State} (ht : Steady a t) (fault changed : Bool) : Steady a (markSource t p k fault changed) :=
    ht.ev (ev_markSource (Ev.refl t) (by decide) _ _ _ _)
  have hfault : Steady a (setStr s p k SENSOR_S_STATUS_FAULT code) :=
    steady_setF h _ _ (beside_faultCode k)
  exact steady_raise (hmark (hfault.same (updStream_fields _ _ _ _)) _ _) _ _

theorem steady_headFault (h : Steady a s) (p k : Nat) : Steady a (headFault s p k) :=
  .ite (steady_declareFault h _ _ _) h

theorem steady_configFault (h : Steady a s) (p k : Nat) : Steady a (configFault s p k) := by
  have hidle : Steady a (setStr s p k SENSOR_S_STATUS_ACTIVE 0) := steady_setF h _ _ (beside_active k)
  exact .ite hidle (steady_declareFault hidle _ _ _)

theorem steady_clearFault (h : Steady a s) (p k : Nat) : Steady a (clearFault s p k) :=
  steady_raise (steady_setF h _ _ (beside_faultCode k)) _ _

theorem steady_configOk (h : Steady a s) (p k : Nat) : Steady a (configOk s p k) := by
  have hcleared {t : State} (ht : Steady a t) (b : Prop) [Decidable b] : Steady a (if b then clearFault t p k else t) :=
    .ite (steady_clearFault ht p k) ht
  have hactive (b : Prop) [Decidable b] (f : StreamSt → StreamSt) :
      Steady a (if b then s else (setStr s p k SENSOR_S_STATUS_ACTIVE 1).updStream p k f) :=
    .ite h (Steady.same (steady_setF h _ _ (beside_active k)) (updStream_fields _ _ _ _))
  unfold configOk
  dsimp only
  exact steady_headFault (hcleared (hactive _ _) _) _ _

theorem steady_judgeStream (h : Steady a s) (p k : Nat) : Steady a (judgeStream s p k) := by
  have hlook {t : State} (ht : Steady a t) : Steady a (lookDeliverable t p k) :=
    ht.ev (ev_lookDeliverable (Ev.refl t) (by decide) p k)
  have herr {t : State} (ht : Steady a t) (code space addr : Nat) :
      Steady a (recordErr t (sensorPg p) code .block space addr) := steady_recordErr ht _ _ _ _ _
  have hring (b : Prop) [Decidable b] : Steady a (if b then recordErr s (sensorPg p) 0x41 .block 15 0 else s) :=
    .ite (herr h _ _ _) h
  have hface (b c : Prop) [Decidable b] [Decidable c] (n : Nat) : Steady a (if c
      then if b then recordErr s (sensorPg p) 0x41 .block 15 0 else s
      else recordErr (if b then recordErr s (sensorPg p) 0x41 .block 15 0 else s) (sensorPg p) 0x42 .block 4 n) :=
    .ite (hring b) (herr (hring b) _ _ _)
  unfold judgeStream
  dsimp only
  refine hlook (.ite ?_ ?_)
  · exact steady_setF (steady_setF h _ _ (beside_active k)) _ _ (beside_faultCode k)
  · exact .ite (steady_configFault (hface _ _ _) _ _) (steady_configOk (hface _ _ _) _ _)

theorem steady_sensorStarts (h : Steady a s) (p : Nat) : Steady a (sensorStarts s p) := by
  refine Steady.foldl (h.same (updSensor_fields _ _ _)) _ (fun k _ t ht => ?_)
  exact steady_judgeStream (Steady.same (ht.same (updStream_fields _ _ _ _)) (updStream_fields _ _ _ _)) p k

/-! ### Links -/

theorem steady_xferFail (h : Steady a s) (g op desc status space addr : Nat) :
    Steady a (xferFail s g op desc status space addr) := by
  have hset {t : State} (ht : Steady a t) {f : Fld} (hf : Beside f) (v : Nat) : Steady a (setF t (hoistPg g) f v) :=
    steady_setF ht _ _ hf
  exact steady_raise (steady_recordErr (steady_addF (hset (hset (hset h (by decide) _) (by decide) _) (by decide) _) _ _
    (by decide)) _ _ _ _ _) _ _

theorem steady_remFail (h : Steady a s) (k : Nat) (o : RemOp) (status : Nat) : Steady a (remFail s k o status) := by
  have hdrop : Steady a (dropRem s k o) := h.same (updLink_fields _ _ _)
  unfold remFail
  dsimp only
  split
  · exact hdrop
  · exact .ite (steady_xferFail (hdrop.same (updFace_fields _ _ _)) _ _ _ _ _ _) (steady_syncFail hdrop _ _ _)

theorem steady_linkDown (h : Steady a s) (k st : Nat) : Steady a (linkDown s k st) := by
  have hset {t : State} (ht : Steady a t) {f : Fld} (hf : Beside f) (v : Nat) : Steady a (setF t (aditPg k) f v) :=
    steady_setF ht _ _ hf
  have hlink {t : State} (ht : Steady a t) (f : LinkSt → LinkSt) : Steady a (t.updLink k f) :=
    ht.same (updLink_fields _ _ _)
  have hrems {t : State} (ht : Steady a t) (p : RemOp → Bool) : Steady a (failRems t k p 3) :=
    ht.foldl _ (fun _ _ _ hu => steady_remFail hu _ _ _)
  have hswap (b : Prop) [Decidable b] :
      Steady a (endSwap (setLinkState (if b then raise s (aditPg k) 5 else s) k st) k) :=
    hset (hlink (hset (.ite (steady_raise h _ _) h) (by decide) _) _) (by decide) _
  unfold linkDown
  dsimp only
  exact steady_reselectTime (hset (hlink (hrems (hset (hswap _) (by decide) _) _) _) (by decide) _)

/-! ### Field outputs -/

theorem steady_showLamp (h : Steady a s) (n : Nat) : Steady a (showLamp s n) := by
  have hset {t : State} (ht : Steady a t) {f : Fld} (hf : Beside (f.ix n)) (v : Nat) : Steady a (setCh t n f v) :=
    steady_setF ht _ _ hf
  have hdiag : Beside (FIELD_LAMP_STATUS_DIAG.ix n) :=
    beside_off (off := 0x210 + 32 * n) rfl (by decide) (by omega)
  have hshown (d f u : Nat) : Steady a (setCh (setCh (setCh s n FIELD_LAMP_STATUS_DIAG d) n FIELD_LAMP_STATUS_FLAGS f) n
      FIELD_LAMP_STATUS_ON_US u) :=
    hset (hset (hset h hdiag _) (beside_ix (by decide) n) _) (beside_ix (by decide) n) _
  unfold showLamp
  dsimp only
  exact .ite (steady_raise (hshown _ _ _) _ _) (hshown _ _ _)

theorem steady_lookLamp (h : Steady a s) (n : Nat) : Steady a (lookLamp s n) := by
  have hlamp (f : LampSt → LampSt) : Steady a (s.updLamp n f) := h.same (updLamp_fields _ _ _)
  have hperiod {t : State} (ht : Steady a t) : Steady a (beginPeriod t n) := ht.same (updLamp_fields _ _ _)
  unfold lookLamp
  dsimp only
  exact steady_showLamp (.ite (hlamp _) (.ite (hperiod (hlamp _)) (hlamp _))) n

theorem steady_lookLoop (h : Steady a s) {n : Nat} (hn : n < 4) : Steady a (lookLoop s n) := by
  have hset {t : State} (ht : Steady a t) {f : Fld} (hf : Beside (f.ix n)) (v : Nat) : Steady a (setCh t n f v) :=
    steady_setF ht _ _ hf
  have hstate : Beside (FIELD_LOOP_STATUS_STATE.ix n) :=
    beside_off (off := 0x108 + 32 * n) rfl (by decide) (by omega)
  have htarget : Beside (FIELD_LOOP_TARGET_UA.ix n) :=
    beside_off (off := 0x110 + 32 * n) rfl (by decide) (by omega)
  have hloop (f : LoopSt → LoopSt) : Steady a (s.updLoop n f) := h.same (updLoop_fields _ _ _)
  have hshow {t : State} (ht : Steady a t) : Steady a (showLoop t n) :=
    hset (hset ht hstate _) (beside_ix (by decide) n) _
  unfold lookLoop
  dsimp only
  exact hshow (.ite (hloop _) (hset (hloop _) htarget _))

theorem steady_lookOuts (h : Steady a s) : Steady a (lookOuts s) := by
  have hchannel {n : Nat} (hn : n ∈ [0, 1, 2, 3]) : n < 4 := by
    revert n
    decide
  have hloops := h.foldl _ (fun _ hn _ ht => steady_lookLoop ht (hchannel hn))
  exact hloops.foldl _ (fun _ _ _ ht => steady_lookLamp ht _)

theorem steady_commitChannel (h : Steady a s) (ch : Nat) : Steady a (commitChannel s ch) := by
  have hcount : ∀ row ∈ fieldRows, row.cls = .h → 0x100 ≤ row.fld.off → 4 ≤ row.count := by decide
  have hshadow {t : State} (ht : Steady a t) (m : Tab Nat) : Steady a { t with shadow := m } := ht.same rfl
  refine h.foldl _ (fun row hrow t ht => hshadow (steady_setF ht _ _ ?_) _)
  obtain ⟨hmem, hsel⟩ := List.mem_filter.mp hrow
  simp only [Bool.and_eq_true, beq_iff_eq, decide_eq_true_eq] at hsel
  obtain ⟨⟨hcls, hlo⟩, _⟩ := hsel
  have hcopies := hcount row hmem hcls (by split at hlo <;> omega)
  exact beside_shadowed (k := .field) hmem hcls (by omega)

theorem steady_applyChannel (h : Steady a s) (ch : Nat) : Steady a (applyChannel s ch) := by
  have houts {t : State} (ht : Steady a t) (x : FieldSt) : Steady a { t with outs := x } := ht.same rfl
  unfold applyChannel
  dsimp only
  refine .ite h (.ite ?_ (houts (steady_commitChannel h ch) _))
  exact steady_addF (steady_setF (houts (steady_commitChannel h ch) _) _ _ (by decide)) _ _ (by decide)

/-! ### Listeners -/

theorem steady_sendMsg (h : Steady a s) (p k : Nat) (c : SlotCfg) (kind : MsgKind) (manual fb : Bool) :
    Steady a (sendMsg s p k c kind manual fb) := by
  have hset {t : State} (ht : Steady a t) {f : Fld} (hf : Beside f) (v : Nat) : Steady a (setF t (listenerPg p) f v) :=
    steady_setF ht _ _ hf
  have hslot {t : State} (ht : Steady a t) (f : LSlotSt → LSlotSt) : Steady a (t.updLslot p k f) :=
    ht.same (updLslot_fields _ _ _ _)
  have hring {t : State} (ht : Steady a t) (r : List RingMsg) : Steady a { t with ring := r } := ht.same rfl
  have hmerged (b : Prop) [Decidable b] :
      Steady a (if b then addF s (listenerPg p) LISTENER_TRIG_COUNT_MERGED 1 else s) :=
    .ite (hset h (by decide) _) h
  have hpost {t : State} (ht : Steady a t) (m : ListenerMsg) : Steady a (postMsg t p k m) :=
    ht.ev (ev_postMsg (Ev.refl t) (by decide) _ _ _)
  unfold sendMsg
  dsimp only
  refine .ite (hslot (hring (hmerged _) _) _) (hpost (hslot ?_ _) _)
  exact hset (hset (hset (hset (steady_addF (hmerged _) _ _ (by decide)) (by decide) _) (by decide) _) (by decide) _)
    (by decide) _

theorem steady_listenerTakes (h : Steady a t) (p : Nat) : Steady a (listenerTakes s t p) := by
  have hslot {t : State} (ht : Steady a t) (k : Nat) (f : LSlotSt → LSlotSt) : Steady a (t.updLslot p k f) :=
    ht.same (updLslot_fields _ _ _ _)
  have hlevel {t : State} (ht : Steady a t) (k : Nat) (c : SlotCfg) : Steady a (toLevel0 t p k c) :=
    steady_raise (steady_sendMsg (hslot ht k _) _ _ _ _ _ _) _ _
  unfold listenerTakes
  dsimp only
  refine Steady.foldl (.ite h (h.same (updListener_fields _ _ _))) _ (fun k _ u hu => .ite hu (hslot ?_ k _))
  exact .ite (hlevel hu _ _) hu

theorem steady_bEnChanged (h : Steady a s) (p : Nat) (on : Bool) : Steady a (bEnChanged s p on) := by
  have hset {t : State} (ht : Steady a t) {f : Fld} (hf : Beside f) (v : Nat) : Steady a (setF t (listenerPg p) f v) :=
    steady_setF ht _ _ hf
  have hbit : Steady a (putFlag s (listenerPg p) LISTENER_CTRL_B_EN on) := hset h (by decide) _
  unfold bEnChanged
  exact .ite (hbit.same (updListener_fields _ _ _))
    (Steady.same (hset (hset hbit (by decide) _) (by decide) _) (updListener_fields _ _ _))

/-! ### Chains -/

theorem steady_chainOff (h : Steady a s) (c : Nat) : Steady a (chainOff s c) :=
  (steady_demoteTo h c 2 8).same (updChain_fields _ _ _)

theorem steady_judgeChain (h : Steady a s) (c : Nat) : Steady a (judgeChain s c) := by
  have hoff (b : Prop) [Decidable b] : Steady a (if b then s else chainOff s c) := .ite h (steady_chainOff h c)
  have hchain {t : State} (ht : Steady a t) (f : ChainSt → ChainSt) : Steady a (t.updChain c f) :=
    ht.same (updChain_fields _ _ _)
  unfold judgeChain
  dsimp only
  split
  · exact hchain (hoff _) _
  · split
    · exact hchain h _
    · exact steady_raise (steady_recordErr (hchain (hoff _) _) _ _ _ _ _) _ _

theorem steady_judgeChains (h : Steady a s) : Steady a (judgeChains s) :=
  h.foldl _ (fun _ _ _ ht => steady_judgeChain ht _)

theorem steady_escCommit (h : Steady a s) : Steady a (escCommit s) :=
  steady_judgeChains (steady_commitPage (h.foldl _ (fun _ _ _ ht => .ite (steady_demoteTo ht _ _ _) ht)) _)

/-! ### Resets -/

theorem steady_escReset (h : Steady a s) : Steady a (escReset s) := by
  unfold escReset
  exact Steady.same (h.foldl _ (fun _ _ _ ht => steady_demoteTo ht _ _ _)) (updEsc_fields _ _)

theorem steady_syncReset (h : Steady a s) (r : Nat) : Steady a (syncReset s r) :=
  Steady.foldl (Steady.foldl (h.same (updSync_fields _ _ _)) _ (fun _ _ _ ht => steady_opFail ht _ _)) _
    (fun _ _ _ ht => steady_jobStop ht _ _ _ _)

theorem steady_faceReset (h : Steady a s) (g : Nat) : Steady a (faceReset s g) := by
  have hwaits : Steady a (dropWaits s g) := h.ev (ev_dropWaits (Ev.refl s) (by decide) g)
  have hdrop : Steady a (dropTransfers (abandonLocks (dropWaits s g) g) g) :=
    (steady_abandonLocks hwaits g).ev (ev_dropTransfers (Ev.refl _) (by decide) g)
  have hface (f : FaceSt → FaceSt) : Steady a ((dropTransfers (abandonLocks (dropWaits s g) g) g).updFace g f) :=
    hdrop.same (updFace_fields _ _ _)
  unfold faceReset
  dsimp only
  split
  · exact steady_jobCheckEnd (steady_jobStop (hface _) _ _ _ _) _
  · exact steady_escFaceLost (hface _) _ _
  · exact hface _

theorem steady_wbReset (h : Steady a s) : Steady a (wbReset s) := by
  have hfence {t : State} (ht : Steady a t) : Steady a (fenceFrees t) :=
    ht.ev (ev_fenceFrees (Ev.refl t) (by decide))
  exact hfence (steady_setF (steady_setF (h.same (updWb_fields _ _)) _ _ (by decide)) _ _ (by decide))

end

end Sys2Proof.RegisterPages

/-! ## O27: CTRL -/

namespace Sys2Proof.RegisterPages

open Sys2Proof Sys2Proof.Machine Sys2Proof.FirstLight

section

variable {s t : State} {ref v : Nat} {k : PageKind}

/-- No block has the event queue's page of BAR2. -/
theorem ne_evqPg_of_mapped (hk : pageKind ref = some k) : ref ≠ evqPg := by
  have hevq : pageKind evqPg = none := by decide
  rintro rfl
  rw [hevq] at hk
  cases hk

theorem Steady.enable (h : Steady s t) (hk : pageKind ref = some k) : getF t ref CTRL_EN = getF s ref CTRL_EN :=
  h ref (ne_evqPg_of_mapped hk) _ (by decide)

theorem Steady.enabled (h : Steady s t) (hk : pageKind ref = some k) :
    getF t ref STATUS_ENABLED = getF s ref STATUS_ENABLED :=
  h ref (ne_evqPg_of_mapped hk) _ (by decide)

theorem Steady.busy (h : Steady s t) (hk : pageKind ref = some k) :
    getF t ref STATUS_SRST_BUSY = getF s ref STATUS_SRST_BUSY :=
  h ref (ne_evqPg_of_mapped hk) _ (by decide)

/-! ### A block starts -/

/-- EN and ENABLED are set. -/
def started (s : State) (ref : Nat) : State := putFlag (putFlag s ref CTRL_EN true) ref STATUS_ENABLED true

theorem started_marks (s : State) (ref : Nat) :
    getF (started s ref) ref CTRL_EN = 1 ∧ getF (started s ref) ref STATUS_ENABLED = 1 :=
  ⟨(getF_putFlag_apart _ _ _ _ _ _ (by decide)).trans (getF_putFlag_self _ _ _ _), getF_putFlag_self _ _ _ _⟩

theorem steady_startBlock (s : State) (ref : Nat) (k : PageKind) : Steady (started s ref) (startBlock s ref k) := by
  have hshadows : Steady (started s ref)
      (setF (copyShadows (putFlag (putFlag s ref CTRL_EN true) ref STATUS_ENABLED true) (pageRows ref) ref) ref
        COMMIT_ARMED 0) :=
    steady_setF (steady_copyShadows (.refl _) ref) _ _ (by decide)
  unfold startBlock
  dsimp only
  generalize setF (copyShadows _ _ _) ref COMMIT_ARMED 0 = t at hshadows ⊢
  have houts (x : FieldSt) : Steady (started s ref) { t with outs := x } := hshadows.same rfl
  cases k
  case sensor => exact steady_sensorStarts hshadows _
  case listener => exact steady_listenerTakes (hshadows.same (updListener_fields _ _ _)) _
  case esc => exact steady_judgeChains hshadows
  case adit => exact steady_reselectTime hshadows
  case field => exact steady_lookOuts (houts _)
  all_goals exact hshadows

/-! ### A block stops -/

theorem enable_fieldStops (hk : pageKind ref = some k) (s : State) :
    getF (fieldStops s) ref CTRL_EN = getF s ref CTRL_EN := by
  have houts {t : State} (ht : Steady s t) (x : FieldSt) : Steady s { t with outs := x } := ht.same rfl
  unfold fieldStops
  dsimp only
  split
  · have hchannels := houts ((Steady.refl s).foldl (List.range 8) (fun ch _ _ ht => steady_applyChannel ht ch))
    exact ((steady_lookOuts (.refl _)).enable hk).trans
      ((getF_putFlag_apart _ _ _ _ _ _ (by decide)).trans ((hchannels _).enable hk))
  · exact (steady_lookOuts (houts (.refl s) _)).enable hk

/-- EN is cleared, and an armed commit is applied. -/
def halted (s : State) (ref : Nat) (k : PageKind) : State :=
  let t := putFlag s ref CTRL_EN false
  if flagF t ref COMMIT_ARMED then applyCommit t ref k else t

theorem stopBlock_esc (s : State) (ref : Nat) :
    stopBlock s ref .esc = (List.range 16).foldl chainOff (putFlag (halted s ref .esc) ref STATUS_ENABLED false) := rfl

theorem stopBlock_jobq (s : State) (ref : Nat) :
    stopBlock s ref .jobq = putFlag (halted s ref .jobq) ref STATUS_ENABLED false := rfl

theorem enable_halted (hk : pageKind ref = some k) (hplace : k = .esc ∨ k = .jobq) :
    getF (halted s ref k) ref CTRL_EN = 0 := by
  have hcommit (u : State) : Steady u (applyCommit u ref k) := by
    obtain rfl | rfl := hplace
    · exact steady_escCommit (.refl u)
    · exact steady_commitPage (.refl u) ref
  have hclear : getF (putFlag s ref CTRL_EN false) ref CTRL_EN = 0 := getF_putFlag_self _ _ _ _
  unfold halted
  dsimp only
  split
  · exact ((hcommit _).enable hk).trans hclear
  · exact hclear

/-- The escalation controller and the job queue stop at once. -/
theorem stopped_marks (hk : pageKind ref = some k) (hplace : k = .esc ∨ k = .jobq) :
    getF (putFlag (halted s ref k) ref STATUS_ENABLED false) ref CTRL_EN = 0 ∧
      getF (putFlag (halted s ref k) ref STATUS_ENABLED false) ref STATUS_ENABLED = 0 :=
  ⟨(getF_putFlag_apart _ _ _ _ _ _ (by decide)).trans (enable_halted hk hplace), getF_putFlag_self _ _ _ _⟩

theorem stopBlock_marks (hk : pageKind ref = some k) (hctrl : ctrlOf k = .enable) :
    getF (stopBlock s ref k) ref CTRL_EN = 0 ∧
      (k ∉ [PageKind.sensor, .listener, .adit, .field] → getF (stopBlock s ref k) ref STATUS_ENABLED = 0) ∧
      (k ∈ [PageKind.sensor, .listener, .adit] →
        getF (stopBlock s ref k) ref STATUS_ENABLED = getF s ref STATUS_ENABLED) := by
  have hen : getF (putFlag s ref CTRL_EN false) ref CTRL_EN = 0 := getF_putFlag_self _ _ _ _
  have hkept : getF (putFlag s ref CTRL_EN false) ref STATUS_ENABLED = getF s ref STATUS_ENABLED :=
    getF_putFlag_apart _ _ _ _ _ _ (by decide)
  cases k
  case sensor | listener | adit => exact ⟨hen, fun hother => absurd (by decide) hother, fun _ => hkept⟩
  case field =>
    exact ⟨(enable_fieldStops hk _).trans hen, fun hother => absurd (by decide) hother,
      fun hfield => absurd hfield (by decide)⟩
  case esc =>
    have hchains (u : State) : Steady u ((List.range 16).foldl chainOff u) :=
      (Steady.refl u).foldl _ (fun _ _ _ ht => steady_chainOff ht _)
    obtain ⟨hstopEn, hstopEnabled⟩ := stopped_marks (s := s) hk (.inl rfl)
    rw [stopBlock_esc, (hchains _).enable hk, (hchains _).enabled hk]
    exact ⟨hstopEn, fun _ => hstopEnabled, fun hesc => absurd hesc (by decide)⟩
  case jobq =>
    obtain ⟨hstopEn, hstopEnabled⟩ := stopped_marks (s := s) hk (.inr rfl)
    exact ⟨hstopEn, fun _ => hstopEnabled, fun hjobq => absurd hjobq (by decide)⟩
  all_goals cases hctrl

/-! ### A block is reset -/

/-- EN, ENABLED and ARMED are clear, SRST_BUSY is set. -/
def resetting (s : State) (ref : Nat) : State :=
  setF (setF (putFlag (putFlag s ref CTRL_EN false) ref STATUS_ENABLED false) ref COMMIT_ARMED 0) ref STATUS_SRST_BUSY 1

theorem resetting_marks (s : State) (ref : Nat) : getF (resetting s ref) ref CTRL_EN = 0 ∧
    getF (resetting s ref) ref STATUS_ENABLED = 0 ∧ getF (resetting s ref) ref STATUS_SRST_BUSY = 1 := by
  unfold resetting
  refine ⟨?_, ?_, getF_setF_self _ _ _ _⟩
  · rw [getF_setF_apart _ _ _ _ _ _ (by decide), getF_setF_apart _ _ _ _ _ _ (by decide),
      getF_putFlag_apart _ _ _ _ _ _ (by decide), getF_putFlag_self]
    rfl
  · rw [getF_setF_apart _ _ _ _ _ _ (by decide), getF_setF_apart _ _ _ _ _ _ (by decide), getF_putFlag_self]
    rfl

theorem steady_abandon (hjobq : k ≠ .jobq) (s : State) (ref : Nat) : Steady s (abandon s ref k) := by
  have hs := Steady.refl s
  cases k
  case sensor => exact hs.ev (ev_sensorReset (Ev.refl s) (by decide) _)
  case listener => exact hs.ev (ev_listenerReset (Ev.refl s) (by decide) _)
  case esc => exact steady_escReset hs
  case adit => exact steady_linkDown hs _ _
  case field => exact hs.ev (ev_dropOuts (Ev.refl s) (by decide))
  case sync => exact steady_syncReset hs _
  case face => exact steady_faceReset hs _
  case wb => exact steady_wbReset hs
  case jobq => exact absurd rfl hjobq
  all_goals exact hs

theorem tfind_filter_none {α : Type} {q : Nat × α → Bool} (m : List (Nat × α)) {key : Nat}
    (h : ∀ p ∈ m, p.1 = key → q p = false) : tfind (m.filter q) key = none := by
  induction m with
  | nil => rfl
  | cons p m ih =>
    have ih := ih (fun x hx => h x (List.mem_cons_of_mem _ hx))
    by_cases hq : q p = true
    · have hkey : p.1 ≠ key := fun e => by simp [h p List.mem_cons_self e] at hq
      simp [hq, tfind, hkey, ih]
    · simp [hq, ih]

/-- A reset of page `p` leaves other pages and the fields it keeps, and returns the rest to their reset values. -/
theorem getF_resetPage (s : State) (p : Nat) (keep : List Fld) (ref : Nat) (f : Fld) :
    getF (resetPage s p keep) ref f = if fieldKey ref f < pageLo p ∨ pageLo (p + 1) ≤ fieldKey ref f ∨
      fieldKey ref f ∈ keep.map (fieldKey p) then getF s ref f else f.reset := by
  split
  · next hstays =>
    have hfind : tfind (resetPage s p keep).fields (fieldKey ref f) = tfind s.fields (fieldKey ref f) :=
      tfind_filter_of _ (fun x _ hx => by
        rw [← hx] at hstays
        simpa [or_assoc] using hstays)
    rw [getF, tget, hfind, getF, tget]
  · next hgoes =>
    have hfind : tfind (resetPage s p keep).fields (fieldKey ref f) = none :=
      tfind_filter_none _ (fun x _ hx => by
        rw [← hx] at hgoes
        simpa [and_assoc] using hgoes)
    rw [getF, tget, hfind, Option.getD_none]

theorem reset_control {f : Fld} (hf : f ∈ controls) : f.reset = 0 := by
  revert f
  decide

/-- A soft reset clears the control bits of its page. -/
theorem control_resetPage {f : Fld} (hf : f ∈ controls) (s : State) (ref : Nat) (k : PageKind) :
    getF (resetPage s ref [EVT_EN k, EVT_ROUTE]) ref f = 0 := by
  have hwf := control_wf hf
  have hpage : ¬ fieldKey ref f < pageLo ref ∧ ¬ pageLo (ref + 1) ≤ fieldKey ref f := by
    unfold pageLo fieldKey
    omega
  have hevt : Beside (EVT_EN k) := by simp [Beside, EVT_EN]
  have hkeep : fieldKey ref f ∉ [EVT_EN k, EVT_ROUTE].map (fieldKey ref) := by
    simpa using ⟨fieldKey_control hf hevt ref ref, fieldKey_control hf (by decide : Beside EVT_ROUTE) ref ref⟩
  rw [getF_resetPage, if_neg (by simp only [hpage.1, hpage.2, hkeep, or_self, not_false_eq_true]), reset_control hf]

/-- A control bit that is clear stays clear while the job queue is reset. -/
theorem control_jobqReset {f : Fld} (hf : f ∈ controls) (hr : ref ≠ evqPg) (h : getF s ref f = 0) :
    getF (jobqReset s) ref f = 0 := by
  have hjobs (l : List Nat) : Steady s (l.foldl (fun s j => jobStop s j 0x16 0 0xFFFF)
      (s.updHost (fun h => { h with srstWait := true }))) :=
    ((Steady.refl s).same (updHost_fields _ _)).foldl _ (fun _ _ _ ht => steady_jobStop ht _ _ _ _)
  have hclear (l : List Nat) := (hjobs l ref hr f hf).trans h
  unfold jobqReset jobqResetEnds
  dsimp only
  split
  · rw [getF_updHost, getF_resetPage, hclear, reset_control hf, ite_self]
  · exact hclear _

theorem beginReset_marks (hk : pageKind ref = some k) : getF (beginReset s ref k) ref CTRL_EN = 0 ∧
    getF (beginReset s ref k) ref STATUS_ENABLED = 0 ∧
    (k ≠ .jobq → getF (beginReset s ref k) ref STATUS_SRST_BUSY = 1) := by
  have habandon : beginReset s ref k = abandon (resetting s ref) ref k := rfl
  obtain ⟨hen, henabled, hbusy⟩ := resetting_marks s ref
  rw [habandon]
  by_cases hjobq : k = .jobq
  · subst hjobq
    have hr := ne_evqPg_of_mapped hk
    exact ⟨control_jobqReset (by decide) hr hen, control_jobqReset (by decide) hr henabled, fun h => absurd rfl h⟩
  · have hsteady := steady_abandon hjobq (resetting s ref) ref
    exact ⟨(hsteady.enable hk).trans hen, (hsteady.enabled hk).trans henabled, fun _ => (hsteady.busy hk).trans hbusy⟩

/-! ### Writes of CTRL -/

theorem flagF_of_zero {f : Fld} (h : getF s ref f = 0) : flagF s ref f = false := by simp [flagF, h]

theorem flagF_of_ne {f : Fld} (h : getF s ref f ≠ 0) : flagF s ref f = true := by simp [flagF, h]

theorem writeCtrl_of_busy (hbusy : getF s ref STATUS_SRST_BUSY ≠ 0) : writeCtrl s ref k v = s := by
  simp [writeCtrl, flagF_of_ne hbusy]

theorem writeCtrl_of_srst (hctrl : ctrlOf k ≠ .none) (hbusy : getF s ref STATUS_SRST_BUSY = 0)
    (hsrst : bit v 1 = true) : writeCtrl s ref k v = beginReset s ref k := by
  simp [writeCtrl, hctrl, flagF_of_zero hbusy, hsrst]

/-- After a listener starts or stops, its B_EN follows the write too. -/
theorem steady_followB (u : State) (b : Prop) [Decidable b] (p : Nat) (on : Bool) :
    Steady u (if b then bEnChanged u p on else u) :=
  .ite (steady_bEnChanged (.refl u) p on) (.refl u)

theorem writeCtrl_starts (hctrl : ctrlOf k = .enable) (hbusy : getF s ref STATUS_SRST_BUSY = 0)
    (hsrst : bit v 1 = false) (hset : bit v 0 = true) (hen : getF s ref CTRL_EN = 0) :
    Steady (startBlock s ref k) (writeCtrl s ref k v) := by
  simp only [writeCtrl, hctrl, flagF_of_zero hbusy, hsrst, hset, flagF_of_zero hen]
  exact steady_followB _ _ _ _

theorem writeCtrl_stops (hctrl : ctrlOf k = .enable) (hbusy : getF s ref STATUS_SRST_BUSY = 0)
    (hsrst : bit v 1 = false) (hset : bit v 0 = false) (hen : getF s ref CTRL_EN = 1) :
    Steady (stopBlock s ref k) (writeCtrl s ref k v) := by
  have hflag : flagF s ref CTRL_EN = true := flagF_of_ne (by omega)
  simp only [writeCtrl, hctrl, flagF_of_zero hbusy, hsrst, hset, hflag]
  exact steady_followB _ _ _ _

theorem completes_softResetDone {P : State → Prop} (hk : pageKind ref = some k)
    (hbusy : getF s ref STATUS_SRST_BUSY ≠ 0) (hP : P (endReset s ref k)) : Completes (.softResetDone ref) s P := by
  refine completes_guardDo (f := fun s => endReset s ref k) (execSoftResetDone ref s) rfl ?_ (flagF_of_ne hbusy) hP
  rw [execSoftResetDone, hk]

end

/-- Settles O27: a write of CTRL starts, stops or resets the block, and the end of a reset clears its page. -/
theorem blockControl : Obligations.BlockControl := by
  refine ⟨fun s sp ref k value h hctrl hbusy hset hsrst hen => ?_,
    fun s sp ref k value h hctrl hbusy hset hsrst hen => ?_,
    fun s sp ref k value h hctrl hbusy hsrst => ?_, fun s sp ref k value h hbusy hsrst => ?_,
    fun s ref k hk hjobq hbusy => ?_, fun s hbusy hwait hlive => ?_⟩
  · refine completes_headerWrite (c := bit value.toNat 0 && !bit value.toNat 1) h value.isLt (by decide) rfl
      (by rw [hset, hsrst]; rfl) ?_
    have hsteady := (steady_startBlock s ref k).trans (writeCtrl_starts hctrl hbusy hsrst hset hen)
    rw [getF_seen, getF_seen]
    obtain ⟨hset, hshown⟩ := started_marks s ref
    exact ⟨(hsteady.enable h.kind).trans hset, (hsteady.enabled h.kind).trans hshown, bus_seen _ _ _ _⟩
  · refine completes_headerWrite (c := !bit value.toNat 0 && !bit value.toNat 1) h value.isLt (by decide) rfl
      (by rw [hset, hsrst]; rfl) ?_
    have hsteady := writeCtrl_stops hctrl hbusy hsrst hset hen
    obtain ⟨hstopped, hatOnce, hrunsOn⟩ := stopBlock_marks (s := s) h.kind hctrl
    rw [getF_seen, getF_seen]
    exact ⟨(hsteady.enable h.kind).trans hstopped, fun hk => (hsteady.enabled h.kind).trans (hatOnce hk),
      fun hk => (hsteady.enabled h.kind).trans (hrunsOn hk), bus_seen _ _ _ _⟩
  · refine completes_headerWrite (c := bit value.toNat 1) h value.isLt (by decide) rfl hsrst ?_
    have hreset : writeHeader s ref k 0x08 value.toNat = beginReset s ref k := writeCtrl_of_srst hctrl hbusy hsrst
    obtain ⟨hen, henabled, hshown⟩ := beginReset_marks (s := s) h.kind
    rw [hreset, getF_seen, getF_seen, getF_seen]
    exact ⟨hen, henabled, hshown, bus_seen _ _ _ _⟩
  · refine completes_headerWrite (c := bit value.toNat 1) h value.isLt (by decide) rfl hsrst ?_
    have hsame : writeHeader s ref k 0x08 value.toNat = s := writeCtrl_of_busy hbusy
    rw [hsame]
    rfl
  · have hend : endReset s ref k = resetPage s ref [EVT_EN k, EVT_ROUTE] := if_neg hjobq
    refine completes_softResetDone hk hbusy ?_
    rw [hend]
    exact ⟨rfl, control_resetPage (by decide) s ref k⟩
  · refine completes_softResetDone (k := .jobq) (by decide) hbusy ?_
    have hends : (s.host.srstWait && (liveJobs s).isEmpty) = true := by rw [hwait, hlive]; rfl
    have hend : endReset s jobqPg .jobq = (resetPage s jobqPg [EVT_EN .jobq, EVT_ROUTE]).updHost
        (fun h => { h with srstWait := false, pend := [] }) := if_pos hends
    rw [hend, getF_updHost]
    exact control_resetPage (by decide) s jobqPg .jobq

end Sys2Proof.RegisterPages
